-- ==== Sys2Proof/Word.lean ====
section
/-! DEFINITION. The word types of the panel: a byte, a 64-bit register or memory word, a 32-bit lane, and the
plainest conversions between them and numbers (R6, R10). -/

namespace Sys2Proof

/-- One byte. -/
abbrev Byte := BitVec 8

/-- One 64-bit register or memory word (R10). -/
abbrev Word := BitVec 64

/-- One 32-bit vector lane or FP32 value. -/
abbrev Lane := BitVec 32

/-- The 64-bit word of a number, reduced modulo 2^64. -/
def word (n : Nat) : Word := BitVec.ofNat 64 n

/-- The lane of a number, reduced modulo 2^32. -/
def lane (n : Nat) : Lane := BitVec.ofNat 32 n

end Sys2Proof
end

