-- ==== Sys2Proof/Syntax.lean ====
section
/-! DEFINITION. The commands of the panel (Instr, one constructor per row of the operation table) and the data their
operands carry. -/

namespace Sys2Proof

/-- Who makes a register access (R57, R163, R167, R170, R494): the host over PCIe, a management port, control core c of a
site through its local map, the panel's own hub, or another mesh requester through a space-0x2 PPA. -/
inductive Requester where
  | host
  | mgmt (port : Nat)
  | core (site c : Nat)
  | hub
  | mesh (node : Nat)
  deriving DecidableEq, Repr

/-- One port of one node of the mesh (R242): a site, a ring node, or 84 for the hub. -/
structure PortRef where
  node : Nat
  port : Nat
  deriving DecidableEq, Repr

/-- What a ring slot answers to the probe of its border router (Table 1.6 step 4): the side, the slot of that side
(0 a, 1 b), the kind code of R52 and the stepping. -/
structure RingAnswer where
  side : Nat
  slot : Nat
  kind : Nat
  step : Nat
  deriving DecidableEq, Repr

/-- A discovery probe as it reaches a stack (Table 1.6 step 3): the hub port it left by, the physical edges it entered
and left each earlier stack by, the edge it enters this stack by, and what the ring slots of this stack answer. -/
structure Probe where
  hport : Nat
  hops : List (Nat × Nat)
  entry : Nat
  ring : List RingAnswer
  deriving DecidableEq, Repr

/-- Where an activation vector comes from (R70, R92): the chain of an array row, or the re-run feed of an idle spare. -/
inductive EntryFeed where
  | row (r : Nat)
  | rerun (a : Nat)
  deriving DecidableEq, Repr

/-- A physical disturbance of one entry in one array: a parity error on the bank row read (R84), or an error of the
column path that adds delta to one column's sum. -/
inductive EntryFault where
  | parity (a : Nat)
  | column (a col : Nat) (delta : Int)
  deriving DecidableEq, Repr

/-- What the error code of a memory word finds: nothing, a corrected error, or an uncorrectable one. -/
inductive Ecc where
  | clean
  | corrected
  | uncorrectable
  deriving DecidableEq, Repr

/-- A physical disturbance of one vector instruction (R140, R156): none, a corrected or an uncorrectable word of
scratch or of program memory, or a disagreement inside a checked pair. -/
inductive CoreFault where
  | none
  | scratchCorrected
  | scratchUncorrectable
  | progCorrected
  | progUncorrectable
  | disagree
  deriving DecidableEq, Repr

/-- The halted unit that CC0 reports (R166). -/
inductive FaultUnit where
  | array (a : Nat)
  | vector (v : Nat)
  deriving DecidableEq, Repr

/-- A mesh packet (R247, Table 7.4): its header fields, its data bytes, and which of its flits carry POISON (bit k for
flit k). STAMP is left out: it only chooses which packet waits (R256). view names the site, the handle and the logical offset of an
access through a gather or transposed view, which the die that holds the data resolves (R213, R235). -/
structure Packet where
  dst : Nat
  src : Nat
  type : Nat
  mask : Nat := 0
  len : Nat := 1
  bytes : Nat := 0
  tag : Nat := 0
  tree : Nat := 0
  seq : Nat := 0
  digest : Nat := 0
  ppa : Nat := 0
  lane : Nat := 0
  data : List Nat := []
  poison : Nat := 0
  view : Option (Nat × Nat × Nat) := none
  deriving DecidableEq, Repr

/-- One write that reaches a Gelat write port in a cycle (R223): its class (0 execute engine, 1 mesh, 2 control core, 3
repair engine, 4 scrubber), the requester as R59 names it, the PPA, the bytes and whether they are poisoned. -/
structure PortWrite where
  cls : Nat
  node : Nat
  unit : Nat
  ppa : Nat
  data : List Nat
  poison : Bool
  deriving DecidableEq, Repr

/-- What the decoder finds in one row that the scrubber reads (R215, R217, R224): the bits corrected in each codeword with a
correctable error, the bits still corrected when the written-back row is read again (R226), and the uncorrectable
codewords by their place in the row. -/
structure RowErrors where
  corrected : List Nat := []
  again : Nat := 0
  bad : List Nat := []
  deriving DecidableEq, Repr

/-- How the training of an HBM stack ends (R232). -/
inductive TrainResult where
  | trained
  | unsupported
  | failed
  deriving DecidableEq, Repr

/-- A PARAM control flit's payload (Table 9.5). -/
structure ParamFlit where
  version : Nat
  rate : Nat
  panel : Nat
  link : Nat
  credits : List Nat
  replay : Nat := 2048
  deriving DecidableEq, Repr

/-- A Gale transport packet (Tables 9.6 and 9.7): its header fields, the digest words of a collective packet, and its data. -/
structure GalePacket where
  dpanel : Nat
  spanel : Nat
  dcnd : Nat
  type : Nat
  stream : Nat
  len : Nat
  psn : Nat := 0
  apsn : Nat := 0
  status : Nat := 0
  poison : Bool := false
  offset : Nat := 0
  ref : Nat := 0
  digests : List Nat := []
  data : List Nat := []
  deriving DecidableEq, Repr

/-- What the hub reads of a module on insertion (R353, R354): its CMIS revision, whether every bank has both Applications, its
maximum power in W, whether it has the vendor pages, its 16-byte vendor serial and its certificate. -/
structure ModuleId where
  cmis : Nat
  apps : Bool
  maxPower : Nat
  vendorPages : Bool
  serial : List Nat
  deriving DecidableEq, Repr

/-- What MOD_INT_N reports (R357, R565): a module-level alarm, a data path that left its activated state, or a bus that failed all
its retries. -/
inductive ModuleFlag where
  | alarm
  | pathLost (bank : Nat)
  | busFailed
  | none
  deriving DecidableEq, Repr

/-- One sample of a segment's output meter (R398): the segment, mV and mA. -/
structure SegReading where
  g : Nat
  mv : Nat
  ma : Nat
  deriving DecidableEq, Repr

/-- What the LSR of the domain that PWR_TEL_SEL selects reports (R398): its sense voltage in mV, its current in 0.1 A, the LSR chiplet's
temperature in °C and the current of each phase in 0.1 A. -/
structure Telemetry where
  vsense : Nat
  idom : Nat
  temp : Int
  phases : List Nat
  deriving DecidableEq, Repr

/-- One sample of every meter (R398): VIN as each bar reads it, in mV, the currents of the bars in mA, the level of PWROK, whether a bar's
readings disagree with the standby converter's by more than 5 % (R401), the segments that deliver power, the LSR input powers
of stacks (by site) and ring positions (0 to 43) in mW, and the telemetry of the selected domain. -/
structure MeterSample where
  vinA : Nat
  vinB : Nat
  ia : Nat
  ib : Nat
  pwrok : Bool
  disagree : Bool := false
  segs : List SegReading := []
  stackList : List (Nat × Nat) := []
  rings : List (Nat × Nat) := []
  tel : Option Telemetry := none
  deriving DecidableEq, Repr

/-- One sample of a hot spot (R406, R407): the node, the spot, and the readings of sensors A and B in 0.1 °C; a single-sensor spot gives A
only. -/
structure SpotReading where
  node : Nat
  spot : Nat
  a : Int
  b : Option Int := none
  deriving DecidableEq, Repr

/-- The power of a domain over the last 100 µs (R429): site, domain and mW. -/
structure DomainPower where
  site : Nat
  dom : Nat
  mw : Nat
  deriving DecidableEq, Repr

/-- One coolant sample (R413): T_in and T_out in 0.1 °C, the flow sensors in 0.1 L/min and the differential pressure in 0.1 kPa, as the
sensors read. -/
structure CoolantReading where
  tIn : Int
  tOut : Int
  flowA : Int
  flowB : Int
  dp : Int
  deriving DecidableEq, Repr

/-- The latency of a link end (R446): the picoseconds from the launch of a beat at the sending port to its capture at this end. -/
structure LinkDelay where
  site : Nat
  port : Nat
  ps : Nat
  deriving DecidableEq, Repr

/-- A PTP message as a management port receives it (R458, IEEE 1588-2019): its domain, whether it came over IPv6, its source port identity, its
sequence number, the two-step flag, the timestamp it carries and its correctionField in ns, and the hardware receive timestamp in ns of
local Isobar time. -/
structure PtpMsg where
  domain : Nat
  ipv6 : Bool
  source : Nat
  seq : Nat
  twoStep : Bool := false
  ts : Int := 0
  corr : Int := 0
  rx : Int := 0
  deriving DecidableEq, Repr

/-- A frame that a guest sends (Table 16.9): TYPE, TAG, BYTES, ERR and the data bytes. -/
structure GuestFrame where
  type : Nat
  tag : Nat
  bytes : Nat
  err : Bool := false
  data : List Nat := []
  deriving DecidableEq, Repr

/-- What unmasks MSI-X messages (R558): a vector's mask bit, or MSI-X Enable and Function Mask of the Message Control word. -/
inductive MsixWrite where
  | vector (v : Nat) (masked : Bool)
  | control (enable mask : Bool)
  deriving DecidableEq, Repr

/-- A Neighbor Discovery message (R560): a solicitation of an address, an advertisement of one, or a router's advertisement of a prefix for
SLAAC (the upper 64 bits; used says that it may be). -/
inductive NdMessage where
  | solicitation (target : Nat)
  | advertisement (target : Nat)
  | router (prefix64 : Nat) (used : Bool)
  deriving DecidableEq, Repr

/-- A DHCPv4 reply (R561): its message type (2 OFFER, 5 ACK, 6 NAK), the address, its prefix length, and the server. -/
structure DhcpMsg where
  kind : Nat
  addr : Nat := 0
  prefixLen : Nat := 0
  server : Nat := 0
  deriving DecidableEq, Repr

/-- An access of a control core through its local map (R161): a load, a store, an atomic (LR 2, SC 3, AMOSWAP 1, AMOADD 0, AMOXOR 4, AMOOR 8, AMOAND
12, AMOMIN 16, AMOMAX 20, AMOMINU 24, AMOMAXU 28, as RISC-V numbers them), or a FENCE. -/
inductive CoreAccess where
  | load (addr bytes : Nat)
  | store (addr bytes value : Nat)
  | atomic (op addr bytes value : Nat)
  | fence
  deriving DecidableEq, Repr


/-- The commands of the panel: one constructor per row of the operation table. A command is what arrives from outside the
block or what its time has come to do; where a row's event belongs to one unit, the operands name the unit. -/
inductive Instr where
  /-- REGISTER_WRITE (R14). A write to a register that has no behaviour of its own stores or ignores each field according to its type. -/
  | registerWrite (who : Requester) (addr bytes : Nat) (value : Nat)
  /-- DISCOVERY (R43). Once seam calibration has finished, the hub probes H0 to H11, sets RUNNING and starts discovery. -/
  | discovery
  /-- DISCOVERY_PROBE (R43). A stack that receives its first probe extends the path, forwards copies and answers the hub; later probes are discarded. -/
  | discoveryProbe (site : Nat) (p : Probe)
  /-- DISCOVERY_COLLECT_CLOSE (R43). At tick 200,000 the hub closes collection, checks the answers, fences failed stacks and fills the discovery registers. -/
  | discoveryCollectClose (endTick : Nat)
  /-- MESH_LINK_UP (R53). At link-up the two ends of a link exchange protocol versions, and the link runs at the lower of the two. -/
  | meshLinkUp (a b : PortRef) (verA verB : Nat)
  /-- DISC_LOG_READ (R51). A 64-bit read of HUB_DISC_LOG returns the oldest entry and removes it, and returns and clears OVF. -/
  | discLogRead (who : Requester) (bytes half : Nat)
  /-- ARRAY_NOP (R96). Array microcode NOP does nothing. -/
  | arrayNop (site a : Nat)
  /-- LOADW (R80). LOADW begins filling the shadow bank from the buffer behind a handle, one beat per cycle. -/
  | loadw (site a : Nat) (found : List (Nat × Ecc))
  /-- STREAM (R82). STREAM swaps banks if S is 1 and sets up COUNT entries into accumulator rows from ACC_BASE onward. -/
  | stream (site a : Nat)
  /-- DRAIN (R78). DRAIN sets up the reading of COUNT accumulator rows to the destination that DEST names. -/
  | drain (site a : Nat)
  /-- ZERO (R78). ZERO sets up the zeroing of COUNT accumulator rows, one row per cycle. -/
  | zero (site a : Nat)
  /-- SETFMT (R121). SETFMT sets the formats, the scale enables and the sweep anchor for the entries that follow. -/
  | setfmt (site a : Nat)
  /-- LOOP (R96). LOOP runs its body again, REPEAT more times. -/
  | loop (site a : Nat)
  /-- ARRAY_END (R95). END waits for every earlier commit, drain and zero, then returns the array to IDLE. -/
  | arrayEnd (site a : Nat)
  /-- UCODE_INVALID_OPCODE (R98). An invalid microcode opcode, DEST value or program flow is rejected. -/
  | ucodeInvalidOpcode (site a : Nat)
  /-- ARRAY_ENTRY (R72). An activation vector enters an array in an issue slot and runs the column path to commit, driving the Sundog tap. -/
  | arrayEntry (site : Nat) (feed : EntryFeed) (slot : Nat) (faults : List EntryFault)
  /-- BANK_LOAD_DONE (R80). The last beat of a LOADW is written and the shadow bank becomes valid. -/
  | bankLoadDone (site a : Nat)
  /-- DRAIN_ROW_READ (R78). Once its commit and destination conditions are met, an accumulator row is read, and cleared if CLEAR is 1. -/
  | drainRowRead (site a : Nat)
  /-- ACC_ROW_ZERO (R78). Once every earlier drain of the row and its last earlier commit are done, a ZERO clears the row. -/
  | accRowZero (site a : Nat)
  /-- OUTPUT_RECORD_HANDOFF (R197). The output path passes on the records of one accumulator row, in logical order, once every in-service array has delivered. -/
  | outputRecordHandoff (site row : Nat)
  /-- MXA_THROTTLE_WRITE (R86). A write to MXA_THROTTLE sets the blocked-slot pattern from the next issue slot. -/
  | mxaThrottleWrite (who : Requester) (site value : Nat)
  /-- MXA_ROWMAP_WRITE (R90). A write to MXA_ROWMAP is checked and either accepted or refused at a pass boundary. -/
  | mxaRowmapWrite (who : Requester) (site value : Nat)
  /-- RERUN_GO (R92). RERUN_GO starts a re-run at RERUN_PC on an idle spare; on any other array it sets RERUN_REJECT. -/
  | rerunGo (who : Requester) (site a value : Nat)
  /-- ROW_GO (R93). GO_N or GO_S starts every in-service array of the row at its start address and begins a sweep. -/
  | rowGo (who : Requester) (site value : Nat)
  /-- UCODE_WRITE (R93). A write to MXA_UCODE stores a microcode word unless an array of the die is running. -/
  | ucodeWrite (who : Requester) (site i value : Nat)
  /-- VEC_NOP (R145). Vector NOP does nothing. -/
  | vecNop (site v : Nat) (f : CoreFault)
  /-- VEC_END (R150). Vector END completes after every earlier store has committed, and the core returns to IDLE. -/
  | vecEnd (site v : Nat) (f : CoreFault)
  /-- FADD (R141). FP32 addition on every lane enabled by the mask. -/
  | fadd (site v : Nat) (f : CoreFault)
  /-- FSUB (R141). FP32 subtraction on every lane enabled by the mask. -/
  | fsub (site v : Nat) (f : CoreFault)
  /-- FMUL (R141). FP32 multiplication on every lane enabled by the mask. -/
  | fmul (site v : Nat) (f : CoreFault)
  /-- FMA (R141). FP32 fused multiply-add, rounded once. -/
  | fma (site v : Nat) (f : CoreFault)
  /-- FMIN (R141). FP32 minimumNumber on every lane. -/
  | fmin (site v : Nat) (f : CoreFault)
  /-- FMAX (R141). FP32 maximumNumber on every lane. -/
  | fmax (site v : Nat) (f : CoreFault)
  /-- FUN (R145). A unary FP32 operation chosen by FN. -/
  | funOp (site v : Nat) (f : CoreFault)
  /-- FTR (R142). A transcendental function chosen by FN: EXP2, LOG2, RCP, RSQRT or SQRT. -/
  | ftr (site v : Nat) (f : CoreFault)
  /-- IADD (R145). 32-bit integer addition. -/
  | iadd (site v : Nat) (f : CoreFault)
  /-- ISUB (R145). 32-bit integer subtraction. -/
  | isub (site v : Nat) (f : CoreFault)
  /-- IMUL (R145). 32-bit integer multiplication, keeping the low 32 bits. -/
  | imul (site v : Nat) (f : CoreFault)
  /-- ILOG (R145). A bit operation chosen by FN. -/
  | ilog (site v : Nat) (f : CoreFault)
  /-- CVT (R145). Conversion between FP32 and INT32. -/
  | cvt (site v : Nat) (f : CoreFault)
  /-- FCMP (R145). An FP32 compare that writes mask register m[D]. -/
  | fcmp (site v : Nat) (f : CoreFault)
  /-- ICMP (R145). An integer compare that writes mask register m[D]. -/
  | icmp (site v : Nat) (f : CoreFault)
  /-- SEL (R145). Selects a or b on each lane by mask. -/
  | sel (site v : Nat) (f : CoreFault)
  /-- BCAST (R145). Broadcasts an immediate or a scalar to every lane. -/
  | bcast (site v : Nat) (f : CoreFault)
  /-- PERM (R145). Permutes the lanes by index. -/
  | perm (site v : Nat) (f : CoreFault)
  /-- LSHIFT (R145). Shifts the lanes by a signed amount, filling with zero. -/
  | lshift (site v : Nat) (f : CoreFault)
  /-- RSUM (R143). Reduces the 128 lanes by the fixed sum tree. -/
  | rsum (site v : Nat) (f : CoreFault)
  /-- RMAX (R143). Reduces the 128 lanes by the fixed maximum tree. -/
  | rmax (site v : Nat) (f : CoreFault)
  /-- VLD (R146). Loads 128 elements from scratch and converts them exactly to FP32. -/
  | vld (site v : Nat) (f : CoreFault)
  /-- VLDSC (R146). Loads four E8M0 scales and spreads them to the lanes. -/
  | vldsc (site v : Nat) (f : CoreFault)
  /-- VST (R147). Converts a vector register under an output conversion word and stores it to scratch. -/
  | vst (site v : Nat) (f : CoreFault)
  /-- EXLD (R148). Loads 128 exact 128-bit values and converts them to FP32. -/
  | exld (site v : Nat) (f : CoreFault)
  /-- SLI (R145). Writes a zero-extended immediate to a scalar register. -/
  | sli (site v : Nat) (f : CoreFault)
  /-- SADD (R145). Adds a sign-extended immediate to a scalar register. -/
  | sadd (site v : Nat) (f : CoreFault)
  /-- BNZ (R145). Decrements a scalar register and jumps if it was not zero. -/
  | bnz (site v : Nat) (f : CoreFault)
  /-- JMP (R145). Jumps to the immediate address. -/
  | jmp (site v : Nat) (f : CoreFault)
  /-- TWAIT (R149). Waits until a token counter reaches IMM, then subtracts IMM. -/
  | twait (site v : Nat) (f : CoreFault)
  /-- TSIG (R145). Adds IMM to the token counter of a control core or an engine. -/
  | tsig (site v : Nat) (f : CoreFault)
  /-- VEC_INVALID_OPCODE (R152). An invalid vector opcode, field or program flow is rejected. -/
  | vecInvalidOpcode (site v : Nat) (f : CoreFault)
  /-- VCO_GO (R155). GO starts a vector core, or in paired mode both cores of the pair, at START_PC. -/
  | vcoGo (who : Requester) (site v value : Nat)
  /-- VCO_PROG_WRITE (R152). A write to vector program memory, dropped while the core runs. -/
  | vcoProgWrite (site v i value : Nat)
  /-- VCO_MODE_WRITE (R158). A write to VCO_MODE is accepted only at a pass boundary. -/
  | vcoModeWrite (who : Requester) (site value : Nat)
  /-- CCO_FW_WRITE (R162). Firmware writes CCO_FW; setting READY moves the core to READY. -/
  | ccoFwWrite (who : Requester) (site c value : Nat)
  /-- CCO_BOOT_TIMEOUT (R162). A core still in BOOT at tick 5,000,000 becomes FATAL. -/
  | ccoBootTimeout (site c : Nat)
  /-- CCO_WDOG_KICK (R168). A write from the owning core reloads its watchdog. -/
  | ccoWdogKick (who : Requester) (site c : Nat)
  /-- CCO_WATCHDOG_EXPIRY (R168). Watchdog expiry makes the core FATAL, aborts the pass and retires the stack. -/
  | ccoWatchdogExpiry (site c : Nat)
  /-- CCO_FATAL_WRITE (R169). A non-zero write to CCO_FATAL makes the core FATAL with cause 0x04. -/
  | ccoFatalWrite (who : Requester) (site c value : Nat)
  /-- TCM_UNCORRECTABLE (R169). An uncorrectable ITCM or DTCM word makes the core FATAL. -/
  | tcmUncorrectable (site c : Nat) (itcm : Bool)
  /-- CCO_MBX_IN_PUSH (R164). PUSH enqueues the staging words into a control core's inbound queue. -/
  | ccoMbxInPush (who : Requester) (site c value : Nat)
  /-- HUB_MESSAGE_ENQUEUE (R164). A message that the hub has held is enqueued once queue space frees. -/
  | hubMessageEnqueue (site c : Nat)
  /-- MBX_HEAD_REMOVE (R165). A control core removes the head of its inbound queue. -/
  | mbxHeadRemove (site c : Nat)
  /-- MBX_SEND (R165). A control core sends its staged message to the host queue, the hub or the other core, or the send is dropped. -/
  | mbxSend (site c dest : Nat)
  /-- CCO_MBX_OUT_POP (R165). The host removes the head of an outbound queue. -/
  | ccoMbxOutPop (who : Requester) (site c value : Nat)
  /-- SWEEP_FAULT_REPORT (R166). CC0 reports a HALT to the hub, and the hub aborts the pass on every die. -/
  | sweepFaultReport (site : Nat) (unit : FaultUnit)
  /-- SQ_DOORBELL (R175). A write of SQ_DB.TAIL makes the entries up to TAIL pending. -/
  | sqDoorbell (who : Requester) (q value : Nat)
  /-- UPDRAFT_DECISION (R430). At each pass boundary, and every 1 ms until a pass is admitted, the scheduler completes markers and chooses and admits a head entry. -/
  | updraftDecision
  /-- PASS_BEGIN (R182). CC0 receives PASS_BEGIN and loads sweep 0. -/
  | passBegin (site : Nat)
  /-- SWEEP_START (R192). A die receives SWEEP_START, issues GO and starts the sink sides; collective rounds advance. -/
  | sweepStart (site : Nat)
  /-- SWEEP_DONE (R182). The hub takes a die's partial report; after the last one it writes the sweep report and starts the next sweep or ends the pass. -/
  | sweepDone (site : Nat)
  /-- PASS_END (R186). The end of a pass starts the drain. -/
  | passEnd
  /-- PASS_ABORT (R186). The abort line stops the sequencers, flits of the pass are discarded and the drain starts. -/
  | passAbort (site : Nat)
  /-- QUIET (R186). The hub takes a site's QUIET; after the last one it runs deferred votes and sends CLEAR. -/
  | quiet (site : Nat)
  /-- CLEAR (R187). A die clears its state to the empty state and sends EMPTY. -/
  | clear (site : Nat)
  /-- EMPTY (R189). After the last EMPTY the pass boundary is reached: retirements, commits and repairs are applied and the completion is prepared. -/
  | empty (site : Nat) (fails : List (Nat × Nat))
  /-- DRAIN_STUCK_TIMEOUT (R188). A site that has not sent QUIET or EMPTY within 100,000 ticks is fenced and retired. -/
  | drainStuckTimeout (site : Nat)
  /-- COMPLETION_WRITE (R178). Once the completion ring has room, the hub writes a completion record, and MSI-X and HALT_ON_FAULT apply. -/
  | completionWrite (q : Nat)
  /-- SQ_ENABLE (R181). Setting ENABLE resets the completion pointers and PHASE; clearing it lets the running pass finish and stops admission. -/
  | sqEnable (who : Requester) (q value : Nat)
  /-- SQ_ABORT (R181). ABORT aborts the queue's running pass. -/
  | sqAbort (who : Requester) (q : Nat)
  /-- SQ_FLUSH (R181). FLUSH completes every pending entry REJECTED while ENABLE is 0. -/
  | sqFlush (who : Requester) (q : Nat)
  /-- SQ_CQ_CONFIG (R181). A write of CQ_BASE or CQ_LOG2 is accepted only while ENABLE is 0 and the value is valid. -/
  | sqCqConfig (who : Requester) (q : Nat) (base : Bool) (value : Nat)
  /-- CQ_HEAD_WRITE (R180). The host writes CQ_PTR.HEAD to free ring slots; an out-of-range value is dropped. -/
  | cqHeadWrite (who : Requester) (q value : Nat)
  /-- DESCRIPTOR_LIST_ADMIT (R200). A write of STR_LIST copies a descriptor list and checks it, then admits it or rejects it whole. -/
  | descriptorListAdmit (who : Requester) (site value : Nat)
  /-- DESCRIPTOR_SOURCE_START (R192). The source side of a descriptor starts once its sweep, AFTER and SWAIT conditions hold. -/
  | descriptorSourceStart (site d : Nat)
  /-- DESCRIPTOR_SINK_START (R192). The sink side of a descriptor starts after SWEEP_START and DWAIT. -/
  | descriptorSinkStart (site d : Nat)
  /-- DESCRIPTOR_SINK_COMPLETE (R198). The sink side completes and sends its SIGNAL token. -/
  | descriptorSinkComplete (site d : Nat)
  /-- ENGINE_RUN (R194). An engine moves one run of a descriptor side through memory, scratch or the chain, as queue room and data allow. -/
  | engineRun (site d : Nat) (sink : Bool) (ecc : Ecc)
  /-- DSC_MISS_TIMEOUT (R205). A channel halted for MISS_TIMEOUT aborts the pass. -/
  | dscMissTimeout (site ch : Nat)
  /-- DSC_STALL (R201). A die that makes no progress for STALL_LIMIT cycles aborts the pass. -/
  | dscStall (site : Nat)
  /-- GELAT_WRITE_COMMIT (R223). One write commits to a Gelat row per cycle in priority order, with a read-modify-write for partial writes. -/
  | gelatWriteCommit (site : Nat) (writes : List PortWrite)
  /-- SCRUB_READ (R224). Every INTERVAL the scrubber reads one weight row and one activation row and writes back corrections. -/
  | scrubRead (site : Nat) (w a : RowErrors)
  /-- GLT_ERR_LOG_READ (R225). A 64-bit read returns and removes the oldest ECC log entry. -/
  | gltErrLogRead (who : Requester) (site bytes half : Nat)
  /-- GLT_REPAIR_RETRY (R228). RETRY schedules every held row for repair at the next boundary. -/
  | gltRepairRetry (who : Requester) (site : Nat)
  /-- EXIT_SCRUB_DONE (R230). The exit scrub after retention finishes and sets EXIT_DONE. -/
  | exitScrubDone (site : Nat) (found : List (Nat × RowErrors)) (fails : List (Nat × Nat))
  /-- GELAT_INIT_DONE (R513). The Gelat initialisation to zero finishes and sets EXIT_DONE. -/
  | gelatInitDone (site : Nat)
  /-- BHT_WRITE (R211). A write to a handle table entry is accepted only between passes, and BAD and WHY are recomputed. -/
  | bhtWrite (who : Requester) (site h k value : Nat)
  /-- HBM_TRAIN (R232). A DRAM port die finishes training a stack, and the stack enters or leaves service. -/
  | hbmTrain (stack : Nat) (r : TrainResult)
  /-- GOLDEN_PATROL_READ (R234). The DRAM port die patrols a locked golden range and corrects it. -/
  | goldenPatrolRead (stack : Nat) (e : Ecc)
  /-- DPD_GOLD_WRITE (R234). A write of a golden range is accepted only between passes. -/
  | dpdGoldWrite (who : Requester) (stack value : Nat)
  /-- GATHER_BLOCK_READ (R235). On reaching a gather block, the DRAM port die reads its index and then the block. -/
  | gatherBlockRead (node tag : Nat) (ei eb : Ecc)
  /-- HUB_RWT_WRITE (R241). A write of a remote window entry takes effect at the hub, drops cached copies and wakes halted channels. -/
  | hubRwtWrite (who : Requester) (e value : Nat)
  /-- HUB_RWT_SYNC (R241). SYNC starts a translation sync. -/
  | hubRwtSync (who : Requester) (value : Nat)
  /-- RWT_SYNC_DONE (R241). Once every cache has dropped the old entries and old requests have completed, SYNC clears. -/
  | rwtSyncDone
  /-- ROUTER_HEAD_FLIT (R259). A router chooses the output for an arriving head flit, or drops the packet, or answers it for a fenced node. -/
  | routerHeadFlit (node port : Nat) (p : Packet) (ce : Nat) (ue : Bool)
  /-- READ (R247). An endpoint serves a READ packet and answers with RDATA. -/
  | read (p : Packet) (ecc : Ecc)
  /-- WRITE (R247). An endpoint performs a WRITE packet and answers with WACK. -/
  | write (p : Packet)
  /-- MWRITE (R266). A router copies a multicast write to its entry's ports and writes its LOCAL copy. -/
  | mwrite (node : Nat) (p : Packet)
  /-- MSG (R247). A mailbox message packet is pushed into a control core's inbound queue. -/
  | msg (p : Packet)
  /-- RDATA (R249). Read data arrives at its requester and closes its tag. -/
  | rdata (p : Packet)
  /-- WACK (R249). A write acknowledgement arrives at its requester. -/
  | wack (p : Packet)
  /-- CONTRIB (R278). A tree member adds a contribution into the partial for its SEQ; a complete partial goes to the parent or is delivered at the root. -/
  | contrib (p : Packet)
  /-- MSH_DEADLOCK (R264). A head flit stuck for DL_LIMIT cycles aborts the pass. -/
  | mshDeadlock (node port channel lane : Nat)
  /-- MSH_RSP_TIMEOUT (R267). A request without its responses after RSP_LIMIT is closed poisoned, and the pass aborts. -/
  | mshRspTimeout (node tag : Nat)
  /-- MSH_RED_TIMEOUT (R280). A partial held longer than RED_LIMIT aborts the pass. -/
  | mshRedTimeout (site t seq : Nat)
  /-- LINK_LOSS_DETECT (R282). A port with no valid flit for 64 cycles goes DOWN, and the hub decides between a link failure and a fence. -/
  | linkLossDetect (site port : Nat) (answers : Bool)
  /-- MSH_VERIFY (R262). VERIFY starts a route verification. -/
  | mshVerify (who : Requester) (value : Nat)
  /-- WIDTH_TOKEN (R273). A valid width token settles the link width, or starts round 2. -/
  | widthToken (site port good spares token : Nat)
  /-- WIDTH_TOKEN_TIMEOUT (R273). No valid token by tick 1,000 or 2,000 fails the link. -/
  | widthTokenTimeout (site port : Nat)
  /-- ROUTE_TABLE_WRITE (R263). A write of a route or multicast table is accepted only between passes. -/
  | routeTableWrite (who : Requester) (node i value : Nat) (mcast : Bool)
  /-- TREE_ENTRY_WRITE (R276). A tree entry write is accepted between passes, and BAD is recomputed for every entry. -/
  | treeEntryWrite (who : Requester) (site t value : Nat)
  /-- RED_DRAIN_WRITE (R277). A write of SIT_RED_DRAIN binds the drains of an array row to tree slots. -/
  | redDrainWrite (who : Requester) (site value : Nat)
  /-- MSH_EVENT_READ (R287). A 64-bit read returns and removes the oldest mesh event. -/
  | mshEventRead (who : Requester) (bytes half : Nat)
  /-- TILE_COMPARE (R293). Twelve cycles after a tile's last commit, the Sundog compares O with C. -/
  | tileCompare (site a : Nat)
  /-- VOTE_CPRIME_DONE (R301). The partner finishes C-prime and writes RESULT at the requester. -/
  | voteCprimeDone (site : Nat)
  /-- VOTE_DECIDE (R304). Once O, Rr and C-prime are all known, the vote decides its outcome and releases the bank. -/
  | voteDecide (site : Nat)
  /-- VOTE_TIMEOUT (R305). A vote that is not decided within VOTE_LIMIT aborts the pass. -/
  | voteTimeout (site : Nat)
  /-- SDG_VOTE_LOG_READ (R319). A 64-bit read returns and removes the oldest vote log entry. -/
  | sdgVoteLogRead (who : Requester) (bytes half : Nat)
  /-- BAR_RD_SEQ_WRITE (R316). A write of BAR_RD_SEQ copies the record and its CPER form into the windows. -/
  | barRdSeqWrite (who : Requester) (value : Nat)
  /-- LINK_ENABLE (R327). A write of GAL_LCTRL.EN starts a link from WAIT_MODULE, or disables it. -/
  | linkEnable (who : Requester) (l value : Nat)
  /-- GAL_RETRAIN (R327). RETRAIN takes a link from FAILED or UP to PMA at full rate. -/
  | galRetrain (who : Requester) (l : Nat)
  /-- GALE_PMA_DONE (R327). Signal detect, CDR lock and equalisation complete on all 8 lanes. -/
  | galePmaDone (l : Nat)
  /-- GALE_PCS_DONE (R327). Block, alignment-marker, deskew and FEC lock complete on all 8 lanes. -/
  | galePcsDone (l : Nat)
  /-- GALE_FLIT_LOCK (R323). Two sync blocks 4,096 flits apart give flit lock. -/
  | galeFlitLock (l : Nat)
  /-- PARAM (R328). A PARAM control flit is checked, and the link enters UP when both ways are accepted. -/
  | param (l : Nat) (f : ParamFlit) (peer : Bool)
  /-- GALE_ATTEMPT_FAIL (R331). A training state that does not finish within its limit counts a failed attempt. -/
  | galeAttemptFail (l : Nat)
  /-- GALE_DOWN_TIMER (R327). After 100 ms in DOWN the link retries from PMA, or is FAILED. -/
  | galeDownTimer (l : Nat)
  /-- GALE_LINK_LOSS (R329). Loss of lock or signal takes an UP link DOWN, and its conduits move to another link. -/
  | galeLinkLoss (l signal am : Nat)
  /-- GALE_DATA_FLIT (R325). A data flit is accepted or discarded; ACK, NAK and credits take effect and a replay may start. -/
  | galeDataFlit (l : Nat) (bytes : List Nat)
  /-- GALE_REPLAY_TIMEOUT (R325). ACK not advancing for REPLAY_TO starts a replay. -/
  | galeReplayTimeout (l : Nat)
  /-- GALE_FEC_SECOND (R330). Each second the uncorrectable codewords are checked against FEC_LIMIT. -/
  | galeFecSecond (l corrected uncorrectable : Nat)
  /-- OPEN (R337). An OPEN from the peer opens the conduit, or fails an open one. -/
  | openMsg (l : Nat) (p : GalePacket)
  /-- CLOSE (R337). A CLOSE from the peer is acknowledged and closes the conduit. -/
  | closeMsg (l : Nat) (p : GalePacket)
  /-- ACK (R336). A transport ACK acknowledges packets, reports errors or RNR, and completes merged writes. -/
  | ackMsg (l : Nat) (p : GalePacket)
  /-- PUT (R341). A PUT is checked against the window and performed as mesh writes. -/
  | putMsg (l : Nat) (p : GalePacket)
  /-- GET_REQ (R341). A GET_REQ is checked against the window and read as mesh reads. -/
  | getReq (l : Nat) (p : GalePacket)
  /-- GET_RESP (R340). A GET_RESP becomes RDATA for the waiting mesh READ. -/
  | getResp (l : Nat) (p : GalePacket)
  /-- SEND (R344). A SEND is stored in the receive ring, its trailer is written and TAIL advances, or it is answered RNR or NO_RING. -/
  | sendMsg (l : Nat) (p : GalePacket)
  /-- COLL_UP (R348). A child's COLL_UP records are checked and added for their SEQ. -/
  | collUp (l : Nat) (p : GalePacket)
  /-- COLL_DOWN (R348). A final record is checked, passed to the children and delivered to DEST. -/
  | collDown (l : Nat) (p : GalePacket)
  /-- KEEPALIVE (R337). A KEEPALIVE keeps an open conduit alive. -/
  | keepalive (l : Nat) (p : GalePacket)
  /-- CONDUIT_RTO (R336). No acknowledgement for RTO resends every unacknowledged packet. -/
  | conduitRto (c st : Nat)
  /-- CONDUIT_OPEN_TIMER (R337). Every 100 µs in OPENING the conduit sends OPEN. -/
  | conduitOpenTimer (c : Nat)
  /-- CONDUIT_KEEPALIVE_TIMER (R337). After 100 µs without sending, an open conduit sends KEEPALIVE. -/
  | conduitKeepaliveTimer (c : Nat)
  /-- CONDUIT_DEAD_LIMIT (R337). DEAD_LIMIT of silence fails an open conduit, or ends CLOSING. -/
  | conduitDeadLimit (c : Nat)
  /-- CONDUIT_NOLINK_LIMIT (R338). No link UP for NOLINK_LIMIT fails the conduit. -/
  | conduitNolinkLimit (c : Nat)
  /-- CONDUIT_RNR_DELAY (R336). After RNR_DELAY the sender resends from REF_PSN. -/
  | conduitRnrDelay (c : Nat)
  /-- CONDUIT_ACK_TIMER (R336). Within 2 µs of an accepted packet the receiver sends an ACK. -/
  | conduitAckTimer (c st : Nat)
  /-- CONDUIT_CFG_WRITE (R337). A write of GAL_CND_CFG sets OPEN or the configuration, subject to the conduit state. -/
  | conduitCfgWrite (who : Requester) (c reg value : Nat)
  /-- CONDUIT_SEND_GO (R343). GO reads the data over the mesh and sends one SEND packet. -/
  | conduitSendGo (who : Requester) (c value : Nat)
  /-- RX_HEAD_WRITE (R344). The host advances the HEAD of a receive ring; an out-of-range value is dropped. -/
  | rxHeadWrite (who : Requester) (c value : Nat)
  /-- GAL_PANEL_WRITE (R332). The panel ID is accepted only while every link is DISABLED, FAILED or QUIESCED. -/
  | galPanelWrite (who : Requester) (value : Nat)
  /-- COLL_SLOT_WRITE (R345). A collective slot write is checked; EN makes the slot ACTIVE at round 0. -/
  | collSlotWrite (who : Requester) (e t k value : Nat)
  /-- COLL_TIMEOUT (R350). An ACTIVE slot that is not idle for COLL_LIMIT aborts the pass. -/
  | collTimeout (e t : Nat)
  /-- MODULE_INSERT (R353). On insertion the hub reads the module's identity and starts authentication. -/
  | moduleInsert (k : Nat) (m : ModuleId)
  /-- MODULE_REMOVE (R357). Removal of a module that is not QUIESCED takes its 8 links down. -/
  | moduleRemove (k : Nat)
  /-- MODULE_INTERRUPT (R565). On MOD_INT_N the hub reads the flagged registers and handles alarms. -/
  | moduleInterrupt (k : Nat) (f : ModuleFlag)
  /-- MODULE_AUTH_ANSWER (R355). The module's signature is verified; the module becomes READY or UNTRUSTED. -/
  | moduleAuthAnswer (k : Nat) (cert sig page : List Nat)
  /-- MODULE_AUTH_TIMEOUT (R355). No answer within 2 s makes the module UNTRUSTED. -/
  | moduleAuthTimeout (k : Nat)
  /-- MODULE_REAUTH_TIMER (R355). Every 24 h the hub authenticates the module again. -/
  | moduleReauthTimer (k : Nat)
  /-- MODULE_LIFE_READ (R354). Every 60 s the hub mirrors the life page and judges it against the limits. -/
  | moduleLifeRead (k : Nat) (page : List Nat)
  /-- LEN_QUIESCE (R358). QUIESCE closes the conduits, suspends the slots, quiesces the links and powers the module off. -/
  | lenQuiesce (who : Requester) (k : Nat)
  /-- LEN_RESUME (R358). RESUME supplies the module, reads its identity and authenticates it. -/
  | lenResume (who : Requester) (k : Nat)
  /-- INPUT_TURN_ON (R362). VIN at or above 36 V for 10 ms takes the panel from OFF to STANDBY. -/
  | inputTurnOn
  /-- INPUT_TURN_OFF (R362). VIN below 36 V for 2 ms stops every converter, and the panel is OFF. -/
  | inputTurnOff
  /-- LOW_INPUT_WARNING (R362). VIN below 37 V for 1 ms sets INPUT_LOW. -/
  | lowInputWarning
  /-- HIGH_INPUT_WARNING (R362). VIN above 44.5 V for 1 ms raises PWR_INPUT_HIGH. -/
  | highInputWarning
  /-- OVERVOLTAGE_TRIP (R362). VIN above 46 V for 50 µs opens both bar eFuses, and the panel falls to STANDBY. -/
  | overvoltageTrip
  /-- PWROK_RELEASE (R368). PWROK released for 1 ms stops admission, and the panel enters RETAINED at the boundary. -/
  | pwrokRelease
  /-- BAR_LOSS (R364). A tripped or idle bar is lost, and I_LIM falls to 250 A. -/
  | barLoss (b : Nat) (tripped : Bool)
  /-- BAR_RESTORE (R364). A bar lost by low current that carries 20 A for 1 s counts as present again. -/
  | barRestore (b : Nat)
  /-- BAR_IMBALANCE_CHECK (R365). A bar imbalance above 20 % for 1 s raises PWR_BAR_IMBALANCE. -/
  | barImbalanceCheck
  /-- INPUT_BACKSTOP (R366). Excess current or power forces BLOCK to 12 on every serving die. -/
  | inputBackstop
  /-- BACKSTOP_RELEASE (R366). Power below 0.9 times IN_LIMIT for 1 s lifts the forced throttle. -/
  | backstopRelease
  /-- SEGMENT_OVERLOAD (R372). A segment above its rated current for 1 ms forces BLOCK to 12 on its dies. -/
  | segmentOverload (g : Nat)
  /-- SEGMENT_OVERLOAD_RELEASE (R372). A load below 85 % of budget for 10 ms lifts the forced throttle. -/
  | segmentOverloadRelease (g : Nat)
  /-- SEGMENT_ON (R373). After precharge and ramp, a segment reports ON. -/
  | segmentOn (g : Nat)
  /-- SEGMENT_SOFTSTART_TIMEOUT (R373). A segment that is not ON within 30 ms trips with cause 0x4. -/
  | segmentSoftstartTimeout (g : Nat)
  /-- SEGMENT_TRIP (R374). A trip condition opens the segment's eFuse; the sector, side or hub is lost. -/
  | segmentTrip (g cause : Nat)
  /-- LSR_INPUT_SWITCH_OPEN (R382). An LSR input over-current opens the switch and isolates the stack or ring position. -/
  | lsrInputSwitchOpen (node : Nat)
  /-- SENSE_FAULT (R384). Sense and local output differing by 60 mV for 10 µs moves the domain to local sense. -/
  | senseFault (node d : Nat)
  /-- DOMAIN_UNDERVOLTAGE (R385). A sense voltage 8 % low for 1 µs discards the pass, and a second one retires the stack. -/
  | domainUndervoltage (node d : Nat)
  /-- DOMAIN_OVERVOLTAGE (R385). An overvoltage switches the domain off, and the stack is fenced. -/
  | domainOvervoltage (node d : Nat)
  /-- PHASE_FAILURE (R386). A failed phase is switched off, and the domain's cap is lowered. -/
  | phaseFailure (node d rail : Nat) (phases : List Nat)
  /-- DOMAIN_OVER_CAP (R389). A domain above its cap for 2 ms aborts the pass and retires the stack. -/
  | domainOverCap (node d : Nat)
  /-- LSR_HOT (R391). An LSR above 115 °C for 10 ms lowers its caps by 25 %. -/
  | lsrHot (node : Nat)
  /-- POWERUP_APPROVAL (R393). The scheduler approves a queued domain power-up, and the domain starts its ramp. -/
  | powerupApproval (g : Nat)
  /-- RAMP_END_CHECK (R393). 50 µs after its ramp, a domain not within 5 % is switched off. -/
  | rampEndCheck (node d : Nat) (ok : Bool)
  /-- SOFTSTART_RETRY (R393). 1 ms after a failed start the domain is retried once. -/
  | softstartRetry (node d : Nat)
  /-- POWERUP_DEFERRED_TIMEOUT (R394). A power-up waiting more than 1 s raises PWR_POWERUP_DEFERRED. -/
  | powerupDeferredTimeout (node d : Nat)
  /-- METER_SAMPLE (R398). Every 10 µs each meter samples and integrates energy. -/
  | meterSample (m : MeterSample)
  /-- SNAPSHOT_TIMER (R399). Every second every energy counter is latched. -/
  | snapshotTimer
  /-- PWR_SNAP (R399). SNAP latches every energy counter at once. -/
  | pwrSnap (who : Requester) (value : Nat)
  /-- PWR_EVENT_READ (R404). A 64-bit read returns and removes the oldest power event. -/
  | pwrEventRead (who : Requester) (bytes half : Nat)
  /-- PWR_INPUT_MAX_READ (R14). A read of PWR_INPUT_MAX returns the peaks and clears them. -/
  | pwrInputMaxRead (who : Requester) (bytes half : Nat)
  /-- SENSOR_SAMPLE (R407). Every 100 µs the hot-spot sensors are sampled and the control readings are formed. -/
  | sensorSample (readings : List SpotReading) (powers : List DomainPower)
  /-- THERMAL_DEMAND_STEP (R409). The thermal demand rises every 1 ms, or falls every 10 ms, by its conditions. -/
  | thermalDemandStep (site : Nat) (fall : Bool)
  /-- COOLANT_SAMPLE (R413). Every 1 ms the coolant is sampled, and F_ctl, HEAT_CAP, the warnings and the emergency detection are computed. -/
  | coolantSample (r : CoolantReading)
  /-- EMERGENCY_EFUSE_CHECK (R422). Input still above 600 W 100 ms after an emergency opens both bar eFuses. -/
  | emergencyEfuseCheck
  /-- THM_EMERG_CLEAR (R423). CLEAR written while READY is 1 ends the emergency. -/
  | thmEmergClear (who : Requester) (value : Nat)
  /-- CLEAR_SUSPECT (R415). CLEAR_SUSPECT clears the marks on the coolant sensors. -/
  | clearSuspect (who : Requester) (value : Nat)
  /-- THM_EVENT_READ (R437). A 64-bit read returns and removes the oldest thermal event. -/
  | thmEventRead (who : Requester) (bytes half : Nat)
  /-- UPDRAFT_TICK (R425). Every 1 ms the scheduler computes TARGET, moves R, updates the bucket and the throttle demands. -/
  | updraftTick
  /-- SECTOR_IDLE_GATE (R433). With no queue eligible for IDLE_GATE ms, the sectors are gated. -/
  | sectorIdleGate
  /-- REF_WINDOW (R438). Every 10 µs the Dawn island counts reference edges and declares the reference lost or restored. -/
  | refWindow (edges : Nat)
  /-- HOLDOVER_EXPIRY (R456). After 10 s of holdover, admission stops and the panel enters WARM. -/
  | holdoverExpiry
  /-- BILLOW_START (R445). The Billow mesh starts, locks and calibrates the crossing at every operating point. -/
  | billowStart (unlocked : List Nat) (delays : List LinkDelay)
  /-- CLOCK_EDGE_LOSS (R447). A comparator with no edge for 64 cycles uncouples and reports, and the hub may fence. -/
  | clockEdgeLoss (site d : Nat) (answers : Bool)
  /-- SEAM_SLIP (R448). A phase error above 0.5 cycle for 1 µs marks the link RETRAIN and aborts the pass. -/
  | seamSlip (site port : Nat)
  /-- BEACON_SEND (R451). Every 1,024 ticks the hub sends a beacon on each hub port. -/
  | beaconSend
  /-- BEACON (R451). A node forwards the first valid beacon and corrects or steps its MCC. -/
  | beacon (site d launch hops own : Nat) (crcOk : Bool)
  /-- BEACON_LOSS (R451). No valid beacon for 4 periods clears BEACON_OK. -/
  | beaconLoss (site : Nat)
  /-- OP_CHANGE_REQUEST (R452). GO in CLK_OP_REQ requests an operating-point change, armed through arm-and-commit. -/
  | opChangeRequest (who : Requester) (value : Nat)
  /-- OP_SLEW_START (R453). At T − 20,000, on an increase, every domain starts slewing up. -/
  | opSlewStart
  /-- OP_SETTLE_CHECK (R454). At T − 1,000 every raised domain must have settled, or the change aborts. -/
  | opSettleCheck (unsettled : List (Nat × Nat))
  /-- OP_LINK_PAUSE (R453). At T − 4 links send no flits and detection is suspended. -/
  | opLinkPause
  /-- OP_RELOCK (R453). At T + 20 nodes are locked, paddings apply and idle flits resume. -/
  | opRelock (unlocked : List Nat)
  /-- OP_DETECT_RESUME (R453). At T + 40 detection resumes. -/
  | opDetectResume
  /-- PTP_SYNC (R459). A Sync message updates the offset and the servo steers the Isobar clock. -/
  | ptpSync (port : Nat) (m : PtpMsg)
  /-- PTP_ANNOUNCE (R460). An Announce message updates master selection and the UTC offset. -/
  | ptpAnnounce (port : Nat) (m : PtpMsg) (dataset : List Nat) (utc : Int)
  /-- PTP_DELAY_RESP (R458). A Delay_Resp message completes a delay measurement. -/
  | ptpDelayResp (port : Nat) (m : PtpMsg)
  /-- PTP_LOSS (R459). No valid Sync for 10 s ends the lock. -/
  | ptpLoss
  /-- PTP_ENABLE (R459). A write of ISB_PTP_CFG.EN starts or stops steering. -/
  | ptpEnable (who : Requester) (value : Nat)
  /-- DAWN_CRYSTAL_LOSS (R461). No crystal edge for 1 µs switches the Dawn island to its backup oscillator. -/
  | dawnCrystalLoss
  /-- ISB_COUNT_READ (R440). A 32-bit read of the low half of ISB_COUNT latches the high half. -/
  | isbCountRead (who : Requester) (bytes half : Nat)
  /-- CLK_EVENT_READ (R464). A 64-bit read returns and removes the oldest clock event. -/
  | clkEventRead (who : Requester) (bytes half : Nat)
  /-- IMAGE_LOAD (R477). LOAD starts reading a staged image and protects its staging area. -/
  | imageLoad (who : Requester)
  /-- IMAGE_READ_DONE (R480). The header, section table and authentication are checked, and the load enters CHECK or FAILED. -/
  | imageReadDone (ues : List Nat)
  /-- IMAGE_CHECK_DONE (R480). The sections, the shape and the golden slices are checked, and the commit is requested or the load fails. -/
  | imageCheckDone (ues : List Nat)
  /-- IMAGE_ABANDON (R480). ABANDON before confirmation ends a load in FAILED with no code. -/
  | imageAbandon (who : Requester)
  /-- ARM (R483). A unit receives ARM, checks that it can apply the change and prepares it. -/
  | arm (node : Nat) (nak : Nat)
  /-- ARM_ACK (R483). The hub counts a unit's ACK to an arm. -/
  | armAck (node : Nat)
  /-- NAK (R485). A unit's NAK aborts the change. -/
  | nak (node code : Nat)
  /-- ARM_DECIDE (R484). At T − 100,000 the hub rechecks its conditions and sends CONFIRM or ABORT. -/
  | armDecide
  /-- CONFIRM (R483). A unit receives CONFIRM and carries out the steps of the change before T. -/
  | confirm (node : Nat)
  /-- ABORT (R485). A unit receives ABORT, discards the prepared change and stays in the old mode. -/
  | abort (node : Nat)
  /-- COMMIT (R483). At T every confirmed unit applies the change at its local tick boundary. -/
  | commit (lost ues : List Nat)
  /-- REPORT (R486). The hub takes a unit's REPORT of whether it applied the change. -/
  | report (node : Nat) (applied : Bool)
  /-- REPORT_DEADLINE (R486). A REPORT that is missing or contradicts the outcome by T + 100,000 fences the unit. -/
  | reportDeadline
  /-- POWER_ON (R499). Applying standby power resets the panel at L0 and writes the cause record afresh. -/
  | powerOn
  /-- PERST_ASSERT (R493). PERST_N asserted above STANDBY resets the panel at its fused level. -/
  | perstAssert
  /-- PERST_LONG (R493). PERST_N held for 2 s resets the panel at L0. -/
  | perstLong
  /-- PERST_RELEASE (R511). PERST_N released ends the stretch and clears the STANDBY hold after an assert. -/
  | perstRelease
  /-- RESET_REQUEST (R494). RST_CTRL GO with KEY 0x5A requests a reset at LEVEL. -/
  | resetRequest (who : Requester) (value : Nat)
  /-- HUB_WATCHDOG_EXPIRY (R495). Hub watchdog expiry resets the panel. -/
  | hubWatchdogExpiry
  /-- HUB_FATAL (R493). A hub core fatal fault resets the panel. -/
  | hubFatal
  /-- START_WINDOW_EXPIRY (R503). A start window expiring after 120 s counts a failed start and resets the panel. -/
  | startWindowExpiry
  /-- DOLDRUMS_EXIT (R506). EXIT in DOLDRUMS sets FAILS to 0 and resets the panel. -/
  | doldrumsExit (who : Requester) (value : Nat)
  /-- RESET_STRETCH_END (R496). 20 ms after the last source, the internal reset is released and the panel starts. -/
  | resetStretchEnd
  /-- RSTO_RELEASE (R496). 500,000 ticks after the end of the stretch, RSTO_N is released. -/
  | rstoRelease
  /-- STANDBY_START (R508). Once the start conditions hold, the Dawn island starts the hub and the panel reaches RETAINED or DOLDRUMS. -/
  | standbyStart
  /-- POWER_STATE_REQUEST (R509). GO in RST_PWR_REQ starts a transition to TARGET, or is refused. -/
  | powerStateRequest (who : Requester) (value : Nat)
  /-- TRANSITION_TIMEOUT (R510). An upward transition that exceeds its limit returns the panel to its starting state. -/
  | transitionTimeout
  /-- RETAIN (R516). CC0 receives RETAIN and stops issuing work within 10 ms. -/
  | retain (site : Nat)
  /-- RESUME (R514). CC0 receives RESUME after a retained start. -/
  | resume (site : Nat)
  /-- RST_PARK (R501). PARK closes the start window without counting. -/
  | rstPark (who : Requester) (value : Nat)
  /-- FW_BCAST (R523). BCAST authenticates the staged firmware if needed and broadcasts the chosen blocks. -/
  | fwBcast (who : Requester) (value : Nat) (ues : List Nat)
  /-- FW_UNICAST (R523). UNICAST writes the chosen blocks to one unit. -/
  | fwUnicast (who : Requester) (value : Nat)
  /-- FW_START (R523). START releases the control cores of complete units and fails incomplete ones. -/
  | fwStart (who : Requester) (value : Nat)
  /-- FW_ROUND_DONE (R521). After a round the hub reads the loader status of every unit and clears BUSY. -/
  | fwRoundDone
  /-- FW_BLOCK (R522). A loader checks an arriving block, and on the last block checks the digest and copies the firmware. -/
  | fwBlock (site : Nat) (header data : List Nat)
  /-- SPARE_INIT_DONE (R533). The spare's Gelat stores are initialised and the copy starts. -/
  | spareInitDone (spare : Nat)
  /-- SPARE_COPY_DONE (R538). The copied slice's digest is compared; on a match the substitution and tables are written and SPARE_IN is sent. -/
  | spareCopyDone (spare : Nat) (ues : List Nat)
  /-- SPARE_IN (R533). The spare's control cores receive SPARE_IN and start running as the site they replace. -/
  | spareIn (spare : Nat)
  /-- SPARE_READY (R533). The spare's CC0 reply ends the swap, and admission resumes. -/
  | spareReady (spare : Nat)
  /-- SPARE_READY_TIMEOUT (R534). No SPARE_READY within 5,000,000 ticks fails the swap. -/
  | spareReadyTimeout (spare : Nat)
  /-- HOST_DONE (R537). HOST_DONE starts the read-back digest check of a host-written slice. -/
  | hostDone (who : Requester) (spare : Nat)
  /-- SPARE_ABANDON (R539). ABANDON fails the swap of the named spare. -/
  | spareAbandon (who : Requester) (spare : Nat)
  /-- HOST_LIMIT_EXPIRY (R537). HOST_LIMIT expiring in HOST_WAIT fails the swap. -/
  | hostLimitExpiry (spare : Nat)
  /-- SPARE_LOG_READ (R547). A 64-bit read returns and removes the oldest spare log entry. -/
  | spareLogRead (who : Requester) (bytes half : Nat)
  /-- PCIE_LINK_UP (R551). The PCIe link comes up and is checked for degradation. -/
  | pcieLinkUp (speed width : Nat) (flit : Bool)
  /-- PCIE_LINK_DOWN (R552). A link-down or hot reset resets only the configuration space. -/
  | pcieLinkDown
  /-- BUS_MASTER_ENABLE_CHANGE (R552). Clearing Bus Master Enable holds completions and interrupts; setting it releases them in order. -/
  | busMasterEnableChange (on : Bool)
  /-- HOST_READ_COMPLETION (R553). A completion to a host-memory read returns RDATA, poisoned on error. -/
  | hostReadCompletion (tag : Nat) (ok : Bool) (data : List Nat)
  /-- HOST_READ_TIMEOUT (R553). A host read without a completion in 1 ms returns poisoned RDATA. -/
  | hostReadTimeout (tag : Nat)
  /-- BAR4_ACCESS (R554). A BAR4 access is mapped through its aperture to a PPA. -/
  | bar4Access (write : Bool) (offset n : Nat) (data : List Nat) (poison : Bool)
  /-- B4AP_WRITE (R555). An aperture write is checked and applies to later BAR4 requests. -/
  | b4apWrite (who : Requester) (i value : Nat)
  /-- IRQ_HOLDOFF_END (R558). At the end of the holdoff, collapsed triggers send one message. -/
  | irqHoldoffEnd (v : Nat)
  /-- MSIX_UNMASK (R558). Unmasking a vector sends its pending message. -/
  | msixUnmask (w : MsixWrite)
  /-- MGMT_READ (R562). A register-access READ datagram is authenticated, sequenced and performed. -/
  | mgmtRead (port : Nat) (data : List Nat)
  /-- MGMT_WRITE (R562). A register-access WRITE datagram is authenticated, sequenced and performed. -/
  | mgmtWrite (port : Nat) (data : List Nat)
  /-- MGMT_KEY_WRITE (R562). Writing HUB_MGT_KEY3 sets KEY_SET and resets the sequence; writing KEY0 to KEY2 clears KEY_SET. -/
  | mgmtKeyWrite (who : Requester) (k value : Nat)
  /-- CPER_ACK (R564). A collector acknowledgement frees an unacknowledged record. -/
  | cperAck (port : Nat) (data : List Nat)
  /-- CPER_RESEND (R564). Each second an unacknowledged record is resent, and it is given up after 10 sends. -/
  | cperResend (seq : Nat)
  /-- MGMT_PORT_DOWN (R561). A port with lost block lock for 10 ms goes DOWN. -/
  | mgmtPortDown (port : Nat)
  /-- MGMT_PORT_UP (R561). Auto-negotiation completes and the port rejoins. -/
  | mgmtPortUp (port fec : Nat)
  /-- ECHO_REQUEST (R560). An ICMP or ICMPv6 echo request is answered. -/
  | echoRequest (port : Nat) (v6 : Bool) (dst : Nat) (data : List Nat)
  /-- SMB_READ (R566). GO in HUB_SMB_CMD starts a read of module memory, or is refused. -/
  | smbRead (who : Requester) (value : Nat)
  /-- SMB_READ_DONE (R566). The module read finishes and the data and status are posted. -/
  | smbReadDone (ok : Bool) (data : List Nat)
  /-- GUEST_SIDEBAND_UP (R568). The sideband comes up, and the capability block is read and checked. -/
  | guestSidebandUp (g : Nat) (block : List Nat)
  /-- GUEST_SIDEBAND_TIMEOUT (R568). No sideband by tick 1,000,000 makes the guest ABSENT. -/
  | guestSidebandTimeout (g : Nat)
  /-- GUEST_TRAIN_DONE (R568). Mainband training ends and the guest is UP, or the failure raises HST_GUEST_DOWN. -/
  | guestTrainDone (g : Nat) (ok : Bool) (rate width : Nat)
  /-- GUEST_RETRY (R568). RETRY restarts guest bring-up from step 1. -/
  | guestRetry (who : Requester) (g value : Nat)
  /-- GUEST_ENABLE_WRITE (R572). Writing EN to 0 takes the guest down without retries and switches GU off. -/
  | guestEnableWrite (who : Requester) (g value : Nat)
  /-- GUEST_RDATA (R570). A guest RDATA frame answers its request on the mesh. -/
  | guestRdata (g : Nat) (f : GuestFrame)
  /-- GUEST_WACK (R570). A guest WACK frame answers its request on the mesh. -/
  | guestWack (g tag : Nat) (err : Bool)
  /-- GUEST_TEMP_REPORT (R569). A guest temperature report updates its single-sensor spot. -/
  | guestTempReport (g : Nat) (temp : Int)
  /-- GUEST_TIMEOUT (R571). A guest request unanswered for 1 ms is answered poisoned. -/
  | guestTimeout (g tag : Nat)
  /-- GUEST_LINK_LOSS (R572). A lost guest link goes DOWN and its outstanding requests are answered poisoned. -/
  | guestLinkLoss (g : Nat)
  /-- GUEST_RETRAIN_TIMER (R572). 100 ms after a loss, the guest link retrains, up to 3 times. -/
  | guestRetrainTimer (g : Nat)
  /-- REGISTER_READ (R12). A BAR0 or BAR2 read of an unmapped, dark or wrongly sized address reads zero or all ones and records its code in HUB_HST_ERR and HUB_HST_ADDR. -/
  | registerRead (who : Requester) (addr bytes : Nat)
  /-- CCO_LOCAL_ACCESS (R161). A control core load, store, atomic or FENCE through its local map is performed, posted or raises an access fault. -/
  | ccoLocalAccess (site c : Nat) (a : CoreAccess) (ecc : Ecc)
  /-- MTIMECMP_INTERRUPT (R161). When mtime reaches the mtimecmp of a control core, the core takes its machine timer interrupt. -/
  | mtimecmpInterrupt (site c : Nat)
  /-- PTP_FOLLOW_UP (R458). A Follow_Up message from a two-step master supplies the Sync timestamp to the servo. -/
  | ptpFollowUp (port : Nat) (m : PtpMsg)
  /-- PTP_DELAY_REQ_TIMER (R458). At its interval the hub sends a Delay_Req on the port of the selected master. -/
  | ptpDelayReqTimer
  /-- DHCP_REPLY (R561). A DHCPv4 offer or acknowledgement on a management port binds or changes the port's IPv4 address. -/
  | dhcpReply (port : Nat) (m : DhcpMsg)
  /-- DHCP_LEASE_TIMER (R561). At the renewal or expiry time of the lease the port renews its address or gives it up. -/
  | dhcpLeaseTimer (port : Nat)
  /-- ARP_REQUEST (R560). An ARP request for the port's IPv4 address is answered. -/
  | arpRequest (port target : Nat)
  /-- NEIGHBOR_DISCOVERY (R560). A Neighbor Discovery message, a router advertisement for SLAAC included, is answered or updates the port's IPv6 addresses. -/
  | neighborDiscovery (port : Nat) (m : NdMessage)
  /-- PUT_MERGE_WINDOW (R340). When 32 mesh cycles pass with no consecutive WRITE, the edge die sends the merged PUT. -/
  | putMergeWindow (c : Nat)
  /-- COLL_PACK_WINDOW (R348). When 64 mesh cycles pass with no further record ready, the edge die sends the COLL packet it has packed. -/
  | collPackWindow (e t : Nat)
  /-- FORWARDED_CLOCK_RETURN (R444). A neighbour's forwarded clock reappears and the node couples to it again. -/
  | forwardedClockReturn (site d : Nat)
  deriving DecidableEq, Repr

end Sys2Proof
end

