-- ==== Sys2Proof/Decode.lean ====
section
/-! DEFINITION. Words that spell commands. The operation table gives no row any bits: a command is an event, a datagram, a packet or a register access
with its operands, and no word spells one. -/

namespace Sys2Proof

/-- The command that a word of the table's bits spells: none, since no row of the table has bits. -/
def decodeTableWord (_nbits _w : Nat) : Option Instr := none

end Sys2Proof
end

