-- ==== Sys2Proof/Config.lean ====
section
/-! DEFINITION. What the spec leaves to the individual module (fuses, straps) or does not state: opaque constants with
no body, so that nothing in Lean can evaluate one or prove a value of one. Each has a row in notes/assumptions. -/

namespace Sys2Proof

/-- The fused value of the field at bit lo of the register at a BAR0 address (R14: a Reset value of "Fuse"), for a field
whose value no table of the spec gives. Log entry 2. -/
opaque Config.fuse (addr lo : Nat) : Nat

/-- The SITE strap value of the stack at a site, as its strap balls read (R41, R42). Log entry 2. -/
opaque Config.strapSite (site : Nat) : Nat

/-- The ORI strap value of the stack at a site (R41, R42). Log entry 2. -/
opaque Config.strapOri (site : Nat) : Nat

/-- For RCP (2) and RSQRT (3) of a lane whose exact result is not representable: whether the module gives the neighbour
away from zero (R142: an error below 1 unit in the last place, a fixed function that the manual does not print). Log
entry 3. -/
opaque Config.ftrAway (fn : Nat) (x : Lane) : Bool

/-- EXP2 of a lane where R142 states only an error bound. Log entry 3. -/
opaque Config.exp2Of (x : Lane) : Lane

/-- LOG2 of a lane where R142 states only an error bound. Log entry 3. -/
opaque Config.log2Of (x : Lane) : Lane

/-- The n-th random challenge of 16 bytes that the hub sends to a module (R355). Log entry 10. -/
opaque Config.challenge (n : Nat) : List Nat

/-- The public key of Lenvotric's module certificate authority, whose hash the hub's fuses hold (R355), as a SubjectPublicKeyInfo. Log entry
10. -/
opaque Config.moduleCaKey : List Nat

/-- The SHA-384 of Lenvotric's root public key, as fused (R475). Log entry 10. -/
opaque Config.rootHash : List Nat

/-- The SHA-384 of the public key in customer key slot n, as blown (R475). Log entry 10. -/
opaque Config.customerSlot (n : Nat) : List Nat

/-- The phases of a supply rail of a DRAM port die's HBM stacks: the die and the rail (R380: one domain for each rail, at the voltages of
the JEDEC HBM4 standard). Log entry 13. -/
opaque Config.railPhases (d rail : Nat) : Nat

/-- The setpoint in mV of a domain whose setpoint no register gives (R383: TR, GA, GP, the ring and the hub domains). Log entry 13. -/
opaque Config.setpoint (node d : Nat) : Nat

/-- Byte i of the n-th value that the spec leaves open: the bytes of an answer marked poisoned whose data it does not state. Log entry 15. -/
opaque Config.freeByte (n i : Nat) : Byte

/-- θ of a hot spot in mK/W (R406: held in fuses; the table gives typical values only). Log entry 14. -/
opaque Config.theta (node spot : Nat) : Nat

/-- K_DP in 0.001 L/min per √kPa (R415: from fuses; typically 5,160). Log entry 14. -/
opaque Config.kDp : Nat

/-- Where microcode block k of a TEMPLATES section stands: its byte offset in the section and its length in words; none where the section holds no such
block (R471 says only that blocks follow the directory). The section is given as its bytes. Log entry 6. -/
opaque Config.ublockPlace (bytes : List Nat) (k : Nat) : Option (Nat × Nat)

end Sys2Proof
end

