-- ==== Sys2Proof/Machine/Bits.lean ====
section
/-! DEFINITION. Bit fields, sign extension, saturating counters, byte order, sparse maps by key, and the shape of a
register's description: the small arithmetic that every other file of the machine uses. -/

namespace Sys2Proof.Machine

/-! ## Numbers and bits -/

/-- Bits [hi:lo] of a number, as the spec writes a bit range (R6). -/
def bits (n hi lo : Nat) : Nat := (n >>> lo) % 2 ^ (hi + 1 - lo)

/-- Bit i of a number, as a Boolean. -/
def bit (n i : Nat) : Bool := n.testBit i

/-- 1 for true, 0 for false. -/
def b2n (b : Bool) : Nat := if b then 1 else 0

/-- A count that stays at its largest value. -/
def sat (top n : Nat) : Nat := if n ≤ top then n else top

/-- Set (true) or clear (false) bit i of a number. -/
def withBit (n i : Nat) (b : Bool) : Nat :=
  if n.testBit i = b then n else if b then n + 2 ^ i else n - 2 ^ i

/-- The signed value of a w-bit two's complement number. -/
def signed (w n : Nat) : Int :=
  let m := n % 2 ^ w
  if w = 0 then 0 else if m < 2 ^ (w - 1) then (m : Int) else (m : Int) - (2 ^ w : Nat)

/-- The w-bit two's complement number of a signed value, wrapping. -/
def unsigned (w : Nat) (i : Int) : Nat := (i % (2 ^ w : Nat)).toNat

/-- Division rounded up; 0 for a divisor of 0. -/
def ceilDiv (a b : Nat) : Nat := if b = 0 then 0 else (a + b - 1) / b

/-- How many of the first n bits of a number are set. -/
def popCount : Nat → Nat → Nat
  | 0, _ => 0
  | n + 1, m => b2n (m.testBit n) + popCount n m

/-- The numbers below n, rising. -/
def below (n : Nat) : List Nat := List.range n

/-- The indices below n whose bit is set in m, rising. -/
def setBits (n m : Nat) : List Nat := (below n).filter (fun i => m.testBit i)

/-- The number whose set bits are the members of the list. -/
def maskOf (l : List Nat) : Nat := l.foldl (fun m i => withBit m i true) 0

/-- The element at an index, with a default beyond the end. -/
def nth {α : Type} (d : α) : List α → Nat → α
  | [], _ => d
  | x :: _, 0 => x
  | _ :: l, n + 1 => nth d l n

/-- Replace the element at an index; nothing beyond the end. -/
def setNth {α : Type} : List α → Nat → α → List α
  | [], _, _ => []
  | _ :: l, 0, y => y :: l
  | x :: l, n + 1, y => x :: setNth l n y

/-- The sum of a list. -/
def sumNat (l : List Nat) : Nat := l.foldl (· + ·) 0

/-- The largest of a list, 0 for none. -/
def maxNat (l : List Nat) : Nat := l.foldl Nat.max 0

/-- The index of the first element that passes a test. -/
def indexOf? {α : Type} (p : α → Bool) : List α → Option Nat
  | [] => none
  | x :: l => if p x then some 0 else (indexOf? p l).map (· + 1)

/-! ## Byte order (R6: little-endian) -/

/-- The n low bytes of a number, least significant first. -/
def leBytes : Nat → Nat → List Nat
  | 0, _ => []
  | n + 1, v => v % 256 :: leBytes n (v / 256)

/-- The number that a list of bytes spells, least significant first. -/
def ofLe : List Nat → Nat
  | [] => 0
  | b :: l => b % 256 + 256 * ofLe l

/-- Split a list into groups of n; fuel is the list's length. -/
def groupsAux {α : Type} (n : Nat) : Nat → List α → List (List α)
  | 0, _ => []
  | f + 1, l => if l.isEmpty then [] else l.take n :: groupsAux n f (l.drop n)

def groups {α : Type} (n : Nat) (l : List α) : List (List α) :=
  if n = 0 then [] else groupsAux n l.length l

/-- Exclusive or of two byte lists, as long as the first. -/
def xorBytes : List Nat → List Nat → List Nat
  | [], _ => []
  | x :: l, [] => x :: xorBytes l []
  | x :: l, y :: m => (x ^^^ y) :: xorBytes l m

/-! ## Sparse maps by key -/

/-- The value at a key. -/
def look {α : Type} : List (Nat × α) → Nat → Option α
  | [], _ => none
  | (k, v) :: m, a => if k = a then some v else look m a

/-- The value at a key, with a default where none is listed. -/
def lookD {α : Type} (d : α) (m : List (Nat × α)) (a : Nat) : α := (look m a).getD d

/-- Put a value at a key, keeping the keys rising. -/
def putKey {α : Type} : List (Nat × α) → Nat → α → List (Nat × α)
  | [], a, x => [(a, x)]
  | (k, v) :: m, a, x =>
    if k = a then (a, x) :: m
    else if a < k then (a, x) :: (k, v) :: m
    else (k, v) :: putKey m a x

/-- Remove a key. -/
def delKey {α : Type} : List (Nat × α) → Nat → List (Nat × α)
  | [], _ => []
  | (k, v) :: m, a => if k = a then delKey m a else (k, v) :: delKey m a

/-- Change the value at a key, starting from a default where none is listed. -/
def modKey {α : Type} (d : α) (m : List (Nat × α)) (a : Nat) (f : α → α) : List (Nat × α) :=
  putKey m a (f (lookD d m a))

/-! ## Registers and their fields -/

/-- The type of a register field (Table 0.8). -/
inductive FieldType where
  | rw | ro | w1c | w1s | wo | rc
  deriving DecidableEq, Repr

/-- Where the Reset value of a field comes from (R14): a number of the register tables, the fuses, the straps of the
stack, or a table of the spec. -/
inductive ResetSource where
  | val (n : Nat)
  | fuse
  | strapSite | strapOri
  | opEn | opFreq | opK
  | rated | levelMap | doldLimit
  deriving DecidableEq, Repr

/-- Which reset levels give a register its Reset value (Table 14.1): none; L0 only (Dawn island); L0 to L2 (hub core);
every level that resets the fabric (L0 to L3). -/
inductive ResetClass where
  | never | dawn | hub | fabric
  deriving DecidableEq, Repr

/-- One field of a register: its bits, its type and its Reset value. -/
structure FieldDesc where
  hi : Nat
  lo : Nat
  type : FieldType
  reset : ResetSource
  deriving DecidableEq, Repr

/-- The copies of a register: they stand a stride apart and are numbered from first to last − 1. -/
structure RegDim where
  stride : Nat
  first : Nat
  last : Nat
  deriving DecidableEq, Repr

/-- One register of the spec, with all its copies. -/
structure RegDesc where
  name : String
  base : Nat
  dims : List RegDim
  cls : ResetClass
  fields : List FieldDesc
  deriving DecidableEq, Repr

/-- The place of one field: the address of its register and its bits [hi:lo]. -/
structure Loc where
  addr : Nat
  hi : Nat
  lo : Nat
  deriving DecidableEq, Repr

/-- The value of bits [hi:lo] of a 64-bit word. -/
def fieldOf (v : Word) (hi lo : Nat) : Nat := (v.extractLsb' lo (hi + 1 - lo)).toNat

/-- A word with ones in bits [hi:lo]. -/
def fieldMask (hi lo : Nat) : Word := ((BitVec.allOnes (hi + 1 - lo)).setWidth 64) <<< lo

/-- A 64-bit word with bits [hi:lo] replaced by the low bits of x. -/
def withField (v : Word) (hi lo x : Nat) : Word :=
  (v &&& ~~~ fieldMask hi lo) ||| ((BitVec.ofNat (hi + 1 - lo) x).setWidth 64 <<< lo)

end Sys2Proof.Machine
end

