-- ==== Sys2Proof/Machine/RegFields.lean ====
section
/-! DEFINITION. Every register the spec describes, by name: its BAR0 address (BAR2 registers stand at
0x400_0000 + their BAR2 offset, just above BAR0's 64 MiB) and the place of each of its fields (R10, R61, R62 and
the register tables of chapters 00 to 16). Transcribed from those tables. -/

namespace Sys2Proof.Machine

/-! ## Registers of 00_scope.md -/

/-- HUB_IDENT, BAR0 0x0000_0000 (00_scope.md). -/
def HUB_IDENT.REG : Nat := 0x0
def HUB_IDENT.PART : Loc := ⟨HUB_IDENT.REG, 63, 48⟩
def HUB_IDENT.MOD_STEP : Loc := ⟨HUB_IDENT.REG, 47, 40⟩
def HUB_IDENT.HUB_STEP : Loc := ⟨HUB_IDENT.REG, 39, 32⟩
def HUB_IDENT.EDGE_STEP : Loc := ⟨HUB_IDENT.REG, 31, 24⟩
def HUB_IDENT.DPD_STEP : Loc := ⟨HUB_IDENT.REG, 23, 16⟩
def HUB_IDENT.IMG_FMT : Loc := ⟨HUB_IDENT.REG, 15, 8⟩
def HUB_IDENT.MESH_VER : Loc := ⟨HUB_IDENT.REG, 7, 4⟩

/-- HUB_SERIAL, BAR0 0x0000_0008 (00_scope.md). -/
def HUB_SERIAL.REG : Nat := 0x8
def HUB_SERIAL.PLANT : Loc := ⟨HUB_SERIAL.REG, 63, 56⟩
def HUB_SERIAL.YEARWEEK : Loc := ⟨HUB_SERIAL.REG, 55, 40⟩
def HUB_SERIAL.SERIAL : Loc := ⟨HUB_SERIAL.REG, 39, 0⟩

/-- SIT_IDENT, site window offset 0x0000 (00_scope.md). -/
def SIT_IDENT.REG (site : Nat) : Nat := 0x1000000 + site * 0x10000
def SIT_IDENT.IZQ_STEP (site : Nat) : Loc := ⟨SIT_IDENT.REG site, 63, 56⟩
def SIT_IDENT.GLT_STEP (site : Nat) : Loc := ⟨SIT_IDENT.REG site, 55, 48⟩
def SIT_IDENT.MESH_VER (site : Nat) : Loc := ⟨SIT_IDENT.REG site, 47, 44⟩
def SIT_IDENT.ORI (site : Nat) : Loc := ⟨SIT_IDENT.REG site, 43, 42⟩
def SIT_IDENT.SITE (site : Nat) : Loc := ⟨SIT_IDENT.REG site, 41, 34⟩

/-- SIT_SERIAL, site window offset 0x0008 (00_scope.md). -/
def SIT_SERIAL.REG (site : Nat) : Nat := 0x1000008 + site * 0x10000
def SIT_SERIAL.IZQ_LOT (site : Nat) : Loc := ⟨SIT_SERIAL.REG site, 63, 32⟩
def SIT_SERIAL.GLT_LOT (site : Nat) : Loc := ⟨SIT_SERIAL.REG site, 31, 0⟩

/-! ## Registers of 01_panel.md -/

/-- HUB_DISC_STATUS, BAR0 0x0000_0010 (01_panel.md). -/
def HUB_DISC_STATUS.REG : Nat := 0x10
def HUB_DISC_STATUS.FAILED_SITES : Loc := ⟨HUB_DISC_STATUS.REG, 63, 56⟩
def HUB_DISC_STATUS.OVER_SECTORS : Loc := ⟨HUB_DISC_STATUS.REG, 55, 48⟩
def HUB_DISC_STATUS.RING_FAILED : Loc := ⟨HUB_DISC_STATUS.REG, 47, 40⟩
def HUB_DISC_STATUS.LAST_CODE : Loc := ⟨HUB_DISC_STATUS.REG, 39, 24⟩
def HUB_DISC_STATUS.DURATION : Loc := ⟨HUB_DISC_STATUS.REG, 23, 8⟩
def HUB_DISC_STATUS.DONE : Loc := ⟨HUB_DISC_STATUS.REG, 1, 1⟩
def HUB_DISC_STATUS.RUNNING : Loc := ⟨HUB_DISC_STATUS.REG, 0, 0⟩

/-- HUB_SITE_OK0, BAR0 0x0000_0018 (01_panel.md). -/
def HUB_SITE_OK0.REG : Nat := 0x18
def HUB_SITE_OK0.OK : Loc := ⟨HUB_SITE_OK0.REG, 63, 0⟩

/-- HUB_SITE_OK1, BAR0 0x0000_0020 (01_panel.md). -/
def HUB_SITE_OK1.REG : Nat := 0x20
def HUB_SITE_OK1.OK : Loc := ⟨HUB_SITE_OK1.REG, 63, 0⟩

/-- HUB_SITE_OK2, BAR0 0x0000_0028 (01_panel.md). -/
def HUB_SITE_OK2.REG : Nat := 0x28
def HUB_SITE_OK2.OK : Loc := ⟨HUB_SITE_OK2.REG, 40, 0⟩

/-- HUB_RING_OK, BAR0 0x0000_0030 (01_panel.md). -/
def HUB_RING_OK.REG : Nat := 0x30
def HUB_RING_OK.OK : Loc := ⟨HUB_RING_OK.REG, 43, 0⟩

/-- HUB_DISC_LOG, BAR0 0x0000_0038 (01_panel.md). -/
def HUB_DISC_LOG.REG : Nat := 0x38
def HUB_DISC_LOG.VALID : Loc := ⟨HUB_DISC_LOG.REG, 63, 63⟩
def HUB_DISC_LOG.OVF : Loc := ⟨HUB_DISC_LOG.REG, 62, 62⟩
def HUB_DISC_LOG.RING : Loc := ⟨HUB_DISC_LOG.REG, 56, 56⟩
def HUB_DISC_LOG.POS : Loc := ⟨HUB_DISC_LOG.REG, 55, 48⟩
def HUB_DISC_LOG.CODE : Loc := ⟨HUB_DISC_LOG.REG, 31, 16⟩

/-- HUB_HPORT, BAR0 0x0000_0040 (01_panel.md). -/
def HUB_HPORT.REG : Nat := 0x40
def HUB_HPORT.PORT : Loc := ⟨HUB_HPORT.REG, 47, 0⟩

/-- SIT_PORTMAP, site window offset 0x0010 (01_panel.md). -/
def SIT_PORTMAP.REG (site : Nat) : Nat := 0x1000010 + site * 0x10000
def SIT_PORTMAP.RING3 (site : Nat) : Loc := ⟨SIT_PORTMAP.REG site, 63, 56⟩
def SIT_PORTMAP.RING2 (site : Nat) : Loc := ⟨SIT_PORTMAP.REG site, 55, 48⟩
def SIT_PORTMAP.RING1 (site : Nat) : Loc := ⟨SIT_PORTMAP.REG site, 47, 40⟩
def SIT_PORTMAP.RING0 (site : Nat) : Loc := ⟨SIT_PORTMAP.REG site, 39, 32⟩
def SIT_PORTMAP.PORT_W (site : Nat) : Loc := ⟨SIT_PORTMAP.REG site, 31, 24⟩
def SIT_PORTMAP.PORT_S (site : Nat) : Loc := ⟨SIT_PORTMAP.REG site, 23, 16⟩
def SIT_PORTMAP.PORT_E (site : Nat) : Loc := ⟨SIT_PORTMAP.REG site, 15, 8⟩
def SIT_PORTMAP.PORT_N (site : Nat) : Loc := ⟨SIT_PORTMAP.REG site, 7, 0⟩

/-! ## Registers of 02_arrays.md -/

/-- MXA_CTRL, site window offset 0x2000 + a * 0x200 + 0x000 (02_arrays.md). -/
def MXA_CTRL.REG (site a : Nat) : Nat := 0x1002000 + site * 0x10000 + a * 0x200
def MXA_CTRL.RERUN_GO (site a : Nat) : Loc := ⟨MXA_CTRL.REG site a, 16, 16⟩
def MXA_CTRL.RERUN_PC (site a : Nat) : Loc := ⟨MXA_CTRL.REG site a, 8, 0⟩

/-- MXA_STATUS, site window offset 0x2000 + a * 0x200 + 0x008 (02_arrays.md). -/
def MXA_STATUS.REG (site a : Nat) : Nat := 0x1002008 + site * 0x10000 + a * 0x200
def MXA_STATUS.LAST_CODE (site a : Nat) : Loc := ⟨MXA_STATUS.REG site a, 63, 48⟩
def MXA_STATUS.PC (site a : Nat) : Loc := ⟨MXA_STATUS.REG site a, 40, 32⟩
def MXA_STATUS.WAIT (site a : Nat) : Loc := ⟨MXA_STATUS.REG site a, 23, 20⟩
def MXA_STATUS.LOADING (site a : Nat) : Loc := ⟨MXA_STATUS.REG site a, 15, 15⟩
def MXA_STATUS.BANK1_VALID (site a : Nat) : Loc := ⟨MXA_STATUS.REG site a, 14, 14⟩
def MXA_STATUS.BANK0_VALID (site a : Nat) : Loc := ⟨MXA_STATUS.REG site a, 13, 13⟩
def MXA_STATUS.ACTIVE_BANK (site a : Nat) : Loc := ⟨MXA_STATUS.REG site a, 12, 12⟩
def MXA_STATUS.STATE (site a : Nat) : Loc := ⟨MXA_STATUS.REG site a, 3, 0⟩

/-- MXA_FMT, site window offset 0x2000 + a * 0x200 + 0x010 (02_arrays.md). -/
def MXA_FMT.REG (site a : Nat) : Nat := 0x1002010 + site * 0x10000 + a * 0x200
def MXA_FMT.WFMT (site a : Nat) : Loc := ⟨MXA_FMT.REG site a, 63, 60⟩
def MXA_FMT.AFMT (site a : Nat) : Loc := ⟨MXA_FMT.REG site a, 59, 56⟩
def MXA_FMT.MXW (site a : Nat) : Loc := ⟨MXA_FMT.REG site a, 55, 55⟩
def MXA_FMT.MXA (site a : Nat) : Loc := ⟨MXA_FMT.REG site a, 54, 54⟩
def MXA_FMT.ANCHOR (site a : Nat) : Loc := ⟨MXA_FMT.REG site a, 47, 32⟩
def MXA_FMT.CLASS (site a : Nat) : Loc := ⟨MXA_FMT.REG site a, 1, 0⟩

/-- MXA_WBASE, site window offset 0x2000 + a * 0x200 + 0x018 (02_arrays.md). -/
def MXA_WBASE.REG (site a : Nat) : Nat := 0x1002018 + site * 0x10000 + a * 0x200
def MXA_WBASE.WSTRIDE (site a : Nat) : Loc := ⟨MXA_WBASE.REG site a, 63, 32⟩
def MXA_WBASE.ROW_BASE (site a : Nat) : Loc := ⟨MXA_WBASE.REG site a, 31, 0⟩

/-- MXA_FLUSH, site window offset 0x2000 + a * 0x200 + 0x020 (02_arrays.md). -/
def MXA_FLUSH.REG (site a : Nat) : Nat := 0x1002020 + site * 0x10000 + a * 0x200
def MXA_FLUSH.HIGH (site a : Nat) : Loc := ⟨MXA_FLUSH.REG site a, 63, 32⟩
def MXA_FLUSH.LOW (site a : Nat) : Loc := ⟨MXA_FLUSH.REG site a, 31, 0⟩

/-- MXA_FLUSH_PREV, site window offset 0x2000 + a * 0x200 + 0x028 (02_arrays.md). -/
def MXA_FLUSH_PREV.REG (site a : Nat) : Nat := 0x1002028 + site * 0x10000 + a * 0x200
def MXA_FLUSH_PREV.HIGH (site a : Nat) : Loc := ⟨MXA_FLUSH_PREV.REG site a, 63, 32⟩
def MXA_FLUSH_PREV.LOW (site a : Nat) : Loc := ⟨MXA_FLUSH_PREV.REG site a, 31, 0⟩

/-- MXA_VECTORS, site window offset 0x2000 + a * 0x200 + 0x030 (02_arrays.md). -/
def MXA_VECTORS.REG (site a : Nat) : Nat := 0x1002030 + site * 0x10000 + a * 0x200
def MXA_VECTORS.COUNT (site a : Nat) : Loc := ⟨MXA_VECTORS.REG site a, 47, 0⟩

/-- MXA_STALLS, site window offset 0x2000 + a * 0x200 + 0x038 (02_arrays.md). -/
def MXA_STALLS.REG (site a : Nat) : Nat := 0x1002038 + site * 0x10000 + a * 0x200
def MXA_STALLS.INTERLOCK (site a : Nat) : Loc := ⟨MXA_STALLS.REG site a, 63, 32⟩
def MXA_STALLS.LOAD (site a : Nat) : Loc := ⟨MXA_STALLS.REG site a, 31, 0⟩

/-- MXA_ERR, site window offset 0x2000 + a * 0x200 + 0x040 (02_arrays.md). -/
def MXA_ERR.REG (site a : Nat) : Nat := 0x1002040 + site * 0x10000 + a * 0x200
def MXA_ERR.RERUN_REJECT (site a : Nat) : Loc := ⟨MXA_ERR.REG site a, 7, 7⟩
def MXA_ERR.OUT_OF_BOUNDS (site a : Nat) : Loc := ⟨MXA_ERR.REG site a, 6, 6⟩
def MXA_ERR.COUNT_ZERO (site a : Nat) : Loc := ⟨MXA_ERR.REG site a, 5, 5⟩
def MXA_ERR.BANK_PARITY (site a : Nat) : Loc := ⟨MXA_ERR.REG site a, 4, 4⟩
def MXA_ERR.BANK_EMPTY (site a : Nat) : Loc := ⟨MXA_ERR.REG site a, 3, 3⟩
def MXA_ERR.UCODE_INVALID (site a : Nat) : Loc := ⟨MXA_ERR.REG site a, 2, 2⟩
def MXA_ERR.ACC_RANGE (site a : Nat) : Loc := ⟨MXA_ERR.REG site a, 1, 1⟩
def MXA_ERR.FORMAT_PAIR (site a : Nat) : Loc := ⟨MXA_ERR.REG site a, 0, 0⟩

/-- MXA_ROWCTL, site window offset 0x4400 (02_arrays.md). -/
def MXA_ROWCTL.REG (site : Nat) : Nat := 0x1004400 + site * 0x10000
def MXA_ROWCTL.GO_S (site : Nat) : Loc := ⟨MXA_ROWCTL.REG site, 33, 33⟩
def MXA_ROWCTL.GO_N (site : Nat) : Loc := ⟨MXA_ROWCTL.REG site, 32, 32⟩
def MXA_ROWCTL.START_PC_S (site : Nat) : Loc := ⟨MXA_ROWCTL.REG site, 24, 16⟩
def MXA_ROWCTL.START_PC_N (site : Nat) : Loc := ⟨MXA_ROWCTL.REG site, 8, 0⟩

/-- MXA_ROWMAP, site window offset 0x4408 (02_arrays.md). -/
def MXA_ROWMAP.REG (site : Nat) : Nat := 0x1004408 + site * 0x10000
def MXA_ROWMAP.RETIRED_S (site : Nat) : Loc := ⟨MXA_ROWMAP.REG site, 28, 20⟩
def MXA_ROWMAP.SPARE_S (site : Nat) : Loc := ⟨MXA_ROWMAP.REG site, 19, 16⟩
def MXA_ROWMAP.RETIRED_N (site : Nat) : Loc := ⟨MXA_ROWMAP.REG site, 12, 4⟩
def MXA_ROWMAP.SPARE_N (site : Nat) : Loc := ⟨MXA_ROWMAP.REG site, 3, 0⟩

/-- MXA_LMAP, site window offset 0x4410 (02_arrays.md). -/
def MXA_LMAP.REG (site : Nat) : Nat := 0x1004410 + site * 0x10000
def MXA_LMAP.MAP (site : Nat) : Loc := ⟨MXA_LMAP.REG site, 63, 0⟩

/-- MXA_THROTTLE, site window offset 0x4418 (02_arrays.md). -/
def MXA_THROTTLE.REG (site : Nat) : Nat := 0x1004418 + site * 0x10000
def MXA_THROTTLE.BLOCKED (site : Nat) : Loc := ⟨MXA_THROTTLE.REG site, 63, 32⟩
def MXA_THROTTLE.BLOCK (site : Nat) : Loc := ⟨MXA_THROTTLE.REG site, 3, 0⟩

/-- MXA_DIE_ERR, site window offset 0x4420 (02_arrays.md). -/
def MXA_DIE_ERR.REG (site : Nat) : Nat := 0x1004420 + site * 0x10000
def MXA_DIE_ERR.ROW_GATED (site : Nat) : Loc := ⟨MXA_DIE_ERR.REG site, 4, 4⟩
def MXA_DIE_ERR.ROW_EXH_S (site : Nat) : Loc := ⟨MXA_DIE_ERR.REG site, 3, 3⟩
def MXA_DIE_ERR.ROW_EXH_N (site : Nat) : Loc := ⟨MXA_DIE_ERR.REG site, 2, 2⟩
def MXA_DIE_ERR.MAP_REJECT (site : Nat) : Loc := ⟨MXA_DIE_ERR.REG site, 1, 1⟩
def MXA_DIE_ERR.UCODE_BUSY (site : Nat) : Loc := ⟨MXA_DIE_ERR.REG site, 0, 0⟩

/-- MXA_SLOT, site window offset 0x4428 (02_arrays.md). -/
def MXA_SLOT.REG (site : Nat) : Nat := 0x1004428 + site * 0x10000
def MXA_SLOT.SLOT (site : Nat) : Loc := ⟨MXA_SLOT.REG site, 47, 0⟩

/-- MXA_UCODE, site window offset 0x4800 + 8 * i, i = 0–511 (02_arrays.md). -/
def MXA_UCODE.REG (site i : Nat) : Nat := 0x1004800 + site * 0x10000 + i * 0x8
def MXA_UCODE.WORD (site i : Nat) : Loc := ⟨MXA_UCODE.REG site i, 63, 0⟩

/-! ## Registers of 03_formats.md -/

/-- MXA_ARITH, site window offset 0x2000 + a * 0x200 + 0x048 (03_formats.md). -/
def MXA_ARITH.REG (site a : Nat) : Nat := 0x1002048 + site * 0x10000 + a * 0x200
def MXA_ARITH.NONFINITE (site a : Nat) : Loc := ⟨MXA_ARITH.REG site a, 63, 32⟩
def MXA_ARITH.ANCHOR_CHANGE (site a : Nat) : Loc := ⟨MXA_ARITH.REG site a, 3, 3⟩
def MXA_ARITH.TRIT_INVALID (site a : Nat) : Loc := ⟨MXA_ARITH.REG site a, 2, 2⟩
def MXA_ARITH.NONFINITE_SEEN (site a : Nat) : Loc := ⟨MXA_ARITH.REG site a, 1, 1⟩
def MXA_ARITH.FLUSH_SEEN (site a : Nat) : Loc := ⟨MXA_ARITH.REG site a, 0, 0⟩

/-- MXA_FLUSH_EXT, site window offset 0x2000 + a * 0x200 + 0x050 (03_formats.md). -/
def MXA_FLUSH_EXT.REG (site a : Nat) : Nat := 0x1002050 + site * 0x10000 + a * 0x200
def MXA_FLUSH_EXT.HIGH_MAX (site a : Nat) : Loc := ⟨MXA_FLUSH_EXT.REG site a, 31, 16⟩
def MXA_FLUSH_EXT.LOW_MAX (site a : Nat) : Loc := ⟨MXA_FLUSH_EXT.REG site a, 15, 0⟩

/-- MXA_FLUSH_EXT_PREV, site window offset 0x2000 + a * 0x200 + 0x058 (03_formats.md). -/
def MXA_FLUSH_EXT_PREV.REG (site a : Nat) : Nat := 0x1002058 + site * 0x10000 + a * 0x200
def MXA_FLUSH_EXT_PREV.HIGH_MAX (site a : Nat) : Loc := ⟨MXA_FLUSH_EXT_PREV.REG site a, 31, 16⟩
def MXA_FLUSH_EXT_PREV.LOW_MAX (site a : Nat) : Loc := ⟨MXA_FLUSH_EXT_PREV.REG site a, 15, 0⟩

/-! ## Registers of 04_cores.md -/

/-- VCO_CTRL, site window offset 0x6000 + v * 0x400 + 0x000 (04_cores.md). -/
def VCO_CTRL.REG (site v : Nat) : Nat := 0x1006000 + site * 0x10000 + v * 0x400
def VCO_CTRL.GO (site v : Nat) : Loc := ⟨VCO_CTRL.REG site v, 16, 16⟩
def VCO_CTRL.START_PC (site v : Nat) : Loc := ⟨VCO_CTRL.REG site v, 11, 0⟩

/-- VCO_STATUS, site window offset 0x6000 + v * 0x400 + 0x008 (04_cores.md). -/
def VCO_STATUS.REG (site v : Nat) : Nat := 0x1006008 + site * 0x10000 + v * 0x400
def VCO_STATUS.LAST_CODE (site v : Nat) : Loc := ⟨VCO_STATUS.REG site v, 63, 48⟩
def VCO_STATUS.PC (site v : Nat) : Loc := ⟨VCO_STATUS.REG site v, 43, 32⟩
def VCO_STATUS.WAIT (site v : Nat) : Loc := ⟨VCO_STATUS.REG site v, 23, 20⟩
def VCO_STATUS.STATE (site v : Nat) : Loc := ⟨VCO_STATUS.REG site v, 3, 0⟩

/-- VCO_ERR, site window offset 0x6000 + v * 0x400 + 0x010 (04_cores.md). -/
def VCO_ERR.REG (site v : Nat) : Nat := 0x1006010 + site * 0x10000 + v * 0x400
def VCO_ERR.GATED (site v : Nat) : Loc := ⟨VCO_ERR.REG site v, 8, 8⟩
def VCO_ERR.GO_REJECT (site v : Nat) : Loc := ⟨VCO_ERR.REG site v, 7, 7⟩
def VCO_ERR.PROG_BUSY (site v : Nat) : Loc := ⟨VCO_ERR.REG site v, 6, 6⟩
def VCO_ERR.UNCORRECTABLE (site v : Nat) : Loc := ⟨VCO_ERR.REG site v, 5, 5⟩
def VCO_ERR.MISMATCH (site v : Nat) : Loc := ⟨VCO_ERR.REG site v, 4, 4⟩
def VCO_ERR.NAN_STORE (site v : Nat) : Loc := ⟨VCO_ERR.REG site v, 3, 3⟩
def VCO_ERR.TOKEN (site v : Nat) : Loc := ⟨VCO_ERR.REG site v, 2, 2⟩
def VCO_ERR.RANGE (site v : Nat) : Loc := ⟨VCO_ERR.REG site v, 1, 1⟩
def VCO_ERR.INVALID (site v : Nat) : Loc := ⟨VCO_ERR.REG site v, 0, 0⟩

/-- VCO_COUNT, site window offset 0x6000 + v * 0x400 + 0x018 (04_cores.md). -/
def VCO_COUNT.REG (site v : Nat) : Nat := 0x1006018 + site * 0x10000 + v * 0x400
def VCO_COUNT.STALLS (site v : Nat) : Loc := ⟨VCO_COUNT.REG site v, 63, 32⟩
def VCO_COUNT.INSTRS (site v : Nat) : Loc := ⟨VCO_COUNT.REG site v, 31, 0⟩

/-- VCO_ARITH, site window offset 0x6000 + v * 0x400 + 0x020 (04_cores.md). -/
def VCO_ARITH.REG (site v : Nat) : Nat := 0x1006020 + site * 0x10000 + v * 0x400
def VCO_ARITH.SAT (site v : Nat) : Loc := ⟨VCO_ARITH.REG site v, 63, 32⟩
def VCO_ARITH.NAN_STORE (site v : Nat) : Loc := ⟨VCO_ARITH.REG site v, 31, 0⟩

/-- VCO_TOKEN, site window offset 0x6000 + v * 0x400 + 0x028 (04_cores.md). -/
def VCO_TOKEN.REG (site v : Nat) : Nat := 0x1006028 + site * 0x10000 + v * 0x400
def VCO_TOKEN.TK3 (site v : Nat) : Loc := ⟨VCO_TOKEN.REG site v, 63, 48⟩
def VCO_TOKEN.TK2 (site v : Nat) : Loc := ⟨VCO_TOKEN.REG site v, 47, 32⟩
def VCO_TOKEN.TK1 (site v : Nat) : Loc := ⟨VCO_TOKEN.REG site v, 31, 16⟩
def VCO_TOKEN.TK0 (site v : Nat) : Loc := ⟨VCO_TOKEN.REG site v, 15, 0⟩

/-- VCO_MEM_ERR, site window offset 0x6000 + v * 0x400 + 0x030 (04_cores.md). -/
def VCO_MEM_ERR.REG (site v : Nat) : Nat := 0x1006030 + site * 0x10000 + v * 0x400
def VCO_MEM_ERR.SCRATCH_CE (site v : Nat) : Loc := ⟨VCO_MEM_ERR.REG site v, 63, 48⟩
def VCO_MEM_ERR.PROG_CE (site v : Nat) : Loc := ⟨VCO_MEM_ERR.REG site v, 47, 32⟩

/-- VCO_MODE, site window offset 0x7000 (04_cores.md). -/
def VCO_MODE.REG (site : Nat) : Nat := 0x1007000 + site * 0x10000
def VCO_MODE.PAIRED (site : Nat) : Loc := ⟨VCO_MODE.REG site, 0, 0⟩

/-- VCO_PAIR, site window offset 0x7008 (04_cores.md). -/
def VCO_PAIR.REG (site : Nat) : Nat := 0x1007008 + site * 0x10000
def VCO_PAIR.PC_P1 (site : Nat) : Loc := ⟨VCO_PAIR.REG site, 63, 52⟩
def VCO_PAIR.PC_P0 (site : Nat) : Loc := ⟨VCO_PAIR.REG site, 51, 40⟩
def VCO_PAIR.COUNT_P1 (site : Nat) : Loc := ⟨VCO_PAIR.REG site, 15, 8⟩
def VCO_PAIR.COUNT_P0 (site : Nat) : Loc := ⟨VCO_PAIR.REG site, 7, 0⟩

/-- CCO_STATUS, site window offset 0x8000 + c * 0x1000 + 0x000 (04_cores.md). -/
def CCO_STATUS.REG (site c : Nat) : Nat := 0x1008000 + site * 0x10000 + c * 0x1000
def CCO_STATUS.LAST_CODE (site c : Nat) : Loc := ⟨CCO_STATUS.REG site c, 63, 48⟩
def CCO_STATUS.FATAL_CAUSE (site c : Nat) : Loc := ⟨CCO_STATUS.REG site c, 47, 40⟩
def CCO_STATUS.STATE (site c : Nat) : Loc := ⟨CCO_STATUS.REG site c, 3, 0⟩

/-- CCO_FW, site window offset 0x8000 + c * 0x1000 + 0x008 (04_cores.md). -/
def CCO_FW.REG (site c : Nat) : Nat := 0x1008008 + site * 0x10000 + c * 0x1000
def CCO_FW.HEARTBEAT (site c : Nat) : Loc := ⟨CCO_FW.REG site c, 63, 32⟩
def CCO_FW.FW_CODE (site c : Nat) : Loc := ⟨CCO_FW.REG site c, 31, 16⟩
def CCO_FW.READY (site c : Nat) : Loc := ⟨CCO_FW.REG site c, 0, 0⟩

/-- CCO_WDOG, site window offset 0x8000 + c * 0x1000 + 0x010 (04_cores.md). -/
def CCO_WDOG.REG (site c : Nat) : Nat := 0x1008010 + site * 0x10000 + c * 0x1000
def CCO_WDOG.REMAIN (site c : Nat) : Loc := ⟨CCO_WDOG.REG site c, 63, 32⟩
def CCO_WDOG.PERIOD (site c : Nat) : Loc := ⟨CCO_WDOG.REG site c, 31, 0⟩

/-- CCO_WDOG_KICK, site window offset 0x8000 + c * 0x1000 + 0x018 (04_cores.md). -/
def CCO_WDOG_KICK.REG (site c : Nat) : Nat := 0x1008018 + site * 0x10000 + c * 0x1000
def CCO_WDOG_KICK.KICK (site c : Nat) : Loc := ⟨CCO_WDOG_KICK.REG site c, 63, 0⟩

/-- CCO_FATAL, site window offset 0x8000 + c * 0x1000 + 0x020 (04_cores.md). -/
def CCO_FATAL.REG (site c : Nat) : Nat := 0x1008020 + site * 0x10000 + c * 0x1000
def CCO_FATAL.CODE (site c : Nat) : Loc := ⟨CCO_FATAL.REG site c, 15, 0⟩

/-- CCO_TCM_ERR, site window offset 0x8000 + c * 0x1000 + 0x028 (04_cores.md). -/
def CCO_TCM_ERR.REG (site c : Nat) : Nat := 0x1008028 + site * 0x10000 + c * 0x1000
def CCO_TCM_ERR.ITCM_CE (site c : Nat) : Loc := ⟨CCO_TCM_ERR.REG site c, 63, 48⟩
def CCO_TCM_ERR.DTCM_CE (site c : Nat) : Loc := ⟨CCO_TCM_ERR.REG site c, 47, 32⟩

/-- CCO_PCSAMPLE, site window offset 0x8000 + c * 0x1000 + 0x030 (04_cores.md). -/
def CCO_PCSAMPLE.REG (site c : Nat) : Nat := 0x1008030 + site * 0x10000 + c * 0x1000
def CCO_PCSAMPLE.PC (site c : Nat) : Loc := ⟨CCO_PCSAMPLE.REG site c, 63, 0⟩

/-- CCO_MBX_IN_STAT, site window offset 0x8000 + c * 0x1000 + 0x100 (04_cores.md). -/
def CCO_MBX_IN_STAT.REG (site c : Nat) : Nat := 0x1008100 + site * 0x10000 + c * 0x1000
def CCO_MBX_IN_STAT.DROPS_FULL (site c : Nat) : Loc := ⟨CCO_MBX_IN_STAT.REG site c, 63, 48⟩
def CCO_MBX_IN_STAT.DROPS_TYPE (site c : Nat) : Loc := ⟨CCO_MBX_IN_STAT.REG site c, 47, 32⟩
def CCO_MBX_IN_STAT.FULL (site c : Nat) : Loc := ⟨CCO_MBX_IN_STAT.REG site c, 5, 5⟩
def CCO_MBX_IN_STAT.COUNT (site c : Nat) : Loc := ⟨CCO_MBX_IN_STAT.REG site c, 4, 0⟩

/-- CCO_MBX_IN_D0–D7, site window offset 0x8000 + c * 0x1000 + 0x108 + 8 * i, i = 0–7 (04_cores.md). -/
def CCO_MBX_IN_D.REG (site c i : Nat) : Nat := 0x1008108 + site * 0x10000 + c * 0x1000 + i * 0x8
def CCO_MBX_IN_D.DATA (site c i : Nat) : Loc := ⟨CCO_MBX_IN_D.REG site c i, 63, 0⟩

/-- CCO_MBX_IN_PUSH, site window offset 0x8000 + c * 0x1000 + 0x148 (04_cores.md). -/
def CCO_MBX_IN_PUSH.REG (site c : Nat) : Nat := 0x1008148 + site * 0x10000 + c * 0x1000
def CCO_MBX_IN_PUSH.PUSH (site c : Nat) : Loc := ⟨CCO_MBX_IN_PUSH.REG site c, 0, 0⟩

/-- CCO_MBX_OUT_STAT, site window offset 0x8000 + c * 0x1000 + 0x180 (04_cores.md). -/
def CCO_MBX_OUT_STAT.REG (site c : Nat) : Nat := 0x1008180 + site * 0x10000 + c * 0x1000
def CCO_MBX_OUT_STAT.DROPS (site c : Nat) : Loc := ⟨CCO_MBX_OUT_STAT.REG site c, 63, 48⟩
def CCO_MBX_OUT_STAT.COUNT (site c : Nat) : Loc := ⟨CCO_MBX_OUT_STAT.REG site c, 4, 0⟩

/-- CCO_MBX_OUT_D0–D7, site window offset 0x8000 + c * 0x1000 + 0x188 + 8 * i, i = 0–7 (04_cores.md). -/
def CCO_MBX_OUT_D.REG (site c i : Nat) : Nat := 0x1008188 + site * 0x10000 + c * 0x1000 + i * 0x8
def CCO_MBX_OUT_D.DATA (site c i : Nat) : Loc := ⟨CCO_MBX_OUT_D.REG site c i, 63, 0⟩

/-- CCO_MBX_OUT_POP, site window offset 0x8000 + c * 0x1000 + 0x1C8 (04_cores.md). -/
def CCO_MBX_OUT_POP.REG (site c : Nat) : Nat := 0x10081c8 + site * 0x10000 + c * 0x1000
def CCO_MBX_OUT_POP.POP (site c : Nat) : Loc := ⟨CCO_MBX_OUT_POP.REG site c, 0, 0⟩

/-! ## Registers of 05_sweeps.md -/

/-- HUB_PASS, BAR0 0x0000_0100 (05_sweeps.md). -/
def HUB_PASS.REG : Nat := 0x100
def HUB_PASS.SWEEP : Loc := ⟨HUB_PASS.REG, 63, 48⟩
def HUB_PASS.TEMPLATE : Loc := ⟨HUB_PASS.REG, 47, 32⟩
def HUB_PASS.LAST_CODE : Loc := ⟨HUB_PASS.REG, 31, 16⟩
def HUB_PASS.SQ : Loc := ⟨HUB_PASS.REG, 5, 4⟩
def HUB_PASS.STATE : Loc := ⟨HUB_PASS.REG, 3, 0⟩

/-- SQ_CTRL, BAR2 0x0000 + q * 0x1000 (05_sweeps.md). -/
def SQ_CTRL.REG (q : Nat) : Nat := 0x4000000 + q * 0x1000
def SQ_CTRL.CQ_LOG2 (q : Nat) : Loc := ⟨SQ_CTRL.REG q, 12, 8⟩
def SQ_CTRL.FLUSH (q : Nat) : Loc := ⟨SQ_CTRL.REG q, 3, 3⟩
def SQ_CTRL.ABORT (q : Nat) : Loc := ⟨SQ_CTRL.REG q, 2, 2⟩
def SQ_CTRL.HALT_ON_FAULT (q : Nat) : Loc := ⟨SQ_CTRL.REG q, 1, 1⟩
def SQ_CTRL.ENABLE (q : Nat) : Loc := ⟨SQ_CTRL.REG q, 0, 0⟩

/-- SQ_DB, BAR2 0x0008 + q * 0x1000 (05_sweeps.md). -/
def SQ_DB.REG (q : Nat) : Nat := 0x4000008 + q * 0x1000
def SQ_DB.TAIL (q : Nat) : Loc := ⟨SQ_DB.REG q, 15, 0⟩

/-- SQ_STATE, BAR2 0x0010 + q * 0x1000 (05_sweeps.md). -/
def SQ_STATE.REG (q : Nat) : Nat := 0x4000010 + q * 0x1000
def SQ_STATE.DONE (q : Nat) : Loc := ⟨SQ_STATE.REG q, 63, 32⟩
def SQ_STATE.STOPPED (q : Nat) : Loc := ⟨SQ_STATE.REG q, 16, 16⟩
def SQ_STATE.HEAD (q : Nat) : Loc := ⟨SQ_STATE.REG q, 9, 0⟩

/-- CQ_BASE, BAR2 0x0018 + q * 0x1000 (05_sweeps.md). -/
def CQ_BASE.REG (q : Nat) : Nat := 0x4000018 + q * 0x1000
def CQ_BASE.BASE (q : Nat) : Loc := ⟨CQ_BASE.REG q, 63, 12⟩

/-- CQ_PTR, BAR2 0x0020 + q * 0x1000 (05_sweeps.md). -/
def CQ_PTR.REG (q : Nat) : Nat := 0x4000020 + q * 0x1000
def CQ_PTR.TAIL (q : Nat) : Loc := ⟨CQ_PTR.REG q, 47, 32⟩
def CQ_PTR.HEAD (q : Nat) : Loc := ⟨CQ_PTR.REG q, 15, 0⟩

/-- STR_LIST, site window offset 0x1000 (05_sweeps.md). -/
def STR_LIST.REG (site : Nat) : Nat := 0x1001000 + site * 0x10000
def STR_LIST.SWEEP (site : Nat) : Loc := ⟨STR_LIST.REG site, 63, 48⟩
def STR_LIST.COUNT (site : Nat) : Loc := ⟨STR_LIST.REG site, 40, 32⟩
def STR_LIST.ADDR (site : Nat) : Loc := ⟨STR_LIST.REG site, 31, 0⟩

/-- STR_STATUS, site window offset 0x1008 (05_sweeps.md). -/
def STR_STATUS.REG (site : Nat) : Nat := 0x1001008 + site * 0x10000
def STR_STATUS.EVENTS (site : Nat) : Loc := ⟨STR_STATUS.REG site, 63, 32⟩
def STR_STATUS.ADMITTED (site : Nat) : Loc := ⟨STR_STATUS.REG site, 31, 24⟩
def STR_STATUS.HALTED (site : Nat) : Loc := ⟨STR_STATUS.REG site, 23, 20⟩
def STR_STATUS.FULL (site : Nat) : Loc := ⟨STR_STATUS.REG site, 17, 17⟩
def STR_STATUS.ADMITTING (site : Nat) : Loc := ⟨STR_STATUS.REG site, 16, 16⟩
def STR_STATUS.SWEEP (site : Nat) : Loc := ⟨STR_STATUS.REG site, 15, 0⟩

/-- STR_ERR, site window offset 0x1010 (05_sweeps.md). -/
def STR_ERR.REG (site : Nat) : Nat := 0x1001010 + site * 0x10000
def STR_ERR.CODE (site : Nat) : Loc := ⟨STR_ERR.REG site, 63, 48⟩
def STR_ERR.INDEX (site : Nat) : Loc := ⟨STR_ERR.REG site, 47, 40⟩
def STR_ERR.VALID (site : Nat) : Loc := ⟨STR_ERR.REG site, 0, 0⟩

/-- STR_CURSOR0, site window offset 0x1018 (05_sweeps.md). -/
def STR_CURSOR0.REG (site : Nat) : Nat := 0x1001018 + site * 0x10000
def STR_CURSOR0.I3 (site : Nat) : Loc := ⟨STR_CURSOR0.REG site, 63, 48⟩
def STR_CURSOR0.I2 (site : Nat) : Loc := ⟨STR_CURSOR0.REG site, 47, 32⟩
def STR_CURSOR0.I1 (site : Nat) : Loc := ⟨STR_CURSOR0.REG site, 31, 16⟩
def STR_CURSOR0.I0 (site : Nat) : Loc := ⟨STR_CURSOR0.REG site, 15, 0⟩

/-- STR_CURSOR1, site window offset 0x1020 (05_sweeps.md). -/
def STR_CURSOR1.REG (site : Nat) : Nat := 0x1001020 + site * 0x10000
def STR_CURSOR1.VALID (site : Nat) : Loc := ⟨STR_CURSOR1.REG site, 63, 63⟩
def STR_CURSOR1.SIDE (site : Nat) : Loc := ⟨STR_CURSOR1.REG site, 26, 26⟩
def STR_CURSOR1.CH (site : Nat) : Loc := ⟨STR_CURSOR1.REG site, 25, 24⟩
def STR_CURSOR1.DESC (site : Nat) : Loc := ⟨STR_CURSOR1.REG site, 23, 16⟩
def STR_CURSOR1.I4 (site : Nat) : Loc := ⟨STR_CURSOR1.REG site, 15, 0⟩

/-- STR_FAULT, site window offset 0x1028 (05_sweeps.md). -/
def STR_FAULT.REG (site : Nat) : Nat := 0x1001028 + site * 0x10000
def STR_FAULT.PPA (site : Nat) : Loc := ⟨STR_FAULT.REG site, 55, 0⟩

/-- STR_CFG, site window offset 0x1030 (05_sweeps.md). -/
def STR_CFG.REG (site : Nat) : Nat := 0x1001030 + site * 0x10000
def STR_CFG.MISS_TIMEOUT (site : Nat) : Loc := ⟨STR_CFG.REG site, 63, 32⟩
def STR_CFG.STALL_LIMIT (site : Nat) : Loc := ⟨STR_CFG.REG site, 31, 0⟩

/-- STR_TOKEN, site window offset 0x1038 (05_sweeps.md). -/
def STR_TOKEN.REG (site : Nat) : Nat := 0x1001038 + site * 0x10000
def STR_TOKEN.EXEC (site : Nat) : Loc := ⟨STR_TOKEN.REG site, 31, 16⟩
def STR_TOKEN.FETCH (site : Nat) : Loc := ⟨STR_TOKEN.REG site, 15, 0⟩

/-- STR_COUNT, site window offset 0x1040 (05_sweeps.md). -/
def STR_COUNT.REG (site : Nat) : Nat := 0x1001040 + site * 0x10000
def STR_COUNT.MERGED (site : Nat) : Loc := ⟨STR_COUNT.REG site, 63, 32⟩
def STR_COUNT.KIB (site : Nat) : Loc := ⟨STR_COUNT.REG site, 31, 0⟩

/-- STR_ARG0–5, site window offset 0x1048 + 8 * i, i = 0–5 (05_sweeps.md). -/
def STR_ARG.REG (site i : Nat) : Nat := 0x1001048 + site * 0x10000 + i * 0x8
def STR_ARG.ARG (site i : Nat) : Loc := ⟨STR_ARG.REG site i, 63, 0⟩

/-! ## Registers of 06_stores.md -/

/-- BHT_ENTRY, site window offset 0xA000 + 32 * h + 8 * k, h = 0–255, k = 0–3 (06_stores.md). -/
def BHT_ENTRY.REG (site h k : Nat) : Nat := 0x100a000 + site * 0x10000 + h * 0x20 + k * 0x8
def BHT_ENTRY.WORD (site h k : Nat) : Loc := ⟨BHT_ENTRY.REG site h k, 63, 0⟩

/-- GLT_CTRL, site window offset 0xC000 (06_stores.md). -/
def GLT_CTRL.REG (site : Nat) : Nat := 0x100c000 + site * 0x10000
def GLT_CTRL.SCRUB_EN (site : Nat) : Loc := ⟨GLT_CTRL.REG site, 1, 1⟩
def GLT_CTRL.WLOCK (site : Nat) : Loc := ⟨GLT_CTRL.REG site, 0, 0⟩

/-- GLT_STATUS, site window offset 0xC008 (06_stores.md). -/
def GLT_STATUS.REG (site : Nat) : Nat := 0x100c008 + site * 0x10000
def GLT_STATUS.LAST_CODE (site : Nat) : Loc := ⟨GLT_STATUS.REG site, 63, 48⟩
def GLT_STATUS.SPARE_MIN (site : Nat) : Loc := ⟨GLT_STATUS.REG site, 47, 40⟩
def GLT_STATUS.RETENTION (site : Nat) : Loc := ⟨GLT_STATUS.REG site, 4, 4⟩
def GLT_STATUS.EXIT_DONE (site : Nat) : Loc := ⟨GLT_STATUS.REG site, 3, 3⟩
def GLT_STATUS.EXIT_SCRUB (site : Nat) : Loc := ⟨GLT_STATUS.REG site, 2, 2⟩
def GLT_STATUS.POISON_W (site : Nat) : Loc := ⟨GLT_STATUS.REG site, 1, 1⟩
def GLT_STATUS.REPAIRING (site : Nat) : Loc := ⟨GLT_STATUS.REG site, 0, 0⟩

/-- GLT_ERR_LOG, site window offset 0xC010 (06_stores.md). -/
def GLT_ERR_LOG.REG (site : Nat) : Nat := 0x100c010 + site * 0x10000
def GLT_ERR_LOG.VALID (site : Nat) : Loc := ⟨GLT_ERR_LOG.REG site, 63, 63⟩
def GLT_ERR_LOG.OVF (site : Nat) : Loc := ⟨GLT_ERR_LOG.REG site, 62, 62⟩
def GLT_ERR_LOG.UE (site : Nat) : Loc := ⟨GLT_ERR_LOG.REG site, 61, 61⟩
def GLT_ERR_LOG.SCRUB (site : Nat) : Loc := ⟨GLT_ERR_LOG.REG site, 60, 60⟩
def GLT_ERR_LOG.STORE (site : Nat) : Loc := ⟨GLT_ERR_LOG.REG site, 59, 58⟩
def GLT_ERR_LOG.BITS (site : Nat) : Loc := ⟨GLT_ERR_LOG.REG site, 57, 56⟩
def GLT_ERR_LOG.ROW (site : Nat) : Loc := ⟨GLT_ERR_LOG.REG site, 21, 0⟩

/-- GLT_ECC_W, site window offset 0xC018 (06_stores.md). -/
def GLT_ECC_W.REG (site : Nat) : Nat := 0x100c018 + site * 0x10000
def GLT_ECC_W.UE (site : Nat) : Loc := ⟨GLT_ECC_W.REG site, 63, 48⟩
def GLT_ECC_W.REMAPPED (site : Nat) : Loc := ⟨GLT_ECC_W.REG site, 47, 32⟩
def GLT_ECC_W.CE (site : Nat) : Loc := ⟨GLT_ECC_W.REG site, 31, 0⟩

/-- GLT_ECC_A, site window offset 0xC020 (06_stores.md). -/
def GLT_ECC_A.REG (site : Nat) : Nat := 0x100c020 + site * 0x10000
def GLT_ECC_A.UE (site : Nat) : Loc := ⟨GLT_ECC_A.REG site, 63, 48⟩
def GLT_ECC_A.REMAPPED (site : Nat) : Loc := ⟨GLT_ECC_A.REG site, 47, 32⟩
def GLT_ECC_A.CE (site : Nat) : Loc := ⟨GLT_ECC_A.REG site, 31, 0⟩

/-- GLT_ECC_P, site window offset 0xC028 (06_stores.md). -/
def GLT_ECC_P.REG (site : Nat) : Nat := 0x100c028 + site * 0x10000
def GLT_ECC_P.UE (site : Nat) : Loc := ⟨GLT_ECC_P.REG site, 63, 48⟩
def GLT_ECC_P.CE (site : Nat) : Loc := ⟨GLT_ECC_P.REG site, 31, 0⟩

/-- GLT_SCRUB, site window offset 0xC030 (06_stores.md). -/
def GLT_SCRUB.REG (site : Nat) : Nat := 0x100c030 + site * 0x10000
def GLT_SCRUB.CE_LIMIT (site : Nat) : Loc := ⟨GLT_SCRUB.REG site, 63, 48⟩
def GLT_SCRUB.WALKS (site : Nat) : Loc := ⟨GLT_SCRUB.REG site, 47, 16⟩
def GLT_SCRUB.INTERVAL (site : Nat) : Loc := ⟨GLT_SCRUB.REG site, 15, 0⟩

/-- GLT_REPAIR, site window offset 0xC038 (06_stores.md). -/
def GLT_REPAIR.REG (site : Nat) : Nat := 0x100c038 + site * 0x10000
def GLT_REPAIR.PENDING (site : Nat) : Loc := ⟨GLT_REPAIR.REG site, 63, 48⟩
def GLT_REPAIR.NO_SOURCE (site : Nat) : Loc := ⟨GLT_REPAIR.REG site, 47, 32⟩
def GLT_REPAIR.RETRY (site : Nat) : Loc := ⟨GLT_REPAIR.REG site, 0, 0⟩

/-- GLT_FENCE0–7, site window offset 0xC080 + 8 * i, i = 0–7 (06_stores.md). -/
def GLT_FENCE.REG (site i : Nat) : Nat := 0x100c080 + site * 0x10000 + i * 0x8
def GLT_FENCE.EN (site i : Nat) : Loc := ⟨GLT_FENCE.REG site i, 63, 63⟩
def GLT_FENCE.LAST (site i : Nat) : Loc := ⟨GLT_FENCE.REG site i, 53, 32⟩
def GLT_FENCE.FIRST (site i : Nat) : Loc := ⟨GLT_FENCE.REG site i, 21, 0⟩

/-- DPD_STATUS, BAR0 0x001C_0000 + d * 0x2000 + 0x000 (06_stores.md). -/
def DPD_STATUS.REG (d : Nat) : Nat := 0x1c0000 + d * 0x2000
def DPD_STATUS.LAST_CODE (d : Nat) : Loc := ⟨DPD_STATUS.REG d, 63, 48⟩
def DPD_STATUS.STATE1 (d : Nat) : Loc := ⟨DPD_STATUS.REG d, 7, 4⟩
def DPD_STATUS.STATE0 (d : Nat) : Loc := ⟨DPD_STATUS.REG d, 3, 0⟩

/-- DPD_ECC0–1, BAR0 0x001C_0000 + d * 0x2000 + 0x008 + 8 * s, s = 0–1 (06_stores.md). -/
def DPD_ECC.REG (d s : Nat) : Nat := 0x1c0008 + d * 0x2000 + s * 0x8
def DPD_ECC.UE (d s : Nat) : Loc := ⟨DPD_ECC.REG d s, 63, 48⟩
def DPD_ECC.UE_HOUR (d s : Nat) : Loc := ⟨DPD_ECC.REG d s, 47, 32⟩
def DPD_ECC.CE (d s : Nat) : Loc := ⟨DPD_ECC.REG d s, 31, 0⟩

/-- DPD_GOLD0–1, BAR0 0x001C_0000 + d * 0x2000 + 0x018 + 8 * s, s = 0–1 (06_stores.md). -/
def DPD_GOLD.REG (d s : Nat) : Nat := 0x1c0018 + d * 0x2000 + s * 0x8
def DPD_GOLD.LOCK (d s : Nat) : Loc := ⟨DPD_GOLD.REG d s, 63, 63⟩
def DPD_GOLD.LIMIT (d s : Nat) : Loc := ⟨DPD_GOLD.REG d s, 46, 32⟩
def DPD_GOLD.BASE (d s : Nat) : Loc := ⟨DPD_GOLD.REG d s, 14, 0⟩

/-- DPD_GATHER, BAR0 0x001C_0000 + d * 0x2000 + 0x028 (06_stores.md). -/
def DPD_GATHER.REG (d : Nat) : Nat := 0x1c0028 + d * 0x2000
def DPD_GATHER.BLOCKS (d : Nat) : Loc := ⟨DPD_GATHER.REG d, 63, 32⟩
def DPD_GATHER.BAD_INDEX (d : Nat) : Loc := ⟨DPD_GATHER.REG d, 31, 0⟩

/-- DPD_PATROL, BAR0 0x001C_0000 + d * 0x2000 + 0x030 (06_stores.md). -/
def DPD_PATROL.REG (d : Nat) : Nat := 0x1c0030 + d * 0x2000
def DPD_PATROL.WALKS1 (d : Nat) : Loc := ⟨DPD_PATROL.REG d, 63, 32⟩
def DPD_PATROL.WALKS0 (d : Nat) : Loc := ⟨DPD_PATROL.REG d, 31, 0⟩

/-- HUB_RWT, BAR0 0x0000_8000 + 8 * e, e = 0–4,095 (06_stores.md). -/
def HUB_RWT.REG (e : Nat) : Nat := 0x8000 + e * 0x8
def HUB_RWT.ENTRY (e : Nat) : Loc := ⟨HUB_RWT.REG e, 63, 0⟩

/-- HUB_RWT_SYNC, BAR0 0x0000_0200 (06_stores.md). -/
def HUB_RWT_SYNC.REG : Nat := 0x200
def HUB_RWT_SYNC.SYNC : Loc := ⟨HUB_RWT_SYNC.REG, 0, 0⟩

/-! ## Registers of 07_mesh.md -/

/-- SIT_RTR_ERR, site window offset 0x0040 (07_mesh.md). -/
def SIT_RTR_ERR.REG (site : Nat) : Nat := 0x1000040 + site * 0x10000
def SIT_RTR_ERR.LAST_CODE (site : Nat) : Loc := ⟨SIT_RTR_ERR.REG site, 63, 48⟩
def SIT_RTR_ERR.FENCE_DROPS (site : Nat) : Loc := ⟨SIT_RTR_ERR.REG site, 47, 32⟩
def SIT_RTR_ERR.LATE_RSP (site : Nat) : Loc := ⟨SIT_RTR_ERR.REG site, 31, 16⟩
def SIT_RTR_ERR.DEADLOCK (site : Nat) : Loc := ⟨SIT_RTR_ERR.REG site, 4, 4⟩
def SIT_RTR_ERR.NO_ROUTE (site : Nat) : Loc := ⟨SIT_RTR_ERR.REG site, 3, 3⟩
def SIT_RTR_ERR.PKT_INVALID (site : Nat) : Loc := ⟨SIT_RTR_ERR.REG site, 2, 2⟩
def SIT_RTR_ERR.RED_UNEXPECTED (site : Nat) : Loc := ⟨SIT_RTR_ERR.REG site, 1, 1⟩
def SIT_RTR_ERR.RED_TIMEOUT (site : Nat) : Loc := ⟨SIT_RTR_ERR.REG site, 0, 0⟩

/-- SIT_RED_DRAIN, site window offset 0x0048 (07_mesh.md). -/
def SIT_RED_DRAIN.REG (site : Nat) : Nat := 0x1000048 + site * 0x10000
def SIT_RED_DRAIN.EN_S (site : Nat) : Loc := ⟨SIT_RED_DRAIN.REG site, 15, 15⟩
def SIT_RED_DRAIN.TREE_S (site : Nat) : Loc := ⟨SIT_RED_DRAIN.REG site, 13, 8⟩
def SIT_RED_DRAIN.EN_N (site : Nat) : Loc := ⟨SIT_RED_DRAIN.REG site, 7, 7⟩
def SIT_RED_DRAIN.TREE_N (site : Nat) : Loc := ⟨SIT_RED_DRAIN.REG site, 5, 0⟩

/-- SIT_LINK0–7, site window offset 0x0080 + 8 * p, p = port code 0–7 (07_mesh.md). -/
def SIT_LINK.REG (site p : Nat) : Nat := 0x1000080 + site * 0x10000 + p * 0x8
def SIT_LINK.PAD (site p : Nat) : Loc := ⟨SIT_LINK.REG site p, 55, 48⟩
def SIT_LINK.RX_MASK (site p : Nat) : Loc := ⟨SIT_LINK.REG site p, 47, 40⟩
def SIT_LINK.TX_MASK (site p : Nat) : Loc := ⟨SIT_LINK.REG site p, 39, 32⟩
def SIT_LINK.SPARES (site p : Nat) : Loc := ⟨SIT_LINK.REG site p, 31, 24⟩
def SIT_LINK.WIDTH (site p : Nat) : Loc := ⟨SIT_LINK.REG site p, 19, 18⟩
def SIT_LINK.RETRAIN (site p : Nat) : Loc := ⟨SIT_LINK.REG site p, 17, 17⟩
def SIT_LINK.STATE (site p : Nat) : Loc := ⟨SIT_LINK.REG site p, 3, 0⟩

/-- SIT_LINK_ERR0–7, site window offset 0x00C0 + 8 * p, p = 0–7 (07_mesh.md). -/
def SIT_LINK_ERR.REG (site p : Nat) : Nat := 0x10000c0 + site * 0x10000 + p * 0x8
def SIT_LINK_ERR.UE (site p : Nat) : Loc := ⟨SIT_LINK_ERR.REG site p, 63, 48⟩
def SIT_LINK_ERR.CE_PASS (site p : Nat) : Loc := ⟨SIT_LINK_ERR.REG site p, 47, 32⟩
def SIT_LINK_ERR.CE (site p : Nat) : Loc := ⟨SIT_LINK_ERR.REG site p, 31, 0⟩

/-- SIT_RTE0–63, site window offset 0x0400 + 8 * i, i = 0–63 (07_mesh.md). -/
def SIT_RTE.REG (site i : Nat) : Nat := 0x1000400 + site * 0x10000 + i * 0x8
def SIT_RTE.ENTRY (site i : Nat) : Loc := ⟨SIT_RTE.REG site i, 63, 0⟩

/-- SIT_MCAST1–15, site window offset 0x0600 + 8 * m, m = 1–15 (07_mesh.md). -/
def SIT_MCAST.REG (site m : Nat) : Nat := 0x1000600 + site * 0x10000 + m * 0x8
def SIT_MCAST.NDEST (site m : Nat) : Loc := ⟨SIT_MCAST.REG site m, 15, 8⟩
def SIT_MCAST.OUT (site m : Nat) : Loc := ⟨SIT_MCAST.REG site m, 4, 0⟩

/-- SIT_TREE0–63 word 0, site window offset 0x0800 + 16 * t, t = 0–63 (07_mesh.md). -/
def SIT_TREE_W0.REG (site t : Nat) : Nat := 0x1000800 + site * 0x10000 + t * 0x10
def SIT_TREE_W0.ENTRY (site t : Nat) : Loc := ⟨SIT_TREE_W0.REG site t, 63, 0⟩

/-- SIT_TREE0–63 word 1, site window offset 0x0808 + 16 * t, t = 0–63 (07_mesh.md). -/
def SIT_TREE_W1.REG (site t : Nat) : Nat := 0x1000808 + site * 0x10000 + t * 0x10
def SIT_TREE_W1.OUT_SEQ (site t : Nat) : Loc := ⟨SIT_TREE_W1.REG site t, 63, 47⟩
def SIT_TREE_W1.LOCAL_SEQ (site t : Nat) : Loc := ⟨SIT_TREE_W1.REG site t, 46, 30⟩
def SIT_TREE_W1.PENDING (site t : Nat) : Loc := ⟨SIT_TREE_W1.REG site t, 29, 24⟩

/-- MSH_CFG, BAR0 0x000A_0000 (07_mesh.md). -/
def MSH_CFG.REG : Nat := 0xa0000
def MSH_CFG.SEAM_CE_LIMIT : Loc := ⟨MSH_CFG.REG, 63, 48⟩
def MSH_CFG.DL_LIMIT : Loc := ⟨MSH_CFG.REG, 31, 0⟩

/-- MSH_TIMER, BAR0 0x000A_0008 (07_mesh.md). -/
def MSH_TIMER.REG : Nat := 0xa0008
def MSH_TIMER.RED_LIMIT : Loc := ⟨MSH_TIMER.REG, 63, 32⟩
def MSH_TIMER.RSP_LIMIT : Loc := ⟨MSH_TIMER.REG, 31, 0⟩

/-- MSH_STATUS, BAR0 0x000A_0010 (07_mesh.md). -/
def MSH_STATUS.REG : Nat := 0xa0010
def MSH_STATUS.FENCED : Loc := ⟨MSH_STATUS.REG, 63, 56⟩
def MSH_STATUS.FAILED_LINKS : Loc := ⟨MSH_STATUS.REG, 55, 48⟩
def MSH_STATUS.NARROW_LINKS : Loc := ⟨MSH_STATUS.REG, 47, 40⟩
def MSH_STATUS.LAST_CODE : Loc := ⟨MSH_STATUS.REG, 39, 24⟩
def MSH_STATUS.VERIFY : Loc := ⟨MSH_STATUS.REG, 2, 2⟩
def MSH_STATUS.IMAGE_ROUTES : Loc := ⟨MSH_STATUS.REG, 1, 1⟩
def MSH_STATUS.ROUTES_OK : Loc := ⟨MSH_STATUS.REG, 0, 0⟩

/-- MSH_FENCED0, BAR0 0x000A_0018 (07_mesh.md). -/
def MSH_FENCED0.REG : Nat := 0xa0018
def MSH_FENCED0.FENCED : Loc := ⟨MSH_FENCED0.REG, 63, 0⟩

/-- MSH_FENCED1, BAR0 0x000A_0020 (07_mesh.md). -/
def MSH_FENCED1.REG : Nat := 0xa0020
def MSH_FENCED1.FENCED : Loc := ⟨MSH_FENCED1.REG, 63, 0⟩

/-- MSH_FENCED2, BAR0 0x000A_0028 (07_mesh.md). -/
def MSH_FENCED2.REG : Nat := 0xa0028
def MSH_FENCED2.FENCED : Loc := ⟨MSH_FENCED2.REG, 40, 0⟩

/-- MSH_FENCED_RING, BAR0 0x000A_0030 (07_mesh.md). -/
def MSH_FENCED_RING.REG : Nat := 0xa0030
def MSH_FENCED_RING.FENCED : Loc := ⟨MSH_FENCED_RING.REG, 43, 0⟩

/-- MSH_EVENT, BAR0 0x000A_0038 (07_mesh.md). -/
def MSH_EVENT.REG : Nat := 0xa0038
def MSH_EVENT.VALID : Loc := ⟨MSH_EVENT.REG, 63, 63⟩
def MSH_EVENT.OVF : Loc := ⟨MSH_EVENT.REG, 62, 62⟩
def MSH_EVENT.NODE : Loc := ⟨MSH_EVENT.REG, 55, 48⟩
def MSH_EVENT.PORT : Loc := ⟨MSH_EVENT.REG, 47, 44⟩
def MSH_EVENT.CODE : Loc := ⟨MSH_EVENT.REG, 31, 16⟩

/-- MSH_RETRAINS, BAR0 0x000A_0040 (07_mesh.md). -/
def MSH_RETRAINS.REG : Nat := 0xa0040
def MSH_RETRAINS.RETRAINS : Loc := ⟨MSH_RETRAINS.REG, 63, 32⟩
def MSH_RETRAINS.UE : Loc := ⟨MSH_RETRAINS.REG, 31, 0⟩

/-- MSH_HRTE0–63, BAR0 0x000A_0400 + 8 * i, i = 0–63 (07_mesh.md). -/
def MSH_HRTE.REG (i : Nat) : Nat := 0xa0400 + i * 0x8
def MSH_HRTE.ENTRY (i : Nat) : Loc := ⟨MSH_HRTE.REG i, 63, 0⟩

/-! ## Registers of 08_sundog.md -/

/-- SDG_CFG, BAR0 0x0008_0000 (08_sundog.md). -/
def SDG_CFG.REG : Nat := 0x80000
def SDG_CFG.VOTE_LIMIT : Loc := ⟨SDG_CFG.REG, 63, 32⟩
def SDG_CFG.UNCHECKED_LIMIT : Loc := ⟨SDG_CFG.REG, 31, 24⟩
def SDG_CFG.SUSPECT_LIMIT : Loc := ⟨SDG_CFG.REG, 23, 20⟩
def SDG_CFG.CHECK_EN : Loc := ⟨SDG_CFG.REG, 0, 0⟩

/-- SDG_SEED, BAR0 0x0008_0008 (08_sundog.md). -/
def SDG_SEED.REG : Nat := 0x80008
def SDG_SEED.SEED : Loc := ⟨SDG_SEED.REG, 63, 0⟩

/-- SDG_STATUS, BAR0 0x0008_0010 (08_sundog.md). -/
def SDG_STATUS.REG : Nat := 0x80010
def SDG_STATUS.LAST_CODE : Loc := ⟨SDG_STATUS.REG, 63, 48⟩
def SDG_STATUS.OPEN : Loc := ⟨SDG_STATUS.REG, 47, 40⟩
def SDG_STATUS.SUSPECT_SITES : Loc := ⟨SDG_STATUS.REG, 39, 32⟩
def SDG_STATUS.CHECK_ACTIVE : Loc := ⟨SDG_STATUS.REG, 0, 0⟩

/-- SDG_SEED_CUR, BAR0 0x0008_0018 (08_sundog.md). -/
def SDG_SEED_CUR.REG : Nat := 0x80018
def SDG_SEED_CUR.SEED : Loc := ⟨SDG_SEED_CUR.REG, 63, 0⟩

/-- SDG_TOTALS, BAR0 0x0008_0020 (08_sundog.md). -/
def SDG_TOTALS.REG : Nat := 0x80020
def SDG_TOTALS.VOTES : Loc := ⟨SDG_TOTALS.REG, 63, 32⟩
def SDG_TOTALS.RETIRED : Loc := ⟨SDG_TOTALS.REG, 31, 16⟩
def SDG_TOTALS.DIGEST_FAIL : Loc := ⟨SDG_TOTALS.REG, 15, 0⟩

/-- SDG_PASS, BAR0 0x0008_0028 (08_sundog.md). -/
def SDG_PASS.REG : Nat := 0x80028
def SDG_PASS.MARKED_PM : Loc := ⟨SDG_PASS.REG, 63, 48⟩
def SDG_PASS.ENTRIES : Loc := ⟨SDG_PASS.REG, 47, 0⟩

/-- SDG_VOTE_LOG, BAR0 0x0008_0030 (08_sundog.md). -/
def SDG_VOTE_LOG.REG : Nat := 0x80030
def SDG_VOTE_LOG.VALID : Loc := ⟨SDG_VOTE_LOG.REG, 63, 63⟩
def SDG_VOTE_LOG.OVF : Loc := ⟨SDG_VOTE_LOG.REG, 62, 62⟩
def SDG_VOTE_LOG.SITE : Loc := ⟨SDG_VOTE_LOG.REG, 55, 48⟩
def SDG_VOTE_LOG.ARRAY : Loc := ⟨SDG_VOTE_LOG.REG, 47, 43⟩
def SDG_VOTE_LOG.OUTCOME : Loc := ⟨SDG_VOTE_LOG.REG, 39, 32⟩
def SDG_VOTE_LOG.CODE : Loc := ⟨SDG_VOTE_LOG.REG, 31, 16⟩

/-- SDG_SITE0–168, BAR0 0x0008_1000 + 8 * s, s = 0–168 (08_sundog.md). -/
def SDG_SITE.REG (s : Nat) : Nat := 0x81000 + s * 0x8
def SDG_SITE.SUSPECT (s : Nat) : Loc := ⟨SDG_SITE.REG s, 63, 56⟩
def SDG_SITE.PARTNER (s : Nat) : Loc := ⟨SDG_SITE.REG s, 55, 48⟩
def SDG_SITE.VOTES (s : Nat) : Loc := ⟨SDG_SITE.REG s, 47, 32⟩
def SDG_SITE.DRAIN_MM (s : Nat) : Loc := ⟨SDG_SITE.REG s, 31, 16⟩
def SDG_SITE.OPEN (s : Nat) : Loc := ⟨SDG_SITE.REG s, 3, 0⟩

/-- MXA_CHK, site window offset 0x2000 + a * 0x200 + 0x060 (08_sundog.md). -/
def MXA_CHK.REG (site a : Nat) : Nat := 0x1002060 + site * 0x10000 + a * 0x200
def MXA_CHK.TILES (site a : Nat) : Loc := ⟨MXA_CHK.REG site a, 63, 32⟩
def MXA_CHK.MISMATCH (site a : Nat) : Loc := ⟨MXA_CHK.REG site a, 31, 16⟩
def MXA_CHK.DRAIN_MM (site a : Nat) : Loc := ⟨MXA_CHK.REG site a, 15, 8⟩

/-- MXA_CHK_MARK, site window offset 0x2000 + a * 0x200 + 0x068 (08_sundog.md). -/
def MXA_CHK_MARK.REG (site a : Nat) : Nat := 0x1002068 + site * 0x10000 + a * 0x200
def MXA_CHK_MARK.MARKED (site a : Nat) : Loc := ⟨MXA_CHK_MARK.REG site a, 63, 32⟩
def MXA_CHK_MARK.ENTRIES (site a : Nat) : Loc := ⟨MXA_CHK_MARK.REG site a, 31, 0⟩

/-- BAR_STATUS, BAR0 0x0009_0000 (08_sundog.md). -/
def BAR_STATUS.REG : Nat := 0x90000
def BAR_STATUS.LOST : Loc := ⟨BAR_STATUS.REG, 63, 32⟩
def BAR_STATUS.LAST_CODE : Loc := ⟨BAR_STATUS.REG, 31, 16⟩
def BAR_STATUS.RD_HIT : Loc := ⟨BAR_STATUS.REG, 15, 15⟩
def BAR_STATUS.COUNT : Loc := ⟨BAR_STATUS.REG, 10, 0⟩

/-- BAR_WR_SEQ, BAR0 0x0009_0008 (08_sundog.md). -/
def BAR_WR_SEQ.REG : Nat := 0x90008
def BAR_WR_SEQ.SEQ : Loc := ⟨BAR_WR_SEQ.REG, 63, 0⟩

/-- BAR_RD_SEQ, BAR0 0x0009_0010 (08_sundog.md). -/
def BAR_RD_SEQ.REG : Nat := 0x90010
def BAR_RD_SEQ.SEQ : Loc := ⟨BAR_RD_SEQ.REG, 63, 0⟩

/-- BAR_REC0–15, BAR0 0x0009_0100 + 8 * i, i = 0–15 (08_sundog.md). -/
def BAR_REC.REG (i : Nat) : Nat := 0x90100 + i * 0x8
def BAR_REC.WORD (i : Nat) : Loc := ⟨BAR_REC.REG i, 63, 0⟩

/-- BAR_CPER0–42, BAR0 0x0009_1000 + 8 * i, i = 0–42 (08_sundog.md). -/
def BAR_CPER.REG (i : Nat) : Nat := 0x91000 + i * 0x8
def BAR_CPER.BYTES (i : Nat) : Loc := ⟨BAR_CPER.REG i, 63, 0⟩

/-! ## Registers of 09_gale_links.md -/

/-- GAL_LCTRL, BAR0 0x0010_0000 + L * 0x1000 + 0x000 (09_gale_links.md). -/
def GAL_LCTRL.REG (link : Nat) : Nat := 0x100000 + link * 0x1000
def GAL_LCTRL.REPLAY_TO (link : Nat) : Loc := ⟨GAL_LCTRL.REG link, 63, 48⟩
def GAL_LCTRL.FEC_LIMIT (link : Nat) : Loc := ⟨GAL_LCTRL.REG link, 47, 32⟩
def GAL_LCTRL.LOOPBACK_OK (link : Nat) : Loc := ⟨GAL_LCTRL.REG link, 3, 3⟩
def GAL_LCTRL.FALLBACK_EN (link : Nat) : Loc := ⟨GAL_LCTRL.REG link, 2, 2⟩
def GAL_LCTRL.RETRAIN (link : Nat) : Loc := ⟨GAL_LCTRL.REG link, 1, 1⟩
def GAL_LCTRL.EN (link : Nat) : Loc := ⟨GAL_LCTRL.REG link, 0, 0⟩

/-- GAL_LSTATUS, BAR0 0x0010_0000 + L * 0x1000 + 0x008 (09_gale_links.md). -/
def GAL_LSTATUS.REG (link : Nat) : Nat := 0x100008 + link * 0x1000
def GAL_LSTATUS.PEER_PANEL (link : Nat) : Loc := ⟨GAL_LSTATUS.REG link, 63, 48⟩
def GAL_LSTATUS.PEER_LINK (link : Nat) : Loc := ⟨GAL_LSTATUS.REG link, 47, 40⟩
def GAL_LSTATUS.LAST_CODE (link : Nat) : Loc := ⟨GAL_LSTATUS.REG link, 39, 24⟩
def GAL_LSTATUS.RATE (link : Nat) : Loc := ⟨GAL_LSTATUS.REG link, 7, 6⟩
def GAL_LSTATUS.FAILS (link : Nat) : Loc := ⟨GAL_LSTATUS.REG link, 5, 4⟩
def GAL_LSTATUS.STATE (link : Nat) : Loc := ⟨GAL_LSTATUS.REG link, 3, 0⟩

/-- GAL_FEC, BAR0 0x0010_0000 + L * 0x1000 + 0x010 (09_gale_links.md). -/
def GAL_FEC.REG (link : Nat) : Nat := 0x100010 + link * 0x1000
def GAL_FEC.CORRECTED (link : Nat) : Loc := ⟨GAL_FEC.REG link, 63, 32⟩
def GAL_FEC.UNCORR (link : Nat) : Loc := ⟨GAL_FEC.REG link, 31, 0⟩

/-- GAL_LLERR, BAR0 0x0010_0000 + L * 0x1000 + 0x018 (09_gale_links.md). -/
def GAL_LLERR.REG (link : Nat) : Nat := 0x100018 + link * 0x1000
def GAL_LLERR.CRC (link : Nat) : Loc := ⟨GAL_LLERR.REG link, 63, 48⟩
def GAL_LLERR.REPLAYS (link : Nat) : Loc := ⟨GAL_LLERR.REG link, 47, 32⟩
def GAL_LLERR.MISROUTED (link : Nat) : Loc := ⟨GAL_LLERR.REG link, 31, 16⟩
def GAL_LLERR.DOWNS (link : Nat) : Loc := ⟨GAL_LLERR.REG link, 15, 0⟩

/-- GAL_TRAFFIC, BAR0 0x0010_0000 + L * 0x1000 + 0x020 (09_gale_links.md). -/
def GAL_TRAFFIC.REG (link : Nat) : Nat := 0x100020 + link * 0x1000
def GAL_TRAFFIC.TX (link : Nat) : Loc := ⟨GAL_TRAFFIC.REG link, 63, 32⟩
def GAL_TRAFFIC.RX (link : Nat) : Loc := ⟨GAL_TRAFFIC.REG link, 31, 0⟩

/-- GAL_LANE, BAR0 0x0010_0000 + L * 0x1000 + 0x028 (09_gale_links.md). -/
def GAL_LANE.REG (link : Nat) : Nat := 0x100028 + link * 0x1000
def GAL_LANE.AM_LOCK (link : Nat) : Loc := ⟨GAL_LANE.REG link, 15, 8⟩
def GAL_LANE.SIGNAL (link : Nat) : Loc := ⟨GAL_LANE.REG link, 7, 0⟩

/-- GAL_PANEL, BAR0 0x0010_0600 (09_gale_links.md). -/
def GAL_PANEL.REG : Nat := 0x100600
def GAL_PANEL.ID : Loc := ⟨GAL_PANEL.REG, 63, 48⟩
def GAL_PANEL.COLL_LIMIT : Loc := ⟨GAL_PANEL.REG, 31, 0⟩

/-- GAL_TIMERS, BAR0 0x0010_0608 (09_gale_links.md). -/
def GAL_TIMERS.REG : Nat := 0x100608
def GAL_TIMERS.RTO : Loc := ⟨GAL_TIMERS.REG, 63, 48⟩
def GAL_TIMERS.RETRIES : Loc := ⟨GAL_TIMERS.REG, 47, 40⟩
def GAL_TIMERS.NOLINK_LIMIT : Loc := ⟨GAL_TIMERS.REG, 39, 24⟩
def GAL_TIMERS.DEAD_LIMIT : Loc := ⟨GAL_TIMERS.REG, 23, 8⟩
def GAL_TIMERS.RNR_DELAY : Loc := ⟨GAL_TIMERS.REG, 7, 0⟩

/-- GAL_CND_CFG, X(c) + 0x00 (09_gale_links.md). -/
def GAL_CND_CFG.REG (c : Nat) : Nat := 0x100000 + c / 8 * 0x1000 + 0x400 + c % 8 * 0x40 + 0x0
def GAL_CND_CFG.OPEN (c : Nat) : Loc := ⟨GAL_CND_CFG.REG c, 63, 63⟩
def GAL_CND_CFG.EDGE (c : Nat) : Loc := ⟨GAL_CND_CFG.REG c, 54, 50⟩
def GAL_CND_CFG.LINKS (c : Nat) : Loc := ⟨GAL_CND_CFG.REG c, 49, 46⟩
def GAL_CND_CFG.PEER_CND (c : Nat) : Loc := ⟨GAL_CND_CFG.REG c, 40, 32⟩
def GAL_CND_CFG.PEER_PANEL (c : Nat) : Loc := ⟨GAL_CND_CFG.REG c, 31, 16⟩

/-- GAL_CND_WBASE, X(c) + 0x08 (09_gale_links.md). -/
def GAL_CND_WBASE.REG (c : Nat) : Nat := 0x100000 + c / 8 * 0x1000 + 0x400 + c % 8 * 0x40 + 0x8
def GAL_CND_WBASE.W (c : Nat) : Loc := ⟨GAL_CND_WBASE.REG c, 63, 63⟩
def GAL_CND_WBASE.R (c : Nat) : Loc := ⟨GAL_CND_WBASE.REG c, 62, 62⟩
def GAL_CND_WBASE.BASE (c : Nat) : Loc := ⟨GAL_CND_WBASE.REG c, 55, 0⟩

/-- GAL_CND_WSIZE, X(c) + 0x10 (09_gale_links.md). -/
def GAL_CND_WSIZE.REG (c : Nat) : Nat := 0x100000 + c / 8 * 0x1000 + 0x400 + c % 8 * 0x40 + 0x10
def GAL_CND_WSIZE.SIZE (c : Nat) : Loc := ⟨GAL_CND_WSIZE.REG c, 43, 0⟩

/-- GAL_CND_RXBASE, X(c) + 0x18 (09_gale_links.md). -/
def GAL_CND_RXBASE.REG (c : Nat) : Nat := 0x100000 + c / 8 * 0x1000 + 0x400 + c % 8 * 0x40 + 0x18
def GAL_CND_RXBASE.BASE (c : Nat) : Loc := ⟨GAL_CND_RXBASE.REG c, 55, 0⟩

/-- GAL_CND_RX, X(c) + 0x20 (09_gale_links.md). -/
def GAL_CND_RX.REG (c : Nat) : Nat := 0x100000 + c / 8 * 0x1000 + 0x400 + c % 8 * 0x40 + 0x20
def GAL_CND_RX.TAIL (c : Nat) : Loc := ⟨GAL_CND_RX.REG c, 47, 32⟩
def GAL_CND_RX.HEAD (c : Nat) : Loc := ⟨GAL_CND_RX.REG c, 31, 16⟩
def GAL_CND_RX.IRQ (c : Nat) : Loc := ⟨GAL_CND_RX.REG c, 4, 4⟩
def GAL_CND_RX.LOG2 (c : Nat) : Loc := ⟨GAL_CND_RX.REG c, 3, 0⟩

/-- GAL_CND_SEND, X(c) + 0x28 (09_gale_links.md). -/
def GAL_CND_SEND.REG (c : Nat) : Nat := 0x100000 + c / 8 * 0x1000 + 0x400 + c % 8 * 0x40 + 0x28
def GAL_CND_SEND.SRC (c : Nat) : Loc := ⟨GAL_CND_SEND.REG c, 55, 0⟩

/-- GAL_CND_SCTL, X(c) + 0x30 (09_gale_links.md). -/
def GAL_CND_SCTL.REG (c : Nat) : Nat := 0x100000 + c / 8 * 0x1000 + 0x400 + c % 8 * 0x40 + 0x30
def GAL_CND_SCTL.GO (c : Nat) : Loc := ⟨GAL_CND_SCTL.REG c, 63, 63⟩
def GAL_CND_SCTL.BUSY (c : Nat) : Loc := ⟨GAL_CND_SCTL.REG c, 62, 62⟩
def GAL_CND_SCTL.STATUS (c : Nat) : Loc := ⟨GAL_CND_SCTL.REG c, 55, 48⟩
def GAL_CND_SCTL.LEN (c : Nat) : Loc := ⟨GAL_CND_SCTL.REG c, 11, 0⟩

/-- GAL_CND_STATE, X(c) + 0x38 (09_gale_links.md). -/
def GAL_CND_STATE.REG (c : Nat) : Nat := 0x100000 + c / 8 * 0x1000 + 0x400 + c % 8 * 0x40 + 0x38
def GAL_CND_STATE.STATE (c : Nat) : Loc := ⟨GAL_CND_STATE.REG c, 63, 60⟩
def GAL_CND_STATE.LINK (c : Nat) : Loc := ⟨GAL_CND_STATE.REG c, 59, 58⟩
def GAL_CND_STATE.LAST_CODE (c : Nat) : Loc := ⟨GAL_CND_STATE.REG c, 55, 40⟩
def GAL_CND_STATE.REFUSED (c : Nat) : Loc := ⟨GAL_CND_STATE.REG c, 39, 32⟩
def GAL_CND_STATE.DROPS (c : Nat) : Loc := ⟨GAL_CND_STATE.REG c, 31, 16⟩
def GAL_CND_STATE.RETX (c : Nat) : Loc := ⟨GAL_CND_STATE.REG c, 15, 0⟩

/-- GAL_COLL word 0, Y(e, t) + 0x00 (09_gale_links.md). -/
def GAL_COLL_W0.REG (e t : Nat) : Nat := 0x100800 + e * 0x4000 + t * 0x20
def GAL_COLL_W0.TREE (e t : Nat) : Loc := ⟨GAL_COLL_W0.REG e t, 63, 0⟩

/-- GAL_COLL word 1, Y(e, t) + 0x08 (09_gale_links.md). -/
def GAL_COLL_W1.REG (e t : Nat) : Nat := 0x100808 + e * 0x4000 + t * 0x20
def GAL_COLL_W1.PEERS (e t : Nat) : Loc := ⟨GAL_COLL_W1.REG e t, 63, 24⟩

/-- GAL_COLL word 2, Y(e, t) + 0x10 (09_gale_links.md). -/
def GAL_COLL_W2.REG (e t : Nat) : Nat := 0x100810 + e * 0x4000 + t * 0x20
def GAL_COLL_W2.DEST (e t : Nat) : Loc := ⟨GAL_COLL_W2.REG e t, 55, 0⟩

/-- GAL_COLL word 3, Y(e, t) + 0x18 (09_gale_links.md). -/
def GAL_COLL_W3.REG (e t : Nat) : Nat := 0x100818 + e * 0x4000 + t * 0x20
def GAL_COLL_W3.ROUND (e t : Nat) : Loc := ⟨GAL_COLL_W3.REG e t, 63, 48⟩
def GAL_COLL_W3.STATE (e t : Nat) : Loc := ⟨GAL_COLL_W3.REG e t, 47, 44⟩
def GAL_COLL_W3.PENDING (e t : Nat) : Loc := ⟨GAL_COLL_W3.REG e t, 43, 38⟩
def GAL_COLL_W3.OUT_SEQ (e t : Nat) : Loc := ⟨GAL_COLL_W3.REG e t, 16, 0⟩

/-- LEN_CTRL, BAR0 0x0018_0000 + k * 0x4000 + 0x000 (09_gale_links.md). -/
def LEN_CTRL.REG (k : Nat) : Nat := 0x180000 + k * 0x4000
def LEN_CTRL.ALLOW_UNAUTH (k : Nat) : Loc := ⟨LEN_CTRL.REG k, 2, 2⟩
def LEN_CTRL.QUIESCE (k : Nat) : Loc := ⟨LEN_CTRL.REG k, 1, 1⟩
def LEN_CTRL.RESUME (k : Nat) : Loc := ⟨LEN_CTRL.REG k, 0, 0⟩

/-- LEN_STATUS, BAR0 0x0018_0000 + k * 0x4000 + 0x008 (09_gale_links.md). -/
def LEN_STATUS.REG (k : Nat) : Nat := 0x180008 + k * 0x4000
def LEN_STATUS.LAST_CODE (k : Nat) : Loc := ⟨LEN_STATUS.REG k, 63, 48⟩
def LEN_STATUS.INSERTIONS (k : Nat) : Loc := ⟨LEN_STATUS.REG k, 47, 32⟩
def LEN_STATUS.LINKS_UP (k : Nat) : Loc := ⟨LEN_STATUS.REG k, 7, 0⟩

/-- LEN_STATE, BAR0 0x0018_0000 + k * 0x4000 + 0x030 (09_gale_links.md). -/
def LEN_STATE.REG (k : Nat) : Nat := 0x180030 + k * 0x4000
def LEN_STATE.STATE (k : Nat) : Loc := ⟨LEN_STATE.REG k, 3, 0⟩

/-- LEN_LIFE, BAR0 0x0018_0000 + k * 0x4000 + 0x010 (09_gale_links.md). -/
def LEN_LIFE.REG (k : Nat) : Nat := 0x180010 + k * 0x4000
def LEN_LIFE.WEIGHTED (k : Nat) : Loc := ⟨LEN_LIFE.REG k, 63, 32⟩
def LEN_LIFE.LASER_HOURS (k : Nat) : Loc := ⟨LEN_LIFE.REG k, 31, 0⟩

/-- LEN_LIFE2, BAR0 0x0018_0000 + k * 0x4000 + 0x018 (09_gale_links.md). -/
def LEN_LIFE2.REG (k : Nat) : Nat := 0x180018 + k * 0x4000
def LEN_LIFE2.DRIFT_MAX (k : Nat) : Loc := ⟨LEN_LIFE2.REG k, 63, 48⟩
def LEN_LIFE2.DRIFT_PORT (k : Nat) : Loc := ⟨LEN_LIFE2.REG k, 47, 40⟩
def LEN_LIFE2.MAX_TEMP (k : Nat) : Loc := ⟨LEN_LIFE2.REG k, 39, 32⟩
def LEN_LIFE2.RATED (k : Nat) : Loc := ⟨LEN_LIFE2.REG k, 31, 0⟩

/-- LEN_AUTH, BAR0 0x0018_0000 + k * 0x4000 + 0x020 (09_gale_links.md). -/
def LEN_AUTH.REG (k : Nat) : Nat := 0x180020 + k * 0x4000
def LEN_AUTH.AGE (k : Nat) : Loc := ⟨LEN_AUTH.REG k, 63, 32⟩
def LEN_AUTH.FAILS (k : Nat) : Loc := ⟨LEN_AUTH.REG k, 31, 16⟩
def LEN_AUTH.RESULT (k : Nat) : Loc := ⟨LEN_AUTH.REG k, 15, 8⟩

/-- LEN_SERIAL, BAR0 0x0018_0000 + k * 0x4000 + 0x028 (09_gale_links.md). -/
def LEN_SERIAL.REG (k : Nat) : Nat := 0x180028 + k * 0x4000
def LEN_SERIAL.SERIAL (k : Nat) : Loc := ⟨LEN_SERIAL.REG k, 63, 0⟩

/-! ## Registers of 10_power.md -/

/-- PWR_STATUS, BAR0 0x0005_0000 (10_power.md). -/
def PWR_STATUS.REG : Nat := 0x50000
def PWR_STATUS.LAST_CODE : Loc := ⟨PWR_STATUS.REG, 63, 48⟩
def PWR_STATUS.SECTORS_LOST : Loc := ⟨PWR_STATUS.REG, 47, 43⟩
def PWR_STATUS.SEG_TRIPPED : Loc := ⟨PWR_STATUS.REG, 42, 22⟩
def PWR_STATUS.PWROK : Loc := ⟨PWR_STATUS.REG, 5, 5⟩
def PWR_STATUS.BAR_B_OK : Loc := ⟨PWR_STATUS.REG, 4, 4⟩
def PWR_STATUS.BAR_A_OK : Loc := ⟨PWR_STATUS.REG, 3, 3⟩
def PWR_STATUS.INPUT_LOW : Loc := ⟨PWR_STATUS.REG, 2, 2⟩
def PWR_STATUS.OVERLOAD : Loc := ⟨PWR_STATUS.REG, 1, 1⟩
def PWR_STATUS.METER_OK : Loc := ⟨PWR_STATUS.REG, 0, 0⟩

/-- PWR_INPUT, BAR0 0x0005_0008 (10_power.md). -/
def PWR_INPUT.REG : Nat := 0x50008
def PWR_INPUT.VIN : Loc := ⟨PWR_INPUT.REG, 63, 48⟩
def PWR_INPUT.IA : Loc := ⟨PWR_INPUT.REG, 47, 32⟩
def PWR_INPUT.IB : Loc := ⟨PWR_INPUT.REG, 31, 16⟩
def PWR_INPUT.PIN : Loc := ⟨PWR_INPUT.REG, 15, 0⟩

/-- PWR_INPUT_MAX, BAR0 0x0005_0010 (10_power.md). -/
def PWR_INPUT_MAX.REG : Nat := 0x50010
def PWR_INPUT_MAX.PIN_MAX : Loc := ⟨PWR_INPUT_MAX.REG, 63, 48⟩
def PWR_INPUT_MAX.I_MAX : Loc := ⟨PWR_INPUT_MAX.REG, 47, 32⟩

/-- PWR_E_IN, BAR0 0x0005_0018 (10_power.md). -/
def PWR_E_IN.REG : Nat := 0x50018
def PWR_E_IN.ENERGY : Loc := ⟨PWR_E_IN.REG, 63, 0⟩

/-- PWR_SNAP, BAR0 0x0005_0020 (10_power.md). -/
def PWR_SNAP.REG : Nat := 0x50020
def PWR_SNAP.SNAP : Loc := ⟨PWR_SNAP.REG, 0, 0⟩

/-- PWR_SNAP_TIME, BAR0 0x0005_0028 (10_power.md). -/
def PWR_SNAP_TIME.REG : Nat := 0x50028
def PWR_SNAP_TIME.TIME : Loc := ⟨PWR_SNAP_TIME.REG, 63, 0⟩

/-- PWR_LIMIT, BAR0 0x0005_0030 (10_power.md). -/
def PWR_LIMIT.REG : Nat := 0x50030
def PWR_LIMIT.IN_LIMIT : Loc := ⟨PWR_LIMIT.REG, 63, 48⟩
def PWR_LIMIT.IN_RATED : Loc := ⟨PWR_LIMIT.REG, 47, 32⟩
def PWR_LIMIT.I_LIM : Loc := ⟨PWR_LIMIT.REG, 31, 16⟩

/-- PWR_BAR_E, BAR0 0x0005_0038 (10_power.md). -/
def PWR_BAR_E.REG : Nat := 0x50038
def PWR_BAR_E.BAR_B : Loc := ⟨PWR_BAR_E.REG, 63, 32⟩
def PWR_BAR_E.BAR_A : Loc := ⟨PWR_BAR_E.REG, 31, 0⟩

/-- PWR_EVENT, BAR0 0x0005_0040 (10_power.md). -/
def PWR_EVENT.REG : Nat := 0x50040
def PWR_EVENT.VALID : Loc := ⟨PWR_EVENT.REG, 63, 63⟩
def PWR_EVENT.OVF : Loc := ⟨PWR_EVENT.REG, 62, 62⟩
def PWR_EVENT.NODE : Loc := ⟨PWR_EVENT.REG, 55, 48⟩
def PWR_EVENT.UNIT : Loc := ⟨PWR_EVENT.REG, 47, 40⟩
def PWR_EVENT.PHASE : Loc := ⟨PWR_EVENT.REG, 39, 32⟩
def PWR_EVENT.CODE : Loc := ⟨PWR_EVENT.REG, 31, 16⟩

/-- PWR_SEG0–20, BAR0 0x0005_0100 + 8 * g, g = 0–20 (10_power.md). -/
def PWR_SEG.REG (g : Nat) : Nat := 0x50100 + g * 0x8
def PWR_SEG.STATE (g : Nat) : Loc := ⟨PWR_SEG.REG g, 63, 60⟩
def PWR_SEG.TRIPS (g : Nat) : Loc := ⟨PWR_SEG.REG g, 59, 56⟩
def PWR_SEG.TRIP_CAUSE (g : Nat) : Loc := ⟨PWR_SEG.REG g, 55, 48⟩
def PWR_SEG.VOUT (g : Nat) : Loc := ⟨PWR_SEG.REG g, 47, 32⟩
def PWR_SEG.IOUT (g : Nat) : Loc := ⟨PWR_SEG.REG g, 31, 16⟩
def PWR_SEG.POUT (g : Nat) : Loc := ⟨PWR_SEG.REG g, 15, 0⟩

/-- PWR_SEG_BUDGET0–20, BAR0 0x0005_0200 + 8 * g, g = 0–20 (10_power.md). -/
def PWR_SEG_BUDGET.REG (g : Nat) : Nat := 0x50200 + g * 0x8
def PWR_SEG_BUDGET.RATED (g : Nat) : Loc := ⟨PWR_SEG_BUDGET.REG g, 63, 48⟩
def PWR_SEG_BUDGET.BUDGET (g : Nat) : Loc := ⟨PWR_SEG_BUDGET.REG g, 47, 32⟩
def PWR_SEG_BUDGET.LOAD (g : Nat) : Loc := ⟨PWR_SEG_BUDGET.REG g, 31, 16⟩
def PWR_SEG_BUDGET.DEFER (g : Nat) : Loc := ⟨PWR_SEG_BUDGET.REG g, 0, 0⟩

/-- PWR_SEG_E0–20, BAR0 0x0005_0300 + 8 * g, g = 0–20 (10_power.md). -/
def PWR_SEG_E.REG (g : Nat) : Nat := 0x50300 + g * 0x8
def PWR_SEG_E.ENERGY (g : Nat) : Loc := ⟨PWR_SEG_E.REG g, 63, 0⟩

/-- PWR_STK0–168 word 0, BAR0 0x0005_0800 + 16 * s, s = 0–168 (10_power.md). -/
def PWR_STK_W0.REG (s : Nat) : Nat := 0x50800 + s * 0x10
def PWR_STK_W0.LAST_CODE (s : Nat) : Loc := ⟨PWR_STK_W0.REG s, 63, 48⟩
def PWR_STK_W0.ISOLATED (s : Nat) : Loc := ⟨PWR_STK_W0.REG s, 32, 32⟩
def PWR_STK_W0.DSTATE (s : Nat) : Loc := ⟨PWR_STK_W0.REG s, 23, 0⟩

/-- PWR_STK0–168 word 1, BAR0 0x0005_0808 + 16 * s, s = 0–168 (10_power.md). -/
def PWR_STK_W1.REG (s : Nat) : Nat := 0x50808 + s * 0x10
def PWR_STK_W1.SENSE_FAULT (s : Nat) : Loc := ⟨PWR_STK_W1.REG s, 37, 32⟩
def PWR_STK_W1.FAIL_GP (s : Nat) : Loc := ⟨PWR_STK_W1.REG s, 18, 17⟩
def PWR_STK_W1.FAIL_GA (s : Nat) : Loc := ⟨PWR_STK_W1.REG s, 16, 15⟩
def PWR_STK_W1.FAIL_TR (s : Nat) : Loc := ⟨PWR_STK_W1.REG s, 14, 13⟩
def PWR_STK_W1.FAIL_VC (s : Nat) : Loc := ⟨PWR_STK_W1.REG s, 12, 10⟩
def PWR_STK_W1.FAIL_SR (s : Nat) : Loc := ⟨PWR_STK_W1.REG s, 9, 5⟩
def PWR_STK_W1.FAIL_NR (s : Nat) : Loc := ⟨PWR_STK_W1.REG s, 4, 0⟩

/-- PWR_STK_E0–168, BAR0 0x0005_1400 + 8 * s, s = 0–168 (10_power.md). -/
def PWR_STK_E.REG (s : Nat) : Nat := 0x51400 + s * 0x8
def PWR_STK_E.ENERGY (s : Nat) : Loc := ⟨PWR_STK_E.REG s, 63, 0⟩

/-- PWR_RING0–43, BAR0 0x0005_1A00 + 8 * n, n = ring position 0–43 (10_power.md). -/
def PWR_RING.REG (n : Nat) : Nat := 0x51a00 + n * 0x8
def PWR_RING.LAST_CODE (n : Nat) : Loc := ⟨PWR_RING.REG n, 63, 48⟩
def PWR_RING.ISOLATED (n : Nat) : Loc := ⟨PWR_RING.REG n, 32, 32⟩
def PWR_RING.PIN (n : Nat) : Loc := ⟨PWR_RING.REG n, 31, 16⟩
def PWR_RING.FAILS (n : Nat) : Loc := ⟨PWR_RING.REG n, 15, 12⟩
def PWR_RING.DSTATE (n : Nat) : Loc := ⟨PWR_RING.REG n, 11, 0⟩

/-- PWR_TEL_SEL, BAR0 0x0005_1C00 (10_power.md). -/
def PWR_TEL_SEL.REG : Nat := 0x51c00
def PWR_TEL_SEL.DOM : Loc := ⟨PWR_TEL_SEL.REG, 10, 8⟩
def PWR_TEL_SEL.SITE : Loc := ⟨PWR_TEL_SEL.REG, 7, 0⟩

/-- PWR_TEL, BAR0 0x0005_1C08 (10_power.md). -/
def PWR_TEL.REG : Nat := 0x51c08
def PWR_TEL.VSET : Loc := ⟨PWR_TEL.REG, 63, 48⟩
def PWR_TEL.VSENSE : Loc := ⟨PWR_TEL.REG, 47, 32⟩
def PWR_TEL.IDOM : Loc := ⟨PWR_TEL.REG, 31, 16⟩
def PWR_TEL.CAP : Loc := ⟨PWR_TEL.REG, 15, 0⟩

/-- PWR_TEL_PH, BAR0 0x0005_1C10 (10_power.md). -/
def PWR_TEL_PH.REG : Nat := 0x51c10
def PWR_TEL_PH.TEMP : Loc := ⟨PWR_TEL_PH.REG, 63, 56⟩
def PWR_TEL_PH.I_PH : Loc := ⟨PWR_TEL_PH.REG, 39, 0⟩

/-! ## Registers of 11_heat_and_budget.md -/

/-- THM_STATUS, BAR0 0x0006_0000 (11_heat_and_budget.md). -/
def THM_STATUS.REG : Nat := 0x60000
def THM_STATUS.LAST_CODE : Loc := ⟨THM_STATUS.REG, 63, 48⟩
def THM_STATUS.HOT_SPOTS : Loc := ⟨THM_STATUS.REG, 47, 40⟩
def THM_STATUS.SUSPECT : Loc := ⟨THM_STATUS.REG, 39, 32⟩
def THM_STATUS.HEAT_LIMITED : Loc := ⟨THM_STATUS.REG, 11, 11⟩
def THM_STATUS.HEAT_CAP_LOW : Loc := ⟨THM_STATUS.REG, 10, 10⟩
def THM_STATUS.OUTLET_HIGH : Loc := ⟨THM_STATUS.REG, 9, 9⟩
def THM_STATUS.INLET_HIGH : Loc := ⟨THM_STATUS.REG, 8, 8⟩
def THM_STATUS.INLET_LOW : Loc := ⟨THM_STATUS.REG, 7, 7⟩
def THM_STATUS.DP_BAD : Loc := ⟨THM_STATUS.REG, 6, 6⟩
def THM_STATUS.FLOW_B_BAD : Loc := ⟨THM_STATUS.REG, 5, 5⟩
def THM_STATUS.FLOW_A_BAD : Loc := ⟨THM_STATUS.REG, 4, 4⟩
def THM_STATUS.FLOW_FLAG : Loc := ⟨THM_STATUS.REG, 3, 3⟩
def THM_STATUS.EMERG : Loc := ⟨THM_STATUS.REG, 1, 1⟩
def THM_STATUS.THERM_N : Loc := ⟨THM_STATUS.REG, 0, 0⟩

/-- THM_COOLANT, BAR0 0x0006_0008 (11_heat_and_budget.md). -/
def THM_COOLANT.REG : Nat := 0x60008
def THM_COOLANT.T_IN : Loc := ⟨THM_COOLANT.REG, 63, 48⟩
def THM_COOLANT.T_OUT : Loc := ⟨THM_COOLANT.REG, 47, 32⟩
def THM_COOLANT.FLOW_A : Loc := ⟨THM_COOLANT.REG, 31, 16⟩
def THM_COOLANT.FLOW_B : Loc := ⟨THM_COOLANT.REG, 15, 0⟩

/-- THM_COOLANT2, BAR0 0x0006_0010 (11_heat_and_budget.md). -/
def THM_COOLANT2.REG : Nat := 0x60010
def THM_COOLANT2.DP : Loc := ⟨THM_COOLANT2.REG, 63, 48⟩
def THM_COOLANT2.F_DP : Loc := ⟨THM_COOLANT2.REG, 47, 32⟩
def THM_COOLANT2.F_CTL : Loc := ⟨THM_COOLANT2.REG, 31, 16⟩
def THM_COOLANT2.FLOWREQ : Loc := ⟨THM_COOLANT2.REG, 15, 0⟩

/-- THM_HEAT, BAR0 0x0006_0018 (11_heat_and_budget.md). -/
def THM_HEAT.REG : Nat := 0x60018
def THM_HEAT.HEAT_CAP : Loc := ⟨THM_HEAT.REG, 63, 48⟩
def THM_HEAT.HEAT_W : Loc := ⟨THM_HEAT.REG, 47, 32⟩
def THM_HEAT.F_REQ : Loc := ⟨THM_HEAT.REG, 31, 16⟩

/-- THM_EMERG, BAR0 0x0006_0020 (11_heat_and_budget.md). -/
def THM_EMERG.REG : Nat := 0x60020
def THM_EMERG.COUNT : Loc := ⟨THM_EMERG.REG, 63, 48⟩
def THM_EMERG.READY : Loc := ⟨THM_EMERG.REG, 11, 11⟩
def THM_EMERG.CLEAR : Loc := ⟨THM_EMERG.REG, 10, 10⟩
def THM_EMERG.ACTIVE : Loc := ⟨THM_EMERG.REG, 8, 8⟩
def THM_EMERG.CAUSE : Loc := ⟨THM_EMERG.REG, 3, 0⟩

/-- THM_EMERG_TIME, BAR0 0x0006_0028 (11_heat_and_budget.md). -/
def THM_EMERG_TIME.REG : Nat := 0x60028
def THM_EMERG_TIME.TIME : Loc := ⟨THM_EMERG_TIME.REG, 63, 0⟩

/-- THM_CTRL, BAR0 0x0006_0030 (11_heat_and_budget.md). -/
def THM_CTRL.REG : Nat := 0x60030
def THM_CTRL.CLEAR_SUSPECT : Loc := ⟨THM_CTRL.REG, 16, 16⟩
def THM_CTRL.FLOW_FLOOR : Loc := ⟨THM_CTRL.REG, 9, 0⟩

/-- THM_EVENT, BAR0 0x0006_0038 (11_heat_and_budget.md). -/
def THM_EVENT.REG : Nat := 0x60038
def THM_EVENT.VALID : Loc := ⟨THM_EVENT.REG, 63, 63⟩
def THM_EVENT.OVF : Loc := ⟨THM_EVENT.REG, 62, 62⟩
def THM_EVENT.NODE : Loc := ⟨THM_EVENT.REG, 55, 48⟩
def THM_EVENT.UNIT : Loc := ⟨THM_EVENT.REG, 47, 40⟩
def THM_EVENT.CODE : Loc := ⟨THM_EVENT.REG, 31, 16⟩

/-- THM_STK0–168, BAR0 0x0006_0400 + 8 * s, s = 0–168 (11_heat_and_budget.md). -/
def THM_STK.REG (s : Nat) : Nat := 0x60400 + s * 0x8
def THM_STK.TMAX (s : Nat) : Loc := ⟨THM_STK.REG s, 63, 56⟩
def THM_STK.SPOT (s : Nat) : Loc := ⟨THM_STK.REG s, 55, 52⟩
def THM_STK.DEMAND (s : Nat) : Loc := ⟨THM_STK.REG s, 51, 48⟩
def THM_STK.SUSPECT (s : Nat) : Loc := ⟨THM_STK.REG s, 47, 32⟩
def THM_STK.FLAGGED (s : Nat) : Loc := ⟨THM_STK.REG s, 31, 24⟩
def THM_STK.BLIND (s : Nat) : Loc := ⟨THM_STK.REG s, 23, 16⟩
def THM_STK.GATINGS (s : Nat) : Loc := ⟨THM_STK.REG s, 15, 12⟩
def THM_STK.CRIT (s : Nat) : Loc := ⟨THM_STK.REG s, 2, 2⟩
def THM_STK.GATED (s : Nat) : Loc := ⟨THM_STK.REG s, 1, 1⟩
def THM_STK.HOT (s : Nat) : Loc := ⟨THM_STK.REG s, 0, 0⟩

/-- THM_RING0–43, BAR0 0x0006_0C00 + 8 * n, n = ring position 0–43 (11_heat_and_budget.md). -/
def THM_RING.REG (n : Nat) : Nat := 0x60c00 + n * 0x8
def THM_RING.TMAX (n : Nat) : Loc := ⟨THM_RING.REG n, 63, 56⟩
def THM_RING.SPOT (n : Nat) : Loc := ⟨THM_RING.REG n, 55, 52⟩
def THM_RING.SUSPECT (n : Nat) : Loc := ⟨THM_RING.REG n, 39, 32⟩
def THM_RING.CRIT (n : Nat) : Loc := ⟨THM_RING.REG n, 1, 1⟩
def THM_RING.HOT (n : Nat) : Loc := ⟨THM_RING.REG n, 0, 0⟩

/-- THM_HUB, BAR0 0x0006_0E00 (11_heat_and_budget.md). -/
def THM_HUB.REG : Nat := 0x60e00
def THM_HUB.STATE : Loc := ⟨THM_HUB.REG, 63, 0⟩

/-- THM_SEL, BAR0 0x0006_1000 (11_heat_and_budget.md). -/
def THM_SEL.REG : Nat := 0x61000
def THM_SEL.SPOT : Loc := ⟨THM_SEL.REG, 11, 8⟩
def THM_SEL.NODE : Loc := ⟨THM_SEL.REG, 7, 0⟩

/-- THM_PAIR, BAR0 0x0006_1008 (11_heat_and_budget.md). -/
def THM_PAIR.REG : Nat := 0x61008
def THM_PAIR.A : Loc := ⟨THM_PAIR.REG, 63, 48⟩
def THM_PAIR.B : Loc := ⟨THM_PAIR.REG, 47, 32⟩
def THM_PAIR.MODEL : Loc := ⟨THM_PAIR.REG, 31, 16⟩
def THM_PAIR.CTRL : Loc := ⟨THM_PAIR.REG, 15, 0⟩

/-- UPD_CTRL, BAR0 0x0007_0000 (11_heat_and_budget.md). -/
def UPD_CTRL.REG : Nat := 0x70000
def UPD_CTRL.HOST_CAP : Loc := ⟨UPD_CTRL.REG, 63, 48⟩
def UPD_CTRL.EN : Loc := ⟨UPD_CTRL.REG, 0, 0⟩

/-- UPD_CFG, BAR0 0x0007_0008 (11_heat_and_budget.md). -/
def UPD_CFG.REG : Nat := 0x70008
def UPD_CFG.RAMP_UP : Loc := ⟨UPD_CFG.REG, 63, 48⟩
def UPD_CFG.WINDOW : Loc := ⟨UPD_CFG.REG, 47, 32⟩
def UPD_CFG.IDLE_GATE : Loc := ⟨UPD_CFG.REG, 31, 16⟩

/-- UPD_RATE, BAR0 0x0007_0010 (11_heat_and_budget.md). -/
def UPD_RATE.REG : Nat := 0x70010
def UPD_RATE.RATE : Loc := ⟨UPD_RATE.REG, 63, 48⟩
def UPD_RATE.TARGET : Loc := ⟨UPD_RATE.REG, 47, 32⟩
def UPD_RATE.LIMITER : Loc := ⟨UPD_RATE.REG, 31, 28⟩

/-- UPD_INPUTS, BAR0 0x0007_0018 (11_heat_and_budget.md). -/
def UPD_INPUTS.REG : Nat := 0x70018
def UPD_INPUTS.HOST_CAP : Loc := ⟨UPD_INPUTS.REG, 63, 48⟩
def UPD_INPUTS.IN_LIMIT : Loc := ⟨UPD_INPUTS.REG, 47, 32⟩
def UPD_INPUTS.SEG_SUM : Loc := ⟨UPD_INPUTS.REG, 31, 16⟩
def UPD_INPUTS.HEAT_CAP : Loc := ⟨UPD_INPUTS.REG, 15, 0⟩

/-- UPD_BUCKET, BAR0 0x0007_0020 (11_heat_and_budget.md). -/
def UPD_BUCKET.REG : Nat := 0x70020
def UPD_BUCKET.LEVEL : Loc := ⟨UPD_BUCKET.REG, 63, 32⟩
def UPD_BUCKET.CAPACITY : Loc := ⟨UPD_BUCKET.REG, 31, 0⟩

/-- UPD_GATED, BAR0 0x0007_0028 (11_heat_and_budget.md). -/
def UPD_GATED.REG : Nat := 0x70028
def UPD_GATED.HEAT_STACKS : Loc := ⟨UPD_GATED.REG, 47, 40⟩
def UPD_GATED.UNGATING : Loc := ⟨UPD_GATED.REG, 16, 16⟩
def UPD_GATED.SECTORS : Loc := ⟨UPD_GATED.REG, 15, 0⟩

/-- UPD_DECISION, BAR0 0x0007_0030 (11_heat_and_budget.md). -/
def UPD_DECISION.REG : Nat := 0x70030
def UPD_DECISION.TEMPLATE : Loc := ⟨UPD_DECISION.REG, 63, 48⟩
def UPD_DECISION.ESTIMATE : Loc := ⟨UPD_DECISION.REG, 47, 16⟩
def UPD_DECISION.WAIT : Loc := ⟨UPD_DECISION.REG, 7, 4⟩
def UPD_DECISION.SQ : Loc := ⟨UPD_DECISION.REG, 1, 0⟩

/-- UPD_SQ0–3, BAR0 0x0007_0040 + 8 * q, q = 0–3 (11_heat_and_budget.md). -/
def UPD_SQ.REG (q : Nat) : Nat := 0x70040 + q * 0x8
def UPD_SQ.WEIGHT (q : Nat) : Loc := ⟨UPD_SQ.REG q, 63, 56⟩
def UPD_SQ.PRIO (q : Nat) : Loc := ⟨UPD_SQ.REG q, 55, 54⟩
def UPD_SQ.CREDIT (q : Nat) : Loc := ⟨UPD_SQ.REG q, 31, 0⟩

/-- UPD_DEM_SEL, BAR0 0x0007_0100 (11_heat_and_budget.md). -/
def UPD_DEM_SEL.REG : Nat := 0x70100
def UPD_DEM_SEL.SITE : Loc := ⟨UPD_DEM_SEL.REG, 7, 0⟩

/-- UPD_DEMAND, BAR0 0x0007_0108 (11_heat_and_budget.md). -/
def UPD_DEMAND.REG : Nat := 0x70108
def UPD_DEMAND.RESULT : Loc := ⟨UPD_DEMAND.REG, 27, 24⟩
def UPD_DEMAND.BACKSTOP : Loc := ⟨UPD_DEMAND.REG, 23, 20⟩
def UPD_DEMAND.HOST : Loc := ⟨UPD_DEMAND.REG, 19, 16⟩
def UPD_DEMAND.DEBT : Loc := ⟨UPD_DEMAND.REG, 15, 12⟩
def UPD_DEMAND.SECTOR : Loc := ⟨UPD_DEMAND.REG, 11, 8⟩
def UPD_DEMAND.DOMAIN : Loc := ⟨UPD_DEMAND.REG, 7, 4⟩
def UPD_DEMAND.THERMAL : Loc := ⟨UPD_DEMAND.REG, 3, 0⟩

/-! ## Registers of 12_clocks.md -/

/-- CLK_STATUS, BAR0 0x0004_0000 (12_clocks.md). -/
def CLK_STATUS.REG : Nat := 0x40000
def CLK_STATUS.LAST_CODE : Loc := ⟨CLK_STATUS.REG, 63, 48⟩
def CLK_STATUS.UNLOCKED : Loc := ⟨CLK_STATUS.REG, 47, 40⟩
def CLK_STATUS.SLIPS : Loc := ⟨CLK_STATUS.REG, 39, 32⟩
def CLK_STATUS.DAWN_BACKUP : Loc := ⟨CLK_STATUS.REG, 4, 4⟩
def CLK_STATUS.HOLDOVER_IDLE : Loc := ⟨CLK_STATUS.REG, 3, 3⟩
def CLK_STATUS.BILLOW_RUN : Loc := ⟨CLK_STATUS.REG, 2, 2⟩
def CLK_STATUS.ISB_LOCKED : Loc := ⟨CLK_STATUS.REG, 1, 1⟩
def CLK_STATUS.REF_OK : Loc := ⟨CLK_STATUS.REG, 0, 0⟩

/-- CLK_REF, BAR0 0x0004_0008 (12_clocks.md). -/
def CLK_REF.REG : Nat := 0x40008
def CLK_REF.HOLDOVER_US : Loc := ⟨CLK_REF.REG, 63, 32⟩
def CLK_REF.LOSSES : Loc := ⟨CLK_REF.REG, 31, 16⟩
def CLK_REF.PPM : Loc := ⟨CLK_REF.REG, 15, 0⟩

/-- CLK_OP, BAR0 0x0004_0010 (12_clocks.md). -/
def CLK_OP.REG : Nat := 0x40010
def CLK_OP.CHANGES : Loc := ⟨CLK_OP.REG, 39, 32⟩
def CLK_OP.PENDING : Loc := ⟨CLK_OP.REG, 11, 8⟩
def CLK_OP.MAX : Loc := ⟨CLK_OP.REG, 7, 4⟩
def CLK_OP.CUR : Loc := ⟨CLK_OP.REG, 2, 0⟩

/-- CLK_OP_REQ, BAR0 0x0004_0018 (12_clocks.md). -/
def CLK_OP_REQ.REG : Nat := 0x40018
def CLK_OP_REQ.GO : Loc := ⟨CLK_OP_REQ.REG, 3, 3⟩
def CLK_OP_REQ.TARGET : Loc := ⟨CLK_OP_REQ.REG, 2, 0⟩

/-- CLK_EVENT, BAR0 0x0004_0020 (12_clocks.md). -/
def CLK_EVENT.REG : Nat := 0x40020
def CLK_EVENT.VALID : Loc := ⟨CLK_EVENT.REG, 63, 63⟩
def CLK_EVENT.OVF : Loc := ⟨CLK_EVENT.REG, 62, 62⟩
def CLK_EVENT.NODE : Loc := ⟨CLK_EVENT.REG, 55, 48⟩
def CLK_EVENT.UNIT : Loc := ⟨CLK_EVENT.REG, 47, 40⟩
def CLK_EVENT.CODE : Loc := ⟨CLK_EVENT.REG, 31, 16⟩

/-- CLK_OP_COMMIT, BAR0 0x0004_0028 (12_clocks.md). -/
def CLK_OP_COMMIT.REG : Nat := 0x40028
def CLK_OP_COMMIT.T : Loc := ⟨CLK_OP_COMMIT.REG, 63, 0⟩

/-- CLK_OPTAB0–7, BAR0 0x0004_0040 + 8 * k, k = 0–7 (12_clocks.md). -/
def CLK_OPTAB.REG (k : Nat) : Nat := 0x40040 + k * 0x8
def CLK_OPTAB.EN (k : Nat) : Loc := ⟨CLK_OPTAB.REG k, 63, 63⟩
def CLK_OPTAB.FREQ (k : Nat) : Loc := ⟨CLK_OPTAB.REG k, 47, 32⟩
def CLK_OPTAB.K (k : Nat) : Loc := ⟨CLK_OPTAB.REG k, 31, 24⟩
def CLK_OPTAB.VC_SET (k : Nat) : Loc := ⟨CLK_OPTAB.REG k, 23, 16⟩
def CLK_OPTAB.SR_SET (k : Nat) : Loc := ⟨CLK_OPTAB.REG k, 15, 8⟩
def CLK_OPTAB.NR_SET (k : Nat) : Loc := ⟨CLK_OPTAB.REG k, 7, 0⟩

/-- ISB_COUNT, BAR0 0x0004_0100 (12_clocks.md). -/
def ISB_COUNT.REG : Nat := 0x40100
def ISB_COUNT.COUNT : Loc := ⟨ISB_COUNT.REG, 63, 0⟩

/-- ISB_STATUS, BAR0 0x0004_0108 (12_clocks.md). -/
def ISB_STATUS.REG : Nat := 0x40108
def ISB_STATUS.BEACON_LOSS : Loc := ⟨ISB_STATUS.REG, 63, 48⟩
def ISB_STATUS.STEPS : Loc := ⟨ISB_STATUS.REG, 47, 32⟩
def ISB_STATUS.SRC : Loc := ⟨ISB_STATUS.REG, 3, 2⟩
def ISB_STATUS.PTP_LOCKED : Loc := ⟨ISB_STATUS.REG, 1, 1⟩

/-- ISB_EPOCH, BAR0 0x0004_0110 (12_clocks.md). -/
def ISB_EPOCH.REG : Nat := 0x40110
def ISB_EPOCH.EPOCH : Loc := ⟨ISB_EPOCH.REG, 63, 0⟩

/-- ISB_PTP_CFG, BAR0 0x0004_0118 (12_clocks.md). -/
def ISB_PTP_CFG.REG : Nat := 0x40118
def ISB_PTP_CFG.DOMAIN : Loc := ⟨ISB_PTP_CFG.REG, 63, 56⟩
def ISB_PTP_CFG.IPV6 : Loc := ⟨ISB_PTP_CFG.REG, 1, 1⟩
def ISB_PTP_CFG.EN : Loc := ⟨ISB_PTP_CFG.REG, 0, 0⟩

/-- ISB_PTP_STAT, BAR0 0x0004_0120 (12_clocks.md). -/
def ISB_PTP_STAT.REG : Nat := 0x40120
def ISB_PTP_STAT.OFFSET : Loc := ⟨ISB_PTP_STAT.REG, 63, 32⟩
def ISB_PTP_STAT.UTC_OFFSET : Loc := ⟨ISB_PTP_STAT.REG, 31, 16⟩
def ISB_PTP_STAT.PORT : Loc := ⟨ISB_PTP_STAT.REG, 7, 4⟩
def ISB_PTP_STAT.STEERING : Loc := ⟨ISB_PTP_STAT.REG, 1, 1⟩
def ISB_PTP_STAT.LOCKED : Loc := ⟨ISB_PTP_STAT.REG, 0, 0⟩

/-- CLK_SITE0–168, BAR0 0x0004_1000 + 8 * s, s = 0–168 (12_clocks.md). -/
def CLK_SITE.REG (s : Nat) : Nat := 0x41000 + s * 0x8
def CLK_SITE.SLIPS (s : Nat) : Loc := ⟨CLK_SITE.REG s, 63, 56⟩
def CLK_SITE.STEPS (s : Nat) : Loc := ⟨CLK_SITE.REG s, 55, 48⟩
def CLK_SITE.LOST (s : Nat) : Loc := ⟨CLK_SITE.REG s, 39, 36⟩
def CLK_SITE.COUPLED (s : Nat) : Loc := ⟨CLK_SITE.REG s, 35, 32⟩
def CLK_SITE.BEACON_OK (s : Nat) : Loc := ⟨CLK_SITE.REG s, 2, 2⟩
def CLK_SITE.HOLD (s : Nat) : Loc := ⟨CLK_SITE.REG s, 1, 1⟩
def CLK_SITE.LOCK (s : Nat) : Loc := ⟨CLK_SITE.REG s, 0, 0⟩

/-! ## Registers of 13_overcast.md -/

/-- OVC_CTRL, BAR0 0x0003_0000 (13_overcast.md). -/
def OVC_CTRL.REG : Nat := 0x30000
def OVC_CTRL.ABANDON : Loc := ⟨OVC_CTRL.REG, 1, 1⟩
def OVC_CTRL.LOAD : Loc := ⟨OVC_CTRL.REG, 0, 0⟩

/-- OVC_SRC, BAR0 0x0003_0008 (13_overcast.md). -/
def OVC_SRC.REG : Nat := 0x30008
def OVC_SRC.PPA : Loc := ⟨OVC_SRC.REG, 55, 0⟩

/-- OVC_LEN, BAR0 0x0003_0010 (13_overcast.md). -/
def OVC_LEN.REG : Nat := 0x30010
def OVC_LEN.LEN : Loc := ⟨OVC_LEN.REG, 32, 0⟩

/-- OVC_STATUS, BAR0 0x0003_0018 (13_overcast.md). -/
def OVC_STATUS.REG : Nat := 0x30018
def OVC_STATUS.LAST_CODE : Loc := ⟨OVC_STATUS.REG, 63, 48⟩
def OVC_STATUS.SECTION : Loc := ⟨OVC_STATUS.REG, 47, 40⟩
def OVC_STATUS.SITE : Loc := ⟨OVC_STATUS.REG, 39, 32⟩
def OVC_STATUS.STATE : Loc := ⟨OVC_STATUS.REG, 3, 0⟩

/-- OVC_IMAGE, BAR0 0x0003_0020 (13_overcast.md). -/
def OVC_IMAGE.REG : Nat := 0x30020
def OVC_IMAGE.ID : Loc := ⟨OVC_IMAGE.REG, 63, 0⟩

/-- OVC_STAGED, BAR0 0x0003_0028 (13_overcast.md). -/
def OVC_STAGED.REG : Nat := 0x30028
def OVC_STAGED.ID : Loc := ⟨OVC_STAGED.REG, 63, 0⟩

/-- OVC_ARM, BAR0 0x0003_0030 (13_overcast.md). -/
def OVC_ARM.REG : Nat := 0x30030
def OVC_ARM.ID : Loc := ⟨OVC_ARM.REG, 63, 48⟩
def OVC_ARM.KIND : Loc := ⟨OVC_ARM.REG, 47, 44⟩
def OVC_ARM.STATE : Loc := ⟨OVC_ARM.REG, 43, 40⟩
def OVC_ARM.ACKS : Loc := ⟨OVC_ARM.REG, 39, 32⟩
def OVC_ARM.UNITS : Loc := ⟨OVC_ARM.REG, 31, 24⟩

/-- OVC_ARM_CFG, BAR0 0x0003_0038 (13_overcast.md). -/
def OVC_ARM_CFG.REG : Nat := 0x30038
def OVC_ARM_CFG.LEAD : Loc := ⟨OVC_ARM_CFG.REG, 31, 0⟩

/-- OVC_ARM_T, BAR0 0x0003_0040 (13_overcast.md). -/
def OVC_ARM_T.REG : Nat := 0x30040
def OVC_ARM_T.T : Loc := ⟨OVC_ARM_T.REG, 63, 0⟩

/-- OVC_ARM_MISS, BAR0 0x0003_0048 (13_overcast.md). -/
def OVC_ARM_MISS.REG : Nat := 0x30048
def OVC_ARM_MISS.NODE : Loc := ⟨OVC_ARM_MISS.REG, 63, 56⟩
def OVC_ARM_MISS.CODE : Loc := ⟨OVC_ARM_MISS.REG, 55, 40⟩

/-- OVC_FUSE, BAR0 0x0003_0050 (13_overcast.md). -/
def OVC_FUSE.REG : Nat := 0x30050
def OVC_FUSE.SVN_MIN : Loc := ⟨OVC_FUSE.REG, 11, 4⟩
def OVC_FUSE.COSIGN : Loc := ⟨OVC_FUSE.REG, 3, 0⟩

/-! ## Registers of 14_bringup.md -/

/-- RST_STATUS, BAR0 0x0001_0000 (14_bringup.md). -/
def RST_STATUS.REG : Nat := 0x10000
def RST_STATUS.LAST_CODE : Loc := ⟨RST_STATUS.REG, 63, 48⟩
def RST_STATUS.WINDOW_S : Loc := ⟨RST_STATUS.REG, 47, 40⟩
def RST_STATUS.TARGET : Loc := ⟨RST_STATUS.REG, 39, 36⟩
def RST_STATUS.WINDOW : Loc := ⟨RST_STATUS.REG, 15, 15⟩
def RST_STATUS.READY : Loc := ⟨RST_STATUS.REG, 14, 14⟩
def RST_STATUS.COLD : Loc := ⟨RST_STATUS.REG, 13, 13⟩
def RST_STATUS.PSTATE : Loc := ⟨RST_STATUS.REG, 3, 0⟩

/-- RST_CTRL, BAR0 0x0001_0008 (14_bringup.md). -/
def RST_CTRL.REG : Nat := 0x10008
def RST_CTRL.KEY : Loc := ⟨RST_CTRL.REG, 31, 24⟩
def RST_CTRL.GO : Loc := ⟨RST_CTRL.REG, 8, 8⟩
def RST_CTRL.LEVEL : Loc := ⟨RST_CTRL.REG, 1, 0⟩

/-- RST_PWR_REQ, BAR0 0x0001_0010 (14_bringup.md). -/
def RST_PWR_REQ.REG : Nat := 0x10010
def RST_PWR_REQ.REASON : Loc := ⟨RST_PWR_REQ.REG, 15, 12⟩
def RST_PWR_REQ.GO : Loc := ⟨RST_PWR_REQ.REG, 8, 8⟩
def RST_PWR_REQ.TARGET : Loc := ⟨RST_PWR_REQ.REG, 3, 0⟩

/-- RST_MAP, BAR0 0x0001_0018 (14_bringup.md). -/
def RST_MAP.REG : Nat := 0x10018
def RST_MAP.DOLD_LIMIT : Loc := ⟨RST_MAP.REG, 34, 32⟩
def RST_MAP.LEVEL : Loc := ⟨RST_MAP.REG, 31, 0⟩

/-- RST_PARK, BAR0 0x0001_0020 (14_bringup.md). -/
def RST_PARK.REG : Nat := 0x10020
def RST_PARK.PARK : Loc := ⟨RST_PARK.REG, 0, 0⟩

/-- RST_FW_SRC, BAR0 0x0001_0100 (14_bringup.md). -/
def RST_FW_SRC.REG : Nat := 0x10100
def RST_FW_SRC.PPA : Loc := ⟨RST_FW_SRC.REG, 55, 0⟩

/-- RST_FW_LEN, BAR0 0x0001_0108 (14_bringup.md). -/
def RST_FW_LEN.REG : Nat := 0x10108
def RST_FW_LEN.LEN : Loc := ⟨RST_FW_LEN.REG, 32, 0⟩

/-- RST_FW_CTRL, BAR0 0x0001_0110 (14_bringup.md). -/
def RST_FW_CTRL.REG : Nat := 0x10110
def RST_FW_CTRL.SITE : Loc := ⟨RST_FW_CTRL.REG, 63, 56⟩
def RST_FW_CTRL.GO : Loc := ⟨RST_FW_CTRL.REG, 8, 8⟩
def RST_FW_CTRL.OP : Loc := ⟨RST_FW_CTRL.REG, 2, 0⟩

/-- RST_FW_BLOCKS, BAR0 0x0001_0118 (14_bringup.md). -/
def RST_FW_BLOCKS.REG : Nat := 0x10118
def RST_FW_BLOCKS.MASK : Loc := ⟨RST_FW_BLOCKS.REG, 63, 0⟩

/-- RST_FW_STATUS, BAR0 0x0001_0120 (14_bringup.md). -/
def RST_FW_STATUS.REG : Nat := 0x10120
def RST_FW_STATUS.UNITS : Loc := ⟨RST_FW_STATUS.REG, 63, 56⟩
def RST_FW_STATUS.COMPLETE : Loc := ⟨RST_FW_STATUS.REG, 55, 48⟩
def RST_FW_STATUS.READY : Loc := ⟨RST_FW_STATUS.REG, 47, 40⟩
def RST_FW_STATUS.DIGEST_BAD : Loc := ⟨RST_FW_STATUS.REG, 39, 32⟩
def RST_FW_STATUS.CRC_FAILS : Loc := ⟨RST_FW_STATUS.REG, 31, 16⟩
def RST_FW_STATUS.N : Loc := ⟨RST_FW_STATUS.REG, 15, 8⟩
def RST_FW_STATUS.STARTED : Loc := ⟨RST_FW_STATUS.REG, 4, 4⟩
def RST_FW_STATUS.AUTH_OK : Loc := ⟨RST_FW_STATUS.REG, 3, 3⟩
def RST_FW_STATUS.BUSY : Loc := ⟨RST_FW_STATUS.REG, 2, 2⟩

/-- RST_FW_MISSCNT0–7, BAR0 0x0001_0140 + 8 * i, i = 0–7 (14_bringup.md). -/
def RST_FW_MISSCNT.REG (i : Nat) : Nat := 0x10140 + i * 0x8
def RST_FW_MISSCNT.COUNT (i : Nat) : Loc := ⟨RST_FW_MISSCNT.REG i, 63, 0⟩

/-- RST_FW_MISS0–168, BAR0 0x0001_1000 + 8 * s, s = 0–168 (14_bringup.md). -/
def RST_FW_MISS.REG (s : Nat) : Nat := 0x11000 + s * 0x8
def RST_FW_MISS.MISS (s : Nat) : Loc := ⟨RST_FW_MISS.REG s, 63, 0⟩

/-- DWN_CAUSE0, BAR0 0x0002_0000 (14_bringup.md). -/
def DWN_CAUSE0.REG : Nat := 0x20000
def DWN_CAUSE0.CODE : Loc := ⟨DWN_CAUSE0.REG, 63, 48⟩
def DWN_CAUSE0.SOURCE : Loc := ⟨DWN_CAUSE0.REG, 47, 40⟩
def DWN_CAUSE0.LEVEL : Loc := ⟨DWN_CAUSE0.REG, 39, 38⟩
def DWN_CAUSE0.RESET : Loc := ⟨DWN_CAUSE0.REG, 37, 37⟩
def DWN_CAUSE0.MERGED : Loc := ⟨DWN_CAUSE0.REG, 36, 36⟩
def DWN_CAUSE0.FAILS : Loc := ⟨DWN_CAUSE0.REG, 35, 32⟩
def DWN_CAUSE0.PSTATE : Loc := ⟨DWN_CAUSE0.REG, 31, 28⟩

/-- DWN_CAUSE1, BAR0 0x0002_0008 (14_bringup.md). -/
def DWN_CAUSE1.REG : Nat := 0x20008
def DWN_CAUSE1.TIME : Loc := ⟨DWN_CAUSE1.REG, 63, 0⟩

/-- DWN_STATUS, BAR0 0x0002_0010 (14_bringup.md). -/
def DWN_STATUS.REG : Nat := 0x20010
def DWN_STATUS.WAIT_MS : Loc := ⟨DWN_STATUS.REG, 63, 32⟩
def DWN_STATUS.HOLD : Loc := ⟨DWN_STATUS.REG, 6, 6⟩
def DWN_STATUS.WAIT : Loc := ⟨DWN_STATUS.REG, 5, 0⟩

/-- DWN_DOLD, BAR0 0x0002_0018 (14_bringup.md). -/
def DWN_DOLD.REG : Nat := 0x20018
def DWN_DOLD.ENTRIES : Loc := ⟨DWN_DOLD.REG, 15, 8⟩
def DWN_DOLD.ACTIVE : Loc := ⟨DWN_DOLD.REG, 1, 1⟩
def DWN_DOLD.EXIT : Loc := ⟨DWN_DOLD.REG, 0, 0⟩

/-- DWN_WDOG, BAR0 0x0002_0020 (14_bringup.md). -/
def DWN_WDOG.REG : Nat := 0x20020
def DWN_WDOG.REMAIN : Loc := ⟨DWN_WDOG.REG, 63, 32⟩
def DWN_WDOG.PERIOD : Loc := ⟨DWN_WDOG.REG, 31, 0⟩

/-! ## Registers of 15_spares.md -/

/-- HUB_SPARE_STATUS, BAR0 0x0000_0300 (15_spares.md). -/
def HUB_SPARE_STATUS.REG : Nat := 0x300
def HUB_SPARE_STATUS.LAST_CODE : Loc := ⟨HUB_SPARE_STATUS.REG, 63, 48⟩
def HUB_SPARE_STATUS.SWAPS : Loc := ⟨HUB_SPARE_STATUS.REG, 47, 40⟩
def HUB_SPARE_STATUS.RETIRED : Loc := ⟨HUB_SPARE_STATUS.REG, 39, 32⟩
def HUB_SPARE_STATUS.DEFERRED : Loc := ⟨HUB_SPARE_STATUS.REG, 31, 24⟩
def HUB_SPARE_STATUS.STATE : Loc := ⟨HUB_SPARE_STATUS.REG, 3, 0⟩

/-- HUB_SPARE_CTRL, BAR0 0x0000_0308 (15_spares.md). -/
def HUB_SPARE_CTRL.REG : Nat := 0x308
def HUB_SPARE_CTRL.SPARE : Loc := ⟨HUB_SPARE_CTRL.REG, 15, 8⟩
def HUB_SPARE_CTRL.ABANDON : Loc := ⟨HUB_SPARE_CTRL.REG, 1, 1⟩
def HUB_SPARE_CTRL.HOST_DONE : Loc := ⟨HUB_SPARE_CTRL.REG, 0, 0⟩

/-- HUB_SPARE_CFG, BAR0 0x0000_0310 (15_spares.md). -/
def HUB_SPARE_CFG.REG : Nat := 0x310
def HUB_SPARE_CFG.HOST_LIMIT : Loc := ⟨HUB_SPARE_CFG.REG, 63, 32⟩
def HUB_SPARE_CFG.DEFER_EN : Loc := ⟨HUB_SPARE_CFG.REG, 0, 0⟩

/-- HUB_SPARE_LOG, BAR0 0x0000_0318 (15_spares.md). -/
def HUB_SPARE_LOG.REG : Nat := 0x318
def HUB_SPARE_LOG.VALID : Loc := ⟨HUB_SPARE_LOG.REG, 63, 63⟩
def HUB_SPARE_LOG.OVF : Loc := ⟨HUB_SPARE_LOG.REG, 62, 62⟩
def HUB_SPARE_LOG.SECTOR : Loc := ⟨HUB_SPARE_LOG.REG, 59, 56⟩
def HUB_SPARE_LOG.SITE : Loc := ⟨HUB_SPARE_LOG.REG, 55, 48⟩
def HUB_SPARE_LOG.OTHER : Loc := ⟨HUB_SPARE_LOG.REG, 47, 40⟩
def HUB_SPARE_LOG.CODE : Loc := ⟨HUB_SPARE_LOG.REG, 31, 16⟩

/-- HUB_SPARE_COPY, BAR0 0x0000_0320 (15_spares.md). -/
def HUB_SPARE_COPY.REG : Nat := 0x320
def HUB_SPARE_COPY.SPARE : Loc := ⟨HUB_SPARE_COPY.REG, 63, 56⟩
def HUB_SPARE_COPY.FOR : Loc := ⟨HUB_SPARE_COPY.REG, 55, 48⟩
def HUB_SPARE_COPY.SOURCE : Loc := ⟨HUB_SPARE_COPY.REG, 47, 44⟩
def HUB_SPARE_COPY.ATTEMPT : Loc := ⟨HUB_SPARE_COPY.REG, 43, 40⟩
def HUB_SPARE_COPY.ROWS : Loc := ⟨HUB_SPARE_COPY.REG, 21, 0⟩

/-- HUB_SECTOR0–15, BAR0 0x0000_0340 + 8 * g, g = 0–15 (15_spares.md). -/
def HUB_SECTOR.REG (g : Nat) : Nat := 0x340 + g * 0x8
def HUB_SECTOR.SPARE (g : Nat) : Loc := ⟨HUB_SECTOR.REG g, 63, 56⟩
def HUB_SECTOR.FOR (g : Nat) : Loc := ⟨HUB_SECTOR.REG g, 55, 48⟩
def HUB_SECTOR.IN_SERVICE (g : Nat) : Loc := ⟨HUB_SECTOR.REG g, 47, 40⟩
def HUB_SECTOR.DEFERRED (g : Nat) : Loc := ⟨HUB_SECTOR.REG g, 39, 32⟩
def HUB_SECTOR.STATE (g : Nat) : Loc := ⟨HUB_SECTOR.REG g, 3, 0⟩

/-- HUB_SUBST0–15, BAR0 0x0000_03C0 + 8 * g, g = 0–15 (15_spares.md). -/
def HUB_SUBST.REG (g : Nat) : Nat := 0x3c0 + g * 0x8
def HUB_SUBST.VALID (g : Nat) : Loc := ⟨HUB_SUBST.REG g, 63, 63⟩
def HUB_SUBST.FROM (g : Nat) : Loc := ⟨HUB_SUBST.REG g, 15, 8⟩
def HUB_SUBST.TO (g : Nat) : Loc := ⟨HUB_SUBST.REG g, 7, 0⟩

/-! ## Registers of 16_host.md -/

/-- HUB_B4AP0–15, BAR0 0x0000_0C00 + 8 * i, i = 0–15 (16_host.md). -/
def HUB_B4AP.REG (i : Nat) : Nat := 0xc00 + i * 0x8
def HUB_B4AP.EN (i : Nat) : Loc := ⟨HUB_B4AP.REG i, 63, 63⟩
def HUB_B4AP.BASE (i : Nat) : Loc := ⟨HUB_B4AP.REG i, 55, 0⟩

/-- HUB_PCIE, BAR0 0x0000_0C80 (16_host.md). -/
def HUB_PCIE.REG : Nat := 0xc80
def HUB_PCIE.SPEED : Loc := ⟨HUB_PCIE.REG, 63, 60⟩
def HUB_PCIE.WIDTH : Loc := ⟨HUB_PCIE.REG, 59, 54⟩
def HUB_PCIE.FLIT : Loc := ⟨HUB_PCIE.REG, 53, 53⟩
def HUB_PCIE.BME : Loc := ⟨HUB_PCIE.REG, 52, 52⟩
def HUB_PCIE.MSIX_EN : Loc := ⟨HUB_PCIE.REG, 51, 51⟩
def HUB_PCIE.DEGRADED : Loc := ⟨HUB_PCIE.REG, 50, 50⟩
def HUB_PCIE.LINK_DOWNS : Loc := ⟨HUB_PCIE.REG, 47, 32⟩

/-- HUB_IRQ_CFG, BAR0 0x0000_0C88 (16_host.md). -/
def HUB_IRQ_CFG.REG : Nat := 0xc88
def HUB_IRQ_CFG.HOLDOFF : Loc := ⟨HUB_IRQ_CFG.REG, 63, 48⟩
def HUB_IRQ_CFG.BARO_MIN : Loc := ⟨HUB_IRQ_CFG.REG, 41, 40⟩

/-- HUB_EVENT, BAR0 0x0000_0C90 (16_host.md). -/
def HUB_EVENT.REG : Nat := 0xc90
def HUB_EVENT.MGT : Loc := ⟨HUB_EVENT.REG, 10, 10⟩
def HUB_EVENT.GUEST : Loc := ⟨HUB_EVENT.REG, 9, 9⟩
def HUB_EVENT.MODULE : Loc := ⟨HUB_EVENT.REG, 8, 8⟩
def HUB_EVENT.EMERG : Loc := ⟨HUB_EVENT.REG, 7, 7⟩
def HUB_EVENT.DISC : Loc := ⟨HUB_EVENT.REG, 6, 6⟩
def HUB_EVENT.OP : Loc := ⟨HUB_EVENT.REG, 5, 5⟩
def HUB_EVENT.FW : Loc := ⟨HUB_EVENT.REG, 4, 4⟩
def HUB_EVENT.OVC : Loc := ⟨HUB_EVENT.REG, 3, 3⟩
def HUB_EVENT.READY : Loc := ⟨HUB_EVENT.REG, 2, 2⟩
def HUB_EVENT.PSTATE : Loc := ⟨HUB_EVENT.REG, 1, 1⟩
def HUB_EVENT.SPARE_LOG : Loc := ⟨HUB_EVENT.REG, 0, 0⟩

/-- HUB_MBX_PEND0–2, BAR0 0x0000_0C98 + 8 * i, i = 0–2 (16_host.md). -/
def HUB_MBX_PEND.REG (i : Nat) : Nat := 0xc98 + i * 0x8
def HUB_MBX_PEND.PEND (i : Nat) : Loc := ⟨HUB_MBX_PEND.REG i, 63, 0⟩

/-- HUB_GRX_PEND0–7, BAR0 0x0000_0CB0 + 8 * i, i = 0–7 (16_host.md). -/
def HUB_GRX_PEND.REG (i : Nat) : Nat := 0xcb0 + i * 0x8
def HUB_GRX_PEND.PEND (i : Nat) : Loc := ⟨HUB_GRX_PEND.REG i, 63, 0⟩

/-- HUB_HST_ERR, BAR0 0x0000_0CF0 (16_host.md). -/
def HUB_HST_ERR.REG : Nat := 0xcf0
def HUB_HST_ERR.SIZE : Loc := ⟨HUB_HST_ERR.REG, 63, 48⟩
def HUB_HST_ERR.UNMAPPED : Loc := ⟨HUB_HST_ERR.REG, 47, 32⟩
def HUB_HST_ERR.DARK : Loc := ⟨HUB_HST_ERR.REG, 31, 16⟩
def HUB_HST_ERR.LAST_CODE : Loc := ⟨HUB_HST_ERR.REG, 15, 0⟩

/-- HUB_HST_ADDR, BAR0 0x0000_0CF8 (16_host.md). -/
def HUB_HST_ADDR.REG : Nat := 0xcf8
def HUB_HST_ADDR.SOURCE : Loc := ⟨HUB_HST_ADDR.REG, 63, 62⟩
def HUB_HST_ADDR.WRITE : Loc := ⟨HUB_HST_ADDR.REG, 61, 61⟩
def HUB_HST_ADDR.BAR2 : Loc := ⟨HUB_HST_ADDR.REG, 60, 60⟩
def HUB_HST_ADDR.BYTES : Loc := ⟨HUB_HST_ADDR.REG, 59, 56⟩
def HUB_HST_ADDR.ADDR : Loc := ⟨HUB_HST_ADDR.REG, 25, 0⟩

/-- HUB_MGT0–1, BAR0 0x0000_0D00 + 8 * p, p = 0–1 (16_host.md). -/
def HUB_MGT.REG (p : Nat) : Nat := 0xd00 + p * 0x8
def HUB_MGT.STATE (p : Nat) : Loc := ⟨HUB_MGT.REG p, 63, 60⟩
def HUB_MGT.FEC (p : Nat) : Loc := ⟨HUB_MGT.REG p, 59, 58⟩
def HUB_MGT.MAC (p : Nat) : Loc := ⟨HUB_MGT.REG p, 47, 0⟩

/-- HUB_MGT_IP0–1, BAR0 0x0000_0D10 + 8 * p, p = 0–1 (16_host.md). -/
def HUB_MGT_IP.REG (p : Nat) : Nat := 0xd10 + p * 0x8
def HUB_MGT_IP.STATIC (p : Nat) : Loc := ⟨HUB_MGT_IP.REG p, 63, 63⟩
def HUB_MGT_IP.BOUND (p : Nat) : Loc := ⟨HUB_MGT_IP.REG p, 62, 62⟩
def HUB_MGT_IP.PREFIX (p : Nat) : Loc := ⟨HUB_MGT_IP.REG p, 55, 48⟩
def HUB_MGT_IP.ADDR (p : Nat) : Loc := ⟨HUB_MGT_IP.REG p, 31, 0⟩

/-- HUB_MGT_KEY0–3, BAR0 0x0000_0D20 + 8 * k, k = 0–3 (16_host.md). -/
def HUB_MGT_KEY.REG (k : Nat) : Nat := 0xd20 + k * 0x8
def HUB_MGT_KEY.KEY (k : Nat) : Loc := ⟨HUB_MGT_KEY.REG k, 63, 0⟩

/-- HUB_MGT_CPER, BAR0 0x0000_0D40 (16_host.md). -/
def HUB_MGT_CPER.REG : Nat := 0xd40
def HUB_MGT_CPER.EN : Loc := ⟨HUB_MGT_CPER.REG, 63, 63⟩
def HUB_MGT_CPER.MIN : Loc := ⟨HUB_MGT_CPER.REG, 55, 54⟩
def HUB_MGT_CPER.PORT : Loc := ⟨HUB_MGT_CPER.REG, 47, 32⟩
def HUB_MGT_CPER.ADDR : Loc := ⟨HUB_MGT_CPER.REG, 31, 0⟩

/-- HUB_MGT_STAT, BAR0 0x0000_0D48 (16_host.md). -/
def HUB_MGT_STAT.REG : Nat := 0xd48
def HUB_MGT_STAT.AUTH_FAILS : Loc := ⟨HUB_MGT_STAT.REG, 63, 48⟩
def HUB_MGT_STAT.CPER_LOST : Loc := ⟨HUB_MGT_STAT.REG, 47, 32⟩
def HUB_MGT_STAT.REQUESTS : Loc := ⟨HUB_MGT_STAT.REG, 31, 16⟩
def HUB_MGT_STAT.KEY_SET : Loc := ⟨HUB_MGT_STAT.REG, 0, 0⟩

/-- HUB_SMB_CMD, BAR0 0x0000_0E00 (16_host.md). -/
def HUB_SMB_CMD.REG : Nat := 0xe00
def HUB_SMB_CMD.GO : Loc := ⟨HUB_SMB_CMD.REG, 63, 63⟩
def HUB_SMB_CMD.BUSY : Loc := ⟨HUB_SMB_CMD.REG, 62, 62⟩
def HUB_SMB_CMD.STATUS : Loc := ⟨HUB_SMB_CMD.REG, 61, 60⟩
def HUB_SMB_CMD.MOD : Loc := ⟨HUB_SMB_CMD.REG, 59, 56⟩
def HUB_SMB_CMD.BANK : Loc := ⟨HUB_SMB_CMD.REG, 55, 52⟩
def HUB_SMB_CMD.PAGE : Loc := ⟨HUB_SMB_CMD.REG, 51, 44⟩
def HUB_SMB_CMD.OFFSET : Loc := ⟨HUB_SMB_CMD.REG, 43, 36⟩
def HUB_SMB_CMD.LEN : Loc := ⟨HUB_SMB_CMD.REG, 35, 28⟩

/-- HUB_SMB_DATA0–15, BAR0 0x0000_0E08 + 8 * i, i = 0–15 (16_host.md). -/
def HUB_SMB_DATA.REG (i : Nat) : Nat := 0xe08 + i * 0x8
def HUB_SMB_DATA.DATA (i : Nat) : Loc := ⟨HUB_SMB_DATA.REG i, 63, 0⟩

/-- GST_STATUS, BAR0 0x001E_0000 + g * 0x8000 + 0x000 (16_host.md). -/
def GST_STATUS.REG (g : Nat) : Nat := 0x1e0000 + g * 0x8000
def GST_STATUS.LAST_CODE (g : Nat) : Loc := ⟨GST_STATUS.REG g, 63, 48⟩
def GST_STATUS.WHY (g : Nat) : Loc := ⟨GST_STATUS.REG g, 47, 44⟩
def GST_STATUS.RATE (g : Nat) : Loc := ⟨GST_STATUS.REG g, 39, 32⟩
def GST_STATUS.WIDTH (g : Nat) : Loc := ⟨GST_STATUS.REG g, 31, 24⟩
def GST_STATUS.RETRAINS (g : Nat) : Loc := ⟨GST_STATUS.REG g, 23, 16⟩
def GST_STATUS.STATE (g : Nat) : Loc := ⟨GST_STATUS.REG g, 3, 0⟩

/-- GST_CTRL, BAR0 0x001E_0000 + g * 0x8000 + 0x008 (16_host.md). -/
def GST_CTRL.REG (g : Nat) : Nat := 0x1e0008 + g * 0x8000
def GST_CTRL.RETRY (g : Nat) : Loc := ⟨GST_CTRL.REG g, 1, 1⟩
def GST_CTRL.EN (g : Nat) : Loc := ⟨GST_CTRL.REG g, 0, 0⟩

/-- GST_CAP0–7, BAR0 0x001E_0000 + g * 0x8000 + 0x010 + 8 * i, i = 0–7 (16_host.md). -/
def GST_CAP.REG (g i : Nat) : Nat := 0x1e0010 + g * 0x8000 + i * 0x8
def GST_CAP.CAP (g i : Nat) : Loc := ⟨GST_CAP.REG g i, 63, 0⟩

/-- GST_ERR, BAR0 0x001E_0000 + g * 0x8000 + 0x050 (16_host.md). -/
def GST_ERR.REG (g : Nat) : Nat := 0x1e0050 + g * 0x8000
def GST_ERR.TIMEOUTS (g : Nat) : Loc := ⟨GST_ERR.REG g, 63, 48⟩
def GST_ERR.VIOLATIONS (g : Nat) : Loc := ⟨GST_ERR.REG g, 47, 32⟩
def GST_ERR.REFUSED (g : Nat) : Loc := ⟨GST_ERR.REG g, 31, 16⟩
def GST_ERR.LATE (g : Nat) : Loc := ⟨GST_ERR.REG g, 15, 0⟩

/-- GST_TRAFFIC, BAR0 0x001E_0000 + g * 0x8000 + 0x058 (16_host.md). -/
def GST_TRAFFIC.REG (g : Nat) : Nat := 0x1e0058 + g * 0x8000
def GST_TRAFFIC.READS (g : Nat) : Loc := ⟨GST_TRAFFIC.REG g, 63, 32⟩
def GST_TRAFFIC.WRITES (g : Nat) : Loc := ⟨GST_TRAFFIC.REG g, 31, 0⟩

end Sys2Proof.Machine
end

