-- ==== Sys2Proof/Machine/RegTable.lean ====
section
/-! DEFINITION. The register table: for each register its address, the strides and counts of its copies, which reset
levels give it its Reset value, and each field's place, type and Reset value (R14 and Table 0.8; the reset groups are those of
R313, R403, R436, R463, R499, R527, R547, R592, R593 and Table 14.1). Transcribed from the spec's register
tables. -/

namespace Sys2Proof.Machine

/-- Registers of 00_scope.md, part 0. -/
def regTable_00_0 : List RegDesc :=
  [
  ⟨"HUB_IDENT", 0x0, [], .hub,
    [⟨63, 48, .ro, .val 0xe90⟩,
     ⟨47, 40, .ro, .val 0x21⟩,
     ⟨39, 32, .ro, .val 0x12⟩,
     ⟨31, 24, .ro, .val 0x21⟩,
     ⟨23, 16, .ro, .val 0x11⟩,
     ⟨15, 8, .ro, .val 0x3⟩,
     ⟨7, 4, .ro, .val 2⟩]⟩,
  ⟨"HUB_SERIAL", 0x8, [], .hub,
    [⟨63, 56, .ro, .fuse⟩,
     ⟨55, 40, .ro, .fuse⟩,
     ⟨39, 0, .ro, .fuse⟩]⟩,
  ⟨"SIT_IDENT", 0x1000000, [⟨0x10000, 0, 169⟩], .fabric,
    [⟨63, 56, .ro, .val 0x21⟩,
     ⟨55, 48, .ro, .val 0x20⟩,
     ⟨47, 44, .ro, .val 3⟩,
     ⟨43, 42, .ro, .strapOri⟩,
     ⟨41, 34, .ro, .strapSite⟩]⟩,
  ⟨"SIT_SERIAL", 0x1000008, [⟨0x10000, 0, 169⟩], .fabric,
    [⟨63, 32, .ro, .fuse⟩,
     ⟨31, 0, .ro, .fuse⟩]⟩ ]

/-- Registers of 01_panel.md, part 0. -/
def regTable_01_0 : List RegDesc :=
  [
  ⟨"HUB_DISC_STATUS", 0x10, [], .fabric,
    [⟨63, 56, .ro, .val 0⟩,
     ⟨55, 48, .ro, .val 0⟩,
     ⟨47, 40, .ro, .val 0⟩,
     ⟨39, 24, .ro, .val 0⟩,
     ⟨23, 8, .ro, .val 0⟩,
     ⟨1, 1, .ro, .val 0⟩,
     ⟨0, 0, .ro, .val 0⟩]⟩,
  ⟨"HUB_SITE_OK0", 0x18, [], .fabric,
    [⟨63, 0, .ro, .val 0⟩]⟩,
  ⟨"HUB_SITE_OK1", 0x20, [], .fabric,
    [⟨63, 0, .ro, .val 0⟩]⟩,
  ⟨"HUB_SITE_OK2", 0x28, [], .fabric,
    [⟨40, 0, .ro, .val 0⟩]⟩,
  ⟨"HUB_RING_OK", 0x30, [], .fabric,
    [⟨43, 0, .ro, .val 0⟩]⟩,
  ⟨"HUB_DISC_LOG", 0x38, [], .fabric,
    [⟨63, 63, .rc, .val 0⟩,
     ⟨62, 62, .rc, .val 0⟩,
     ⟨56, 56, .rc, .val 0⟩,
     ⟨55, 48, .rc, .val 0⟩,
     ⟨31, 16, .rc, .val 0⟩]⟩,
  ⟨"HUB_HPORT", 0x40, [], .fabric,
    [⟨47, 0, .ro, .val 0xffffffffffff⟩]⟩,
  ⟨"SIT_PORTMAP", 0x1000010, [⟨0x10000, 0, 169⟩], .fabric,
    [⟨63, 56, .ro, .val 0⟩,
     ⟨55, 48, .ro, .val 0⟩,
     ⟨47, 40, .ro, .val 0⟩,
     ⟨39, 32, .ro, .val 0⟩,
     ⟨31, 24, .ro, .val 0⟩,
     ⟨23, 16, .ro, .val 0⟩,
     ⟨15, 8, .ro, .val 0⟩,
     ⟨7, 0, .ro, .val 0⟩]⟩ ]

/-- Registers of 02_arrays.md, part 0. -/
def regTable_02_0 : List RegDesc :=
  [
  ⟨"MXA_CTRL", 0x1002000, [⟨0x10000, 0, 169⟩, ⟨0x200, 0, 18⟩], .fabric,
    [⟨16, 16, .w1s, .val 0⟩,
     ⟨8, 0, .rw, .val 0⟩]⟩,
  ⟨"MXA_STATUS", 0x1002008, [⟨0x10000, 0, 169⟩, ⟨0x200, 0, 18⟩], .fabric,
    [⟨63, 48, .ro, .val 0⟩,
     ⟨40, 32, .ro, .val 0⟩,
     ⟨23, 20, .ro, .val 0⟩,
     ⟨15, 15, .ro, .val 0⟩,
     ⟨14, 14, .ro, .val 0⟩,
     ⟨13, 13, .ro, .val 0⟩,
     ⟨12, 12, .ro, .val 0⟩,
     ⟨3, 0, .ro, .val 0⟩]⟩,
  ⟨"MXA_FMT", 0x1002010, [⟨0x10000, 0, 169⟩, ⟨0x200, 0, 18⟩], .fabric,
    [⟨63, 60, .ro, .val 0⟩,
     ⟨59, 56, .ro, .val 0⟩,
     ⟨55, 55, .ro, .val 0⟩,
     ⟨54, 54, .ro, .val 0⟩,
     ⟨47, 32, .ro, .val 0⟩,
     ⟨1, 0, .ro, .val 0⟩]⟩,
  ⟨"MXA_WBASE", 0x1002018, [⟨0x10000, 0, 169⟩, ⟨0x200, 0, 18⟩], .fabric,
    [⟨63, 32, .rw, .val 0⟩,
     ⟨31, 0, .rw, .val 0⟩]⟩,
  ⟨"MXA_FLUSH", 0x1002020, [⟨0x10000, 0, 169⟩, ⟨0x200, 0, 18⟩], .fabric,
    [⟨63, 32, .ro, .val 0⟩,
     ⟨31, 0, .ro, .val 0⟩]⟩,
  ⟨"MXA_FLUSH_PREV", 0x1002028, [⟨0x10000, 0, 169⟩, ⟨0x200, 0, 18⟩], .fabric,
    [⟨63, 32, .ro, .val 0⟩,
     ⟨31, 0, .ro, .val 0⟩]⟩,
  ⟨"MXA_VECTORS", 0x1002030, [⟨0x10000, 0, 169⟩, ⟨0x200, 0, 18⟩], .fabric,
    [⟨47, 0, .ro, .val 0⟩]⟩,
  ⟨"MXA_STALLS", 0x1002038, [⟨0x10000, 0, 169⟩, ⟨0x200, 0, 18⟩], .fabric,
    [⟨63, 32, .ro, .val 0⟩,
     ⟨31, 0, .ro, .val 0⟩]⟩,
  ⟨"MXA_ERR", 0x1002040, [⟨0x10000, 0, 169⟩, ⟨0x200, 0, 18⟩], .fabric,
    [⟨7, 7, .w1c, .val 0⟩,
     ⟨6, 6, .w1c, .val 0⟩,
     ⟨5, 5, .w1c, .val 0⟩,
     ⟨4, 4, .w1c, .val 0⟩,
     ⟨3, 3, .w1c, .val 0⟩,
     ⟨2, 2, .w1c, .val 0⟩,
     ⟨1, 1, .w1c, .val 0⟩,
     ⟨0, 0, .w1c, .val 0⟩]⟩,
  ⟨"MXA_ROWCTL", 0x1004400, [⟨0x10000, 0, 169⟩], .fabric,
    [⟨33, 33, .w1s, .val 0⟩,
     ⟨32, 32, .w1s, .val 0⟩,
     ⟨24, 16, .rw, .val 0⟩,
     ⟨8, 0, .rw, .val 0⟩]⟩ ]

/-- Registers of 02_arrays.md, part 1. -/
def regTable_02_1 : List RegDesc :=
  [
  ⟨"MXA_ROWMAP", 0x1004408, [⟨0x10000, 0, 169⟩], .fabric,
    [⟨28, 20, .rw, .fuse⟩,
     ⟨19, 16, .rw, .fuse⟩,
     ⟨12, 4, .rw, .fuse⟩,
     ⟨3, 0, .rw, .fuse⟩]⟩,
  ⟨"MXA_LMAP", 0x1004410, [⟨0x10000, 0, 169⟩], .fabric,
    [⟨63, 0, .ro, .val 0x7654321076543210⟩]⟩,
  ⟨"MXA_THROTTLE", 0x1004418, [⟨0x10000, 0, 169⟩], .fabric,
    [⟨63, 32, .ro, .val 0⟩,
     ⟨3, 0, .rw, .val 0⟩]⟩,
  ⟨"MXA_DIE_ERR", 0x1004420, [⟨0x10000, 0, 169⟩], .fabric,
    [⟨4, 4, .w1c, .val 0⟩,
     ⟨3, 3, .w1c, .val 0⟩,
     ⟨2, 2, .w1c, .val 0⟩,
     ⟨1, 1, .w1c, .val 0⟩,
     ⟨0, 0, .w1c, .val 0⟩]⟩,
  ⟨"MXA_SLOT", 0x1004428, [⟨0x10000, 0, 169⟩], .fabric,
    [⟨47, 0, .ro, .val 0⟩]⟩,
  ⟨"MXA_UCODE", 0x1004800, [⟨0x10000, 0, 169⟩, ⟨0x8, 0, 512⟩], .fabric,
    [⟨63, 0, .rw, .val 0⟩]⟩ ]

/-- Registers of 03_formats.md, part 0. -/
def regTable_03_0 : List RegDesc :=
  [
  ⟨"MXA_ARITH", 0x1002048, [⟨0x10000, 0, 169⟩, ⟨0x200, 0, 18⟩], .fabric,
    [⟨63, 32, .ro, .val 0⟩,
     ⟨3, 3, .w1c, .val 0⟩,
     ⟨2, 2, .w1c, .val 0⟩,
     ⟨1, 1, .w1c, .val 0⟩,
     ⟨0, 0, .w1c, .val 0⟩]⟩,
  ⟨"MXA_FLUSH_EXT", 0x1002050, [⟨0x10000, 0, 169⟩, ⟨0x200, 0, 18⟩], .fabric,
    [⟨31, 16, .ro, .val 0x8000⟩,
     ⟨15, 0, .ro, .val 0x8000⟩]⟩,
  ⟨"MXA_FLUSH_EXT_PREV", 0x1002058, [⟨0x10000, 0, 169⟩, ⟨0x200, 0, 18⟩], .fabric,
    [⟨31, 16, .ro, .val 0x8000⟩,
     ⟨15, 0, .ro, .val 0x8000⟩]⟩ ]

/-- Registers of 04_cores.md, part 0. -/
def regTable_04_0 : List RegDesc :=
  [
  ⟨"VCO_CTRL", 0x1006000, [⟨0x10000, 0, 169⟩, ⟨0x400, 0, 4⟩], .fabric,
    [⟨16, 16, .w1s, .val 0⟩,
     ⟨11, 0, .rw, .val 0⟩]⟩,
  ⟨"VCO_STATUS", 0x1006008, [⟨0x10000, 0, 169⟩, ⟨0x400, 0, 4⟩], .fabric,
    [⟨63, 48, .ro, .val 0⟩,
     ⟨43, 32, .ro, .val 0⟩,
     ⟨23, 20, .ro, .val 0⟩,
     ⟨3, 0, .ro, .val 0⟩]⟩,
  ⟨"VCO_ERR", 0x1006010, [⟨0x10000, 0, 169⟩, ⟨0x400, 0, 4⟩], .fabric,
    [⟨8, 8, .w1c, .val 0⟩,
     ⟨7, 7, .w1c, .val 0⟩,
     ⟨6, 6, .w1c, .val 0⟩,
     ⟨5, 5, .w1c, .val 0⟩,
     ⟨4, 4, .w1c, .val 0⟩,
     ⟨3, 3, .w1c, .val 0⟩,
     ⟨2, 2, .w1c, .val 0⟩,
     ⟨1, 1, .w1c, .val 0⟩,
     ⟨0, 0, .w1c, .val 0⟩]⟩,
  ⟨"VCO_COUNT", 0x1006018, [⟨0x10000, 0, 169⟩, ⟨0x400, 0, 4⟩], .fabric,
    [⟨63, 32, .ro, .val 0⟩,
     ⟨31, 0, .ro, .val 0⟩]⟩,
  ⟨"VCO_ARITH", 0x1006020, [⟨0x10000, 0, 169⟩, ⟨0x400, 0, 4⟩], .fabric,
    [⟨63, 32, .ro, .val 0⟩,
     ⟨31, 0, .ro, .val 0⟩]⟩,
  ⟨"VCO_TOKEN", 0x1006028, [⟨0x10000, 0, 169⟩, ⟨0x400, 0, 4⟩], .fabric,
    [⟨63, 48, .ro, .val 0⟩,
     ⟨47, 32, .ro, .val 0⟩,
     ⟨31, 16, .ro, .val 0⟩,
     ⟨15, 0, .ro, .val 0⟩]⟩,
  ⟨"VCO_MEM_ERR", 0x1006030, [⟨0x10000, 0, 169⟩, ⟨0x400, 0, 4⟩], .fabric,
    [⟨63, 48, .ro, .val 0⟩,
     ⟨47, 32, .ro, .val 0⟩]⟩,
  ⟨"VCO_MODE", 0x1007000, [⟨0x10000, 0, 169⟩], .fabric,
    [⟨0, 0, .rw, .val 1⟩]⟩,
  ⟨"VCO_PAIR", 0x1007008, [⟨0x10000, 0, 169⟩], .fabric,
    [⟨63, 52, .ro, .val 0⟩,
     ⟨51, 40, .ro, .val 0⟩,
     ⟨15, 8, .ro, .val 0⟩,
     ⟨7, 0, .ro, .val 0⟩]⟩,
  ⟨"CCO_STATUS", 0x1008000, [⟨0x10000, 0, 169⟩, ⟨0x1000, 0, 2⟩], .fabric,
    [⟨63, 48, .ro, .val 0⟩,
     ⟨47, 40, .ro, .val 0⟩,
     ⟨3, 0, .ro, .val 0⟩]⟩ ]

/-- Registers of 04_cores.md, part 1. -/
def regTable_04_1 : List RegDesc :=
  [
  ⟨"CCO_FW", 0x1008008, [⟨0x10000, 0, 169⟩, ⟨0x1000, 0, 2⟩], .fabric,
    [⟨63, 32, .ro, .val 0⟩,
     ⟨31, 16, .ro, .val 0⟩,
     ⟨0, 0, .ro, .val 0⟩]⟩,
  ⟨"CCO_WDOG", 0x1008010, [⟨0x10000, 0, 169⟩, ⟨0x1000, 0, 2⟩], .fabric,
    [⟨63, 32, .ro, .val 0x2710⟩,
     ⟨31, 0, .ro, .val 0x2710⟩]⟩,
  ⟨"CCO_WDOG_KICK", 0x1008018, [⟨0x10000, 0, 169⟩, ⟨0x1000, 0, 2⟩], .fabric,
    [⟨63, 0, .wo, .val 0⟩]⟩,
  ⟨"CCO_FATAL", 0x1008020, [⟨0x10000, 0, 169⟩, ⟨0x1000, 0, 2⟩], .fabric,
    [⟨15, 0, .wo, .val 0⟩]⟩,
  ⟨"CCO_TCM_ERR", 0x1008028, [⟨0x10000, 0, 169⟩, ⟨0x1000, 0, 2⟩], .fabric,
    [⟨63, 48, .ro, .val 0⟩,
     ⟨47, 32, .ro, .val 0⟩]⟩,
  ⟨"CCO_PCSAMPLE", 0x1008030, [⟨0x10000, 0, 169⟩, ⟨0x1000, 0, 2⟩], .fabric,
    [⟨63, 0, .ro, .val 0⟩]⟩,
  ⟨"CCO_MBX_IN_STAT", 0x1008100, [⟨0x10000, 0, 169⟩, ⟨0x1000, 0, 2⟩], .fabric,
    [⟨63, 48, .ro, .val 0⟩,
     ⟨47, 32, .ro, .val 0⟩,
     ⟨5, 5, .ro, .val 0⟩,
     ⟨4, 0, .ro, .val 0⟩]⟩,
  ⟨"CCO_MBX_IN_D", 0x1008108, [⟨0x10000, 0, 169⟩, ⟨0x1000, 0, 2⟩, ⟨0x8, 0, 8⟩], .fabric,
    [⟨63, 0, .rw, .val 0⟩]⟩,
  ⟨"CCO_MBX_IN_PUSH", 0x1008148, [⟨0x10000, 0, 169⟩, ⟨0x1000, 0, 2⟩], .fabric,
    [⟨0, 0, .wo, .val 0⟩]⟩,
  ⟨"CCO_MBX_OUT_STAT", 0x1008180, [⟨0x10000, 0, 169⟩, ⟨0x1000, 0, 2⟩], .fabric,
    [⟨63, 48, .ro, .val 0⟩,
     ⟨4, 0, .ro, .val 0⟩]⟩ ]

/-- Registers of 04_cores.md, part 2. -/
def regTable_04_2 : List RegDesc :=
  [
  ⟨"CCO_MBX_OUT_D", 0x1008188, [⟨0x10000, 0, 169⟩, ⟨0x1000, 0, 2⟩, ⟨0x8, 0, 8⟩], .fabric,
    [⟨63, 0, .ro, .val 0⟩]⟩,
  ⟨"CCO_MBX_OUT_POP", 0x10081c8, [⟨0x10000, 0, 169⟩, ⟨0x1000, 0, 2⟩], .fabric,
    [⟨0, 0, .wo, .val 0⟩]⟩ ]

/-- Registers of 05_sweeps.md, part 0. -/
def regTable_05_0 : List RegDesc :=
  [
  ⟨"HUB_PASS", 0x100, [], .hub,
    [⟨63, 48, .ro, .val 0⟩,
     ⟨47, 32, .ro, .val 0⟩,
     ⟨31, 16, .ro, .val 0⟩,
     ⟨5, 4, .ro, .val 0⟩,
     ⟨3, 0, .ro, .val 6⟩]⟩,
  ⟨"SQ_CTRL", 0x4000000, [⟨0x1000, 0, 4⟩], .hub,
    [⟨12, 8, .rw, .val 6⟩,
     ⟨3, 3, .w1s, .val 0⟩,
     ⟨2, 2, .w1s, .val 0⟩,
     ⟨1, 1, .rw, .val 0⟩,
     ⟨0, 0, .rw, .val 0⟩]⟩,
  ⟨"SQ_DB", 0x4000008, [⟨0x1000, 0, 4⟩], .hub,
    [⟨15, 0, .rw, .val 0⟩]⟩,
  ⟨"SQ_STATE", 0x4000010, [⟨0x1000, 0, 4⟩], .hub,
    [⟨63, 32, .ro, .val 0⟩,
     ⟨16, 16, .w1c, .val 0⟩,
     ⟨9, 0, .ro, .val 0⟩]⟩,
  ⟨"CQ_BASE", 0x4000018, [⟨0x1000, 0, 4⟩], .hub,
    [⟨63, 12, .rw, .val 0⟩]⟩,
  ⟨"CQ_PTR", 0x4000020, [⟨0x1000, 0, 4⟩], .hub,
    [⟨47, 32, .ro, .val 0⟩,
     ⟨15, 0, .rw, .val 0⟩]⟩,
  ⟨"STR_LIST", 0x1001000, [⟨0x10000, 0, 169⟩], .fabric,
    [⟨63, 48, .wo, .val 0⟩,
     ⟨40, 32, .wo, .val 0⟩,
     ⟨31, 0, .wo, .val 0⟩]⟩,
  ⟨"STR_STATUS", 0x1001008, [⟨0x10000, 0, 169⟩], .fabric,
    [⟨63, 32, .ro, .val 0⟩,
     ⟨31, 24, .ro, .val 0⟩,
     ⟨23, 20, .ro, .val 0⟩,
     ⟨17, 17, .ro, .val 0⟩,
     ⟨16, 16, .ro, .val 0⟩,
     ⟨15, 0, .ro, .val 0⟩]⟩,
  ⟨"STR_ERR", 0x1001010, [⟨0x10000, 0, 169⟩], .fabric,
    [⟨63, 48, .ro, .val 0⟩,
     ⟨47, 40, .ro, .val 0⟩,
     ⟨0, 0, .w1c, .val 0⟩]⟩,
  ⟨"STR_CURSOR0", 0x1001018, [⟨0x10000, 0, 169⟩], .fabric,
    [⟨63, 48, .ro, .val 0⟩,
     ⟨47, 32, .ro, .val 0⟩,
     ⟨31, 16, .ro, .val 0⟩,
     ⟨15, 0, .ro, .val 0⟩]⟩ ]

/-- Registers of 05_sweeps.md, part 1. -/
def regTable_05_1 : List RegDesc :=
  [
  ⟨"STR_CURSOR1", 0x1001020, [⟨0x10000, 0, 169⟩], .fabric,
    [⟨63, 63, .ro, .val 0⟩,
     ⟨26, 26, .ro, .val 0⟩,
     ⟨25, 24, .ro, .val 0⟩,
     ⟨23, 16, .ro, .val 0⟩,
     ⟨15, 0, .ro, .val 0⟩]⟩,
  ⟨"STR_FAULT", 0x1001028, [⟨0x10000, 0, 169⟩], .fabric,
    [⟨55, 0, .ro, .val 0⟩]⟩,
  ⟨"STR_CFG", 0x1001030, [⟨0x10000, 0, 169⟩], .fabric,
    [⟨63, 32, .rw, .val 0xf4240⟩,
     ⟨31, 0, .rw, .val 0x100000⟩]⟩,
  ⟨"STR_TOKEN", 0x1001038, [⟨0x10000, 0, 169⟩], .fabric,
    [⟨31, 16, .ro, .val 0⟩,
     ⟨15, 0, .ro, .val 0⟩]⟩,
  ⟨"STR_COUNT", 0x1001040, [⟨0x10000, 0, 169⟩], .fabric,
    [⟨63, 32, .ro, .val 0⟩,
     ⟨31, 0, .ro, .val 0⟩]⟩,
  ⟨"STR_ARG", 0x1001048, [⟨0x10000, 0, 169⟩, ⟨0x8, 0, 6⟩], .fabric,
    [⟨63, 0, .ro, .val 0⟩]⟩ ]

/-- Registers of 06_stores.md, part 0. -/
def regTable_06_0 : List RegDesc :=
  [
  ⟨"BHT_ENTRY", 0x100a000, [⟨0x10000, 0, 169⟩, ⟨0x20, 0, 256⟩, ⟨0x8, 0, 4⟩], .fabric,
    [⟨63, 0, .rw, .val 0⟩]⟩,
  ⟨"GLT_CTRL", 0x100c000, [⟨0x10000, 0, 169⟩], .fabric,
    [⟨1, 1, .rw, .val 1⟩,
     ⟨0, 0, .rw, .val 0⟩]⟩,
  ⟨"GLT_STATUS", 0x100c008, [⟨0x10000, 0, 169⟩], .fabric,
    [⟨63, 48, .ro, .val 0⟩,
     ⟨47, 40, .ro, .val 0x10⟩,
     ⟨4, 4, .ro, .val 0⟩,
     ⟨3, 3, .ro, .val 0⟩,
     ⟨2, 2, .ro, .val 0⟩,
     ⟨1, 1, .ro, .val 0⟩,
     ⟨0, 0, .ro, .val 0⟩]⟩,
  ⟨"GLT_ERR_LOG", 0x100c010, [⟨0x10000, 0, 169⟩], .fabric,
    [⟨63, 63, .rc, .val 0⟩,
     ⟨62, 62, .rc, .val 0⟩,
     ⟨61, 61, .rc, .val 0⟩,
     ⟨60, 60, .rc, .val 0⟩,
     ⟨59, 58, .rc, .val 0⟩,
     ⟨57, 56, .rc, .val 0⟩,
     ⟨21, 0, .rc, .val 0⟩]⟩,
  ⟨"GLT_ECC_W", 0x100c018, [⟨0x10000, 0, 169⟩], .fabric,
    [⟨63, 48, .ro, .val 0⟩,
     ⟨47, 32, .ro, .val 0⟩,
     ⟨31, 0, .ro, .val 0⟩]⟩,
  ⟨"GLT_ECC_A", 0x100c020, [⟨0x10000, 0, 169⟩], .fabric,
    [⟨63, 48, .ro, .val 0⟩,
     ⟨47, 32, .ro, .val 0⟩,
     ⟨31, 0, .ro, .val 0⟩]⟩,
  ⟨"GLT_ECC_P", 0x100c028, [⟨0x10000, 0, 169⟩], .fabric,
    [⟨63, 48, .ro, .val 0⟩,
     ⟨31, 0, .ro, .val 0⟩]⟩,
  ⟨"GLT_SCRUB", 0x100c030, [⟨0x10000, 0, 169⟩], .fabric,
    [⟨63, 48, .rw, .val 0x40⟩,
     ⟨47, 16, .ro, .val 0⟩,
     ⟨15, 0, .rw, .val 0x1000⟩]⟩,
  ⟨"GLT_REPAIR", 0x100c038, [⟨0x10000, 0, 169⟩], .fabric,
    [⟨63, 48, .ro, .val 0⟩,
     ⟨47, 32, .ro, .val 0⟩,
     ⟨0, 0, .w1s, .val 0⟩]⟩,
  ⟨"GLT_FENCE", 0x100c080, [⟨0x10000, 0, 169⟩, ⟨0x8, 0, 8⟩], .fabric,
    [⟨63, 63, .rw, .val 0⟩,
     ⟨53, 32, .rw, .val 0⟩,
     ⟨21, 0, .rw, .val 0⟩]⟩ ]

/-- Registers of 06_stores.md, part 1. -/
def regTable_06_1 : List RegDesc :=
  [
  ⟨"DPD_STATUS", 0x1c0000, [⟨0x2000, 0, 16⟩], .fabric,
    [⟨63, 48, .ro, .val 0⟩,
     ⟨7, 4, .ro, .val 0⟩,
     ⟨3, 0, .ro, .val 0⟩]⟩,
  ⟨"DPD_ECC", 0x1c0008, [⟨0x2000, 0, 16⟩, ⟨0x8, 0, 2⟩], .fabric,
    [⟨63, 48, .ro, .val 0⟩,
     ⟨47, 32, .ro, .val 0⟩,
     ⟨31, 0, .ro, .val 0⟩]⟩,
  ⟨"DPD_GOLD", 0x1c0018, [⟨0x2000, 0, 16⟩, ⟨0x8, 0, 2⟩], .fabric,
    [⟨63, 63, .rw, .val 0⟩,
     ⟨46, 32, .rw, .val 0⟩,
     ⟨14, 0, .rw, .val 0⟩]⟩,
  ⟨"DPD_GATHER", 0x1c0028, [⟨0x2000, 0, 16⟩], .fabric,
    [⟨63, 32, .ro, .val 0⟩,
     ⟨31, 0, .ro, .val 0⟩]⟩,
  ⟨"DPD_PATROL", 0x1c0030, [⟨0x2000, 0, 16⟩], .fabric,
    [⟨63, 32, .ro, .val 0⟩,
     ⟨31, 0, .ro, .val 0⟩]⟩,
  ⟨"HUB_RWT", 0x8000, [⟨0x8, 0, 4096⟩], .hub,
    [⟨63, 0, .rw, .val 0⟩]⟩,
  ⟨"HUB_RWT_SYNC", 0x200, [], .hub,
    [⟨0, 0, .w1s, .val 0⟩]⟩ ]

/-- Registers of 07_mesh.md, part 0. -/
def regTable_07_0 : List RegDesc :=
  [
  ⟨"SIT_RTR_ERR", 0x1000040, [⟨0x10000, 0, 169⟩], .fabric,
    [⟨63, 48, .ro, .val 0⟩,
     ⟨47, 32, .ro, .val 0⟩,
     ⟨31, 16, .ro, .val 0⟩,
     ⟨4, 4, .w1c, .val 0⟩,
     ⟨3, 3, .w1c, .val 0⟩,
     ⟨2, 2, .w1c, .val 0⟩,
     ⟨1, 1, .w1c, .val 0⟩,
     ⟨0, 0, .w1c, .val 0⟩]⟩,
  ⟨"SIT_RED_DRAIN", 0x1000048, [⟨0x10000, 0, 169⟩], .fabric,
    [⟨15, 15, .rw, .val 0⟩,
     ⟨13, 8, .rw, .val 0⟩,
     ⟨7, 7, .rw, .val 0⟩,
     ⟨5, 0, .rw, .val 0⟩]⟩,
  ⟨"SIT_LINK", 0x1000080, [⟨0x10000, 0, 169⟩, ⟨0x8, 0, 8⟩], .fabric,
    [⟨55, 48, .ro, .val 0⟩,
     ⟨47, 40, .ro, .val 0⟩,
     ⟨39, 32, .ro, .val 0⟩,
     ⟨31, 24, .ro, .val 0⟩,
     ⟨19, 18, .ro, .val 0⟩,
     ⟨17, 17, .ro, .val 0⟩,
     ⟨3, 0, .ro, .val 0⟩]⟩,
  ⟨"SIT_LINK_ERR", 0x10000c0, [⟨0x10000, 0, 169⟩, ⟨0x8, 0, 8⟩], .fabric,
    [⟨63, 48, .ro, .val 0⟩,
     ⟨47, 32, .ro, .val 0⟩,
     ⟨31, 0, .ro, .val 0⟩]⟩,
  ⟨"SIT_RTE", 0x1000400, [⟨0x10000, 0, 169⟩, ⟨0x8, 0, 64⟩], .fabric,
    [⟨63, 0, .rw, .val 0⟩]⟩,
  ⟨"SIT_MCAST", 0x1000600, [⟨0x10000, 0, 169⟩, ⟨0x8, 1, 16⟩], .fabric,
    [⟨15, 8, .rw, .val 0⟩,
     ⟨4, 0, .rw, .val 0⟩]⟩,
  ⟨"SIT_TREE_W0", 0x1000800, [⟨0x10000, 0, 169⟩, ⟨0x10, 0, 64⟩], .fabric,
    [⟨63, 0, .rw, .val 0⟩]⟩,
  ⟨"SIT_TREE_W1", 0x1000808, [⟨0x10000, 0, 169⟩, ⟨0x10, 0, 64⟩], .fabric,
    [⟨63, 47, .ro, .val 0⟩,
     ⟨46, 30, .ro, .val 0⟩,
     ⟨29, 24, .ro, .val 0⟩]⟩,
  ⟨"MSH_CFG", 0xa0000, [], .hub,
    [⟨63, 48, .rw, .val 0x10⟩,
     ⟨31, 0, .rw, .val 0x100000⟩]⟩,
  ⟨"MSH_TIMER", 0xa0008, [], .hub,
    [⟨63, 32, .rw, .val 0x100000⟩,
     ⟨31, 0, .rw, .val 0x400000⟩]⟩ ]

/-- Registers of 07_mesh.md, part 1. -/
def regTable_07_1 : List RegDesc :=
  [
  ⟨"MSH_STATUS", 0xa0010, [], .fabric,
    [⟨63, 56, .ro, .val 0⟩,
     ⟨55, 48, .ro, .val 0⟩,
     ⟨47, 40, .ro, .val 0⟩,
     ⟨39, 24, .ro, .val 0⟩,
     ⟨2, 2, .w1s, .val 0⟩,
     ⟨1, 1, .ro, .val 0⟩,
     ⟨0, 0, .ro, .val 0⟩]⟩,
  ⟨"MSH_FENCED0", 0xa0018, [], .fabric,
    [⟨63, 0, .ro, .val 0⟩]⟩,
  ⟨"MSH_FENCED1", 0xa0020, [], .fabric,
    [⟨63, 0, .ro, .val 0⟩]⟩,
  ⟨"MSH_FENCED2", 0xa0028, [], .fabric,
    [⟨40, 0, .ro, .val 0⟩]⟩,
  ⟨"MSH_FENCED_RING", 0xa0030, [], .fabric,
    [⟨43, 0, .ro, .val 0⟩]⟩,
  ⟨"MSH_EVENT", 0xa0038, [], .hub,
    [⟨63, 63, .rc, .val 0⟩,
     ⟨62, 62, .rc, .val 0⟩,
     ⟨55, 48, .rc, .val 0⟩,
     ⟨47, 44, .rc, .val 0⟩,
     ⟨31, 16, .rc, .val 0⟩]⟩,
  ⟨"MSH_RETRAINS", 0xa0040, [], .fabric,
    [⟨63, 32, .ro, .val 0⟩,
     ⟨31, 0, .ro, .val 0⟩]⟩,
  ⟨"MSH_HRTE", 0xa0400, [⟨0x8, 0, 64⟩], .fabric,
    [⟨63, 0, .rw, .val 0⟩]⟩ ]

/-- Registers of 08_sundog.md, part 0. -/
def regTable_08_0 : List RegDesc :=
  [
  ⟨"SDG_CFG", 0x80000, [], .hub,
    [⟨63, 32, .rw, .val 0x3e8⟩,
     ⟨31, 24, .rw, .val 0xa⟩,
     ⟨23, 20, .rw, .val 2⟩,
     ⟨0, 0, .rw, .val 1⟩]⟩,
  ⟨"SDG_SEED", 0x80008, [], .hub,
    [⟨63, 0, .rw, .val 0⟩]⟩,
  ⟨"SDG_STATUS", 0x80010, [], .fabric,
    [⟨63, 48, .ro, .val 0⟩,
     ⟨47, 40, .ro, .val 0⟩,
     ⟨39, 32, .ro, .val 0⟩,
     ⟨0, 0, .ro, .val 1⟩]⟩,
  ⟨"SDG_SEED_CUR", 0x80018, [], .hub,
    [⟨63, 0, .ro, .val 0⟩]⟩,
  ⟨"SDG_TOTALS", 0x80020, [], .fabric,
    [⟨63, 32, .ro, .val 0⟩,
     ⟨31, 16, .ro, .val 0⟩,
     ⟨15, 0, .ro, .val 0⟩]⟩,
  ⟨"SDG_PASS", 0x80028, [], .fabric,
    [⟨63, 48, .ro, .val 0⟩,
     ⟨47, 0, .ro, .val 0⟩]⟩,
  ⟨"SDG_VOTE_LOG", 0x80030, [], .hub,
    [⟨63, 63, .rc, .val 0⟩,
     ⟨62, 62, .rc, .val 0⟩,
     ⟨55, 48, .rc, .val 0⟩,
     ⟨47, 43, .rc, .val 0⟩,
     ⟨39, 32, .rc, .val 0⟩,
     ⟨31, 16, .rc, .val 0⟩]⟩,
  ⟨"SDG_SITE", 0x81000, [⟨0x8, 0, 169⟩], .fabric,
    [⟨63, 56, .ro, .val 0⟩,
     ⟨55, 48, .ro, .val 0xff⟩,
     ⟨47, 32, .ro, .val 0⟩,
     ⟨31, 16, .ro, .val 0⟩,
     ⟨3, 0, .ro, .val 0⟩]⟩,
  ⟨"MXA_CHK", 0x1002060, [⟨0x10000, 0, 169⟩, ⟨0x200, 0, 18⟩], .fabric,
    [⟨63, 32, .ro, .val 0⟩,
     ⟨31, 16, .ro, .val 0⟩,
     ⟨15, 8, .ro, .val 0⟩]⟩,
  ⟨"MXA_CHK_MARK", 0x1002068, [⟨0x10000, 0, 169⟩, ⟨0x200, 0, 18⟩], .fabric,
    [⟨63, 32, .ro, .val 0⟩,
     ⟨31, 0, .ro, .val 0⟩]⟩ ]

/-- Registers of 08_sundog.md, part 1. -/
def regTable_08_1 : List RegDesc :=
  [
  ⟨"BAR_STATUS", 0x90000, [], .hub,
    [⟨63, 32, .ro, .val 0⟩,
     ⟨31, 16, .ro, .val 0⟩,
     ⟨15, 15, .ro, .val 0⟩,
     ⟨10, 0, .ro, .val 0⟩]⟩,
  ⟨"BAR_WR_SEQ", 0x90008, [], .hub,
    [⟨63, 0, .ro, .val 0⟩]⟩,
  ⟨"BAR_RD_SEQ", 0x90010, [], .hub,
    [⟨63, 0, .rw, .val 0⟩]⟩,
  ⟨"BAR_REC", 0x90100, [⟨0x8, 0, 16⟩], .hub,
    [⟨63, 0, .ro, .val 0⟩]⟩,
  ⟨"BAR_CPER", 0x91000, [⟨0x8, 0, 43⟩], .hub,
    [⟨63, 0, .ro, .val 0⟩]⟩ ]

/-- Registers of 09_gale_links.md, part 0. -/
def regTable_09_0 : List RegDesc :=
  [
  ⟨"GAL_LCTRL", 0x100000, [⟨0x1000, 0, 96⟩], .fabric,
    [⟨63, 48, .rw, .val 8⟩,
     ⟨47, 32, .rw, .val 0x10⟩,
     ⟨3, 3, .rw, .val 0⟩,
     ⟨2, 2, .rw, .val 1⟩,
     ⟨1, 1, .w1s, .val 0⟩,
     ⟨0, 0, .rw, .val 0⟩]⟩,
  ⟨"GAL_LSTATUS", 0x100008, [⟨0x1000, 0, 96⟩], .fabric,
    [⟨63, 48, .ro, .val 0⟩,
     ⟨47, 40, .ro, .val 0⟩,
     ⟨39, 24, .ro, .val 0⟩,
     ⟨7, 6, .ro, .val 0⟩,
     ⟨5, 4, .ro, .val 0⟩,
     ⟨3, 0, .ro, .val 0⟩]⟩,
  ⟨"GAL_FEC", 0x100010, [⟨0x1000, 0, 96⟩], .fabric,
    [⟨63, 32, .ro, .val 0⟩,
     ⟨31, 0, .ro, .val 0⟩]⟩,
  ⟨"GAL_LLERR", 0x100018, [⟨0x1000, 0, 96⟩], .fabric,
    [⟨63, 48, .ro, .val 0⟩,
     ⟨47, 32, .ro, .val 0⟩,
     ⟨31, 16, .ro, .val 0⟩,
     ⟨15, 0, .ro, .val 0⟩]⟩,
  ⟨"GAL_TRAFFIC", 0x100020, [⟨0x1000, 0, 96⟩], .fabric,
    [⟨63, 32, .ro, .val 0⟩,
     ⟨31, 0, .ro, .val 0⟩]⟩,
  ⟨"GAL_LANE", 0x100028, [⟨0x1000, 0, 96⟩], .fabric,
    [⟨15, 8, .ro, .val 0⟩,
     ⟨7, 0, .ro, .val 0⟩]⟩,
  ⟨"GAL_PANEL", 0x100600, [], .fabric,
    [⟨63, 48, .rw, .val 0⟩,
     ⟨31, 0, .rw, .val 0x2710⟩]⟩,
  ⟨"GAL_TIMERS", 0x100608, [], .fabric,
    [⟨63, 48, .rw, .val 0x32⟩,
     ⟨47, 40, .rw, .val 0x10⟩,
     ⟨39, 24, .rw, .val 0x3e8⟩,
     ⟨23, 8, .rw, .val 0xa⟩,
     ⟨7, 0, .rw, .val 0x14⟩]⟩,
  ⟨"GAL_CND_CFG", 0x100400, [⟨0x1000, 0, 64⟩, ⟨0x40, 0, 8⟩], .fabric,
    [⟨63, 63, .rw, .val 0⟩,
     ⟨54, 50, .rw, .val 0⟩,
     ⟨49, 46, .rw, .val 0⟩,
     ⟨40, 32, .rw, .val 0⟩,
     ⟨31, 16, .rw, .val 0⟩]⟩,
  ⟨"GAL_CND_WBASE", 0x100408, [⟨0x1000, 0, 64⟩, ⟨0x40, 0, 8⟩], .fabric,
    [⟨63, 63, .rw, .val 0⟩,
     ⟨62, 62, .rw, .val 0⟩,
     ⟨55, 0, .rw, .val 0⟩]⟩ ]

/-- Registers of 09_gale_links.md, part 1. -/
def regTable_09_1 : List RegDesc :=
  [
  ⟨"GAL_CND_WSIZE", 0x100410, [⟨0x1000, 0, 64⟩, ⟨0x40, 0, 8⟩], .fabric,
    [⟨43, 0, .rw, .val 0⟩]⟩,
  ⟨"GAL_CND_RXBASE", 0x100418, [⟨0x1000, 0, 64⟩, ⟨0x40, 0, 8⟩], .fabric,
    [⟨55, 0, .rw, .val 0⟩]⟩,
  ⟨"GAL_CND_RX", 0x100420, [⟨0x1000, 0, 64⟩, ⟨0x40, 0, 8⟩], .fabric,
    [⟨47, 32, .ro, .val 0⟩,
     ⟨31, 16, .rw, .val 0⟩,
     ⟨4, 4, .rw, .val 0⟩,
     ⟨3, 0, .rw, .val 0⟩]⟩,
  ⟨"GAL_CND_SEND", 0x100428, [⟨0x1000, 0, 64⟩, ⟨0x40, 0, 8⟩], .fabric,
    [⟨55, 0, .rw, .val 0⟩]⟩,
  ⟨"GAL_CND_SCTL", 0x100430, [⟨0x1000, 0, 64⟩, ⟨0x40, 0, 8⟩], .fabric,
    [⟨63, 63, .w1s, .val 0⟩,
     ⟨62, 62, .ro, .val 0⟩,
     ⟨55, 48, .ro, .val 0⟩,
     ⟨11, 0, .rw, .val 0⟩]⟩,
  ⟨"GAL_CND_STATE", 0x100438, [⟨0x1000, 0, 64⟩, ⟨0x40, 0, 8⟩], .fabric,
    [⟨63, 60, .ro, .val 0⟩,
     ⟨59, 58, .ro, .val 0⟩,
     ⟨55, 40, .ro, .val 0⟩,
     ⟨39, 32, .ro, .val 0⟩,
     ⟨31, 16, .ro, .val 0⟩,
     ⟨15, 0, .ro, .val 0⟩]⟩,
  ⟨"GAL_COLL_W0", 0x100800, [⟨0x4000, 0, 24⟩, ⟨0x20, 0, 64⟩], .fabric,
    [⟨63, 0, .rw, .val 0⟩]⟩,
  ⟨"GAL_COLL_W1", 0x100808, [⟨0x4000, 0, 24⟩, ⟨0x20, 0, 64⟩], .fabric,
    [⟨63, 24, .rw, .val 0⟩]⟩,
  ⟨"GAL_COLL_W2", 0x100810, [⟨0x4000, 0, 24⟩, ⟨0x20, 0, 64⟩], .fabric,
    [⟨55, 0, .rw, .val 0⟩]⟩,
  ⟨"GAL_COLL_W3", 0x100818, [⟨0x4000, 0, 24⟩, ⟨0x20, 0, 64⟩], .fabric,
    [⟨63, 48, .ro, .val 0⟩,
     ⟨47, 44, .ro, .val 0⟩,
     ⟨43, 38, .ro, .val 0⟩,
     ⟨16, 0, .ro, .val 0⟩]⟩ ]

/-- Registers of 09_gale_links.md, part 2. -/
def regTable_09_2 : List RegDesc :=
  [
  ⟨"LEN_CTRL", 0x180000, [⟨0x4000, 0, 12⟩], .fabric,
    [⟨2, 2, .rw, .val 0⟩,
     ⟨1, 1, .w1s, .val 0⟩,
     ⟨0, 0, .w1s, .val 0⟩]⟩,
  ⟨"LEN_STATUS", 0x180008, [⟨0x4000, 0, 12⟩], .fabric,
    [⟨63, 48, .ro, .val 0⟩,
     ⟨47, 32, .ro, .val 0⟩,
     ⟨7, 0, .ro, .val 0⟩]⟩,
  ⟨"LEN_STATE", 0x180030, [⟨0x4000, 0, 12⟩], .fabric,
    [⟨3, 0, .ro, .val 0⟩]⟩,
  ⟨"LEN_LIFE", 0x180010, [⟨0x4000, 0, 12⟩], .fabric,
    [⟨63, 32, .ro, .val 0⟩,
     ⟨31, 0, .ro, .val 0⟩]⟩,
  ⟨"LEN_LIFE2", 0x180018, [⟨0x4000, 0, 12⟩], .fabric,
    [⟨63, 48, .ro, .val 0⟩,
     ⟨47, 40, .ro, .val 0⟩,
     ⟨39, 32, .ro, .val 0⟩,
     ⟨31, 0, .ro, .val 0⟩]⟩,
  ⟨"LEN_AUTH", 0x180020, [⟨0x4000, 0, 12⟩], .fabric,
    [⟨63, 32, .ro, .val 0xffffffff⟩,
     ⟨31, 16, .ro, .val 0⟩,
     ⟨15, 8, .ro, .val 0⟩]⟩,
  ⟨"LEN_SERIAL", 0x180028, [⟨0x4000, 0, 12⟩], .fabric,
    [⟨63, 0, .ro, .val 0⟩]⟩ ]

/-- Registers of 10_power.md, part 0. -/
def regTable_10_0 : List RegDesc :=
  [
  ⟨"PWR_STATUS", 0x50000, [], .dawn,
    [⟨63, 48, .ro, .val 0⟩,
     ⟨47, 43, .ro, .val 0⟩,
     ⟨42, 22, .ro, .val 0⟩,
     ⟨5, 5, .ro, .val 0⟩,
     ⟨4, 4, .ro, .val 0⟩,
     ⟨3, 3, .ro, .val 0⟩,
     ⟨2, 2, .ro, .val 0⟩,
     ⟨1, 1, .ro, .val 0⟩,
     ⟨0, 0, .ro, .val 1⟩]⟩,
  ⟨"PWR_INPUT", 0x50008, [], .dawn,
    [⟨63, 48, .ro, .val 0⟩,
     ⟨47, 32, .ro, .val 0⟩,
     ⟨31, 16, .ro, .val 0⟩,
     ⟨15, 0, .ro, .val 0⟩]⟩,
  ⟨"PWR_INPUT_MAX", 0x50010, [], .dawn,
    [⟨63, 48, .rc, .val 0⟩,
     ⟨47, 32, .rc, .val 0⟩]⟩,
  ⟨"PWR_E_IN", 0x50018, [], .dawn,
    [⟨63, 0, .ro, .val 0⟩]⟩,
  ⟨"PWR_SNAP", 0x50020, [], .dawn,
    [⟨0, 0, .w1s, .val 0⟩]⟩,
  ⟨"PWR_SNAP_TIME", 0x50028, [], .dawn,
    [⟨63, 0, .ro, .val 0⟩]⟩,
  ⟨"PWR_LIMIT", 0x50030, [], .dawn,
    [⟨63, 48, .ro, .val 0⟩,
     ⟨47, 32, .ro, .val 0x4650⟩,
     ⟨31, 16, .ro, .val 0x1194⟩]⟩,
  ⟨"PWR_BAR_E", 0x50038, [], .dawn,
    [⟨63, 32, .ro, .val 0⟩,
     ⟨31, 0, .ro, .val 0⟩]⟩,
  ⟨"PWR_EVENT", 0x50040, [], .dawn,
    [⟨63, 63, .rc, .val 0⟩,
     ⟨62, 62, .rc, .val 0⟩,
     ⟨55, 48, .rc, .val 0⟩,
     ⟨47, 40, .rc, .val 0⟩,
     ⟨39, 32, .rc, .val 0⟩,
     ⟨31, 16, .rc, .val 0⟩]⟩,
  ⟨"PWR_SEG", 0x50100, [⟨0x8, 0, 21⟩], .dawn,
    [⟨63, 60, .ro, .val 0⟩,
     ⟨59, 56, .ro, .val 0⟩,
     ⟨55, 48, .ro, .val 0⟩,
     ⟨47, 32, .ro, .val 0⟩,
     ⟨31, 16, .ro, .val 0⟩,
     ⟨15, 0, .ro, .val 0⟩]⟩ ]

/-- Registers of 10_power.md, part 1. -/
def regTable_10_1 : List RegDesc :=
  [
  ⟨"PWR_SEG_BUDGET", 0x50200, [⟨0x8, 0, 21⟩], .dawn,
    [⟨63, 48, .ro, .rated⟩,
     ⟨47, 32, .ro, .rated⟩,
     ⟨31, 16, .ro, .val 0⟩,
     ⟨0, 0, .ro, .val 0⟩]⟩,
  ⟨"PWR_SEG_E", 0x50300, [⟨0x8, 0, 21⟩], .dawn,
    [⟨63, 0, .ro, .val 0⟩]⟩,
  ⟨"PWR_STK_W0", 0x50800, [⟨0x10, 0, 169⟩], .fabric,
    [⟨63, 48, .ro, .val 0⟩,
     ⟨32, 32, .ro, .val 0⟩,
     ⟨23, 0, .ro, .val 0⟩]⟩,
  ⟨"PWR_STK_W1", 0x50808, [⟨0x10, 0, 169⟩], .fabric,
    [⟨37, 32, .ro, .val 0⟩,
     ⟨18, 17, .ro, .val 0⟩,
     ⟨16, 15, .ro, .val 0⟩,
     ⟨14, 13, .ro, .val 0⟩,
     ⟨12, 10, .ro, .val 0⟩,
     ⟨9, 5, .ro, .val 0⟩,
     ⟨4, 0, .ro, .val 0⟩]⟩,
  ⟨"PWR_STK_E", 0x51400, [⟨0x8, 0, 169⟩], .fabric,
    [⟨63, 0, .ro, .val 0⟩]⟩,
  ⟨"PWR_RING", 0x51a00, [⟨0x8, 0, 44⟩], .fabric,
    [⟨63, 48, .ro, .val 0⟩,
     ⟨32, 32, .ro, .val 0⟩,
     ⟨31, 16, .ro, .val 0⟩,
     ⟨15, 12, .ro, .val 0⟩,
     ⟨11, 0, .ro, .val 0⟩]⟩,
  ⟨"PWR_TEL_SEL", 0x51c00, [], .fabric,
    [⟨10, 8, .rw, .val 0⟩,
     ⟨7, 0, .rw, .val 0⟩]⟩,
  ⟨"PWR_TEL", 0x51c08, [], .fabric,
    [⟨63, 48, .ro, .val 0⟩,
     ⟨47, 32, .ro, .val 0⟩,
     ⟨31, 16, .ro, .val 0⟩,
     ⟨15, 0, .ro, .val 0⟩]⟩,
  ⟨"PWR_TEL_PH", 0x51c10, [], .fabric,
    [⟨63, 56, .ro, .val 0⟩,
     ⟨39, 0, .ro, .val 0⟩]⟩ ]

/-- Registers of 11_heat_and_budget.md, part 0. -/
def regTable_11_0 : List RegDesc :=
  [
  ⟨"THM_STATUS", 0x60000, [], .dawn,
    [⟨63, 48, .ro, .val 0⟩,
     ⟨47, 40, .ro, .val 0⟩,
     ⟨39, 32, .ro, .val 0⟩,
     ⟨11, 11, .ro, .val 0⟩,
     ⟨10, 10, .ro, .val 0⟩,
     ⟨9, 9, .ro, .val 0⟩,
     ⟨8, 8, .ro, .val 0⟩,
     ⟨7, 7, .ro, .val 0⟩,
     ⟨6, 6, .ro, .val 0⟩,
     ⟨5, 5, .ro, .val 0⟩,
     ⟨4, 4, .ro, .val 0⟩,
     ⟨3, 3, .ro, .val 0⟩,
     ⟨1, 1, .ro, .val 0⟩,
     ⟨0, 0, .ro, .val 0⟩]⟩,
  ⟨"THM_COOLANT", 0x60008, [], .dawn,
    [⟨63, 48, .ro, .val 0⟩,
     ⟨47, 32, .ro, .val 0⟩,
     ⟨31, 16, .ro, .val 0⟩,
     ⟨15, 0, .ro, .val 0⟩]⟩,
  ⟨"THM_COOLANT2", 0x60010, [], .dawn,
    [⟨63, 48, .ro, .val 0⟩,
     ⟨47, 32, .ro, .val 0⟩,
     ⟨31, 16, .ro, .val 0⟩,
     ⟨15, 0, .ro, .val 0xc8⟩]⟩,
  ⟨"THM_HEAT", 0x60018, [], .dawn,
    [⟨63, 48, .ro, .val 0⟩,
     ⟨47, 32, .ro, .val 0⟩,
     ⟨31, 16, .ro, .val 0x50⟩]⟩,
  ⟨"THM_EMERG", 0x60020, [], .dawn,
    [⟨63, 48, .ro, .val 0⟩,
     ⟨11, 11, .ro, .val 0⟩,
     ⟨10, 10, .w1s, .val 0⟩,
     ⟨8, 8, .ro, .val 0⟩,
     ⟨3, 0, .ro, .val 0⟩]⟩,
  ⟨"THM_EMERG_TIME", 0x60028, [], .dawn,
    [⟨63, 0, .ro, .val 0⟩]⟩,
  ⟨"THM_CTRL", 0x60030, [], .dawn,
    [⟨16, 16, .w1s, .val 0⟩,
     ⟨9, 0, .rw, .val 0xc8⟩]⟩,
  ⟨"THM_EVENT", 0x60038, [], .dawn,
    [⟨63, 63, .rc, .val 0⟩,
     ⟨62, 62, .rc, .val 0⟩,
     ⟨55, 48, .rc, .val 0⟩,
     ⟨47, 40, .rc, .val 0⟩,
     ⟨31, 16, .rc, .val 0⟩]⟩,
  ⟨"THM_STK", 0x60400, [⟨0x8, 0, 169⟩], .fabric,
    [⟨63, 56, .ro, .val 0⟩,
     ⟨55, 52, .ro, .val 0⟩,
     ⟨51, 48, .ro, .val 0⟩,
     ⟨47, 32, .ro, .val 0⟩,
     ⟨31, 24, .ro, .val 0⟩,
     ⟨23, 16, .ro, .val 0⟩,
     ⟨15, 12, .ro, .val 0⟩,
     ⟨2, 2, .ro, .val 0⟩,
     ⟨1, 1, .ro, .val 0⟩,
     ⟨0, 0, .ro, .val 0⟩]⟩,
  ⟨"THM_RING", 0x60c00, [⟨0x8, 0, 44⟩], .fabric,
    [⟨63, 56, .ro, .val 0⟩,
     ⟨55, 52, .ro, .val 0⟩,
     ⟨39, 32, .ro, .val 0⟩,
     ⟨1, 1, .ro, .val 0⟩,
     ⟨0, 0, .ro, .val 0⟩]⟩ ]

/-- Registers of 11_heat_and_budget.md, part 1. -/
def regTable_11_1 : List RegDesc :=
  [
  ⟨"THM_HUB", 0x60e00, [], .fabric,
    [⟨63, 0, .ro, .val 0⟩]⟩,
  ⟨"THM_SEL", 0x61000, [], .fabric,
    [⟨11, 8, .rw, .val 0⟩,
     ⟨7, 0, .rw, .val 0⟩]⟩,
  ⟨"THM_PAIR", 0x61008, [], .fabric,
    [⟨63, 48, .ro, .val 0⟩,
     ⟨47, 32, .ro, .val 0⟩,
     ⟨31, 16, .ro, .val 0⟩,
     ⟨15, 0, .ro, .val 0⟩]⟩,
  ⟨"UPD_CTRL", 0x70000, [], .hub,
    [⟨63, 48, .rw, .val 0x4650⟩,
     ⟨0, 0, .rw, .val 1⟩]⟩,
  ⟨"UPD_CFG", 0x70008, [], .hub,
    [⟨63, 48, .rw, .val 0x7d0⟩,
     ⟨47, 32, .rw, .val 0x1f4⟩,
     ⟨31, 16, .rw, .val 0x14⟩]⟩,
  ⟨"UPD_RATE", 0x70010, [], .hub,
    [⟨63, 48, .ro, .val 0⟩,
     ⟨47, 32, .ro, .val 0⟩,
     ⟨31, 28, .ro, .val 0⟩]⟩,
  ⟨"UPD_INPUTS", 0x70018, [], .hub,
    [⟨63, 48, .ro, .val 0x4650⟩,
     ⟨47, 32, .ro, .val 0⟩,
     ⟨31, 16, .ro, .val 0⟩,
     ⟨15, 0, .ro, .val 0⟩]⟩,
  ⟨"UPD_BUCKET", 0x70020, [], .hub,
    [⟨63, 32, .ro, .val 0⟩,
     ⟨31, 0, .ro, .val 0⟩]⟩,
  ⟨"UPD_GATED", 0x70028, [], .hub,
    [⟨47, 40, .ro, .val 0⟩,
     ⟨16, 16, .ro, .val 0⟩,
     ⟨15, 0, .ro, .val 0⟩]⟩,
  ⟨"UPD_DECISION", 0x70030, [], .hub,
    [⟨63, 48, .ro, .val 0⟩,
     ⟨47, 16, .ro, .val 0⟩,
     ⟨7, 4, .ro, .val 1⟩,
     ⟨1, 0, .ro, .val 0⟩]⟩ ]

/-- Registers of 11_heat_and_budget.md, part 2. -/
def regTable_11_2 : List RegDesc :=
  [
  ⟨"UPD_SQ", 0x70040, [⟨0x8, 0, 4⟩], .hub,
    [⟨63, 56, .rw, .val 1⟩,
     ⟨55, 54, .rw, .val 0⟩,
     ⟨31, 0, .ro, .val 0⟩]⟩,
  ⟨"UPD_DEM_SEL", 0x70100, [], .hub,
    [⟨7, 0, .rw, .val 0⟩]⟩,
  ⟨"UPD_DEMAND", 0x70108, [], .hub,
    [⟨27, 24, .ro, .val 0⟩,
     ⟨23, 20, .ro, .val 0⟩,
     ⟨19, 16, .ro, .val 0⟩,
     ⟨15, 12, .ro, .val 0⟩,
     ⟨11, 8, .ro, .val 0⟩,
     ⟨7, 4, .ro, .val 0⟩,
     ⟨3, 0, .ro, .val 0⟩]⟩ ]

/-- Registers of 12_clocks.md, part 0. -/
def regTable_12_0 : List RegDesc :=
  [
  ⟨"CLK_STATUS", 0x40000, [], .hub,
    [⟨63, 48, .ro, .val 0⟩,
     ⟨47, 40, .ro, .val 0⟩,
     ⟨39, 32, .ro, .val 0⟩,
     ⟨4, 4, .ro, .val 0⟩,
     ⟨3, 3, .ro, .val 0⟩,
     ⟨2, 2, .ro, .val 0⟩,
     ⟨1, 1, .ro, .val 0⟩,
     ⟨0, 0, .ro, .val 0⟩]⟩,
  ⟨"CLK_REF", 0x40008, [], .dawn,
    [⟨63, 32, .ro, .val 0⟩,
     ⟨31, 16, .ro, .val 0⟩,
     ⟨15, 0, .ro, .val 0⟩]⟩,
  ⟨"CLK_OP", 0x40010, [], .hub,
    [⟨39, 32, .ro, .val 0⟩,
     ⟨11, 8, .ro, .val 0xf⟩,
     ⟨7, 4, .ro, .val 2⟩,
     ⟨2, 0, .ro, .val 2⟩]⟩,
  ⟨"CLK_OP_REQ", 0x40018, [], .hub,
    [⟨3, 3, .w1s, .val 0⟩,
     ⟨2, 0, .rw, .val 2⟩]⟩,
  ⟨"CLK_EVENT", 0x40020, [], .hub,
    [⟨63, 63, .rc, .val 0⟩,
     ⟨62, 62, .rc, .val 0⟩,
     ⟨55, 48, .rc, .val 0⟩,
     ⟨47, 40, .rc, .val 0⟩,
     ⟨31, 16, .rc, .val 0⟩]⟩,
  ⟨"CLK_OP_COMMIT", 0x40028, [], .hub,
    [⟨63, 0, .ro, .val 0⟩]⟩,
  ⟨"CLK_OPTAB", 0x40040, [⟨0x8, 0, 8⟩], .hub,
    [⟨63, 63, .ro, .opEn⟩,
     ⟨47, 32, .ro, .opFreq⟩,
     ⟨31, 24, .ro, .opK⟩,
     ⟨23, 16, .ro, .fuse⟩,
     ⟨15, 8, .ro, .fuse⟩,
     ⟨7, 0, .ro, .fuse⟩]⟩,
  ⟨"ISB_COUNT", 0x40100, [], .hub,
    [⟨63, 0, .ro, .val 0⟩]⟩,
  ⟨"ISB_STATUS", 0x40108, [], .hub,
    [⟨63, 48, .ro, .val 0⟩,
     ⟨47, 32, .ro, .val 0⟩,
     ⟨3, 2, .ro, .val 0⟩,
     ⟨1, 1, .ro, .val 0⟩]⟩,
  ⟨"ISB_EPOCH", 0x40110, [], .hub,
    [⟨63, 0, .ro, .val 0⟩]⟩ ]

/-- Registers of 12_clocks.md, part 1. -/
def regTable_12_1 : List RegDesc :=
  [
  ⟨"ISB_PTP_CFG", 0x40118, [], .hub,
    [⟨63, 56, .rw, .val 0⟩,
     ⟨1, 1, .rw, .val 0⟩,
     ⟨0, 0, .rw, .val 0⟩]⟩,
  ⟨"ISB_PTP_STAT", 0x40120, [], .hub,
    [⟨63, 32, .ro, .val 0⟩,
     ⟨31, 16, .ro, .val 0⟩,
     ⟨7, 4, .ro, .val 0xf⟩,
     ⟨1, 1, .ro, .val 0⟩,
     ⟨0, 0, .ro, .val 0⟩]⟩,
  ⟨"CLK_SITE", 0x41000, [⟨0x8, 0, 169⟩], .fabric,
    [⟨63, 56, .ro, .val 0⟩,
     ⟨55, 48, .ro, .val 0⟩,
     ⟨39, 36, .ro, .val 0⟩,
     ⟨35, 32, .ro, .val 0⟩,
     ⟨2, 2, .ro, .val 0⟩,
     ⟨1, 1, .ro, .val 0⟩,
     ⟨0, 0, .ro, .val 0⟩]⟩ ]

/-- Registers of 13_overcast.md, part 0. -/
def regTable_13_0 : List RegDesc :=
  [
  ⟨"OVC_CTRL", 0x30000, [], .fabric,
    [⟨1, 1, .w1s, .val 0⟩,
     ⟨0, 0, .w1s, .val 0⟩]⟩,
  ⟨"OVC_SRC", 0x30008, [], .fabric,
    [⟨55, 0, .rw, .val 0⟩]⟩,
  ⟨"OVC_LEN", 0x30010, [], .fabric,
    [⟨32, 0, .rw, .val 0⟩]⟩,
  ⟨"OVC_STATUS", 0x30018, [], .fabric,
    [⟨63, 48, .ro, .val 0⟩,
     ⟨47, 40, .ro, .val 0xff⟩,
     ⟨39, 32, .ro, .val 0xff⟩,
     ⟨3, 0, .ro, .val 0⟩]⟩,
  ⟨"OVC_IMAGE", 0x30020, [], .fabric,
    [⟨63, 0, .ro, .val 0⟩]⟩,
  ⟨"OVC_STAGED", 0x30028, [], .fabric,
    [⟨63, 0, .ro, .val 0⟩]⟩,
  ⟨"OVC_ARM", 0x30030, [], .fabric,
    [⟨63, 48, .ro, .val 0⟩,
     ⟨47, 44, .ro, .val 0⟩,
     ⟨43, 40, .ro, .val 0⟩,
     ⟨39, 32, .ro, .val 0⟩,
     ⟨31, 24, .ro, .val 0⟩]⟩,
  ⟨"OVC_ARM_CFG", 0x30038, [], .fabric,
    [⟨31, 0, .rw, .val 0x249f0⟩]⟩,
  ⟨"OVC_ARM_T", 0x30040, [], .fabric,
    [⟨63, 0, .ro, .val 0⟩]⟩,
  ⟨"OVC_ARM_MISS", 0x30048, [], .fabric,
    [⟨63, 56, .ro, .val 0xff⟩,
     ⟨55, 40, .ro, .val 0⟩]⟩ ]

/-- Registers of 13_overcast.md, part 1. -/
def regTable_13_1 : List RegDesc :=
  [
  ⟨"OVC_FUSE", 0x30050, [], .dawn,
    [⟨11, 4, .ro, .fuse⟩,
     ⟨3, 0, .ro, .fuse⟩]⟩ ]

/-- Registers of 14_bringup.md, part 0. -/
def regTable_14_0 : List RegDesc :=
  [
  ⟨"RST_STATUS", 0x10000, [], .hub,
    [⟨63, 48, .ro, .val 0⟩,
     ⟨47, 40, .ro, .val 0⟩,
     ⟨39, 36, .ro, .val 0xf⟩,
     ⟨15, 15, .ro, .val 0⟩,
     ⟨14, 14, .ro, .val 0⟩,
     ⟨13, 13, .ro, .val 1⟩,
     ⟨3, 0, .ro, .val 2⟩]⟩,
  ⟨"RST_CTRL", 0x10008, [], .hub,
    [⟨31, 24, .wo, .val 0⟩,
     ⟨8, 8, .w1s, .val 0⟩,
     ⟨1, 0, .rw, .val 3⟩]⟩,
  ⟨"RST_PWR_REQ", 0x10010, [], .hub,
    [⟨15, 12, .ro, .val 0⟩,
     ⟨8, 8, .w1s, .val 0⟩,
     ⟨3, 0, .rw, .val 2⟩]⟩,
  ⟨"RST_MAP", 0x10018, [], .hub,
    [⟨34, 32, .ro, .doldLimit⟩,
     ⟨31, 0, .ro, .levelMap⟩]⟩,
  ⟨"RST_PARK", 0x10020, [], .hub,
    [⟨0, 0, .w1s, .val 0⟩]⟩,
  ⟨"RST_FW_SRC", 0x10100, [], .hub,
    [⟨55, 0, .rw, .val 0⟩]⟩,
  ⟨"RST_FW_LEN", 0x10108, [], .hub,
    [⟨32, 0, .rw, .val 0⟩]⟩,
  ⟨"RST_FW_CTRL", 0x10110, [], .hub,
    [⟨63, 56, .rw, .val 0⟩,
     ⟨8, 8, .w1s, .val 0⟩,
     ⟨2, 0, .rw, .val 0⟩]⟩,
  ⟨"RST_FW_BLOCKS", 0x10118, [], .hub,
    [⟨63, 0, .rw, .val 0⟩]⟩,
  ⟨"RST_FW_STATUS", 0x10120, [], .hub,
    [⟨63, 56, .ro, .val 0⟩,
     ⟨55, 48, .ro, .val 0⟩,
     ⟨47, 40, .ro, .val 0⟩,
     ⟨39, 32, .ro, .val 0⟩,
     ⟨31, 16, .ro, .val 0⟩,
     ⟨15, 8, .ro, .val 0⟩,
     ⟨4, 4, .ro, .val 0⟩,
     ⟨3, 3, .ro, .val 0⟩,
     ⟨2, 2, .ro, .val 0⟩]⟩ ]

/-- Registers of 14_bringup.md, part 1. -/
def regTable_14_1 : List RegDesc :=
  [
  ⟨"RST_FW_MISSCNT", 0x10140, [⟨0x8, 0, 8⟩], .hub,
    [⟨63, 0, .ro, .val 0⟩]⟩,
  ⟨"RST_FW_MISS", 0x11000, [⟨0x8, 0, 169⟩], .hub,
    [⟨63, 0, .ro, .val 0⟩]⟩,
  ⟨"DWN_CAUSE0", 0x20000, [], .never,
    [⟨63, 48, .ro, .val 0xa01⟩,
     ⟨47, 40, .ro, .val 0⟩,
     ⟨39, 38, .ro, .val 0⟩,
     ⟨37, 37, .ro, .val 1⟩,
     ⟨36, 36, .ro, .val 0⟩,
     ⟨35, 32, .ro, .val 0⟩,
     ⟨31, 28, .ro, .val 0⟩]⟩,
  ⟨"DWN_CAUSE1", 0x20008, [], .never,
    [⟨63, 0, .ro, .val 0x0⟩]⟩,
  ⟨"DWN_STATUS", 0x20010, [], .dawn,
    [⟨63, 32, .ro, .val 0⟩,
     ⟨6, 6, .ro, .val 0⟩,
     ⟨5, 0, .ro, .val 0⟩]⟩,
  ⟨"DWN_DOLD", 0x20018, [], .dawn,
    [⟨15, 8, .ro, .val 0⟩,
     ⟨1, 1, .ro, .val 0⟩,
     ⟨0, 0, .w1s, .val 0⟩]⟩,
  ⟨"DWN_WDOG", 0x20020, [], .dawn,
    [⟨63, 32, .ro, .val 0x3e8⟩,
     ⟨31, 0, .ro, .val 0x3e8⟩]⟩ ]

/-- Registers of 15_spares.md, part 0. -/
def regTable_15_0 : List RegDesc :=
  [
  ⟨"HUB_SPARE_STATUS", 0x300, [], .fabric,
    [⟨63, 48, .ro, .val 0⟩,
     ⟨47, 40, .ro, .val 0⟩,
     ⟨39, 32, .ro, .val 0⟩,
     ⟨31, 24, .ro, .val 0⟩,
     ⟨3, 0, .ro, .val 0⟩]⟩,
  ⟨"HUB_SPARE_CTRL", 0x308, [], .fabric,
    [⟨15, 8, .rw, .val 0⟩,
     ⟨1, 1, .w1s, .val 0⟩,
     ⟨0, 0, .w1s, .val 0⟩]⟩,
  ⟨"HUB_SPARE_CFG", 0x310, [], .fabric,
    [⟨63, 32, .rw, .val 0x3c⟩,
     ⟨0, 0, .rw, .val 1⟩]⟩,
  ⟨"HUB_SPARE_LOG", 0x318, [], .fabric,
    [⟨63, 63, .rc, .val 0⟩,
     ⟨62, 62, .rc, .val 0⟩,
     ⟨59, 56, .rc, .val 0⟩,
     ⟨55, 48, .rc, .val 0⟩,
     ⟨47, 40, .rc, .val 0⟩,
     ⟨31, 16, .rc, .val 0⟩]⟩,
  ⟨"HUB_SPARE_COPY", 0x320, [], .fabric,
    [⟨63, 56, .ro, .val 0xff⟩,
     ⟨55, 48, .ro, .val 0xff⟩,
     ⟨47, 44, .ro, .val 0⟩,
     ⟨43, 40, .ro, .val 0⟩,
     ⟨21, 0, .ro, .val 0⟩]⟩,
  ⟨"HUB_SECTOR", 0x340, [⟨0x8, 0, 16⟩], .fabric,
    [⟨63, 56, .ro, .val 0xff⟩,
     ⟨55, 48, .ro, .val 0xff⟩,
     ⟨47, 40, .ro, .val 0⟩,
     ⟨39, 32, .ro, .val 0⟩,
     ⟨3, 0, .ro, .val 0⟩]⟩,
  ⟨"HUB_SUBST", 0x3c0, [⟨0x8, 0, 16⟩], .fabric,
    [⟨63, 63, .ro, .val 0⟩,
     ⟨15, 8, .ro, .val 0⟩,
     ⟨7, 0, .ro, .val 0⟩]⟩ ]

/-- Registers of 16_host.md, part 0. -/
def regTable_16_0 : List RegDesc :=
  [
  ⟨"HUB_B4AP", 0xc00, [⟨0x8, 0, 16⟩], .hub,
    [⟨63, 63, .rw, .val 0⟩,
     ⟨55, 0, .rw, .val 0⟩]⟩,
  ⟨"HUB_PCIE", 0xc80, [], .hub,
    [⟨63, 60, .ro, .val 0⟩,
     ⟨59, 54, .ro, .val 0⟩,
     ⟨53, 53, .ro, .val 0⟩,
     ⟨52, 52, .ro, .val 0⟩,
     ⟨51, 51, .ro, .val 0⟩,
     ⟨50, 50, .ro, .val 0⟩,
     ⟨47, 32, .ro, .val 0⟩]⟩,
  ⟨"HUB_IRQ_CFG", 0xc88, [], .hub,
    [⟨63, 48, .rw, .val 0⟩,
     ⟨41, 40, .rw, .val 2⟩]⟩,
  ⟨"HUB_EVENT", 0xc90, [], .hub,
    [⟨10, 10, .w1c, .val 0⟩,
     ⟨9, 9, .w1c, .val 0⟩,
     ⟨8, 8, .w1c, .val 0⟩,
     ⟨7, 7, .w1c, .val 0⟩,
     ⟨6, 6, .w1c, .val 0⟩,
     ⟨5, 5, .w1c, .val 0⟩,
     ⟨4, 4, .w1c, .val 0⟩,
     ⟨3, 3, .w1c, .val 0⟩,
     ⟨2, 2, .w1c, .val 0⟩,
     ⟨1, 1, .w1c, .val 0⟩,
     ⟨0, 0, .w1c, .val 0⟩]⟩,
  ⟨"HUB_MBX_PEND", 0xc98, [⟨0x8, 0, 3⟩], .hub,
    [⟨63, 0, .ro, .val 0⟩]⟩,
  ⟨"HUB_GRX_PEND", 0xcb0, [⟨0x8, 0, 8⟩], .hub,
    [⟨63, 0, .w1c, .val 0⟩]⟩,
  ⟨"HUB_HST_ERR", 0xcf0, [], .hub,
    [⟨63, 48, .ro, .val 0⟩,
     ⟨47, 32, .ro, .val 0⟩,
     ⟨31, 16, .ro, .val 0⟩,
     ⟨15, 0, .ro, .val 0⟩]⟩,
  ⟨"HUB_HST_ADDR", 0xcf8, [], .hub,
    [⟨63, 62, .ro, .val 0⟩,
     ⟨61, 61, .ro, .val 0⟩,
     ⟨60, 60, .ro, .val 0⟩,
     ⟨59, 56, .ro, .val 0⟩,
     ⟨25, 0, .ro, .val 0⟩]⟩,
  ⟨"HUB_MGT", 0xd00, [⟨0x8, 0, 2⟩], .hub,
    [⟨63, 60, .ro, .val 0⟩,
     ⟨59, 58, .ro, .val 0⟩,
     ⟨47, 0, .ro, .fuse⟩]⟩,
  ⟨"HUB_MGT_IP", 0xd10, [⟨0x8, 0, 2⟩], .hub,
    [⟨63, 63, .rw, .val 0⟩,
     ⟨62, 62, .ro, .val 0⟩,
     ⟨55, 48, .rw, .val 0⟩,
     ⟨31, 0, .rw, .val 0⟩]⟩ ]

/-- Registers of 16_host.md, part 1. -/
def regTable_16_1 : List RegDesc :=
  [
  ⟨"HUB_MGT_KEY", 0xd20, [⟨0x8, 0, 4⟩], .hub,
    [⟨63, 0, .wo, .val 0⟩]⟩,
  ⟨"HUB_MGT_CPER", 0xd40, [], .hub,
    [⟨63, 63, .rw, .val 0⟩,
     ⟨55, 54, .rw, .val 2⟩,
     ⟨47, 32, .rw, .val 0⟩,
     ⟨31, 0, .rw, .val 0⟩]⟩,
  ⟨"HUB_MGT_STAT", 0xd48, [], .hub,
    [⟨63, 48, .ro, .val 0⟩,
     ⟨47, 32, .ro, .val 0⟩,
     ⟨31, 16, .ro, .val 0⟩,
     ⟨0, 0, .ro, .val 0⟩]⟩,
  ⟨"HUB_SMB_CMD", 0xe00, [], .hub,
    [⟨63, 63, .w1s, .val 0⟩,
     ⟨62, 62, .ro, .val 0⟩,
     ⟨61, 60, .ro, .val 0⟩,
     ⟨59, 56, .rw, .val 0⟩,
     ⟨55, 52, .rw, .val 0⟩,
     ⟨51, 44, .rw, .val 0⟩,
     ⟨43, 36, .rw, .val 0⟩,
     ⟨35, 28, .rw, .val 0⟩]⟩,
  ⟨"HUB_SMB_DATA", 0xe08, [⟨0x8, 0, 16⟩], .hub,
    [⟨63, 0, .ro, .val 0⟩]⟩,
  ⟨"GST_STATUS", 0x1e0000, [⟨0x8000, 0, 4⟩], .fabric,
    [⟨63, 48, .ro, .val 0⟩,
     ⟨47, 44, .ro, .val 0⟩,
     ⟨39, 32, .ro, .val 0⟩,
     ⟨31, 24, .ro, .val 0⟩,
     ⟨23, 16, .ro, .val 0⟩,
     ⟨3, 0, .ro, .val 0⟩]⟩,
  ⟨"GST_CTRL", 0x1e0008, [⟨0x8000, 0, 4⟩], .fabric,
    [⟨1, 1, .w1s, .val 0⟩,
     ⟨0, 0, .rw, .val 1⟩]⟩,
  ⟨"GST_CAP", 0x1e0010, [⟨0x8000, 0, 4⟩, ⟨0x8, 0, 8⟩], .fabric,
    [⟨63, 0, .ro, .val 0⟩]⟩,
  ⟨"GST_ERR", 0x1e0050, [⟨0x8000, 0, 4⟩], .fabric,
    [⟨63, 48, .ro, .val 0⟩,
     ⟨47, 32, .ro, .val 0⟩,
     ⟨31, 16, .ro, .val 0⟩,
     ⟨15, 0, .ro, .val 0⟩]⟩,
  ⟨"GST_TRAFFIC", 0x1e0058, [⟨0x8000, 0, 4⟩], .fabric,
    [⟨63, 32, .ro, .val 0⟩,
     ⟨31, 0, .ro, .val 0⟩]⟩ ]

/-- Every register of the spec. -/
def regTable : List RegDesc :=
  regTable_00_0 ++ regTable_01_0 ++ regTable_02_0 ++ regTable_02_1 ++ regTable_03_0 ++ regTable_04_0 ++ regTable_04_1 ++ regTable_04_2 ++ regTable_05_0 ++ regTable_05_1 ++ regTable_06_0 ++ regTable_06_1 ++ regTable_07_0 ++ regTable_07_1 ++ regTable_08_0 ++ regTable_08_1 ++ regTable_09_0 ++ regTable_09_1 ++ regTable_09_2 ++ regTable_10_0 ++ regTable_10_1 ++ regTable_11_0 ++ regTable_11_1 ++ regTable_11_2 ++ regTable_12_0 ++ regTable_12_1 ++ regTable_13_0 ++ regTable_13_1 ++ regTable_14_0 ++ regTable_14_1 ++ regTable_15_0 ++ regTable_16_0 ++ regTable_16_1

end Sys2Proof.Machine
end

