-- ==== Sys2Proof/Machine/Formats.lean ====
section
/-! DEFINITION. Number formats and exact arithmetic (03_formats.md): the value of an encoding, the anchored window, the
one rounding to an output format, block scales, and the element strings that carry them. -/

namespace Sys2Proof.Machine

/-! ## Exact values -/

/-- The exact value num × 2^exp. -/
structure Dyadic where
  num : Int
  exp : Int
  deriving DecidableEq, Repr

namespace Dyadic

def zero : Dyadic := ⟨0, 0⟩

def isZero (d : Dyadic) : Bool := d.num = 0

def mul (a b : Dyadic) : Dyadic := ⟨a.num * b.num, a.exp + b.exp⟩

def neg (a : Dyadic) : Dyadic := ⟨-a.num, a.exp⟩

/-- The value with its exponent raised by k. -/
def scale (a : Dyadic) (k : Int) : Dyadic := ⟨a.num, a.exp + k⟩

def add (a b : Dyadic) : Dyadic :=
  if a.exp ≤ b.exp then ⟨a.num + b.num * 2 ^ (b.exp - a.exp).toNat, a.exp⟩
  else ⟨a.num * 2 ^ (a.exp - b.exp).toNat + b.num, b.exp⟩

/-- Whether the first value is below the second. -/
def lt (a b : Dyadic) : Bool :=
  if a.exp ≤ b.exp then a.num < b.num * 2 ^ (b.exp - a.exp).toNat
  else a.num * 2 ^ (a.exp - b.exp).toNat < b.num

/-- floor(log2 |d|) of a nonzero value. -/
def log2 (d : Dyadic) : Int := (Nat.log2 d.num.natAbs : Int) + d.exp

/-- How many times 2 divides a number, at most its bit length. -/
def twosAux : Nat → Nat → Nat
  | 0, _ => 0
  | f + 1, n => if n % 2 = 0 ∧ n ≠ 0 then 1 + twosAux f (n / 2) else 0

/-- The weight of the lowest set bit of a nonzero value: the value is an integer multiple of 2^low. -/
def low (d : Dyadic) : Int := (twosAux (Nat.log2 d.num.natAbs + 1) d.num.natAbs : Int) + d.exp

/-- The value in units of 2^k, when it is an integer number of them. -/
def inUnits (d : Dyadic) (k : Int) : Int :=
  if k ≤ d.exp then d.num * 2 ^ (d.exp - k).toNat else d.num / 2 ^ (k - d.exp).toNat

end Dyadic

/-! ## Formats (Tables 2.1, 2.2, 3.1 and 3.2) -/

/-- A floating-point layout: widths of exponent and mantissa, bias, the largest finite code of the magnitude bits,
and the magnitude code of infinity where there is one. -/
structure FloatFormat where
  ebits : Nat
  mbits : Nat
  bias : Nat
  maxCode : Nat
  infCode : Option Nat
  deriving DecidableEq, Repr

/-- The floating-point layout of a format code (Table 3.2). -/
def floatFormat : Nat → Option FloatFormat
  | 0x0 => some ⟨8, 7, 127, 0x7F7F, some 0x7F80⟩
  | 0x1 => some ⟨5, 10, 15, 0x7BFF, some 0x7C00⟩
  | 0x2 => some ⟨4, 3, 7, 0x7E, none⟩
  | 0x3 => some ⟨5, 2, 15, 0x7B, some 0x7C⟩
  | 0x5 => some ⟨3, 2, 3, 0x1F, none⟩
  | 0x6 => some ⟨2, 3, 1, 0x1F, none⟩
  | 0x7 => some ⟨2, 1, 1, 0x7, none⟩
  | 0xB => some ⟨8, 23, 127, 0x7F7FFFFF, some 0x7F800000⟩
  | _ => none

/-- The FP32 layout. -/
def fp32 : FloatFormat := ⟨8, 23, 127, 0x7F7FFFFF, some 0x7F800000⟩

/-- The FP16 layout. -/
def fp16 : FloatFormat := ⟨5, 10, 15, 0x7BFF, some 0x7C00⟩

/-- Bits per element of a format code (Tables 2.2, 3.2). Ternary has no fixed width and gives 0. -/
def formatWidth : Nat → Nat
  | 0x0 => 16 | 0x1 => 16 | 0x2 => 8 | 0x3 => 8 | 0x4 => 8 | 0x5 => 6 | 0x6 => 6 | 0x7 => 4 | 0x8 => 4 | 0xB => 32
  | _ => 0

/-- The rate class of an array format code: 4, 8 or 16, and 0 for an invalid code (Table 2.2). -/
def formatClass (f : Nat) : Nat :=
  if f ≤ 1 then 16 else if f ≤ 6 then 8 else if f ≤ 9 then 4 else 0

/-- Whether a block scale may be enabled for a format (R65). -/
def scaleAllowed (f : Nat) : Bool := decide (2 ≤ f) && decide (f ≤ 7)

/-- The check of R65 on one weight format, one activation format and their scale enables. -/
def formatPairOk (wfmt afmt : Nat) (mxw mxa : Bool) : Bool :=
  formatClass wfmt != 0 && formatClass afmt == formatClass wfmt && afmt != 9
    && (!mxw || scaleAllowed wfmt) && (!mxa || scaleAllowed afmt)

/-- K per entry of a rate class (Table 2.1). -/
def classK (cls : Nat) : Nat := if cls = 4 then 128 else 64

/-- The value of an encoding: exact, or non-finite (an infinity with its sign, or NaN). The sign of a zero is kept
beside the exact value. -/
inductive Num where
  | fin (neg : Bool) (d : Dyadic)
  | inf (neg : Bool)
  | nan
  deriving DecidableEq, Repr

/-- The value of an encoding in a floating-point layout (R104, Table 3.2). -/
def decodeFloat (f : FloatFormat) (n : Nat) : Num :=
  let e := bits n (f.mbits + f.ebits - 1) f.mbits
  let m := n % 2 ^ f.mbits
  let neg := bit n (f.mbits + f.ebits)
  let mag := n % 2 ^ (f.mbits + f.ebits)
  let sgn : Int := if neg then -1 else 1
  if mag ≤ f.maxCode then
    if e = 0 then .fin neg ⟨sgn * m, 1 - (f.bias : Int) - f.mbits⟩
    else .fin neg ⟨sgn * ((2 ^ f.mbits + m : Nat) : Int), (e : Int) - f.bias - f.mbits⟩
  else if f.infCode = some mag then .inf neg
  else .nan

/-- The value of an element of an array or output format. mx says that INT8 carries its implicit factor 2^−6
(R106). Invalid codes have the value zero. -/
def decodeElement (code : Nat) (mx : Bool) (n : Nat) : Num :=
  match floatFormat code with
  | some f => decodeFloat f n
  | none =>
    if code = 4 then
      let v := signed 8 n
      .fin (decide (v < 0)) ⟨v, if mx then -6 else 0⟩
    else if code = 8 then
      let v := signed 4 n
      .fin (decide (v < 0)) ⟨v, 0⟩
    else .fin false .zero

/-- The exponent of an E8M0 scale byte; none for 0xFF (R114). -/
def decodeScale (b : Nat) : Option Int := if b % 256 = 255 then none else some ((b % 256 : Nat) - 127 : Int)

/-! ## Element strings (R110) -/

/-- Element i of width w of a byte string. -/
def elementAt (bytes : List Nat) (w i : Nat) : Nat := ofLe bytes >>> (w * i) % 2 ^ w

/-- The first n elements of width w of a byte string. -/
def elements (bytes : List Nat) (w n : Nat) : List Nat :=
  let v := ofLe bytes
  (below n).map (fun i => (v >>> (w * i)) % 2 ^ w)

/-- The byte string of elements of width w. -/
def elementString (w : Nat) (es : List Nat) : List Nat :=
  let v := es.foldr (fun e acc => e % 2 ^ w + 2 ^ w * acc) 0
  leBytes ((w * es.length + 7) / 8) v

/-! ## Ternary (R107 to R109, R113) -/

/-- Trit i of a ternary byte; 0 for an invalid byte (R109). -/
def tritOf (b i : Nat) : Int := if b % 256 ≥ 243 then 0 else ((b % 256) / 3 ^ i % 3 : Nat) - 1

/-- Whether a ternary byte is valid. -/
def tritByteOk (b : Nat) : Bool := b % 256 < 243

/-! ## The anchored window (R118, R119) -/

/-- What step 4 of the column path makes of one scaled product. -/
inductive Product where
  | zero
  | inside (v : Int)
  | high (rel : Int)
  | low (rel : Int)
  deriving DecidableEq, Repr

/-- The classification of R119 under anchor A; high and low carry the relative exponent of R124. -/
def classify (a : Int) (p : Dyadic) : Product :=
  if p.isZero then .zero
  else if p.log2 ≥ a + 71 then .high (p.log2 - a)
  else if p.low < a - 56 then .low (p.log2 - a)
  else .inside (p.inUnits (a - 56))

/-- A 128-bit two's-complement accumulator (R118, R120). -/
abbrev Acc := BitVec 128

/-- The exact value of an accumulator under anchor A. -/
def accValue (a : Int) (v : Acc) : Dyadic := ⟨v.toInt, a - 56⟩

/-- A relative exponent as the 16-bit field of MXA_FLUSH_EXT, saturating at 0x7FFF and 0x8001 (R124). -/
def relField (r : Int) : Nat := unsigned 16 (if r > 0x7FFF then 0x7FFF else if r < -0x7FFF then -0x7FFF else r)

/-- The larger of two fields of MXA_FLUSH_EXT: 0x8000 is the most negative number and means none. -/
def relMax (x y : Nat) : Nat := if signed 16 x < signed 16 y then y else x

/-! ## Output conversion (R128 to R135) -/

/-- The fields of an output conversion word (Table 3.7). -/
structure OutWord where
  oshift : Int
  mxo : Bool
  inf : Bool
  rnd : Nat
  ofmt : Nat
  deriving DecidableEq, Repr

def outWord (n : Nat) : OutWord :=
  ⟨signed 8 (bits n 15 8), bit n 7, bit n 6, bits n 5 4, bits n 3 0⟩

/-- Whether R129 accepts an output conversion word. -/
def outWordOk (n : Nat) : Bool :=
  let w := outWord n
  (w.ofmt ≤ 8 || w.ofmt == 0xB) && (!w.mxo || (decide (2 ≤ w.ofmt) && decide (w.ofmt ≤ 7)))

/-- Round the magnitude n × 2^e to an integer number of units 2^q, in a rounding mode (Table 3.7) for a value of the
given sign. -/
def roundUnits (rnd : Nat) (neg : Bool) (n : Nat) (e q : Int) : Nat :=
  if q ≤ e then n * 2 ^ (e - q).toNat
  else
    let s := (q - e).toNat
    let k := n / 2 ^ s
    let r := n % 2 ^ s
    let half := 2 ^ (s - 1)
    let up : Bool :=
      match rnd with
      | 0 => decide (r > half) || (decide (r = half) && decide (k % 2 = 1))
      | 1 => false
      | 2 => decide (r ≠ 0) && !neg
      | _ => decide (r ≠ 0) && neg
    if up then k + 1 else k

/-- The magnitude code of a nonzero exact value in a floating-point layout, its exponent taken as unbounded above. -/
def roundFloat (f : FloatFormat) (rnd : Nat) (d : Dyadic) : Nat :=
  let neg := decide (d.num < 0)
  let n := d.num.natAbs
  let fl := d.log2
  let emin : Int := 1 - (f.bias : Int)
  let eb := if fl < emin then emin else fl
  let k := roundUnits rnd neg n d.exp (eb - f.mbits)
  (eb - emin).toNat * 2 ^ f.mbits + k

/-- The largest finite value of a layout. -/
def maxFinite (f : FloatFormat) : Dyadic :=
  match decodeFloat f f.maxCode with
  | .fin _ d => d
  | _ => .zero

/-- An encoding and whether it counts as a saturation (R133, R132). -/
structure Converted where
  code : Nat
  sat : Bool
  deriving DecidableEq, Repr

/-- Convert a value to a floating-point layout (R130, R131, R133). neg is the sign of a value of zero. -/
def toFloat (f : FloatFormat) (rnd : Nat) (inf : Bool) (r : Num) : Converted :=
  let signBit := 2 ^ (f.mbits + f.ebits)
  let signed (neg : Bool) (c : Nat) : Nat := if neg then signBit + c else c
  match r with
  | .nan => ⟨0, false⟩
  | .inf neg =>
    match f.infCode with
    | some ic =>
      if inf then
        let toInf : Bool := match rnd with | 0 => true | 1 => false | 2 => !neg | _ => neg
        ⟨signed neg (if toInf then ic else f.maxCode), true⟩
      else ⟨signed neg f.maxCode, true⟩
    | none => ⟨signed neg f.maxCode, true⟩
  | .fin _ d =>
    if d.isZero then ⟨0, false⟩
    else
      let neg := decide (d.num < 0)
      let mag : Dyadic := ⟨d.num.natAbs, d.exp⟩
      if (maxFinite f).lt mag then
        match f.infCode with
        | some ic =>
          if inf then
            let toInf : Bool :=
              match rnd with
              | 0 => decide (roundFloat f 0 d > f.maxCode)
              | 1 => false
              | 2 => !neg
              | _ => neg
            ⟨signed neg (if toInf then ic else f.maxCode), true⟩
          else ⟨signed neg f.maxCode, true⟩
        | none => ⟨signed neg f.maxCode, true⟩
      else ⟨signed neg (roundFloat f rnd d), false⟩

/-- Round an exact value to an integer in a rounding mode. -/
def roundInt (rnd : Nat) (d : Dyadic) : Int :=
  let neg := decide (d.num < 0)
  let k := roundUnits rnd neg d.num.natAbs d.exp 0
  if neg then -(k : Int) else (k : Int)

/-- Convert a value to a two's-complement integer of w bits, clamping (R132). An infinite lane clamps (R147). -/
def toInteger (w rnd : Nat) (r : Num) : Converted :=
  let top : Int := 2 ^ (w - 1) - 1
  let bot : Int := -(2 ^ (w - 1) : Int)
  match r with
  | .nan => ⟨0, false⟩
  | .inf neg => ⟨unsigned w (if neg then bot else top), true⟩
  | .fin _ d =>
    let i := roundInt rnd d
    if i > top then ⟨unsigned w top, true⟩
    else if i < bot then ⟨unsigned w bot, true⟩
    else ⟨unsigned w i, false⟩

/-- Convert one value under an output conversion word, its OSHIFT already applied. mxInt8 scales an INT8 element of a
block by 2^6 (R135). -/
def convertOne (w : OutWord) (r : Num) : Converted :=
  match floatFormat w.ofmt with
  | some f => toFloat f w.rnd w.inf r
  | none => toInteger (if w.ofmt = 8 then 4 else 8) w.rnd r

/-- A value with its exponent raised by k. -/
def Num.scale (r : Num) (k : Int) : Num :=
  match r with
  | .fin s d => .fin s (d.scale k)
  | .inf s => .inf s
  | .nan => .nan

/-- e_max of a block-scaled output format (R135). -/
def emaxOf : Nat → Int
  | 0x2 => 8 | 0x3 => 15 | 0x5 => 4 | 0x6 => 2 | 0x7 => 2 | _ => 0

/-- floor(log2 max |r|) of the finite nonzero values of a block; none if every value is zero. -/
def blockLog2 (rs : List Num) : Option Int :=
  rs.foldl (fun m r =>
    match r with
    | .fin _ d =>
      if d.isZero then m
      else match m with
        | none => some d.log2
        | some x => some (if x < d.log2 then d.log2 else x)
    | .inf _ => some 4096
    | .nan => m) none

/-- The shared exponent X of a block of 32 outputs (R135). -/
def blockExponent (ofmt : Nat) (rs : List Num) : Int :=
  match blockLog2 rs with
  | none => -127
  | some l =>
    let x := l - emaxOf ofmt
    if x > 127 then 127 else if x < -127 then -127 else x

/-- Convert a list of values under an output conversion word: the codes, the scale bytes of its blocks of 32 (with
MXO = 1), and how many outputs saturated (R130 to R135). OSHIFT is applied here. -/
def convertAll (w : OutWord) (rs : List Num) : List Nat × List Nat × Nat :=
  let rs := rs.map (·.scale w.oshift)
  if w.mxo then
    let blocks := groups 32 rs
    let conv := blocks.map (fun b =>
      let x := blockExponent w.ofmt b
      (b.map (fun r => convertOne w (r.scale ((if w.ofmt = 4 then 6 else 0) - x))), (x + 127).toNat))
    let cs := (conv.map (·.1)).flatten
    (cs.map (·.code), conv.map (·.2), (cs.filter (·.sat)).length)
  else
    let cs := rs.map (convertOne w)
    (cs.map (·.code), [], (cs.filter (·.sat)).length)

/-- The record that leaves a converter: the element string and then the scale bytes (R134), and its saturations. -/
def outputRecord (w : OutWord) (rs : List Num) : List Nat × Nat :=
  let (codes, scales, sats) := convertAll w rs
  (elementString (formatWidth w.ofmt) codes ++ scales, sats)

/-- Bytes of one output row record (Table 5.8). -/
def outputRecordSize (n : Nat) : Nat :=
  let w := outWord n
  64 * formatWidth w.ofmt / 8 + (if w.mxo then 2 else 0)

/-- Bytes of one activation vector record (Table 5.8). -/
def vectorRecordSize (afmt : Nat) (mxa : Bool) : Nat :=
  let k := classK (formatClass afmt)
  k * formatWidth afmt / 8 + (if mxa then k / 32 else 0)

/-! ## FP32 lane arithmetic (R141 to R143) -/

/-- The canonical NaN. -/
def nanLane : Lane := 0x7FC00000#32

/-- The value of a lane as FP32. -/
def laneNum (x : Lane) : Num := decodeFloat fp32 x.toNat

/-- A lane holding an infinity. -/
def infLane (neg : Bool) : Lane := if neg then 0xFF800000#32 else 0x7F800000#32

/-- A lane holding a zero of a sign. -/
def zeroLane (neg : Bool) : Lane := if neg then 0x80000000#32 else 0#32

/-- Round an exact value to FP32, to nearest with ties to even, overflow to infinity; an exact zero takes the sign
given. -/
def roundLane (zneg : Bool) (d : Dyadic) : Lane :=
  if d.isZero then zeroLane zneg
  else
    let c := toFloat fp32 0 true (.fin (decide (d.num < 0)) d)
    if c.code % 2 ^ 31 = 0 then zeroLane (decide (d.num < 0)) else lane c.code

/-- Round an exact value to FP32 in a given rounding mode. -/
def roundLaneMode (rnd : Nat) (d : Dyadic) : Lane :=
  if d.isZero then zeroLane false
  else lane ((toFloat fp32 rnd true (.fin (decide (d.num < 0)) d)).code)

def laneAdd (a b : Lane) : Lane :=
  match laneNum a, laneNum b with
  | .nan, _ => nanLane
  | _, .nan => nanLane
  | .inf s, .inf t => if s = t then infLane s else nanLane
  | .inf s, _ => infLane s
  | _, .inf t => infLane t
  | .fin s x, .fin t y => roundLane (s && t && x.isZero && y.isZero) (x.add y)

def laneNeg (a : Lane) : Lane := a ^^^ 0x80000000#32

/-- Negation as FUN NEG gives it: a NaN stays the canonical NaN. -/
def laneSub (a b : Lane) : Lane := laneAdd a (laneNeg b)

def laneMul (a b : Lane) : Lane :=
  match laneNum a, laneNum b with
  | .nan, _ => nanLane
  | _, .nan => nanLane
  | .inf s, .inf t => infLane (s != t)
  | .inf s, .fin t y => if y.isZero then nanLane else infLane (s != t)
  | .fin s x, .inf t => if x.isZero then nanLane else infLane (s != t)
  | .fin s x, .fin t y => roundLane (s != t) (x.mul y)

/-- Fused multiply-add, rounded once (R141). -/
def laneFma (a b c : Lane) : Lane :=
  match laneNum a, laneNum b, laneNum c with
  | .nan, _, _ => nanLane
  | _, .nan, _ => nanLane
  | .fin s x, .fin t y, .fin u z =>
    let p := x.mul y
    roundLane ((s != t) && u && p.isZero && z.isZero) (p.add z)
  | .fin _ _, .fin _ _, .inf u => infLane u
  | .fin _ _, .fin _ _, .nan => nanLane
  | .inf s, .inf t, z =>
    match z with
    | .nan => nanLane
    | .inf u => if u = (s != t) then infLane u else nanLane
    | .fin _ _ => infLane (s != t)
  | .inf s, .fin t y, z =>
    if y.isZero then nanLane
    else match z with
      | .nan => nanLane
      | .inf u => if u = (s != t) then infLane u else nanLane
      | .fin _ _ => infLane (s != t)
  | .fin s x, .inf t, z =>
    if x.isZero then nanLane
    else match z with
      | .nan => nanLane
      | .inf u => if u = (s != t) then infLane u else nanLane
      | .fin _ _ => infLane (s != t)

/-- Whether a lane is a NaN. -/
def isNanLane (a : Lane) : Bool := match laneNum a with | .nan => true | _ => false

/-- Whether a lane is below another, −0 being below +0 when zeros is set (R141). NaN compares false. -/
def laneLt (zeros : Bool) (a b : Lane) : Bool :=
  match laneNum a, laneNum b with
  | .nan, _ => false
  | _, .nan => false
  | .inf s, .inf t => s && !t
  | .inf s, .fin _ _ => s
  | .fin _ _, .inf t => !t
  | .fin s x, .fin t y => x.lt y || (zeros && x.isZero && y.isZero && s && !t)

def laneEq (a b : Lane) : Bool :=
  match laneNum a, laneNum b with
  | .nan, _ => false
  | _, .nan => false
  | .inf s, .inf t => s == t
  | .fin _ x, .fin _ y => !x.lt y && !y.lt x
  | _, _ => false

/-- minimumNumber of IEEE 754-2019. -/
def laneMin (a b : Lane) : Lane :=
  if isNanLane a then (if isNanLane b then nanLane else b)
  else if isNanLane b then a
  else if laneLt true b a then b else a

/-- maximumNumber of IEEE 754-2019. -/
def laneMax (a b : Lane) : Lane :=
  if isNanLane a then (if isNanLane b then nanLane else b)
  else if isNanLane b then a
  else if laneLt true a b then b else a

/-- Round a lane to an integral value: rounding mode 0 nearest even, 1 toward zero, 2 up, 3 down. -/
def laneIntegral (rnd : Nat) (a : Lane) : Lane :=
  match laneNum a with
  | .nan => nanLane
  | .inf s => infLane s
  | .fin s d =>
    let i := roundInt rnd d
    if i = 0 then zeroLane s else roundLane s ⟨i, 0⟩

/-! ### Square roots, reciprocals and the transcendental functions (R142) -/

/-- Integer square root by bits, from the bit of weight 4^f down. -/
def isqrtAux : Nat → Nat → Nat → Nat
  | 0, _, r => r
  | f + 1, n, r =>
    let c := r + 2 ^ f
    isqrtAux f n (if c * c ≤ n then c else r)

/-- floor(sqrt n). -/
def isqrt (n : Nat) : Nat := isqrtAux (Nat.log2 n / 2 + 1) n 0

/-- The square root of a positive exact value, to 32 bits or more with a sticky low bit. -/
def sqrtSticky (d : Dyadic) : Dyadic :=
  let n := d.num.natAbs
  let odd := d.exp % 2 != 0
  let n1 := if odd then 2 * n else n
  let e1 := if odd then d.exp - 1 else d.exp
  let m := n1 * 2 ^ 64
  let s := isqrt m
  ⟨((2 * s + b2n (s * s != m) : Nat) : Int), e1 / 2 - 32 - 1⟩

/-- The reciprocal square root of a positive exact value, with a sticky low bit. -/
def rsqrtSticky (d : Dyadic) : Dyadic :=
  let n := d.num.natAbs
  let odd := d.exp % 2 != 0
  let n1 := if odd then 2 * n else n
  let e1 := if odd then d.exp - 1 else d.exp
  let t := 64 + Nat.log2 n1
  let m := 2 ^ (2 * t) / n1
  let s := isqrt m
  ⟨((2 * s + b2n (n1 * s * s != 2 ^ (2 * t)) : Nat) : Int), -(t : Int) - e1 / 2 - 1⟩

/-- The reciprocal of a nonzero exact value, with a sticky low bit. -/
def rcpSticky (d : Dyadic) : Dyadic :=
  let n := d.num.natAbs
  let t := 64 + Nat.log2 n
  let q := 2 ^ t / n
  let m : Int := ((2 * q + b2n (n * q != 2 ^ t) : Nat) : Int)
  ⟨if d.num < 0 then -m else m, -(t : Int) - d.exp - 1⟩

/-- An error below 1 unit in the last place leaves the neighbour toward zero or the one away from it; which of the two
a B1 module gives is the fixed function that the manual does not print (R142): Config.ftrAway. -/
def pickNeighbour (fn : Nat) (x : Lane) (d : Dyadic) : Lane :=
  let toward := roundLaneMode 1 d
  let away := roundLaneMode (if d.num < 0 then 3 else 2) d
  if Config.ftrAway fn x then away else toward

/-- The transcendental functions of FTR: 0 EXP2, 1 LOG2, 2 RCP, 3 RSQRT, 4 SQRT (R142). Where the exact result is
representable an error below 1 unit leaves only it; elsewhere EXP2 and LOG2 are Config's fixed functions. -/
def laneFtr (fn : Nat) (x : Lane) : Lane :=
  match fn, laneNum x with
  | _, .nan => nanLane
  | 0, .inf s => if s then zeroLane false else infLane false
  | 0, .fin _ d =>
    if d.low ≥ 0 ∨ d.isZero then
      let i := d.inUnits 0
      if i ≥ 128 then infLane false else if i < -149 then Config.exp2Of x else roundLane false ⟨1, i⟩
    else if d.num > 0 ∧ d.log2 ≥ 7 then infLane false
    else Config.exp2Of x
  | 1, .inf s => if s then nanLane else infLane false
  | 1, .fin _ d =>
    if d.isZero then infLane true
    else if d.num < 0 then nanLane
    else if d.low = d.log2 then roundLane false ⟨d.log2, 0⟩
    else Config.log2Of x
  | 2, .inf s => zeroLane s
  | 2, .fin s d => if d.isZero then infLane s else pickNeighbour 2 x (rcpSticky d)
  | 3, .inf s => if s then nanLane else zeroLane false
  | 3, .fin s d =>
    if d.isZero then infLane s
    else if d.num < 0 then nanLane
    else pickNeighbour 3 x (rsqrtSticky d)
  | _, .inf s => if s then nanLane else infLane false
  | _, .fin s d =>
    if d.isZero then zeroLane s
    else if d.num < 0 then nanLane
    else roundLane false (sqrtSticky d)

/-- One level of the fixed reduction tree of R143. -/
def treeLevel (f : Lane → Lane → Lane) : List Lane → List Lane
  | a :: b :: l => f a b :: treeLevel f l
  | l => l

/-- The fixed reduction tree over 2^n lanes. -/
def treeReduce (f : Lane → Lane → Lane) : Nat → List Lane → Lane
  | 0, l => nth 0#32 l 0
  | n + 1, l => treeReduce f n (treeLevel f l)

/-- FP32 to INT32, to nearest even, clamped, NaN to 0 (Table 4.2, CVT 0). -/
def laneToInt (x : Lane) : Lane :=
  match laneNum x with
  | .nan => 0#32
  | .inf s => if s then 0x80000000#32 else 0x7FFFFFFF#32
  | .fin s d => lane (toInteger 32 0 (.fin s d)).code

/-- INT32 to FP32, to nearest even (CVT 1). -/
def laneOfInt (x : Lane) : Lane := roundLane false ⟨x.toInt, 0⟩

/-- The exact FP32 lane of an element (R146): every NaN encoding loads as the canonical NaN. -/
def laneOfElement (code : Nat) (n : Nat) : Lane :=
  match decodeElement code false n with
  | .nan => nanLane
  | .inf s => infLane s
  | .fin s d => roundLane s d

/-- The lane of an E8M0 scale byte (R146, Table 4.2 VLDSC). -/
def laneOfScale (b : Nat) : Lane :=
  match decodeScale b with
  | none => nanLane
  | some e => roundLane false ⟨1, e⟩

end Sys2Proof.Machine
end

