-- ==== Sys2Proof/Machine/State.lean ====
section
/-! DEFINITION. The state of the panel as plain data. Every register of the spec has one home, the register file regs; what
software cannot read through a register (bank contents, accumulators, queues in flight, timers' hidden state) stands in
the structures below, chapter by chapter. -/

namespace Sys2Proof.Machine

open Sys2Proof

/-! ## Logs and records -/

/-- A queue register under R51: its entries, oldest first, and OVF. -/
structure LogQueue where
  entries : List Word := []
  ovf : Bool := false
  deriving DecidableEq, Repr

/-! ## Matrix arrays (02_arrays.md, 08_sundog.md) -/

/-- One STREAM, DRAIN or ZERO that has issued and is not finished, in program order (R78). -/
inductive WorkKind where
  | stream (swap : Bool)
  | drain (dest : Nat) (clear : Bool)
  | zero
  deriving DecidableEq, Repr

structure Work where
  kind : WorkKind
  base : Nat
  count : Nat
  done : Nat
  deriving DecidableEq, Repr

/-- A weight tile (R79, R112): its bytes as the beats brought them, the format they were loaded in, and where they came from. -/
structure BankTile where
  bytes : List Nat := []
  wfmt : Nat := 0
  mxw : Bool := false
  poison : Bool := false
  handle : Nat := 0
  row : Nat := 0
  deriving DecidableEq, Repr

/-- A row that DRAIN has read and the output path has not handed on (R594). -/
structure HeldRow where
  dest : Nat
  row : Nat
  vals : List Acc
  poison : Bool
  deriving DecidableEq, Repr

/-- A tile as the checker sees it (R290 to R293): the STREAM it belongs to, its anchor, the residues O of the taps and C of the
checksums, its entries, the marked ones as a mask, whether a parity error was reported, whether its stream has ended, and
the replay bank that records it. -/
structure Tile where
  pc : Nat := 0
  rep : Nat := 0
  count : Nat := 0
  anchor : Int := 0
  handle : Nat := 0
  row : Nat := 0
  wfmt : Nat := 0
  mxw : Bool := false
  afmt : Nat := 0
  mxa : Bool := false
  entries : Nat := 0
  marks : Nat := 0
  o : Nat := 0
  c : Nat := 0
  parity : Bool := false
  closed : Bool := false
  replay : Option Nat := none
  deriving DecidableEq, Repr

/-- The hidden state of one matrix array: its banks, the LOADW in progress, what its program has done so far, its accumulator
rows with their poison marks, the work in program order, the rows held by the output path, and the checker's state. -/
structure ArrayState where
  bank0 : BankTile := {}
  bank1 : BankTile := {}
  load : Option BankTile := none
  loadedSinceSwap : Bool := false
  fmtSet : Bool := false
  pcPast : Bool := false
  loop : Option (Nat × Nat) := none
  acc : List (Nat × List Acc) := []
  accPoison : List Nat := []
  work : List Work := []
  held : List HeldRow := []
  nonfinRaised : Bool := false
  rowResidue : List (Nat × Nat) := []
  tiles : List Tile := []
  deriving DecidableEq, Repr

/-- One activation vector on a chain (R68, R196): the format and scale enable it was built with, its element string with its
scale bytes, and whether it is poisoned. -/
structure ChainVector where
  fmt : Nat
  mxa : Bool
  bytes : List Nat
  poison : Bool
  deriving DecidableEq, Repr

/-- A replay bank (R299): how many tiles of its STREAM are still to be compared, how many votes use it, and its vectors. It is
free with neither. -/
structure ReplayBank where
  waiting : Nat := 0
  users : Nat := 0
  vecs : List ChainVector := []
  deriving DecidableEq, Repr

/-- One vote (R297 to R305): the array and tile it is about, the results so far, who takes part, and whether its re-run waits
for the last QUIET (R302). -/
structure Vote where
  array : Nat
  tile : Tile
  partner : Nat
  rerun : Nat
  bank : Nat
  begun : Bool := false
  deferred : Bool := false
  rrSum : Nat := 0
  rrDone : Nat := 0
  rr : Option Nat := none
  deriving DecidableEq, Repr

/-! ## Vector cores and control cores (04_cores.md) -/

/-- The hidden state of one vector core (R137): registers, program memory and scratch, each by its index. -/
structure VectorState where
  v : List (Nat × List Lane) := []
  m : List (Nat × BitVec 128) := []
  s : List (Nat × Word) := []
  prog : List (Nat × Word) := []
  scratch : List (Nat × Byte) := []
  pcPast : Bool := false
  nanRaised : Bool := false
  deriving DecidableEq, Repr

/-- One mailbox message: eight words (R163). -/
abbrev Message := List Word

/-- The hidden state of one control core (R160 to R165): its mailbox queues, the hub's messages held for space, its
staged outbound message, its interrupt registers, the cause of the last access fault that it has taken (RISC-V: 5 load, 7 store; 0 none), its
local memories by local address, its posted stores, the address that a LR has reserved, whether a FENCE waits, and the Isobar count of
the last reload of its watchdog. -/
structure ControlState where
  inq : List Message := []
  outq : List Message := []
  hubHeld : List Message := []
  outStage : List (Nat × Word) := []
  irqPend : Nat := 0
  irqEn : Nat := 0
  mtimecmp : Nat := 0
  timerIrq : Bool := false
  accessFault : Nat := 0
  tcm : List (Nat × Byte) := []
  posted : Nat := 0
  resv : Option Nat := none
  fencing : Bool := false
  kicked : Nat := 0
  deriving DecidableEq, Repr

/-! ## Engines and streams (05_sweeps.md) -/

/-- The fields of a stream descriptor (Table 5.6). Counts and strides are listed from dimension 0. -/
structure Desc where
  srcT : Nat
  dstT : Nat
  ndim : Nat
  after : Bool
  early : Bool
  sv : Nat
  sarg : Nat
  darg : Nat
  afmt : Nat
  mxa : Bool
  ch : Nat
  rsv : Bool
  shandle : Nat
  saddr : Nat
  dhandle : Nat
  daddr : Nat
  counts : List Nat
  cvt : Nat
  swait : Nat
  dwait : Nat
  signal : Nat
  sstrides : List Int
  dstrides : List Int
  deriving DecidableEq, Repr

/-- Data between the two sides of a descriptor, or the place kept for a mesh read that is in flight. -/
inductive Segment where
  | data (bytes : List Nat) (poison : Bool)
  | wait (tag n : Nat)
  deriving DecidableEq, Repr

/-- An admitted descriptor: its sweep, its admission index, its addresses with the arguments added, and how far each
side has come. -/
structure Stream where
  desc : Desc
  sweep : Nat
  index : Nat
  sbase : Nat
  dbase : Nat
  srcStarted : Bool := false
  srcPos : Nat := 0
  snkStarted : Bool := false
  snkPos : Nat := 0
  halted : Bool := false
  haltSink : Bool := false
  haltEntry : Nat := 0
  queue : List Segment := []
  deriving DecidableEq, Repr

/-- The hidden state of one die's engines: the admitted descriptors in admission order, how many the pass has admitted,
whether the hub waits for this die's SWEEP_DONE, the next free issue slot of each feed (R70, R86), the last whole run of each
side and channel as its place, length and descriptor (R203), the bytes its sink sides have delivered, the saturated outputs of the
sweep, whether STR_ERR holds a fault of this pass, and whether an abort has stopped the engines (R186). -/
structure DieState where
  streams : List Stream := []
  admitted : Nat := 0
  sweepRunning : Bool := false
  slots : List (Nat × Nat) := []
  lastRuns : List (Nat × (Nat × Nat × Nat)) := []
  sunk : Nat := 0
  sat : Nat := 0
  errSeen : Bool := false
  stopped : Bool := false
  deriving DecidableEq, Repr

/-! ## Passes and serving queues (05_sweeps.md) -/

/-- The partial reports of the running sweep, summed (R126, R154, Table 3.6). -/
structure SweepSum where
  low : Nat := 0
  high : Nat := 0
  nonfinite : Nat := 0
  satOut : Nat := 0
  arraysHigh : Nat := 0
  highMax : Nat := 0x8000
  lowMax : Nat := 0x8000
  deriving DecidableEq, Repr

/-- The hub's own record of the pass that runs (Tables 5.2 to 5.5): what its completion will hold, who has answered, and
what ended it. status is a code of Table 5.3 other than REJECTED. -/
structure PassState where
  running : Bool := false
  irq : Bool := false
  tag : Nat := 0
  reportAddr : Nat := 0
  args : List Nat := []
  admitTime : Nat := 0
  energyAt : Nat := 0
  seq : Nat := 0
  sweepsDone : Nat := 0
  status : Nat := 0
  code : Nat := 0
  faultSite : Nat := 0xFF
  flags : Nat := 0
  nonfinite : Nat := 0
  lowTotal : Nat := 0
  highTotal : Nat := 0
  satTotal : Nat := 0
  marked : Nat := 0
  entries : Nat := 0
  eligible : List Nat := []
  estimate : Nat := 0
  begun : List Nat := []
  started : List Nat := []
  reported : List Nat := []
  parts : List Nat := []
  report : SweepSum := {}
  quiet : List Nat := []
  cleared : Bool := false
  empty : List Nat := []
  taken : List Nat := []
  aborting : Bool := false
  deriving DecidableEq, Repr

/-- A completion record held until its ring has room (R180): its words without PHASE, whether its vector is triggered, and whether its
STATUS is OK. -/
structure Completion where
  queue : Nat
  words : List Word
  irq : Bool
  ok : Bool
  deriving DecidableEq, Repr

/-! ## What leaves the panel (the model's own record) -/

/-- Something a step sends out of the block or from one unit of it to another. The list State.out keeps them, newest first; it is
the model's record and no register of the spec. -/
inductive Sent where
  /-- A packet that its source has injected into the mesh. -/
  | packet (p : Packet)
  /-- A packet that a router sends on by a port. -/
  | forward (node port : Nat) (p : Packet)
  /-- A packet that a router delivers through its LOCAL port. -/
  | deliver (node : Nat) (p : Packet)
  /-- The MSI-X message of a vector (R558). -/
  | msix (vector : Nat)
  /-- A posted write to host memory. -/
  | hostWrite (addr : Nat) (bytes : List Nat)
  /-- A read of host memory that the hub has issued. -/
  | hostRead (addr n tag : Nat)
  /-- The answer of a register read, of a BAR4 read (with EP) or of a control core's load. -/
  | readData (who : Requester) (addr : Nat) (bytes : Nat) (value : Nat) (poison : Bool)
  /-- A datagram or frame sent on a management port. -/
  | mgmt (port kind : Nat) (bytes : List Nat)
  /-- A message between the hub and a unit outside the mailboxes: its kind (a TYPE of chapter 13, 14 or 15, or the
  number a comment of the sender gives), the node and its words. -/
  | unit (kind node : Nat) (words : List Nat)
  /-- A frame or packet sent on a Gale link. -/
  | gale (link kind : Nat) (words : List Nat) (data : List Nat)
  /-- A frame sent to a guest. -/
  | guest (g : Nat) (words : List Nat) (data : List Nat)
  /-- A transaction on a module's bus or one of its sideband signals. -/
  | module (k kind : Nat) (words : List Nat)
  /-- A level driven on an output pin. -/
  | pin (name : String) (high : Bool)
  deriving DecidableEq, Repr

/-! ## Retirement and the rest of the hub -/

/-- A stack retirement decided and waiting for the boundary (R528, R531). -/
structure Retire where
  site : Nat
  code : Nat
  fenced : Bool
  deferrable : Bool
  deriving DecidableEq, Repr

/-! ## Stores (06_stores.md) -/

/-- The hidden state of a Gelat die: the written bits of the spill (R220), the repair lists (R226), the rows held under R228, the
spare rows used by bank, the corrected codewords of the running second (R225) and where the scrubber stands (R224). -/
structure GelatState where
  written : List Nat := []
  repairW : List Nat := []
  repairA : List Nat := []
  held : List Nat := []
  sparesUsed : List (Nat × Nat) := []
  ceSecond : Nat := 0
  ceCount : Nat := 0
  ceRaised : Bool := false
  scrubW : Nat := 0
  scrubA : Nat := 0
  deriving DecidableEq, Repr

/-- The hidden state of an HBM stack: the times of its uncorrectable accesses of the last hour, whether it leaves service at
the next boundary (R232), and where the patrol stands (R234). -/
structure HbmState where
  ueTimes : List Nat := []
  leaving : Bool := false
  patrol : Nat := 0
  deriving DecidableEq, Repr

/-! ## Mesh (07_mesh.md) -/

/-- Who waits for the answer of a mesh request. -/
inductive ReqUse where
  | engine (d : Nat) (sink : Bool)
  | core (c : Nat)
  | conduit (c key : Nat)
  | root (tree : Nat)
  | coll (tree seq : Nat)
  | bar4 (key : Nat)
  | none
  deriving DecidableEq, Repr

/-- An outstanding mesh request (R249, R267): its requester, what answers it and how many answers are still to come. -/
structure Request where
  node : Nat
  tag : Nat
  use : ReqUse
  dst : Nat
  write : Bool
  ppa : Nat
  bytes : Nat
  left : Nat := 1
  poison : Bool := false
  rwt : Option Nat := none
  view : Option (Nat × Nat × Nat) := none
  deriving DecidableEq, Repr

/-- A partial sum of a tree member (R278). -/
structure Partial where
  seq : Nat
  vals : List (BitVec 128)
  digest : Nat
  poison : Bool
  count : Nat
  deriving DecidableEq, Repr

/-- A contribution that waits in its input buffer because its SEQ is OUT_SEQ + WINDOW or above (R278). -/
structure RedWait where
  site : Nat
  tree : Nat
  entry : Partial
  deriving DecidableEq, Repr

/-- The width exchange of one end of a link (R273): its round and the width it holds. -/
structure LinkTrain where
  round : Nat := 1
  width : Nat := 0
  deriving DecidableEq, Repr

/-! ## Discovery (01_panel.md R43 to R50) -/

/-- The hidden state of discovery: by stack that has been probed, the position and the rotation that the hub derives from the path; by ring node that
has answered, the kinds and steppings it answered with; the failed stacks; and the Isobar count at step 1. -/
structure DiscState where
  reached : List (Nat × (Nat × Nat)) := []
  rings : List (Nat × (Nat × Nat)) := []
  failed : List Nat := []
  since : Nat := 0
  deriving DecidableEq, Repr

/-! ## Gale links and Lenticular modules (09_gale_links.md) -/

/-- A data flit of a link: its VC, its place in its packet, its number and its payload. -/
structure Flit where
  vc : Nat
  sop : Bool
  eop : Bool
  lseq : Nat
  payload : List Nat
  deriving DecidableEq, Repr

/-- The hidden state of a Gale link: failed attempts in a row (R331) and how many of them were at full rate, the rate of the current
attempt (1 full, 2 fallback), replay and credit state of both directions (R325, R326), the packets being assembled by VC,
the failing flits in a row (R323), and the second of the last 0x0607 (R335). -/
structure GaleLink where
  fails : Nat := 0
  fullFails : Nat := 0
  rate : Nat := 1
  rxNext : Nat := 0
  nak : Bool := false
  peerNak : Bool := false
  txNext : Nat := 0
  unacked : List Flit := []
  waiting : List Flit := []
  replays : Nat := 0
  credit : List Nat := [0, 0, 0]
  credMax : List Nat := [0, 0, 0]
  credSeen : List Nat := [0, 0, 0]
  freed : List Nat := [0, 0, 0]
  building : List (List (List Nat)) := [[], [], []]
  crcRun : Nat := 0
  txFlits : Nat := 0
  rxFlits : Nat := 0
  misSecond : Option Nat := none
  deriving DecidableEq, Repr

/-- A mesh request that an edge die or the hub answers later. -/
structure MeshAsk where
  src : Nat
  tag : Nat
  bytes : Nat
  ppa : Nat
  deriving DecidableEq, Repr

/-- The sending side of a conduit's stream (R336). -/
structure TxStream where
  next : Nat := 0
  unacked : List GalePacket := []
  backlog : List GalePacket := []
  timeouts : Nat := 0
  deriving DecidableEq, Repr

/-- The receiving side of a conduit's stream (R336): the next PSN, whether a NAK is out, and packets accepted since the last ACK. -/
structure RxStream where
  expect : Nat := 0
  nakked : Bool := false
  since : Nat := 0
  deriving DecidableEq, Repr

/-- What a conduit does on the mesh (R341 to R344): kind 0 an incoming PUT, 1 an incoming GET_REQ, 2 the data of an incoming SEND,
3 its trailer, 4 the source data of an outgoing SEND. left counts the answers still to come. -/
structure CndOp where
  key : Nat
  kind : Nat
  psn : Nat
  left : Nat
  base : Nat
  len : Nat
  poison : Bool := false
  parts : List (Nat × List Nat) := []
  deriving DecidableEq, Repr

/-- A PUT that is being merged (R340). -/
structure Merge where
  src : Nat
  offset : Nat
  data : List Nat
  poison : Bool
  asks : List MeshAsk
  deriving DecidableEq, Repr

/-- The hidden state of a conduit (R336 to R344). -/
structure Conduit where
  tx : List TxStream := [{}, {}, {}]
  rx : List RxStream := [{}, {}, {}]
  merge : Option Merge := none
  puts : List (Nat × List MeshAsk) := []
  gets : List (Nat × MeshAsk) := []
  ops : List CndOp := []
  nextKey : Nat := 0
  sendPsn : Option Nat := none
  rnr : Option (Nat × Nat) := none
  heard : Nat := 0
  deriving DecidableEq, Repr

/-- A record of a collective in progress (R348): its local sum so far, the child conduits heard, the sum of what is complete, what
has been sent up, the final record, and what still has to be acknowledged. -/
structure CollRec where
  seq : Nat
  loc : Option Partial := none
  locDone : Bool := false
  heard : List Nat := []
  vals : List (BitVec 128) := []
  digest : Nat := 0
  poison : Bool := false
  formed : Bool := false
  final : Option Partial := none
  delivered : Bool := false
  wack : Bool := false
  toSend : Nat := 0
  acks : List (Nat × Nat) := []
  deriving DecidableEq, Repr

/-- A record that leaves on a conduit: the record, the conduit and the direction. -/
structure CollOut where
  conduit : Nat
  up : Bool
  record : Partial
  deriving DecidableEq, Repr

/-- The hidden state of a collective slot (R345 to R351): the records in progress, the early records of the next round, and the records
that are packed and not yet sent. -/
structure Coll where
  recs : List CollRec := []
  early : List CollOut := []
  ready : List CollOut := []
  deriving DecidableEq, Repr

/-- The hidden state of a Lenticular module (R353 to R358). -/
structure LenModule where
  present : Bool := false
  ident : Option ModuleId := none
  challenge : Option Nat := none
  lifePage : List Nat := []
  quiesceWaits : Bool := false
  eolWarned : Bool := false
  eolRaised : Bool := false
  drifted : List Nat := []
  authTime : Option Nat := none
  deriving DecidableEq, Repr

/-! ## Power (10_power.md) -/

/-- A domain power-up that waits for approval (R393, R394): its node and domain, when it was made, and whether 0x0718 was raised for it. -/
structure PowerReq where
  node : Nat
  dom : Nat
  since : Nat
  raised : Bool := false
  deriving DecidableEq, Repr

/-- The hidden state of power delivery: how many meter samples there have been (one every 10 µs, R398), the energies of the meters in units
of 10 pJ (a sample in µW times 10 µs) and the samples of the last millisecond, newest first; the open and the lost bars (R364), VIN above
44.5 V; the queued power-ups in the order made; by node and domain, the starts that failed (1 waits for its retry, 2 is the retry, R393), the domains
that come out of retention, undervoltages (R385), failed phases of ring and hub domains by rail, and ring domains on local sense (R384); LSR
switch openings by node (R382); forced throttles (R366, R372), hot LSRs (R391); and the samples since when PWROK has been asserted and the
meters have disagreed, and when 0x0720 was last raised. -/
structure PowerState where
  samples : Nat := 0
  eIn : Nat := 0
  eA : Nat := 0
  eB : Nat := 0
  eSeg : List (Nat × Nat) := []
  eStk : List (Nat × Nat) := []
  eRing : List (Nat × Nat) := []
  inHist : List (Nat × Nat × Nat) := []
  segHist : List (Nat × List (Nat × Nat)) := []
  ringHist : List (Nat × List Nat) := []
  lostA : Bool := false
  lostB : Bool := false
  openA : Bool := false
  openB : Bool := false
  high : Bool := false
  reqs : List PowerReq := []
  failedOnce : List (Nat × Nat) := []
  fromRetention : List Nat := []
  isolations : List (Nat × Nat) := []
  uvs : List (Nat × Nat) := []
  fails : List (Nat × Nat) := []
  senses : List Nat := []
  segForced : List Nat := []
  inForced : Bool := false
  hot : List Nat := []
  imbalance : Option Nat := none
  pwrokSince : Option Nat := none
  meterAt : Option Nat := none
  meterRaised : Bool := false
  hubFailed : Bool := false
  deriving DecidableEq, Repr

/-! ## Heat, coolant and the Updraft scheduler (11_heat_and_budget.md) -/

/-- The demands that the scheduler keeps for a die (Table 11.8), but for the backstop, which follows the forced throttles; and the times from
which the thermal and the domain demand may fall. -/
structure Demand where
  thermal : Nat := 0
  domain : Nat := 0
  sector : Nat := 0
  debt : Nat := 0
  host : Nat := 0
  deriving DecidableEq, Repr

/-- A spot's sensor pair (R407, R408), readings in 0.1 °C: marks, the flag, since when |A − B| has been above 4 K, at most 2 K and above 10 K, the
control reading, whether the spot is blind, since when it has been above T_HOT, and since when each sensor has read above
T_CRIT. -/
structure Spot where
  a : Int := 0
  b : Int := 0
  failA : Bool := false
  failB : Bool := false
  suspA : Bool := false
  suspB : Bool := false
  flagged : Bool := false
  above4 : Option Nat := none
  below2 : Option Nat := none
  above10 : Option Nat := none
  ctrl : Int := 0
  blind : Bool := false
  hotAt : Option Nat := none
  hotDone : Bool := false
  critA : Option Nat := none
  critB : Option Nat := none
  deriving DecidableEq, Repr

/-- What the scheduler keeps of a stack's heat (R409, R410): since when every spot has been 3 K below its target, and 10 K below it, since when
the stack has been hot at demand 12, whether it is to be gated at the next boundary, the times of its gatings, and whether
a spot has reached T_CRIT. -/
structure StackHeat where
  cool3 : Option Nat := none
  cool10 : Option Nat := none
  hot12 : Option Nat := none
  gateNext : Bool := false
  gatings : List Nat := []
  deriving DecidableEq, Repr

/-- The hidden state of thermal sensing and coolant. Durations are counted in samples: samples counts those of the hot spots (one every 100 µs),
coolant those of the coolant (one every 1 ms). The spots by node and number, each stack's heat, the energies of LSRs at the last
101 samples (R408); marks of the coolant sensors (R413, R415); since when the conditions of R415, R417, R423, R424 and R508 have held; the
witnesses of the last 500 coolant samples, the heat products of the last 1,000 in units of 1/6,000 W, the emergency conditions of the last
sample, and the samples since FLOWREQ last fell. -/
structure ThermalState where
  samples : Nat := 0
  coolant : Nat := 0
  spots : List (Nat × Spot) := []
  stackList : List (Nat × StackHeat) := []
  energy : List (Nat × List Nat) := []
  tIn : Int := 0
  tOut : Int := 0
  tInBad : Bool := false
  tOutBad : Bool := false
  failA : Bool := false
  failB : Bool := false
  suspA : Bool := false
  suspB : Bool := false
  dpBad : Bool := false
  apart4 : Option Nat := none
  close2 : Option Nat := none
  apart8 : Option Nat := none
  hist : List (Nat × Nat × Nat) := []
  heat : List Int := []
  cond : Nat := 0
  limitedAt : Option Nat := none
  otherAt : Option Nat := none
  limitedRaised : Bool := false
  capLowAt : Option Nat := none
  capLow : Bool := false
  stagnantAt : Option Nat := none
  flowAt : Option Nat := none
  recoverAt : Option Nat := none
  slew : Nat := 0
  deriving DecidableEq, Repr

/-- The hidden state of the Updraft scheduler: R in mW, LEVEL in µJ, CREDIT of each queue in mJ, whether energy scheduling is in
force (R432), the queue that last ran, the input energy in µJ at the last tick, the input energies in µJ of the last 1,000 ticks, the ticks so far, since which sample a die's domain demand may fall, and since which tick its sector demand
and the debt demand may. -/
structure UpdraftState where
  rate : Nat := 0
  level : Int := 0
  credits : List (Nat × Int) := []
  en : Bool := true
  lastSq : Nat := 3
  energyAt : Nat := 0
  powers : List Nat := []
  ticks : Nat := 0
  coolDomain : List (Nat × Nat) := []
  coolSector : List (Nat × Nat) := []
  coolDebt : Option Nat := none
  deriving DecidableEq, Repr

/-! ## Guests (16_host.md) -/

/-- A request to a guest (R570, R571): its frame's tag, who asked on the mesh, the guest address and the data of a WRITE; answered tells that the
mesh has its poisoned answer already and only the tag is still taken. -/
structure GuestReq where
  tag : Nat
  ask : MeshAsk
  write : Bool
  addr : Nat
  data : List Nat := []
  answered : Bool := false
  deriving DecidableEq, Repr

/-- The hidden state of a guest site (R568 to R572): outstanding and waiting requests, whether a retraining is due, the setpoint of GU in mV, the sensor
sample of the last temperature report, and the seconds of the last 0x0B52 and 0x0B53. -/
structure Guest where
  out : List GuestReq := []
  waiting : List GuestReq := []
  retrainDue : Bool := false
  vset : Nat := 750
  heard : Nat := 0
  violSecond : Option Nat := none
  timeSecond : Option Nat := none
  deriving DecidableEq, Repr

/-! ## Host and management interfaces (16_host.md) -/

/-- A read of host memory (R553): its tag, its address, and the mesh READ it answers; none for the zero-length read of a drain. -/
structure HostRead where
  tag : Nat
  addr : Nat
  n : Nat
  ask : Option MeshAsk := none
  deriving DecidableEq, Repr

/-- A BAR4 read in progress (R554): its BAR4 offset, PPA and length, how many answers are still to come, and the bytes so far by PPA. -/
structure Bar4Read where
  key : Nat
  offset : Nat
  base : Nat
  n : Nat
  left : Nat
  parts : List (Nat × List Nat) := []
  poison : Bool := false
  deriving DecidableEq, Repr

/-- The hidden state of the host interface: the MSI-X table by word, the pending bits, the vectors in their holdoff interval and those of them
that wait for its end; what is held while Bus Master Enable is 0; host reads issued and waiting for a tag (Table 16.1); the last
host address that the running pass has written, and the tag of its drain's zero-length read (R553); BAR4 reads in progress;
and the module read in progress (R566) as its module and length. -/
structure HostState where
  msix : List (Nat × Word) := []
  funcMask : Bool := false
  pend : List Nat := []
  holdoff : List Nat := []
  waiting : List Nat := []
  held : List Sent := []
  busOffRaised : Bool := false
  reads : List HostRead := []
  readWait : List HostRead := []
  wrote : Option Nat := none
  drain : Option Nat := none
  bar4 : List Bar4Read := []
  smb : Option (Nat × Nat) := none
  deriving DecidableEq, Repr

/-- The hidden state of a management port (R560, R561): its IPv6 addresses, and DHCPv4: the state (0 none, 1 selecting, 2 requesting, 3 bound, 4
renewing, 5 rebinding), the server, and the address offered with its prefix length. -/
structure MgmtPort where
  v6 : List Nat := []
  dhcp : Nat := 0
  server : Nat := 0
  offer : Nat × Nat := (0, 0)
  deriving DecidableEq, Repr

/-- A Barograph record sent to the collector and not acknowledged (R564): its SEQ, how often it has been sent, and the port of the last sending. -/
structure CperOut where
  seq : Nat
  sends : Nat
  port : Nat
  deriving DecidableEq, Repr

/-- The hidden state of register access and export over the management ports (R562, R564): LAST, the reply kept for it, the next
record to be exported, the records sent and not acknowledged, and the second of the last 0x0B41. -/
structure MgmtState where
  ports : List (Nat × MgmtPort) := []
  last : Nat := 0
  kept : Option (List Nat) := none
  next : Nat := 0
  out : List CperOut := []
  authSecond : Option Nat := none
  deriving DecidableEq, Repr

/-! ## Reset and power-state transitions (14_bringup.md) -/

/-- A power-state transition in progress (R507 to R516): where it goes, where it came from, its step, and the Isobar counts at which it
and its step began. -/
structure Transition where
  target : Nat
  start : Nat
  phase : Nat := 0
  since : Nat := 0
  phaseSince : Nat := 0
  deriving DecidableEq, Repr

/-- The hidden state of the reset logic: the level of the reset in progress, whether its 20 ms are over (R496), the levels of PERST_N and
RSTO_N as asserted, whether the Barograph record of R498 is still to be made, when the panel fell to STANDBY and when the
start window opened. -/
structure ResetState where
  level : Option Nat := none
  ended : Bool := false
  perst : Bool := false
  rsto : Bool := false
  bootRecord : Bool := false
  standbySince : Nat := 0
  windowAt : Nat := 0
  deriving DecidableEq, Repr

/-! ## Clocks and Isobar time (12_clocks.md) -/

/-- A node of the Billow mesh (R449, R451): what its mesh cycle counter read at an Isobar count, the beacon period it has taken a beacon of,
and whether 0x0921 has been raised since its last valid beacon. -/
structure ClockNode where
  mcc : Nat := 0
  since : Nat := 0
  period : Option Nat := none
  lostRaised : Bool := false
  deriving DecidableEq, Repr

/-- A PTP master that has announced itself (R458, R460): the port and source identity of its messages, its dataset (priority1, clock
class, accuracy, variance, priority2, grandmaster identity, steps removed) and its currentUtcOffset. -/
structure PtpMaster where
  port : Nat
  source : Nat
  dataset : List Nat
  utc : Int
  deriving DecidableEq, Repr

/-- The PTP servo (R458, R459), times in ns: the masters heard, the selected one, a two-step Sync that waits for its Follow_Up (sequence and receive
time), the last Sync's t1 and t2, the Delay_Req that is out (sequence and t3), the path delay, the next sequence, the offsets below 1 µs in a row,
since when the offset has been above 1 ms, and whether the next offset sets ISB_EPOCH. -/
structure PtpState where
  masters : List PtpMaster := []
  selected : Option (Nat × Nat) := none
  waiting : Option (Nat × Int) := none
  sync : Option (Int × Int) := none
  req : Option (Nat × Int) := none
  delay : Int := 0
  nextSeq : Nat := 0
  good : Nat := 0
  farSince : Option Int := none
  first : Bool := true
  deriving DecidableEq, Repr

/-- The hidden state of the clocks: the Dawn island's findings (R438, R461), which outlive a reset of the hub's registers: REF_OK, whether the reference
has been lost, good windows in a row, the edges of the last 100 windows (newest first), windows since the loss, and the backup
oscillator; the latch of ISB_COUNT (R440); BASE (R449) and the nodes; the period of the last beacon; the paddings of each link end by
operating point (R446); links that have slipped (R448); the operating point whose setpoints the domains have been given (R453); how far
an operating-point change has stopped the links (1 from T − 4, 2 from T + 20); and the PTP servo. -/
structure ClockState where
  refOk : Bool := false
  wasLost : Bool := false
  good : Nat := 0
  edges : List Nat := []
  lostWindows : Nat := 0
  backup : Bool := false
  latch : Option Nat := none
  base : Nat := 0
  nodes : List (Nat × ClockNode) := []
  beacon : Nat := 0
  pads : List (Nat × List Nat) := []
  slipped : List Nat := []
  setOp : Nat := 2
  pause : Nat := 0
  ptp : PtpState := {}
  deriving DecidableEq, Repr

/-! ## Arm and commit (13_overcast.md R483 to R487) -/

/-- A change that needs arm-and-commit: the operating point asked for, an image commit that waits, the kind that is armed (0 none, 1 image, 2
operating point), the units that take part, and which of them have answered ACK, have prepared the change and hold CONFIRM; and the units whose REPORT of the last commit is due, with the
units that applied it. -/
structure CommitState where
  op : Option Nat := none
  image : Bool := false
  armed : Nat := 0
  units : List Nat := []
  acks : List Nat := []
  prepared : List Nat := []
  confirmed : List Nat := []
  applied : List Nat := []
  due : List Nat := []
  deriving DecidableEq, Repr

/-! ## Firmware broadcast (14_bringup.md R518 to R525) -/

/-- The hub's side of the firmware broadcast: the authenticated FIRMWARE section (its offset in the image, SIZE and DIGEST), the broadcast ID, the protected
area, and whether the source has changed since the last authentication. -/
structure FwState where
  section_ : Option (Nat × Nat) := none
  digest : List Nat := []
  id : Nat := 0
  area : Option (Nat × Nat) := none
  stale : Bool := true
  deriving DecidableEq, Repr

/-! ## The Overcast image (13_overcast.md) -/

/-- One manifest entry: the golden copy of a site's weight slice. -/
structure Manifest where
  site : Nat
  stack : Nat
  offset : Nat
  length : Nat
  digest : List Nat := []
  deriving DecidableEq, Repr

/-- What the hub holds of the loaded image and of a load in progress: the staging areas, the SERVING sites, the spare of each sector
(0xFF for none), PAIRED and the manifest of the image in force, and the digest of its firmware. -/
structure ImageState where
  serving : List Nat := []
  spares : List Nat := []
  paired : Bool := false
  firmware : List Nat := []
  area : Option (Nat × Nat) := none
  staging : Option (Nat × Nat) := none
  areaLost : Bool := false
  stagingLost : Bool := false
  manifest : List Manifest := []
  deriving DecidableEq, Repr

/-! ## Spares (15_spares.md) -/

/-- A swap in progress (R533): the spare, the site it is to serve, the stack that served it, its STATE (1 POWER, 2 INIT, 3 COPY, 4 VERIFY, 5
HOST_WAIT, 6 RESTORE), the copy source, the restarts so far, and the Isobar count at which HOST_WAIT or RESTORE began. -/
structure Swap where
  spare : Nat
  site : Nat
  old : Nat
  phase : Nat := 1
  source : Nat := 0
  attempt : Nat := 0
  since : Nat := 0
  deriving DecidableEq, Repr

/-- The hidden state of spares: swaps in progress in the order begun, deferred retirements (R532), swaps to start again on the next entry to SERVING (R540), handle writes of the host by register address
(R541), and whether a broken multicast stops admission (R543). -/
structure SpareState where
  swaps : List Swap := []
  deferred : List Retire := []
  again : List Swap := []
  handles : List (Nat × Word) := []
  mcastBroken : Bool := false
  deriving DecidableEq, Repr

/-! ## The whole state -/

/-- Why a step stops with a fault. -/
inductive Fault where
  /-- Raised by a register or BAR command whose operand is no address of its BAR: nothing on the panel decodes it. Safe: the
  command names nothing the spec describes. -/
  | outsideBar
  deriving DecidableEq, Repr

/-- Why a step refuses. -/
inductive Refusal where
  /-- Answered only by exec, for a command that has no meaning yet. Safe: no next state is claimed. -/
  | notModelled (mnemonic : String)
  deriving DecidableEq, Repr

/-- The panel. -/
structure State where
  pending : List Instr := []
  isobar : Nat := 0
  regs : List (Nat × Word) := []
  logs : List (Nat × LogQueue) := []
  out : List Sent := []
  fresh : Nat := 0
  baro : List (Nat × List Word) := []
  retire : List Retire := []
  retired : List Nat := []
  arrays : List (Nat × ArrayState) := []
  vectors : List (Nat × VectorState) := []
  controls : List (Nat × ControlState) := []
  replays : List (Nat × List ReplayBank) := []
  votes : List (Nat × List Vote) := []
  arrayRetire : List (Nat × Nat) := []
  dies : List (Nat × DieState) := []
  pass : PassState := {}
  completions : List Completion := []
  phases : List (Nat × Nat) := []
  slots : List (Nat × Byte) := []
  memory : List Host.Cell := []
  poison : List Nat := []
  gelats : List (Nat × GelatState) := []
  hbms : List (Nat × HbmState) := []
  rwtCache : List (Nat × List (Nat × Word)) := []
  rwtStale : List Nat := []
  requests : List Request := []
  partials : List (Nat × List Partial) := []
  redWait : List RedWait := []
  links : List (Nat × LinkTrain) := []
  verifyPending : Bool := false
  disc : DiscState := {}
  image : ImageState := {}
  rst : ResetState := {}
  trans : Option Transition := none
  gale : List (Nat × GaleLink) := []
  conduits : List (Nat × Conduit) := []
  colls : List (Nat × Coll) := []
  modules : List (Nat × LenModule) := []
  power : PowerState := {}
  demands : List (Nat × Demand) := []
  thermal : ThermalState := {}
  updraft : UpdraftState := {}
  guests : List (Nat × Guest) := []
  spares : SpareState := {}
  clock : ClockState := {}
  commit : CommitState := {}
  fw : FwState := {}
  host : HostState := {}
  mgmt : MgmtState := {}
  deriving DecidableEq, Repr

/-- The panel right after reset: every register at its Reset value (regs lists nothing, so every read gives the register
table's value) and every hidden structure empty. -/
def State.reset : State := {}

end Sys2Proof.Machine
end

