-- ==== Sys2Proof/Machine/Ops.lean ====
section
/-! DEFINITION. The named operations over the state that every family uses: reading and writing register fields, queue
registers (R51), geometry of the panel, interrupts (R557, R558), raising a code with its Barograph record (R313 to R315), ending a
pass early (R183 to R185), deciding a retirement (R528) and fencing a node (R283, R284). -/

namespace Sys2Proof.Machine

open Sys2Proof

/-! ## The register file -/

/-- The index of an address in the copies of a register: how far it stands from the base, one dimension after another. -/
def dimsHit : List RegDim → Nat → Bool
  | [], off => off == 0
  | d :: ds, off =>
    if d.stride = 0 then false
    else
      let i := off / d.stride
      if ds.isEmpty then decide (off % d.stride = 0) && decide (d.first ≤ i) && decide (i < d.last)
      else decide (d.first ≤ i) && decide (i < d.last) && dimsHit ds (off % d.stride)

/-- Whether the address is one of the copies of a register. -/
def RegDesc.hit (d : RegDesc) (addr : Nat) : Bool :=
  if addr < d.base then false else dimsHit d.dims (addr - d.base)

/-- The description of the register at an address. -/
def regAt (addr : Nat) : Option RegDesc := regTable.find? (fun d => d.hit addr)

/-- The site whose window an address lies in (R10). -/
def siteOfAddr (addr : Nat) : Nat := (addr - 0x1000000) / 0x10000

/-- The operating-point table of the fuses (Table 12.4): frequency in MHz. -/
def opFreq (k : Nat) : Nat := nth 0 [400, 600, 800, 1000, 1200, 1400, 1500, 1600] k

/-- The rated output of a segment in W (Table 10.2). -/
def segRated (g : Nat) : Nat := if g < 16 then 1000 else if g < 20 then 900 else 400

/-- The fused level of a reset source on stepping B1 (Table 14.2). -/
def fusedLevel (src : Nat) : Nat := nth 0 [0, 1, 0, 3, 3, 1, 1, 1, 1, 1, 1, 1, 1] src

/-- The Reset value of a field (R14). Fields whose fuse value the spec does not print are Config's (log entry 2). -/
def resetField (addr : Nat) (f : FieldDesc) : Nat :=
  match f.reset with
  | .val n => n
  | .fuse => Config.fuse addr f.lo
  | .strapSite => Config.strapSite (siteOfAddr addr)
  | .strapOri => Config.strapOri (siteOfAddr addr)
  | .opEn => if (addr / 8) % 8 = 2 then 1 else 0
  | .opFreq => opFreq ((addr / 8) % 8)
  | .opK => opFreq ((addr / 8) % 8) / 100
  | .rated => segRated ((addr - PWR_SEG_BUDGET.REG 0) / 8)
  | .levelMap => sumNat ((below 13).map (fun n => fusedLevel n * 4 ^ n))
  | .doldLimit => 3

/-- The value a register has when nothing has written it since its last reset. -/
def resetWord (addr : Nat) : Word :=
  match regAt addr with
  | none => 0
  | some d => d.fields.foldl (fun w f => withField w f.hi f.lo (resetField addr f)) 0

/-- The 64 bits of a register. -/
def State.reg (s : State) (addr : Nat) : Word := (look s.regs addr).getD (resetWord addr)

/-- Give a register 64 new bits. -/
def State.setReg (s : State) (addr : Nat) (w : Word) : State := { s with regs := putKey s.regs addr w }

/-- The value of a register field. -/
def State.get (s : State) (l : Loc) : Nat := fieldOf (s.reg l.addr) l.hi l.lo

/-- Give a register field a new value, reduced to its width. -/
def State.put (s : State) (l : Loc) (n : Nat) : State := s.setReg l.addr (withField (s.reg l.addr) l.hi l.lo n)

/-- The largest value of a field. -/
def Loc.top (l : Loc) : Nat := 2 ^ (l.hi + 1 - l.lo) - 1

/-- Put a value that stays at the field's largest value. -/
def State.putSat (s : State) (l : Loc) (n : Nat) : State := s.put l (sat l.top n)

/-- Add to a saturating counter. -/
def State.addSat (s : State) (l : Loc) (n : Nat) : State := s.putSat l (s.get l + n)

/-- Add to a wrapping counter. -/
def State.addWrap (s : State) (l : Loc) (n : Nat) : State := s.put l ((s.get l + n) % 2 ^ (l.hi + 1 - l.lo))

/-- A one-bit field as a Boolean. -/
def State.flag (s : State) (l : Loc) : Bool := s.get l != 0

/-- A field of n bits of a register that stands at a bit place found by arithmetic. -/
def Loc.sub (l : Loc) (lo width : Nat) : Loc := ⟨l.addr, l.lo + lo + width - 1, l.lo + lo⟩

/-- Add what leaves the panel to the record. -/
def State.send (s : State) (m : Sent) : State := { s with out := m :: s.out }

/-- A value that the spec leaves open: the place in the model's own sequence of free values, and the step of it. -/
def State.tick (s : State) : State := { s with fresh := s.fresh + 1 }

/-- n bytes whose value the spec leaves open (log entry 15). -/
def State.freeBytes (s : State) (n : Nat) : List Nat := (below n).map (fun i => (Config.freeByte s.fresh i).toNat)

/-! ## Queue registers (R51) -/

/-- The most entries that a queue register holds: 32, and 16 for GLT_ERR_LOG. -/
def logDepth (addr : Nat) : Nat :=
  if addr ≥ 0x1000000 then 16 else 32

/-- The entries of a queue register. -/
def State.log (s : State) (addr : Nat) : LogQueue := lookD {} s.logs addr

/-- A new entry of a queue register: at the end, or lost with OVF set where the queue is full (R51). -/
def State.pushLog (s : State) (addr : Nat) (w : Word) : State :=
  let q := s.log addr
  let q' : LogQueue := if q.entries.length < logDepth addr then { q with entries := q.entries ++ [w] } else { q with ovf := true }
  { s with logs := putKey s.logs addr q' }

/-- What a read of a queue register returns: the oldest entry with VALID in bit 63 and OVF in bit 62. -/
def logWord (q : LogQueue) : Word :=
  match q.entries with
  | [] => withField 0 62 62 (b2n q.ovf)
  | w :: _ => withField (withField w 62 62 (b2n q.ovf)) 63 63 1

/-- A read of a queue register (R51): a 64-bit read removes the oldest entry and clears OVF; a 32-bit read of a half
removes nothing and clears nothing. -/
def State.readLog (s : State) (addr bytes half : Nat) : Word × State :=
  let q := s.log addr
  let w := logWord q
  if bytes = 8 then (w, { s with logs := putKey s.logs addr { entries := q.entries.drop 1, ovf := false } })
  else (word (bits w.toNat (32 * half + 31) (32 * half)), s)

/-! ## Geometry (R28 to R39, R242) -/

/-- Row and column of a site (R29). -/
def rowOf (site : Nat) : Nat := site / 13
def colOf (site : Nat) : Nat := site % 13

/-- The nine sites that the hub occupies (R29). -/
def hubSite (site : Nat) : Bool :=
  let r := rowOf site; let c := colOf site
  decide (5 ≤ r) && decide (r ≤ 7) && decide (5 ≤ c) && decide (c ≤ 7)

/-- A site that carries a stack. -/
def stackSite (site : Nat) : Bool := decide (site < 169) && !hubSite site

/-- The 160 sites that carry stacks, rising. -/
def stackSites : List Nat := (below 169).filter stackSite

/-- Arm and sector index k of a site (R32). -/
def armK (site : Nat) : Nat × Nat :=
  let r := rowOf site; let c := colOf site
  if r ≤ 4 ∧ c ≤ 7 then (0, c / 2)
  else if r ≤ 7 ∧ c ≥ 8 then (1, r / 2)
  else if r ≥ 8 ∧ c ≥ 5 then (2, (12 - c) / 2)
  else (3, (12 - r) / 2)

def armOf (site : Nat) : Nat := (armK site).1

/-- The sector of a stack site (R32). -/
def sectorOf (site : Nat) : Nat := 4 * (armK site).1 + (armK site).2

/-- The default spare of a sector (Table 1.2). -/
def defaultSpare (g : Nat) : Nat :=
  nth 0 [53, 55, 57, 58, 21, 47, 73, 86, 115, 113, 111, 110, 147, 121, 95, 82] g

/-- The ten sites of a sector, rising. -/
def sectorSites (g : Nat) : List Nat := stackSites.filter (fun s => sectorOf s == g)

/-- The site of hub port H0 to H11 (Table 1.3). -/
def hubPortSite (h : Nat) : Nat := nth 0 [57, 58, 59, 73, 86, 99, 111, 110, 109, 95, 82, 69] h

/-- The side of a hub port: 0 N, 1 E, 2 S, 3 W. -/
def hubPortSide (h : Nat) : Nat := h / 3

/-- A ring node (R242). -/
def ringNode (n : Nat) : Bool := decide (169 ≤ n) && decide (n ≤ 212)

/-- A valid node number (Table 7.1). -/
def validNode (n : Nat) : Bool := stackSite n || n == 84 || ringNode n

/-- The site in panel direction d (0 N, 1 E, 2 S, 3 W) from a site, where the grid has one. -/
def siteToward (site d : Nat) : Option Nat :=
  let r := rowOf site; let c := colOf site
  match d with
  | 0 => if r = 0 then none else some (site - 13)
  | 1 => if c = 12 then none else some (site + 1)
  | 2 => if r = 12 then none else some (site + 13)
  | 3 => if c = 0 then none else some (site - 1)
  | _ => none

/-- The site of border router j of a side (R37). -/
def routerSite (side j : Nat) : Nat :=
  match side with
  | 0 => j
  | 1 => 13 * j + 12
  | 2 => 168 - j
  | _ => 156 - 13 * j

/-- First ring port and how many, of position i of a side (Table 1.4). -/
def ringPorts (i : Nat) : Nat × Nat :=
  nth (0, 0) [(0, 2), (2, 3), (5, 2), (7, 2), (9, 3), (12, 2), (14, 3), (17, 2), (19, 2), (21, 3), (24, 2)] i

/-- Kind code of R52 of position i of a side: 3 edge die, 4 DRAM port die, 5 guest bridge. -/
def ringKind (i : Nat) : Nat := if i = 5 then 5 else if i = 1 ∨ i = 4 ∨ i = 6 ∨ i = 9 then 4 else 3

/-- The position of a side that owns a ring port. -/
def ringPos (p : Nat) : Nat :=
  (indexOf? (fun i => decide ((ringPorts i).1 ≤ p) && decide (p < (ringPorts i).1 + (ringPorts i).2)) (below 11)).getD 0

/-- The sides that a site borders, in the order N, E, S, W, with its router number on each (R30, R37). -/
def sidesOf (site : Nat) : List (Nat × Nat) :=
  let r := rowOf site; let c := colOf site
  (if r = 0 then [(0, c)] else []) ++ (if c = 12 then [(1, r)] else []) ++
    (if r = 12 then [(2, 12 - c)] else []) ++ (if c = 0 then [(3, 12 - r)] else [])

/-- The ring node on ring slot RING0 to RING3 of a border router (R37, R52), by the place in its list of slots. -/
def ringSlotNode (site k : Nat) : Option Nat :=
  match (sidesOf site)[k / 2]? with
  | none => none
  | some (side, j) => some (169 + 11 * side + ringPos (2 * j + k % 2))

/-- What a port of a stack router faces: a node and the port of that node (the hub's ports are H0 to H11). -/
def neighbour (site port : Nat) : Option (Nat × Nat) :=
  if port < 4 then
    match siteToward site port with
    | none => none
    | some t =>
      if hubSite t then (indexOf? (fun h => hubPortSite h == site) (below 12)).map (fun h => (84, h))
      else some (t, (port + 2) % 4)
  else if port < 8 then
    match (sidesOf site)[(port - 4) / 2]? with
    | none => none
    | some (side, j) =>
      let rp := 2 * j + (port - 4) % 2
      some (169 + 11 * side + ringPos rp, rp - (ringPorts (ringPos rp)).1)
  else none

/-- The router port that faces port k of ring node n: its site and port code (R37, R38). -/
def ringRouter (n k : Nat) : Nat × Nat :=
  let side := (n - 169) / 11
  let rp := (ringPorts ((n - 169) % 11)).1 + k
  let site := routerSite side (rp / 2)
  let first := match (sidesOf site) with | (sd, _) :: _ => decide (sd = side) | [] => true
  (site, if first then 4 + rp % 2 else 6 + rp % 2)

/-- How many ring ports a ring node has. -/
def ringPortCount (n : Nat) : Nat := (ringPorts ((n - 169) % 11)).2

/-- The field of SIT_PORTMAP for a port code (R52). -/
def portMapField (site port : Nat) : Loc := ⟨SIT_PORTMAP.REG site, 8 * port + 7, 8 * port⟩

/-- UP of a port in SIT_PORTMAP. -/
def portMapUp (site port : Nat) : Loc := ⟨SIT_PORTMAP.REG site, 8 * port + 2, 8 * port + 2⟩

/-- KIND of a port in SIT_PORTMAP. -/
def portMapKind (site port : Nat) : Loc := ⟨SIT_PORTMAP.REG site, 8 * port + 6, 8 * port + 4⟩

/-- Field n of HUB_HPORT. -/
def hportField (h : Nat) : Loc := ⟨HUB_HPORT.REG, 4 * h + 3, 4 * h⟩

/-- The bit of a site in HUB_SITE_OK0 to 2. -/
def siteOkBit (site : Nat) : Loc := ⟨HUB_SITE_OK0.REG + 8 * (site / 64), site % 64, site % 64⟩

/-- The bit of ring position p (0 to 43) in HUB_RING_OK. -/
def ringOkBit (p : Nat) : Loc := ⟨HUB_RING_OK.REG, p, p⟩

/-- The bit of a node in MSH_FENCED0 to 2 or MSH_FENCED_RING. -/
def fencedBit (n : Nat) : Loc :=
  if n < 169 then ⟨MSH_FENCED0.REG + 8 * (n / 64), n % 64, n % 64⟩ else ⟨MSH_FENCED_RING.REG, n - 169, n - 169⟩

/-- The node is in the fence set (R283). -/
def State.fenced (s : State) (n : Nat) : Bool := if n == 84 then false else s.flag (fencedBit n)

/-! ## Domains of a stack (Table 10.4; chapter 10 moves them) -/

/-- The state of domain d (0 NR, 1 SR, 2 VC, 3 TR, 4 GA, 5 GP) of a site: 0 OFF, 1 WAIT, 2 RAMP, 3 ON, 4 RETENTION, 5 LOST. -/
def domainLoc (site d : Nat) : Loc := ⟨PWR_STK_W0.REG site, 4 * d + 3, 4 * d⟩
def State.domain (s : State) (site d : Nat) : Nat := s.get (domainLoc site d)
def State.domainOn (s : State) (site d : Nat) : Bool := s.domain site d == 3

/-! ## Interrupts and HUB_EVENT (R552, R557, R558) -/

/-- The mask bit of a vector's MSI-X table entry: bit 0 of its vector control dword, set at reset. -/
def State.msixMasked (s : State) (v : Nat) : Bool :=
  s.host.funcMask || (match look s.host.msix (2 * v + 1) with | none => true | some w => w.toNat.testBit 32)

/-- Send the message of a vector now, or hold it while Bus Master Enable is 0 (R552), and begin its holdoff. -/
def State.msixSend (s : State) (v : Nat) : State :=
  let s1 := if s.flag HUB_PCIE.BME then s.send (.msix v) else { s with host := { s.host with held := s.host.held ++ [.msix v] } }
  if s.get HUB_IRQ_CFG.HOLDOFF = 0 ∨ s1.host.holdoff.contains v then s1
  else { s1 with host := { s1.host with holdoff := v :: s1.host.holdoff } }

/-- A vector is triggered (R558). -/
def State.trigger (s : State) (v : Nat) : State :=
  if !s.flag HUB_PCIE.MSIX_EN then s
  else if s.get RST_STATUS.PSTATE = 6 then s
  else if s.msixMasked v then
    if s.host.pend.contains v then s else { s with host := { s.host with pend := v :: s.host.pend } }
  else if s.host.holdoff.contains v then
    if s.host.waiting.contains v then s else { s with host := { s.host with waiting := v :: s.host.waiting } }
  else s.msixSend v

/-- An event sets its bit of HUB_EVENT and triggers vector 4 (Table 16.3). -/
def State.hubEvent (s : State) (l : Loc) : State := (s.put l 1).trigger 4

/-- A posted write of the hub to host memory, held while Bus Master Enable is 0 (R552). -/
def State.hostWrite (s : State) (addr : Nat) (bytes : List Nat) : State :=
  if s.flag HUB_PCIE.BME then s.send (.hostWrite addr bytes)
  else { s with host := { s.host with held := s.host.held ++ [.hostWrite addr bytes] } }

/-! ## Barograph records (R313 to R315) -/

/-- What a raise puts into its record. action is the ACTION byte; corrected says that a fault was corrected or outvoted and no
result was affected; resets says that a reset follows (Table 8.8); fixed is the severity that a code's own table states (Table 15.6). -/
structure Raise where
  code : Nat
  source : Nat := 0
  node : Nat := 0xFF
  unit : Nat := 0xFF
  action : Nat := 0
  corrected : Bool := false
  resets : Bool := false
  details : List Nat := []
  fixed : Option Nat := none
  deriving DecidableEq, Repr

/-- SEVERITY (R315): the most severe row of Table 8.8 that applies. -/
def Raise.severity (r : Raise) : Nat :=
  if r.fixed.isSome then r.fixed.getD 0
  else if bit r.action 4 || r.resets then 3
  else if r.action % 16 ≠ 0 then 2
  else if r.corrected then 1 else 0

/-- The 16 words of a record (Table 8.7). -/
def State.recordWords (s : State) (r : Raise) (seq : Nat) : List Word :=
  let w0 := withField (withField (withField (withField (withField (withField (withField 0 63 48 r.code) 47 40 r.severity) 39 32 r.source)
    31 24 r.node) 23 16 r.unit) 15 8 r.action) 7 0 1
  let w4 := withField (withField (withField (withField (withField 0 63 48 (if s.pass.running then s.get HUB_PASS.TEMPLATE else 0))
    47 32 (if s.pass.running then s.get HUB_PASS.SWEEP else 0)) 31 30 (if s.pass.running then s.get HUB_PASS.SQ else 0))
    29 27 (s.get CLK_OP.CUR)) 26 24 (s.get RST_STATUS.PSTATE)
  [w0, word seq, word s.isobar, word (if s.pass.running then s.pass.seq else 0), w4, s.reg OVC_IMAGE.REG] ++
    (below 10).map (fun i => word (nth 0 r.details i))

/-- A record is exported (R564): its SEVERITY is at least MIN, and its code is not 0x0B42. -/
def State.exported (s : State) (ws : List Word) : Bool :=
  let w := (nth 0 ws 0).toNat
  decide (s.get HUB_MGT_CPER.MIN ≤ bits w 47 40) && bits w 63 48 != 0x0B42

/-- A record is overwritten before it was sent to the collector (R564). -/
def State.unsentLost (s : State) (seq : Nat) : State :=
  if s.flag HUB_MGT_CPER.EN && decide (s.mgmt.next ≤ seq) && (match look s.baro seq with | some ws => s.exported ws | none => false) then
    s.addSat HUB_MGT_STAT.CPER_LOST 1
  else s

/-- One more Barograph record: the ring keeps 1,024 and counts the overwritten one in LOST; vector 5 follows BARO_MIN
(R313, Table 16.3). -/
def State.record (s : State) (r : Raise) : State :=
  let seq := s.get BAR_WR_SEQ.SEQ
  let full := decide (seq ≥ 1024)
  let s := if full then s.unsentLost (seq - 1024) else s
  let b := putKey (if full then delKey s.baro (seq - 1024) else s.baro) seq (s.recordWords r seq)
  let s := { s with baro := b }
  let s := if full then s.addSat BAR_STATUS.LOST 1 else s
  let s := ((s.put BAR_WR_SEQ.SEQ (seq + 1)).put BAR_STATUS.LAST_CODE r.code).putSat BAR_STATUS.COUNT
    (if full then 1024 else seq + 1)
  if r.severity ≥ s.get HUB_IRQ_CFG.BARO_MIN then s.trigger 5 else s

/-! ## Ending a pass early (R183 to R185) -/

/-- Give the running pass a status and code: the row of Table 5.3 nearest the top wins, and of one row the first code. -/
def State.passStatus (s : State) (status code : Nat) : State :=
  if s.pass.running && decide (s.pass.status < status) then { s with pass := { s.pass with status := status, code := code } } else s

/-- The running pass is DISCARDED (R184). -/
def State.discardPass (s : State) (code : Nat) : State := s.passStatus 2 code

/-- The running pass is ABORTED (R185): the hub sends PASS_ABORT in place of its next message. -/
def State.abortPass (s : State) (code site : Nat) : State :=
  if !s.pass.running then s
  else
    let s := if s.pass.status < 3 then s.passStatus 3 code else s
    { s with pass := { s.pass with aborting := true, faultSite := if s.pass.faultSite = 0xFF then site else s.pass.faultSite } }

/-- Bit 0 of ACTION, where a pass runs for the event to abort; bit 1, for one it discards. -/
def State.abortBit (s : State) : Nat := b2n s.pass.running
def State.discardBit (s : State) : Nat := 2 * b2n s.pass.running

/-! ## Deciding a retirement (R528, R530) -/

/-- Decide the retirement of a stack at the next pass boundary; a stack is decided once. -/
def State.decideRetire (s : State) (r : Retire) : State :=
  if s.retire.any (fun x => x.site == r.site) then s else { s with retire := s.retire ++ [r] }

/-! ## Class 0x05 codes, link states and fencing (R282 to R286) -/

/-- The codes of class 0x05 that abort nothing (R286). -/
def meshQuiet (code : Nat) : Bool := code == 0x0517 || code == 0x051D

/-- Raise a class 0x05 code at a node and port (R286): its record, its MSH_EVENT entry, the LAST_CODE fields, and the
running pass's abort. extra are further ACTION bits. -/
def State.raiseMesh (s : State) (code node port extra : Nat) (details : List Nat) : State :=
  let quiet := meshQuiet code
  let s := s.record ⟨code, if node = 84 then 0 else if node < 169 then 1 else 2, if node = 84 then 0xFF else node, if port = 0xF then 0xFF else port,
    (if quiet then 0 else s.abortBit) + extra, false, false, details, none⟩
  let s := s.pushLog MSH_EVENT.REG (withField (withField (withField 0 55 48 node) 47 44 port) 31 16 code)
  let s := s.put MSH_STATUS.LAST_CODE code
  let s := if node < 169 ∧ node ≠ 84 then s.put (SIT_RTR_ERR.LAST_CODE node) code else s
  if quiet then s else s.abortPass code (if node < 169 then node else 0xFF)

/-- A port of a stack router takes a link state; UP of SIT_PORTMAP follows it. -/
def State.linkState (s : State) (site port st : Nat) : State :=
  (s.put (SIT_LINK.STATE site port) st).put (portMapUp site port) (b2n (st == 3))

/-- Every port that faces node n enters drop mode (R283); a hub port toward it reads 0xF in HUB_HPORT (R274). -/
def State.dropToward (s : State) (n : Nat) : State :=
  let ports : List (Nat × Nat) :=
    if n < 169 then (below 4).filterMap (fun d => (siteToward n d).bind (fun t => if hubSite t then none else some (t, (d + 2) % 4)))
    else (below (ringPortCount n)).map (fun k => ringRouter n k)
  let s := ports.foldl (fun s p => s.linkState p.1 p.2 6) s
  if n < 169 then
    (below 12).foldl (fun s h => if hubPortSite h = n then s.put (hportField h) 0xF else s) s
  else s

/-- Fence a node (R284 steps 1 and 2): the fence set of every router, drop mode on the ports facing it, 0x0513 with the
trigger in D0, and, for a stack, its retirement at the boundary. -/
def State.fenceNode (s : State) (n trigger : Nat) : State :=
  if s.fenced n || !validNode n || n == 84 then s
  else
    let s := (s.put (fencedBit n) 1).addSat MSH_STATUS.FENCED 1
    let s := s.dropToward n
    let s := s.raiseMesh 0x0513 n 0xF (8 + (if n < 169 then 4 else 0)) [n, trigger]
    if n < 169 then s.decideRetire ⟨n, trigger, true, false⟩ else s

/-! ## Lists of sites -/

/-- A stack that passed discovery and is not fenced. -/
def State.present (s : State) (site : Nat) : Bool := stackSite site && s.flag (siteOkBit site) && !s.fenced site

/-- A stack whose TR domain is on: its Izique registers answer. -/
def State.powered (s : State) (site : Nat) : Bool := s.present site && s.domainOn site 3

/-- The site that a packet for a site goes to (R542): the substitution of its sector. -/
def State.substSite (s : State) (x : Nat) : Nat :=
  let g := sectorOf x
  if stackSite x && s.flag (HUB_SUBST.VALID g) && s.get (HUB_SUBST.FROM g) == x then s.get (HUB_SUBST.TO g) else x

/-- A spare stack that has not been brought into service (R34): the image's spare of its sector, or without an image the default one, which serves
no site and is in no swap. -/
def State.spareWaits (s : State) (x : Nat) : Bool :=
  stackSite x && (if s.image.area.isSome then nth 0xFF s.image.spares (sectorOf x) == x else defaultSpare (sectorOf x) == x) &&
    !s.image.serving.any (fun y => s.substSite y == x) && !s.spares.swaps.any (fun w => w.spare == x)

/-! ## Accesses that no register answers (R11 to R13, R34, R49, R591, R505) -/

/-- SOURCE of HUB_HST_ADDR: the way an access came. -/
def accessSource : Requester → Nat
  | .host => 0 | .mgmt _ => 1 | .core _ _ => 2 | .hub => 2 | .mesh _ => 2

/-- Record one of 0x0B01 to 0x0B03 (R591): its counter, LAST_CODE and the access. -/
def State.hostErr (s : State) (code : Nat) (who : Requester) (write : Bool) (bytes addr : Nat) : State :=
  let c := if code = 0x0B01 then HUB_HST_ERR.SIZE else if code = 0x0B02 then HUB_HST_ERR.UNMAPPED else HUB_HST_ERR.DARK
  let s := (s.addSat c 1).put HUB_HST_ERR.LAST_CODE code
  let s := (s.put HUB_HST_ADDR.SOURCE (accessSource who)).put HUB_HST_ADDR.WRITE (b2n write)
  let bar2 := decide (0x4000000 ≤ addr)
  ((s.put HUB_HST_ADDR.BAR2 (b2n bar2)).put HUB_HST_ADDR.BYTES (sat 15 bytes)).put HUB_HST_ADDR.ADDR (addr % 0x4000000)

/-- The hub core runs: the power state is RETAINED, WARM, SERVING or DOLDRUMS, and no reset is in progress. -/
def State.hubRuns (s : State) : Bool :=
  s.rst.level.isNone && (let p := s.get RST_STATUS.PSTATE; decide (2 ≤ p) && p != 5)

/-- A register of a site's window is dark: before discovery is done (R49), where the stack is unpowered (R13), and, for any requester but the stack's own
control cores, in the blocks of a waiting spare other than SIT_ and a GLT_ whose domains are ON (R34), and of a retired stack other than SIT_
(R529). -/
def State.siteDark (s : State) (who : Requester) (addr site : Nat) : Bool :=
  let own : Bool := match who with | .core x _ => x == site | _ => false
  let off := (addr - 0x1000000) % 0x10000
  !s.flag HUB_DISC_STATUS.DONE || !s.powered site ||
    (!own && decide (0x1000 ≤ off) && (s.retired.contains site ||
      (s.spareWaits site && !(decide (0xC000 ≤ off) && s.domainOn site 4 && s.domainOn site 5))))

/-- What a write to a register of a site does (R13): where the register is dark it is ignored and 0x0B03 recorded. -/
def State.atSite (s : State) (who : Requester) (addr site : Nat) (k : Host.Outcome State Fault Refusal) : Host.Outcome State Fault Refusal :=
  if !s.siteDark who addr site then k else .next (if s.hubRuns then s.hostErr 0x0B03 who true 8 addr else s)

/-- What a read of a register of a site does (R13): where the register is dark it returns zero, and until discovery is done without a code (R49). -/
def State.readAtSite (s : State) (who : Requester) (addr bytes site : Nat) (k : Host.Outcome State Fault Refusal) :
    Host.Outcome State Fault Refusal :=
  if !s.siteDark who addr site then k
  else
    let t := if s.flag HUB_DISC_STATUS.DONE then s.hostErr 0x0B03 who false bytes addr else s
    .next (if s.hubRuns then t.send (.readData who addr bytes 0 false) else s)

/-- What a write to a register of the hub does that does not answer in DOLDRUMS (R505): there it is ignored and 0x0B02 recorded.
Where no hub runs, nothing happens. -/
def State.atHub (s : State) (who : Requester) (addr : Nat) (k : Host.Outcome State Fault Refusal) : Host.Outcome State Fault Refusal :=
  if !s.hubRuns then .next s
  else if s.get RST_STATUS.PSTATE = 6 then .next (s.hostErr 0x0B02 who true 8 addr) else k

/-- What a read of such a register does: in DOLDRUMS it returns zero. -/
def State.readAtHub (s : State) (who : Requester) (addr bytes : Nat) (k : Host.Outcome State Fault Refusal) : Host.Outcome State Fault Refusal :=
  if !s.hubRuns then .next s
  else if s.get RST_STATUS.PSTATE = 6 then .next ((s.hostErr 0x0B02 who false bytes addr).send (.readData who addr bytes 0 false))
  else k

/-- What an access to a register does that answers in DOLDRUMS too. -/
def State.atDawn (s : State) (k : Host.Outcome State Fault Refusal) : Host.Outcome State Fault Refusal :=
  if s.hubRuns then k else .next s

end Sys2Proof.Machine
end

