-- ==== Sys2Proof/Machine/Memory.lean ====
section
/-! DEFINITION. The address space and its memory: what a panel physical address names (R19, R20, R55 to R60), the Gelat stores
with their codewords, poison marks and written bits (R206 to R220), HBM (R231 to R234), buffer handles (R209 to R213) and
remote windows (R238, R239). -/

namespace Sys2Proof.Machine

open Sys2Proof

/-! ## The memory list (canonical form: addresses strictly rising, no byte equal to 0) -/

/-- The canonical form of a memory: every address above the bound, rising, and no listed byte 0. -/
def memoryWfFrom : Nat → List Host.Cell → Bool
  | _, [] => true
  | lo, (a, b) :: m => decide (lo ≤ a) && (b != 0#8) && memoryWfFrom (a + 1) m

/-- The memory is in its canonical form. -/
def Memory.wf (m : List Host.Cell) : Bool := memoryWfFrom 0 m

/-- The byte at an address; an address that is not listed reads 0 (log entry 4). -/
def readByte : List Host.Cell → Nat → Byte
  | [], _ => 0
  | (k, v) :: m, a => if k = a then v else readByte m a

/-- Write one byte, keeping the canonical form. -/
def writeByte : List Host.Cell → Nat → Byte → List Host.Cell
  | [], a, b => if b = 0#8 then [] else [(a, b)]
  | (k, v) :: m, a, b =>
    if a < k then (if b = 0#8 then (k, v) :: m else (a, b) :: (k, v) :: m)
    else if k = a then (if b = 0#8 then m else (a, b) :: m)
    else (k, v) :: writeByte m a b

/-- Read n bytes from an address on. -/
def readBytes (m : List Host.Cell) (a n : Nat) : List Nat := (below n).map (fun i => (readByte m (a + i)).toNat)

/-- Write bytes from an address on. -/
def writeBytes : List Host.Cell → Nat → List Nat → List Host.Cell
  | m, _, [] => m
  | m, a, b :: l => writeBytes (writeByte m a (BitVec.ofNat 8 b)) (a + 1) l

/-- Add a number to a rising list. -/
def markIn : List Nat → Nat → List Nat
  | [], a => [a]
  | x :: l, a => if x = a then x :: l else if a < x then a :: x :: l else x :: markIn l a

/-- Remove a number from a list. -/
def markOut (l : List Nat) (a : Nat) : List Nat := l.filter (fun x => x != a)

/-! ## Panel physical addresses (R19, R20, R55 to R58) -/

def ppaSpace (p : Nat) : Nat := bits p 55 52
def ppaSite (p : Nat) : Nat := bits p 51 44
def ppaOffset (p : Nat) : Nat := bits p 43 0
def mkPpa (space site offset : Nat) : Nat := space * 2 ^ 52 + site * 2 ^ 44 + offset

/-- Bytes of a Gelat die and of an HBM stack. -/
def gelatSize : Nat := 0x10000000
def hbmSize : Nat := 0xC00000000

/-- The place of a byte of the interleaved HBM space (R56): its stack and its offset there. -/
def interleave (o : Nat) : Nat × Nat := (bits o 16 12, (o / 2 ^ 17) * 4096 + o % 4096)

/-- Where the byte of a PPA physically stands, as the key of memory: the PPA of the site's Gelat byte or of the stack's byte.
None for a space without memory and for an address that breaks R55 or R56. -/
def physKey (p : Nat) : Option Nat :=
  match ppaSpace p with
  | 0 => if stackSite (ppaSite p) ∧ ppaOffset p < gelatSize then some p else none
  | 1 =>
    if ppaSite p < 32 then if ppaOffset p < hbmSize then some p else none
    else if ppaSite p = 255 then
      if ppaOffset p < 32 * hbmSize then some (mkPpa 1 (interleave (ppaOffset p)).1 (interleave (ppaOffset p)).2) else none
    else none
  | _ => none

/-- DPD_STATUS.STATE of an HBM stack: 2 is in service. -/
def hbmStateLoc (stack : Nat) : Loc := ⟨DPD_STATUS.REG (stack / 2), 4 * (stack % 2) + 3, 4 * (stack % 2)⟩
def State.hbmUp (s : State) (stack : Nat) : Bool := s.get (hbmStateLoc stack) == 2

/-- The Gelat SRAM of a site can be accessed (R208). -/
def State.gelatUp (s : State) (site : Nat) : Bool := s.present site && s.domainOn site 4 && s.domainOn site 5

/-- The memory behind a key can be accessed now (R60, R208). -/
def State.keyUp (s : State) (key : Nat) : Bool :=
  if ppaSpace key = 0 then s.gelatUp (ppaSite key) else s.hbmUp (ppaSite key)

/-- The PPA of memory is valid now (R59). -/
def State.memValid (s : State) (p : Nat) : Bool :=
  match physKey p with
  | none => false
  | some k => s.keyUp k

/-- The store of a Gelat offset (Table 1.9): 0 weight, 1 activation, 2 partial-sum spill. -/
def storeOf (offset : Nat) : Nat := if offset < 0xC000000 then 0 else if offset < 0xF000000 then 1 else 2

/-- Bytes of a codeword at a key (Table 6.1, R232). -/
def codewordSize (key : Nat) : Nat :=
  if ppaSpace key = 1 then 64
  else match storeOf (ppaOffset key) with | 0 => 64 | 1 => 8 | _ => 16

/-- First byte of the codeword that holds a key. -/
def codewordBase (key : Nat) : Nat := key - key % codewordSize key

/-- The codewords that n bytes from a key on touch; the bytes lie in one 1 KiB block, so in one store. -/
def codewords (key n : Nat) : List Nat :=
  let z := codewordSize key
  let b := codewordBase key
  if n = 0 then [] else (below ((key + n - b + z - 1) / z)).map (fun i => b + z * i)

/-- A codeword that n bytes from a key on touch is poisoned. -/
def State.poisoned (s : State) (key n : Nat) : Bool := (codewords key n).any (fun c => s.poison.contains c)

/-! ## Requesters and invalid accesses (R59) -/

/-- A requester as R59 names it. -/
structure Who where
  node : Nat
  unit : Nat := 0xFF
  deriving DecidableEq, Repr

/-- 0x0310 MEM_PPA_INVALID for an access that is not performed (R59). -/
def State.ppaInvalid (s : State) (w : Who) (ppa : Nat) (write : Bool) : State :=
  s.record { code := 0x0310, source := if w.node = 84 ∨ w.node = 0xFF then 0 else if w.node < 169 then 1 else 2,
             node := w.node, unit := w.unit, details := [ppa, b2n write] }

/-- LAST_CODE of a Gelat die or DRAM port die for a class 0x03 code, and its record. -/
def State.raiseGelat (s : State) (code site action : Nat) (corrected : Bool) (details : List Nat) : State :=
  (s.record { code := code, source := 1, node := site, action := action, corrected := corrected, details := details }).put
    (GLT_STATUS.LAST_CODE site) code

/-- The ring node of a DRAM port die. -/
def dpdNode (d : Nat) : Nat := 169 + 11 * (d / 4) + nth 0 [1, 4, 6, 9] (d % 4)

/-- The ring node of an edge die. -/
def edgeNode (e : Nat) : Nat := 169 + 11 * (e / 6) + nth 0 [0, 2, 3, 7, 8, 10] (e % 6)

/-- The ring node of a guest site. -/
def guestNode (g : Nat) : Nat := 169 + 11 * g + 5

def State.raiseDpd (s : State) (code stack action : Nat) (corrected : Bool) (details : List Nat) : State :=
  (s.record { code := code, source := 2, node := dpdNode (stack / 2), unit := stack % 2, action := action, corrected := corrected,
              details := details }).put (DPD_STATUS.LAST_CODE (stack / 2)) code

/-! ## Gelat state -/

def State.gelat (s : State) (site : Nat) : GelatState := lookD {} s.gelats site
def State.setGelat (s : State) (site : Nat) (g : GelatState) : State := { s with gelats := putKey s.gelats site g }
def State.hbm (s : State) (stack : Nat) : HbmState := lookD {} s.hbms stack
def State.setHbm (s : State) (stack : Nat) (h : HbmState) : State := { s with hbms := putKey s.hbms stack h }

/-- The GLT_ECC_ register of a store. -/
def eccReg (site store : Nat) : Nat :=
  match store with | 0 => GLT_ECC_W.REG site | 1 => GLT_ECC_A.REG site | _ => GLT_ECC_P.REG site

/-- Isobar ticks in one second and in one hour (R7). -/
def second : Nat := 100000000
def hour : Nat := 3600 * second

/-- A corrected codeword is counted and logged; above CE_LIMIT in one second 0x0301 is raised once (R225). -/
def State.eccCorrected (s : State) (site row store : Nat) (scrub : Bool) (nbits : Nat) : State :=
  let s := s.addSat ⟨eccReg site store, 31, 0⟩ 1
  let e := withField (withField (withField (withField 0 60 60 (b2n scrub)) 59 58 store) 57 56 nbits) 21 0 row
  let s := s.pushLog (GLT_ERR_LOG.REG site) e
  let g := s.gelat site
  let now := s.isobar / second
  let g := if g.ceSecond = now then { g with ceCount := g.ceCount + 1 } else { g with ceSecond := now, ceCount := 1, ceRaised := false }
  if g.ceCount > s.get (GLT_SCRUB.CE_LIMIT site) && !g.ceRaised then
    (s.setGelat site { g with ceRaised := true }).raiseGelat 0x0301 site 0 true []
  else s.setGelat site g

/-- The code of an uncorrectable codeword of a store (R215, R217). -/
def ueCode (store : Nat) : Nat := match store with | 0 => 0x0302 | 1 => 0x0303 | _ => 0x0304

/-- PENDING of GLT_REPAIR counts the listed rows (R226). -/
def State.repairCount (s : State) (site : Nat) : State :=
  let g := s.gelat site
  (s.putSat (GLT_REPAIR.PENDING site) (g.repairW.length + g.repairA.length)).putSat (GLT_REPAIR.NO_SOURCE site) g.held.length

/-- Put a row on its store's repair list, where that has room (R226). -/
def State.scheduleRepair (s : State) (site row store : Nat) : State :=
  let g := s.gelat site
  if store = 0 then
    if g.repairW.contains row || g.held.contains row || decide (64 ≤ g.repairW.length) then s
    else (s.setGelat site { g with repairW := g.repairW ++ [row] }).repairCount site
  else if store = 1 then
    if g.repairA.contains row || decide (64 ≤ g.repairA.length) then s
    else (s.setGelat site { g with repairA := g.repairA ++ [row] }).repairCount site
  else s

/-- An uncorrectable codeword: counted, logged, raised, its bytes poisoned from then on, and a weight row scheduled for
repair (R215, R217, R225, R226). A codeword that holds the poison pattern raises nothing (R219). -/
def State.eccUncorrectable (s : State) (key : Nat) (scrub : Bool) : State :=
  let c := codewordBase key
  let site := ppaSite key
  let store := storeOf (ppaOffset key)
  let row := ppaOffset key / 64
  if s.poison.contains c then s
  else
    let s := s.addSat ⟨eccReg site store, 63, 48⟩ 1
    let e := withField (withField (withField (withField 0 61 61 1) 60 60 (b2n scrub)) 59 58 store) 21 0 row
    let s := s.pushLog (GLT_ERR_LOG.REG site) e
    let s := { s with poison := markIn s.poison c }
    let s := s.raiseGelat (ueCode store) site 0 false [mkPpa 0 site (row * 64)]
    if store = 0 then s.scheduleRepair site row 0 else s

/-- The uncorrectable accesses of the last hour (R232). -/
def State.hbmRefresh (s : State) (stack : Nat) : State :=
  let h := s.hbm stack
  let t := h.ueTimes.filter (fun t => decide (s.isobar < t + hour))
  (s.setHbm stack { h with ueTimes := t }).putSat ⟨DPD_ECC.REG (stack / 2) (stack % 2), 47, 32⟩ t.length

/-- A stack leaves service at the next boundary once an hour holds 16 uncorrectable accesses (R232). -/
def HbmState.judge (h : HbmState) : HbmState := if 16 ≤ h.ueTimes.length then { h with leaving := true } else h

/-- An uncorrectable HBM access (R232): counted, 0x0305, poisoned from then on; the sixteenth within an hour takes the stack
out of service at the next boundary. A poison pattern counts nothing. -/
def State.hbmUncorrectable (s : State) (key : Nat) : State :=
  let c := codewordBase key
  let stack := ppaSite key
  if s.poison.contains c then s
  else
    let s := { s with poison := markIn s.poison c }
    let s := s.addSat ⟨DPD_ECC.REG (stack / 2) (stack % 2), 63, 48⟩ 1
    let h := s.hbm stack
    let s := (s.setHbm stack { h with ueTimes := h.ueTimes ++ [s.isobar] }).hbmRefresh stack
    let s := s.raiseDpd 0x0305 stack 0 false [key]
    s.setHbm stack (s.hbm stack).judge

/-- The outcome of the error code on a read of n bytes from a key on: the first codeword bears it. -/
def State.eccOn (s : State) (key : Nat) (e : Ecc) : State :=
  match e with
  | .clean => s
  | .corrected =>
    if ppaSpace key = 1 then s.addSat ⟨DPD_ECC.REG (ppaSite key / 2) (ppaSite key % 2), 31, 0⟩ 1
    else s.eccCorrected (ppaSite key) (ppaOffset key / 64) (storeOf (ppaOffset key)) false 1
  | .uncorrectable => if ppaSpace key = 1 then s.hbmUncorrectable key else s.eccUncorrectable key false

/-! ## Reading and writing memory -/

/-- Split n bytes at a PPA into pieces that lie in one 1 KiB block (R248). fuel bounds the number of pieces. -/
def splitBlocks : Nat → Nat → Nat → List (Nat × Nat)
  | 0, _, _ => []
  | f + 1, p, n =>
    if n = 0 then [] else
      let k := Nat.min n (1024 - p % 1024)
      (p, k) :: splitBlocks f (p + k) (n - k)

def pieces (p n : Nat) : List (Nat × Nat) := splitBlocks (n / 1024 + 2) p n

/-- The spill row of a key has its written bit set; every other row counts as written (R220). -/
def State.rowWritten (s : State) (key : Nat) : Bool :=
  if ppaSpace key = 0 ∧ storeOf (ppaOffset key) = 2 then (s.gelat (ppaSite key)).written.contains (ppaOffset key / 64) else true

/-- One byte as a read finds it: a spill row whose written bit is clear reads zero. -/
def State.byteAt (s : State) (key : Nat) : Nat := if s.rowWritten key then (readByte s.memory key).toNat else 0

/-- The poison of one codeword as a read finds it. -/
def State.poisonAt (s : State) (key : Nat) : Bool := s.rowWritten key && s.poison.contains (codewordBase key)

/-- Read n bytes at a valid PPA: the bytes and whether any is poisoned. -/
def State.readMem (s : State) (p n : Nat) : List Nat × Bool :=
  let ks := (below n).map (fun i => (physKey (p + i)).getD 0)
  (ks.map s.byteAt, ks.any s.poisonAt)

/-- Clear a spill row before the first write of it: its bytes are zero and no codeword of it is poisoned (R220). -/
def State.freshRow (s : State) (key : Nat) : State :=
  if s.rowWritten key then s
  else
    let b := key - key % 64
    let g := s.gelat (ppaSite key)
    let s := s.setGelat (ppaSite key) { g with written := markIn g.written (ppaOffset key / 64) }
    { s with memory := writeBytes s.memory b (List.replicate 64 0), poison := s.poison.filter (fun c => decide (c < b) || decide (b + 64 ≤ c)) }

/-- Store bytes from a key on, all in one 1 KiB block, with the poison rules of R218, R219 and R232. -/
def State.storeKey (s : State) (key : Nat) (data : List Nat) (poison : Bool) : State :=
  let n := data.length
  let s := ((below ((key % 64 + n + 63) / 64)).map (fun i => key - key % 64 + 64 * i)).foldl (fun s k => s.freshRow k) s
  let marks := (codewords key n).foldl (fun m c =>
    if poison then markIn m c
    else if decide (key ≤ c) && decide (c + codewordSize key ≤ key + n) then markOut m c else m) s.poison
  { s with memory := writeBytes s.memory key data, poison := marks }

/-- The bytes [a, a+n) meet an area (PPA and length) of HBM as physical bytes. -/
def meetsArea (a : Option (Nat × Nat)) (p n : Nat) : Bool :=
  match a with
  | none => false
  | some (b, len) => (below n).any (fun i =>
      match physKey (p + i) with
      | none => false
      | some k => if ppaSite b = 255 then
          -- the area lies in the interleaved space: the byte's interleaved offset
          let o := (ppaOffset k / 4096) * 2 ^ 17 + ppaSite k * 4096 + ppaOffset k % 4096
          ppaSpace k == ppaSpace b && decide (ppaOffset b ≤ o) && decide (o < ppaOffset b + len)
        else decide (b ≤ k) && decide (k < b + len))

/-- The golden range of a stack holds the byte offset (R234). -/
def State.inGolden (s : State) (stack off : Nat) : Bool :=
  let r := DPD_GOLD.REG (stack / 2) (stack % 2)
  let unit := 0x200000
  decide (s.get ⟨r, 14, 0⟩ * unit ≤ off) && decide (off < s.get ⟨r, 46, 32⟩ * unit)

def State.goldenLocked (s : State) (stack : Nat) : Bool := s.get ⟨DPD_GOLD.REG (stack / 2) (stack % 2), 63, 63⟩ == 1

/-- No pass runs: HUB_PASS.STATE is IDLE, HOLD or DOWN. -/
def State.betweenPasses (s : State) : Bool :=
  s.get HUB_PASS.STATE == 0 || s.get HUB_PASS.STATE == 1 || s.get HUB_PASS.STATE == 6

/-- Fewest free spare rows in any bank of a die with spare rows: SPARE_MIN of GLT_STATUS. -/
def State.spareMin (s : State) (site : Nat) : State :=
  s.put (GLT_STATUS.SPARE_MIN site) (16 - sat 16 (maxNat ((s.gelat site).sparesUsed.map (·.2))))

/-- Take spare rows of a bank, as many as there are up to n; the answer says whether all n were free. -/
def State.takeSpares (s : State) (site bank n : Nat) : State × Bool :=
  let g := s.gelat site
  let used := lookD 0 g.sparesUsed bank
  let free := 16 - sat 16 used
  let k := Nat.min n free
  ((s.setGelat site { g with sparesUsed := putKey g.sparesUsed bank (used + k) }).spareMin site, decide (n ≤ free))

/-- A row is released from R228; POISON_W clears with the last (R228). -/
def State.releaseHeld (s : State) (site row : Nat) : State :=
  let g := s.gelat site
  let s := (s.setGelat site { g with held := markOut g.held row }).repairCount site
  if (s.gelat site).held.isEmpty then s.put (GLT_STATUS.POISON_W site) 0 else s

/-- A whole-row write to a held row between passes is the source of its repair (R229): a spare row of its bank, the data
written there, and the row released. -/
def State.heldRepair (s : State) (key : Nat) (data : List Nat) : State :=
  let site := ppaSite key
  let row := ppaOffset key / 64
  let (s, ok) := s.takeSpares site (ppaOffset key / 0x400000) 1
  let s := if ok then s.addSat ⟨eccReg site 0, 47, 32⟩ 1
    else (s.raiseGelat 0x0306 site 4 false [row]).decideRetire ⟨site, 0x0306, false, true⟩
  (s.storeKey key data false).releaseHeld site row

/-- One piece of a write, in one 1 KiB block, at a valid PPA: the protections of R229, R234 and R479, then the store. The
second component says that a locked weight byte was dropped, the third that the piece was performed. -/
def State.writePiece (s : State) (p : Nat) (data : List Nat) (poison : Bool) (whole : Bool) : State × Bool × Bool :=
  match physKey p with
  | none => (s, false, false)
  | some key =>
    if ppaSpace key = 1 then
      if meetsArea s.image.area p data.length || meetsArea s.image.staging p data.length || meetsArea s.fw.area p data.length then
        (s.record { code := 0x0131, details := [p] }, false, false)
      else if s.goldenLocked (ppaSite key) && ((below data.length).any (fun i => s.inGolden (ppaSite key) (ppaOffset key + i))) then
        (s.raiseDpd 0x0312 (ppaSite key) 0 false [p], false, false)
      else (s.storeKey key data poison, false, true)
    else
      let site := ppaSite key
      if storeOf (ppaOffset key) = 0 && s.flag (GLT_CTRL.WLOCK site) then
        if whole && decide (key % 64 = 0) && decide (data.length = 64) && s.betweenPasses && (s.gelat site).held.contains (ppaOffset key / 64)
            && !poison then
          (s.heldRepair key data, false, true)
        else (s, true, false)
      else
        let s := s.storeKey key data poison
        let rows := (below ((key % 64 + data.length) / 64)).map (fun i => (ppaOffset key + 63) / 64 + i)
        -- a plain write that covers a held row whole clears its poison in place (R229)
        (if storeOf (ppaOffset key) = 0 then
          rows.foldl (fun s r => if (s.gelat site).held.contains r && !s.poison.contains (mkPpa 0 site (64 * r)) then s.releaseHeld site r else s) s
         else s, false, true)

/-- Write bytes at a PPA of memory for a requester. An invalid PPA drops the piece with 0x0310 (R59); a locked weight store
drops its bytes and raises 0x0308 once (R229). The answer says whether every piece was performed. -/
def State.writeMem (s : State) (w : Who) (p : Nat) (data : List Nat) (poison : Bool) : State × Bool :=
  let ps := pieces p data.length
  let r := ps.foldl (fun (acc : State × Bool × Bool) q =>
    let d := (data.drop (q.1 - p)).take q.2
    if !(acc.1.memValid q.1) then (acc.1.ppaInvalid w q.1 true, acc.2.1, false)
    else
      let x := acc.1.writePiece q.1 d poison (decide (ps.length = 1))
      (x.1, acc.2.1 || x.2.1, acc.2.2 && x.2.2)) (s, false, true)
  (if r.2.1 then r.1.raiseGelat 0x0308 (ppaSite p) 0 false [p] else r.1, r.2.2)

/-- Read bytes at a PPA of memory for a requester: all ones, marked poisoned, with 0x0310 where the PPA is invalid (R59). -/
def State.readFor (s : State) (w : Who) (p n : Nat) (e : Ecc) : State × List Nat × Bool :=
  if (pieces p n).all (fun q => s.memValid q.1 && s.memValid (q.1 + q.2 - 1)) then
    let s := match physKey p with | none => s | some k => if n = 0 then s else s.eccOn k e
    (s, s.readMem p n)
  else (s.ppaInvalid w p false, List.replicate n 0xFF, true)

/-! ## Buffer handles (R209 to R213) -/

/-- A handle entry (Table 6.2). -/
structure Handle where
  kind : Nat
  view : Nat
  wp : Bool
  base : Nat
  size : Nat
  index : Nat
  blockLog : Nat
  icount : Nat
  deriving DecidableEq, Repr

/-- The element width of a transposed view, and its tile in bytes (R213); 0 for a linear view. -/
def viewWidth (v : Nat) : Nat := if v = 1 then 1 else if v = 2 then 2 else 0
def tileSize (v : Nat) : Nat := 4096 * viewWidth v

def decodeHandle (w0 w1 w2 w3 : Nat) : Handle :=
  ⟨bits w0 63 60, bits w0 59 58, bit w0 57, bits w0 55 0, bits w1 43 0, bits w2 55 0, bits w3 36 32, bits w3 31 0⟩

/-- WHY of a handle entry (R210): 0 valid, else the first rule broken in the order of the rule's list. -/
def handleWhy (w0 w1 w2 w3 : Nat) : Nat :=
  let h := decodeHandle w0 w1 w2 w3
  let off := ppaOffset h.base
  let site := ppaSite h.base
  if h.kind = 0 ∨ h.size = 0 then 0
  else if bit w0 56 || bits w1 63 44 != 0 || bits w2 63 56 != 0 || bits w3 59 37 != 0 then 7
  else if h.kind > 3 then 1
  else if h.kind = 1 then
    if ppaSpace h.base ≠ 0 ∨ !stackSite site then 2
    else if off % 64 ≠ 0 ∨ h.size % 64 ≠ 0 then 3
    else if off + h.size > gelatSize ∨ storeOf off ≠ storeOf (off + h.size - 1) then 4
    else if h.view = 3 then 6
    else if h.view ≠ 0 ∧ (off % tileSize h.view ≠ 0 ∨ h.size % tileSize h.view ≠ 0) then 3
    else 0
  else if h.kind = 2 then
    if ppaSpace h.base ≠ 1 ∨ ¬ (site < 32 ∨ site = 255) then 2
    else if off % 64 ≠ 0 ∨ h.size % 64 ≠ 0 then 3
    else if off + h.size > (if site = 255 then 32 * hbmSize else hbmSize) then 4
    else if h.view = 3 then 6
    else if h.view ≠ 0 ∧ (off % tileSize h.view ≠ 0 ∨ h.size % tileSize h.view ≠ 0) then 3
    else 0
  else
    let ioff := ppaOffset h.index
    if ppaSpace h.base ≠ 1 ∨ ¬ (site < 32) ∨ ppaSpace h.index ≠ 1 ∨ ppaSite h.index ≠ site then 2
    else if h.view ≠ 0 ∨ h.wp = false ∨ h.blockLog < 6 ∨ h.blockLog > 16 then 5
    else if off % 64 ≠ 0 ∨ ioff % 4 ≠ 0 then 3
    else if h.icount = 0 ∨ h.size ≠ h.icount * 2 ^ h.blockLog then 5
    else if ioff + 4 * h.icount > hbmSize then 4
    else 0

/-- Handle h of a site, where it is valid and has a buffer (R210). -/
def State.handle (s : State) (site h : Nat) : Option Handle :=
  let w (k : Nat) : Nat := (s.reg (BHT_ENTRY.REG site h k)).toNat
  let w3 := bits (w 3) 59 0
  let x := decodeHandle (w 0) (w 1) (w 2) w3
  if handleWhy (w 0) (w 1) (w 2) w3 = 0 ∧ x.kind ≠ 0 ∧ x.size ≠ 0 then some x else none

/-- The PPA of logical byte o of a handle's buffer, for a linear or transposed view (R213). -/
def Handle.byte (h : Handle) (o : Nat) : Nat :=
  if h.view = 0 then h.base + o
  else
    let w := viewWidth h.view
    let z := tileSize h.view
    let u := o % z
    h.base + (o / z) * z + ((u % (64 * w) / w) * 64 + u / (64 * w)) * w + u % w

/-- The memory a handle names is available (R212). -/
def State.handleUp (s : State) (h : Handle) : Bool :=
  if h.kind = 1 then s.gelatUp (ppaSite h.base)
  else if ppaSite h.base = 255 then (below 32).all s.hbmUp
  else s.hbmUp (ppaSite h.base)

/-! ## Remote windows (R238, R239) -/

/-- What a remote window access meets: a miss, or a target address at host memory, a conduit or a guest. -/
inductive Target where
  | miss
  | host (addr : Nat)
  | conduit (c offset : Nat)
  | guest (g addr : Nat)
  deriving DecidableEq, Repr

/-- GAL_CND_CFG.OPEN and GAL_CND_STATE.STATE of conduit c: an open conduit (R239). -/
def State.conduitOpen (s : State) (c : Nat) : Bool := s.get (GAL_CND_STATE.STATE c) == 2

/-- The guest site is UP. -/
def State.guestUp (s : State) (g : Nat) : Bool := s.get (GST_STATUS.STATE g) == 5

/-- Translate window offset x of an entry's word for a read or a write (R238, R239). -/
def State.translateWord (s : State) (w x : Nat) (write : Bool) : Target :=
  let a := bits w 63 21 * 2 ^ 21 + x % 2 ^ 21
  let t := bits w 20 12
  if !bit w 0 || !(if write then bit w 3 else bit w 2) || bit w 1 || bits w 11 6 != 0 then .miss
  else match bits w 5 4 with
    | 0 => if t = 0 then .host a else .miss
    | 1 => if s.conduitOpen t then .conduit t a else .miss
    | 2 => if t < 4 ∧ s.guestUp t then .guest t a else .miss
    | _ => .miss

/-- The remote window entry of a PPA of space 0x3, where the PPA is valid (R58). -/
def rwtEntry (p : Nat) : Option Nat :=
  if ppaSpace p = 3 ∧ ppaSite p = 0 ∧ ppaOffset p < 0x200000000 then some (bits p 32 21) else none

/-- The translation of a node's own cache, filled from the table on a miss (R238, R241): at most 64 entries, the oldest
leaving first. -/
def State.rwtLookup (s : State) (node e : Nat) : Word × State :=
  let c := lookD [] s.rwtCache node
  match look c e with
  | some w => (w, s)
  | none =>
    let w := s.reg (HUB_RWT.REG e)
    let c := if c.length ≥ 64 then c.drop 1 else c
    (w, { s with rwtCache := putKey s.rwtCache node (c ++ [(e, w)]) })

/-- The node that a target's requests travel to. -/
def Target.node (s : State) : Target → Nat
  | .miss => 0xFF
  | .host _ => 84
  | .conduit c _ => edgeNode (s.get (GAL_CND_CFG.EDGE c))
  | .guest g _ => guestNode g

/-- The node that serves a memory PPA: its site, or the DRAM port die of its stack. -/
def ppaNode (p : Nat) : Nat :=
  match physKey p with
  | none => if ppaSpace p = 0 ∨ ppaSpace p = 2 then ppaSite p else dpdNode (ppaSite p / 2 % 16)
  | some k => if ppaSpace k = 0 then ppaSite k else dpdNode (ppaSite k / 2)

/-! ## Mesh requests (R248, R249, R542) -/

/-- A PPA with its SITE rewritten (R542). -/
def State.substPpa (s : State) (p : Nat) : Nat :=
  if ppaSpace p = 0 ∨ ppaSpace p = 2 then mkPpa (ppaSpace p) (s.substSite (ppaSite p)) (ppaOffset p) else p

/-- Whether a node rewrites what it originates (R542): stacks, edge dies and DRAM port dies do. -/
def rewrites (node : Nat) : Bool := node != 84 && !(ringNode node && ringKind ((node - 169) % 11) == 5)

/-- A node injects a packet, rewritten under R542. A MWRITE keeps its DST, its own node, and its PPA (R266, R543). -/
def State.inject (s : State) (p : Packet) : State :=
  s.send (.packet (if rewrites p.src && p.type != 3 then { p with dst := s.substSite p.dst, ppa := s.substPpa p.ppa } else p))


/-- The least tag of a node that no outstanding request uses. -/
def State.freeTag (s : State) (node : Nat) : Nat :=
  let used := (s.requests.filter (fun r => r.node == node)).map (·.tag)
  ((below (used.length + 1)).find? (fun t => !used.contains t)).getD used.length

/-- Issue one READ or WRITE packet of a node and note the request. -/
def State.issue (s : State) (node : Nat) (use : ReqUse) (dst : Nat) (write : Bool) (ppa n : Nat) (data : List Nat) (poison : Bool)
    (rwt : Option Nat) (view : Option (Nat × Nat × Nat)) : State × Nat :=
  let tag := s.freeTag node
  let len := if write then (n + 127) / 128 else 1
  let p : Packet := { dst := dst, src := node, type := if write then 2 else 1, len := len, bytes := n, tag := tag, ppa := ppa,
                      data := data, poison := if poison then 2 ^ len - 1 else 0, view := view }
  let r : Request := { node := node, tag := tag, use := use, dst := dst, write := write, ppa := ppa, bytes := n, rwt := rwt, view := view }
  ({ s with requests := s.requests ++ [r] }.inject p, tag)

/-! ## Staging areas and HBM stacks that leave service (R478, R480, R232) -/

/-- An area (PPA and length) holds a byte of an HBM stack (R56). -/
def areaUses (a : Option (Nat × Nat)) (stack : Nat) : Bool :=
  match a with
  | none => false
  | some (p, _) =>
    if ppaSite p = 255 then decide (stack < 32)
    else ppaSite p == stack

/-- OVC_STATUS.STATE takes a value; a change is a hub event (R480, HUB_EVENT.OVC). -/
def State.ovcState (s : State) (st : Nat) : State :=
  if s.get OVC_STATUS.STATE = st then s else (s.put OVC_STATUS.STATE st).hubEvent HUB_EVENT.OVC

/-- A load ends in FAILED: the code and section that OVC_STATUS names, the record of the code (R488), and the protection of
the staging area gone (R479, R480). Code 0 is an abandon. -/
def State.loadFail (s : State) (code section_ site : Nat) : State :=
  let s := if code = 0 then s else s.record { code := code, unit := section_ }
  let s := ((s.put OVC_STATUS.LAST_CODE code).put OVC_STATUS.SECTION section_).put OVC_STATUS.SITE site
  ({ s with image := { s.image with staging := none, stagingLost := false } }.put OVC_STAGED.ID 0).ovcState 6

/-- An HBM stack leaves service: its state, and the staging areas it held (R60, R232, R478). -/
def State.hbmLeave (s : State) (stack : Nat) : State :=
  let s := s.put (hbmStateLoc stack) 4
  let s := s.setHbm stack { s.hbm stack with leaving := false }
  let s := if areaUses s.image.area stack && !s.image.areaLost then
      { s.record { code := 0x0132 } with image := { s.image with areaLost := true } } else s
  if areaUses s.image.staging stack then
    if s.get OVC_STATUS.STATE = 1 ∨ s.get OVC_STATUS.STATE = 2 then s.loadFail 0x0132 0xFF 0xFF
    else { s with image := { s.image with stagingLost := true } }
  else s

/-- A ring die is out of service (R47, R275): its bit of HUB_RING_OK, and the HBM stacks of a DRAM port die. Gale links of an
edge die read OFF. -/
def State.ringOut (s : State) (n : Nat) : State :=
  let s := s.put (ringOkBit (n - 169)) 0
  let i := (n - 169) % 11
  let side := (n - 169) / 11
  if ringKind i = 4 then
    let d := 4 * side + (indexOf? (fun k => k == i) [1, 4, 6, 9]).getD 0
    [2 * d, 2 * d + 1].foldl (fun s k => if s.get (hbmStateLoc k) = 4 then s else s.hbmLeave k) s
  else if ringKind i = 3 then
    let e := 6 * side + (indexOf? (fun k => k == i) [0, 2, 3, 7, 8, 10]).getD 0
    (below 4).foldl (fun s l => s.put (GAL_LSTATUS.STATE (4 * e + l)) 0) s
  else s

/-- Fence a node, with the consequences of R47 for a ring die (R284). -/
def State.fence (s : State) (n trigger : Nat) : State :=
  if s.fenced n || !validNode n || n == 84 then s
  else if n < 169 then s.fenceNode n trigger else (s.fenceNode n trigger).ringOut n

/-! ## Who may write (R167) -/

/-- The power state is DOLDRUMS. -/
def State.doldrums (s : State) : Bool := s.get RST_STATUS.PSTATE == 6

/-- The site's firmware owns its registers, and the requester is not a control core of the site at its local map: the host, a management
port, or a space-0x2 PPA (R167, R57). -/
def State.fwOwned (s : State) (who : Requester) (site : Nat) : Bool :=
  s.get (CCO_STATUS.STATE site 0) == 2 && !s.doldrums &&
    (match who with | .host => true | .mgmt _ => true | .mesh _ => true | .core x _ => x != site | .hub => false)

/-- Node and unit of a requester as R59 names them. -/
def Requester.who : Requester → Who
  | .host => ⟨0xFF, 0xFF⟩
  | .mgmt _ => ⟨0xFF, 0xFF⟩
  | .core s c => ⟨s, 0x10 + c⟩
  | .hub => ⟨84, 0xFF⟩
  | .mesh n => ⟨n, 0xFF⟩

/-! ## Repair of Gelat rows (R226 to R228) -/

/-- The site whose manifest entry a stack takes: a spare that stands in for a site takes that site's (R541). -/
def State.manifestSite (s : State) (stack : Nat) : Nat :=
  let g := sectorOf stack
  if s.flag (HUB_SUBST.VALID g) && s.get (HUB_SUBST.TO g) == stack then s.get (HUB_SUBST.FROM g) else stack

/-- The golden bytes of a weight row of a stack, where the manifest, the stack and the golden range give them clean (R228,
R234). -/
def State.goldenRow (s : State) (site row : Nat) : Option (List Nat) :=
  match s.image.manifest.find? (fun m => m.site == s.manifestSite site) with
  | none => none
  | some m =>
    let off := m.offset + row * 64
    let key := mkPpa 1 m.stack off
    if row * 64 + 64 ≤ m.length ∧ s.hbmUp m.stack ∧ s.inGolden m.stack off ∧ ¬ s.poisoned key 64 then some (s.readMem key 64).1 else none

/-- Rewrite one scheduled weight row (R226 to R228). fails is how many spare rows fail their read-back. -/
def State.repairWeight (s : State) (site row fails : Nat) : State :=
  match s.goldenRow site row with
  | none =>
    let s := s.raiseGelat 0x0307 site 0 false [row]
    let g := s.gelat site
    ((s.setGelat site { g with held := markIn g.held row }).put (GLT_STATUS.POISON_W site) 1).repairCount site
  | some data =>
    let (s, ok) := s.takeSpares site (row / 65536) (1 + fails)
    let s := if ok then s.addSat ⟨eccReg site 0, 47, 32⟩ 1
      else (s.raiseGelat 0x0306 site 4 false [row]).decideRetire ⟨site, 0x0306, false, true⟩
    (s.storeKey (mkPpa 0 site (row * 64)) data false).releaseHeld site row

/-- Map one scheduled activation row onto a spare row and write the poison pattern (R226, R227). -/
def State.repairActivation (s : State) (site row fails : Nat) : State :=
  let (s, ok) := s.takeSpares site (row / 65536) (1 + fails)
  let s := if ok then s.addSat ⟨eccReg site 1, 47, 32⟩ 1 else s.raiseGelat 0x0306 site 0 false [row]
  s.storeKey (mkPpa 0 site (row * 64)) (s.readMem (mkPpa 0 site (row * 64)) 64).1 true

/-- Every repair that a site has scheduled (R226). fails names rows whose spare rows fail their read-back, and how many. -/
def State.repairSite (s : State) (site : Nat) (fails : List (Nat × Nat)) : State :=
  let g := s.gelat site
  let s := (s.setGelat site { g with repairW := [], repairA := [] }).repairCount site
  let s := g.repairW.foldl (fun s r => s.repairWeight site r (lookD 0 fails r)) s
  let s := g.repairA.foldl (fun s r => s.repairActivation site r (lookD 0 fails r)) s
  s.put (GLT_STATUS.REPAIRING site) 0

/-- The findings of one row that the scrubber or the exit scrub reads (R215, R217, R224, R226). -/
def State.scrubRow (s : State) (site row : Nat) (e : RowErrors) : State :=
  let key := mkPpa 0 site (row * 64)
  let store := storeOf (row * 64)
  let s := e.corrected.foldl (fun s b => s.eccCorrected site row store true b) s
  let s := e.bad.foldl (fun s w => s.eccUncorrectable (key + codewordSize key * w) true) s
  if e.bad.isEmpty && decide (2 ≤ e.again) then s.scheduleRepair site row store else s

end Sys2Proof.Machine
end

