-- ==== Sys2Proof/Machine/Control0.lean ====
section
/-! DEFINITION. The control cores' interrupt registers and local memories as other units reach them (R160 to R166). -/

namespace Sys2Proof.Machine

open Sys2Proof

def controlKey (site c : Nat) : Nat := site * 2 + c
def State.control (s : State) (site c : Nat) : ControlState := lookD {} s.controls (controlKey site c)
def State.setControl (s : State) (site c : Nat) (x : ControlState) : State := { s with controls := putKey s.controls (controlKey site c) x }

/-- Set bit b of IRQ_PEND of a control core (R161). -/
def State.irq (s : State) (site c b : Nat) : State :=
  let x := s.control site c
  s.setControl site c { x with irqPend := withBit x.irqPend b true }

/-- Set a bit of IRQ_PEND of both control cores of a site. -/
def State.irqBoth (s : State) (site b : Nat) : State := (s.irq site 0 b).irq site 1 b

end Sys2Proof.Machine
end

