-- ==== Sys2Proof/Machine/Residue.lean ====
section
/-! DEFINITION. Residues modulo 2^61 − 1 (R289), exact records as bytes and values (R148), and the Mackerel digest (R309). -/

namespace Sys2Proof.Machine

open Sys2Proof

/-- The prime of the residues (R289). -/
def prime61 : Nat := 2 ^ 61 - 1

/-- An integer modulo the prime, in 0 to p − 1. -/
def modPrime (i : Int) : Nat := (i % (prime61 : Int)).toNat

/-- ρ of m × 2^e (R289). -/
def rho (m : Int) (e : Int) : Nat := modPrime (m * ((2 ^ (e % 61).toNat : Nat) : Int))

/-- ρ of an exact value. -/
def Dyadic.rho (d : Dyadic) : Nat := Sys2Proof.Machine.rho d.num d.exp

/-- ρ of a value in accumulator form under an anchor (R289). -/
def accRho (a : Int) (v : Acc) : Nat := rho v.toInt (a - 56)

def addRes (a b : Nat) : Nat := (a + b) % prime61
def mulRes (a b : Nat) : Nat := (a * b) % prime61
def subRes (a b : Nat) : Nat := (a + (prime61 - b % prime61)) % prime61

/-- The 64 values of an exact record of 1,024 bytes, value j in bytes 16j to 16j + 15 (R148). -/
def recordVals (bytes : List Nat) : List Acc :=
  (below 64).map (fun j => BitVec.ofNat 128 (ofLe ((bytes.drop (16 * j)).take 16)))

/-- The 1,024 bytes of 64 values. -/
def recordBytes (vals : List Acc) : List Nat := (below 64).flatMap (fun j => leBytes 16 (nth 0 vals j).toNat)

/-- The digest sum Σ xᵢ r^(i+1), with rp the next power of r. -/
def digestSum (r : Nat) : Nat → List Acc → Nat
  | _, [] => 0
  | rp, v :: vs => addRes (mulRes (modPrime v.toInt) rp) (digestSum r (mulRes rp r) vs)

/-- The Mackerel digest of a record (R309). -/
def digest (seed t q : Nat) (vals : List Acc) : Nat :=
  let r0 := (seed % prime61 + 2 ^ 17 * t + q) % prime61
  let r := if r0 = 0 then 1 else r0
  digestSum r r vals

end Sys2Proof.Machine
end

