-- ==== Sys2Proof/Machine/Routes.lean ====
section
/-! DEFINITION. Routes of the mesh: the route tables (R258), the choice of an output (R259), the bring-up routes (R260), the
verification of routes (R262), and failed links (R274, R275). -/

namespace Sys2Proof.Machine

open Sys2Proof

/-- The 16-bit route entry of a router for a destination (Table 7.6); the hub's table is MSH_HRTE. -/
def rteLoc (node dst : Nat) : Loc :=
  let r := if node = 84 then MSH_HRTE.REG (dst / 4) else SIT_RTE.REG node (dst / 4)
  ⟨r, 16 * (dst % 4) + 15, 16 * (dst % 4)⟩

def State.route (s : State) (node dst : Nat) : Nat := s.get (rteLoc node dst)

/-- A stack router's port is usable: its link is UP (R259). -/
def State.portUp (s : State) (site port : Nat) : Bool := decide (port < 8) && s.get (SIT_LINK.STATE site port) == 3

/-- A hub port is usable: its HUB_HPORT field names it and the facing router's link is UP. -/
def State.hubPortUp (s : State) (h : Nat) : Bool :=
  decide (h < 12) && s.get (hportField h) != 0xF &&
    (below 4).any (fun d => neighbour (hubPortSite h) d == some (84, h) && s.portUp (hubPortSite h) d)

/-- A ring port of a ring die is usable (R245). -/
def State.ringPortUp (s : State) (n k : Nat) : Bool :=
  let r := ringRouter n k
  s.portUp r.1 r.2 && s.flag (siteOkBit r.1) && !s.fenced r.1

/-- The usable ring ports of a ring die, rising. -/
def State.ringUsable (s : State) (n : Nat) : List Nat := (below (ringPortCount n)).filter (fun k => s.ringPortUp n k)

/-- The port that R259 takes at a router for a destination: PRIMARY where usable, else SKIP. -/
def State.choosePort (s : State) (node dst : Nat) : Option Nat :=
  let e := s.route node dst
  let up := fun p => if node = 84 then s.hubPortUp p else s.portUp node p
  if !bit e 15 then none else if up (bits e 7 4) then some (bits e 7 4) else if up (bits e 11 8) then some (bits e 11 8) else none

/-- A node in service for the route check: a stack that passed discovery and is not fenced, the hub, a ring die in service. -/
def State.nodeIn (s : State) (n : Nat) : Bool :=
  if n = 84 then true else if n < 169 then s.present n else ringNode n && s.flag (ringOkBit (n - 169))

def allNodes : List Nat := (below 213).filter validNode

/-- Follow the routes from a router to a destination, at most fuel hops, through no router twice (R262). -/
def State.follow (s : State) (dst : Nat) : Nat → Nat → List Nat → Bool
  | 0, _, _ => false
  | f + 1, r, seen =>
    match s.choosePort r dst with
    | none => false
    | some p =>
      match neighbour r p with
      | none => false
      | some (n, _) =>
        if n = dst then true
        else if n ≥ 169 ∨ n = 84 ∨ seen.contains n then false
        else s.follow dst f n (n :: seen)

/-- The route from a stack or ring die to a node holds. -/
def State.routeHolds (s : State) (src dst : Nat) : Bool :=
  if src = dst then true
  else if src < 169 then s.follow dst 64 src [src]
  else
    match s.ringUsable src with
    | [] => false
    | us =>
      let r := ringRouter src (nth 0 us (dst % us.length))
      if r.1 = dst then true else s.follow dst 63 r.1 [r.1]

/-- Every route from every in-service stack and ring die to every in-service node holds (R262). -/
def State.routesHold (s : State) : Bool :=
  let ns := allNodes.filter s.nodeIn
  (ns.filter (fun n => n != 84)).all (fun a => ns.all (fun b => s.routeHolds a b))

/-- The hub verifies the routes: ROUTES_OK, and 0x0516 on a failure (R262). -/
def State.verifyRoutes (s : State) : State :=
  let s := { s with verifyPending := false }
  if s.routesHold then s.put MSH_STATUS.ROUTES_OK 1 else (s.put MSH_STATUS.ROUTES_OK 0).raiseMesh 0x0516 84 0xF 0 []

/-- After a failure or a fence: verification at once where no pass runs, else at the next boundary (R262). -/
def State.verifySoon (s : State) : State := if s.betweenPasses then s.verifyRoutes else { s with verifyPending := true }

/-! ## Bring-up routes (R260) -/

/-- The stack-to-stack hops of a router that are UP: port and neighbour, by rising port. -/
def State.stackHops (s : State) (site : Nat) : List (Nat × Nat) :=
  (below 4).filterMap (fun p =>
    match neighbour site p with
    | some (n, q) => if n < 169 ∧ n ≠ 84 ∧ s.present n ∧ s.portUp site p ∧ s.portUp n q then some (p, n) else none
    | none => none)

/-- One step of a breadth-first walk: the sites of the next distance. -/
def bfsStep (hops : Nat → List (Nat × Nat)) (dist : List (Nat × Nat)) (front : List Nat) : List Nat :=
  front.foldl (fun acc n => (hops n).foldl (fun acc h =>
    if (look dist h.2).isSome || acc.contains h.2 then acc else acc ++ [h.2]) acc) []

/-- Hop distances from the front on. -/
def bfs (hops : Nat → List (Nat × Nat)) : Nat → Nat → List (Nat × Nat) → List Nat → List (Nat × Nat)
  | 0, _, dist, _ => dist
  | f + 1, d, dist, front =>
    let next := bfsStep hops dist front
    bfs hops f (d + 1) (next.foldl (fun m n => putKey m n (d + 1)) dist) next

/-- The ranks of R260: (distance, site) as one number, for the stacks that can be reached from the root. -/
def State.ranks (s : State) : List (Nat × Nat) :=
  let passed := stackSites.filter s.present
  match passed with
  | [] => []
  | root :: _ => (bfs s.stackHops 160 0 [(root, 0)] [root]).map (fun p => (p.1, p.2 * 256 + p.1))

/-- Insert by rank. -/
def rankInsert (x : Nat × Nat) : List (Nat × Nat) → List (Nat × Nat)
  | [] => [x]
  | y :: l => if x.2 ≤ y.2 then x :: y :: l else y :: rankInsert x l

/-- The stacks in rising rank. -/
def rankOrder (ranks : List (Nat × Nat)) : List Nat := (ranks.foldl (fun l x => rankInsert x l) []).map (·.1)

/-- A distance beyond every path. -/
def far : Nat := 100000

/-- Distances to a destination over down hops only, then over up hops followed by down hops (R260). -/
def State.pathDist (s : State) (ranks : List (Nat × Nat)) (order : List Nat) (dst : Nat) : List (Nat × Nat) × List (Nat × Nat) :=
  let rk := fun n => lookD far ranks n
  let down := order.reverse.foldl (fun m n =>
    if n = dst then putKey m n 0
    else putKey m n ((s.stackHops n).foldl (fun b h => if rk h.2 > rk n then Nat.min b (1 + lookD far m h.2) else b) far)) []
  let all := order.foldl (fun m n =>
    putKey m n ((s.stackHops n).foldl (fun b h => if rk h.2 < rk n then Nat.min b (1 + lookD far m h.2) else b) (lookD far down n))) []
  (down, all)

/-- The route entry of a router for a stack: the lowest port that starts a shortest path; UP where that hop is the first down
hop (R260). -/
def State.bringUpEntry (s : State) (ranks down all : List (Nat × Nat)) (site : Nat) : Nat :=
  let rk := fun n => lookD far ranks n
  let best := lookD far all site
  match (s.stackHops site).find? (fun h => (if rk h.2 < rk site then 1 + lookD far all h.2 else 1 + lookD far down h.2) == best) with
  | none => 0
  | some h => if best ≥ far then 0 else 0x8000 + (if rk h.2 < rk site then 0 else 0x4000) + 0xF00 + h.1 * 16

/-- Write a route entry. -/
def State.setRoute (s : State) (node dst e : Nat) : State := s.put (rteLoc node dst) e

/-- The stack and port at which routes to the hub or a ring die end (R260). -/
def State.exitOf (s : State) (n : Nat) : Option (Nat × Nat) :=
  if n = 84 then
    match (below 12).find? s.hubPortUp with
    | none => none
    | some h => ((below 4).find? (fun d => neighbour (hubPortSite h) d == some (84, h))).map (fun d => (hubPortSite h, d))
  else (s.ringUsable n).head?.map (fun k => ringRouter n k)

/-- The entry of the hub for a stack: the lowest usable port of a shortest way. -/
def State.hubEntry (s : State) (all : List (Nat × Nat)) : Nat :=
  let ports := (below 12).filter s.hubPortUp
  let best := ports.foldl (fun b h => Nat.min b (lookD far all (hubPortSite h))) far
  match ports.find? (fun h => lookD far all (hubPortSite h) == best) with
  | none => 0
  | some h => if best ≥ far then 0 else 0x8F00 + h * 16

/-- Bring-up routes in every table (R260); IMAGE_ROUTES reads 0 while they are in force. -/
def State.bringUpRoutes (s : State) : State :=
  let ranks := s.ranks
  let order := rankOrder ranks
  let toStack (s : State) (dst end_ : Nat) (port : Option Nat) : State :=
    let d := s.pathDist ranks order end_
    let t := order.foldl (fun t site =>
      let e := if site = end_ then (match port with | some p => 0x8F00 + p * 16 | none => 0) else s.bringUpEntry ranks d.1 d.2 site
      t.setRoute site dst e) s
    if dst = 84 then t else t.setRoute 84 dst (s.hubEntry d.2)
  let s1 := order.foldl (fun t dst => toStack t dst dst none) s
  let s2 := (84 :: (below 44).map (· + 169)).foldl (fun t n =>
    match s.exitOf n with
    | none => t
    | some (site, p) => toStack t n site (some p)) s1
  s2.put MSH_STATUS.IMAGE_ROUTES 0

/-! ## Failed links (R274, R275, R282) -/

/-- Both ends of a link take a state; a hub port that is no longer usable reads 0xF in HUB_HPORT. -/
def State.bothEnds (s : State) (site port st : Nat) : State :=
  let s := s.linkState site port st
  match neighbour site port with
  | none => s
  | some (n, q) =>
    if n = 84 then (if st = 3 then s else s.put (hportField q) 0xF)
    else if n < 169 then s.linkState n q st else s

/-- A ring die all of whose ring ports are FAILED is out of service (R275, R47). -/
def State.ringCheck (s : State) (n : Nat) : State :=
  if ringNode n && (below (ringPortCount n)).all (fun k => let r := ringRouter n k; s.get (SIT_LINK.STATE r.1 r.2) == 5)
  then s.ringOut n else s

/-- A link is FAILED until the next reset that resets the fabric: a code at the router's port, and the consequences at both
ends. -/
def State.linkFail (s : State) (site port code : Nat) : State :=
  if s.get (SIT_LINK.STATE site port) = 5 then s
  else
    let s := (s.bothEnds site port 5).addSat MSH_STATUS.FAILED_LINKS 1
    let s := s.raiseMesh code site port 0 []
    match neighbour site port with
    | some (n, _) => s.ringCheck n
    | none => s

end Sys2Proof.Machine
end

