-- ==== Sys2Proof/Machine/Mesh.lean ====
section
/-! DEFINITION. The mesh (07_mesh.md): reduction trees, packets at a router, link loss, width tokens and the table registers. The
packets that an endpoint serves have their meanings in Packets.lean. -/

namespace Sys2Proof.Machine

open Sys2Proof

/-! ## Tree entries (R276) -/

/-- The fields of a tree entry's word 0 (Table 7.8). -/
structure TreeEntry where
  en : Bool
  root : Bool
  rmode : Nat
  nchild : Nat
  parent : Nat
  window : Nat
  dhandle : Nat
  mask : Nat
  bad : Bool
  reserved : Nat
  deriving DecidableEq, Repr

def decodeTree (w : Nat) : TreeEntry :=
  ⟨bit w 63, bit w 62, bits w 61 60, bits w 59 56, bits w 55 48, bits w 47 40, bits w 39 32, bits w 31 28, bit w 27, bits w 26 0⟩

/-- The edge die whose ring node n is. -/
def isEdge (n : Nat) : Bool := ringNode n && ringKind ((n - 169) % 11) == 3

/-- An enabled entry keeps every rule of Table 7.8 but the sum of the windows. edge says that the router is an edge die's. -/
def TreeEntry.sound (e : TreeEntry) (self : Nat) (edge : Bool) : Bool :=
  decide (1 ≤ e.nchild) && decide (1 ≤ e.window) && decide (e.window ≤ 32) && e.reserved == 0 &&
  (if e.root then e.parent == 0 && e.rmode != 3 && (e.rmode != 2 || edge) && (e.rmode != 1 || decide (1 ≤ e.mask))
   else e.rmode == 0 && (stackSite e.parent || isEdge e.parent) && e.parent != self)

/-- BAD of every entry of a router, in ascending slot order with the running sum of the windows (R276). -/
def badEntries (self : Nat) (edge : Bool) : List (Nat × Nat) → Nat → List (Nat × Bool)
  | [], _ => []
  | (t, w) :: l, sum =>
    let e := decodeTree w
    if !e.en then (t, false) :: badEntries self edge l sum
    else if !(e.sound self edge) || decide (sum + e.window > 32) then (t, true) :: badEntries self edge l sum
    else (t, false) :: badEntries self edge l (sum + e.window)

/-- Recompute BAD of every tree entry of a stack router. -/
def State.treeBad (s : State) (site : Nat) : State :=
  (badEntries site false ((below 64).map (fun t => (t, (s.reg (SIT_TREE_W0.REG site t)).toNat))) 0).foldl
    (fun s p => s.put ⟨SIT_TREE_W0.REG site p.1, 27, 27⟩ (b2n p.2)) s

/-- The entry of slot t of a stack router, where it is enabled and not BAD. -/
def State.tree (s : State) (site t : Nat) : Option TreeEntry :=
  let e := decodeTree (s.reg (SIT_TREE_W0.REG site t)).toNat
  if e.en && !e.bad then some e else none

/-! ## Contributions (R278 to R281) -/

def partialKey (site t : Nat) : Nat := site * 64 + t

/-- PENDING of a slot's word 1 follows the partials held. -/
def State.setPartials (s : State) (site t : Nat) (l : List Partial) : State :=
  ({ s with partials := putKey s.partials (partialKey site t) l }).put (SIT_TREE_W1.PENDING site t) l.length

/-- Add one contribution into the partial of its SEQ: values modulo 2^128, digests modulo p, POISON ORed (R278). -/
def addPartial (e : Partial) : List Partial → List Partial
  | [] => [e]
  | p :: l =>
    if p.seq = e.seq then
      { p with vals := (below 64).map (fun j => nth 0 p.vals j + nth 0 e.vals j), digest := addRes p.digest e.digest,
               poison := p.poison || e.poison, count := p.count + e.count } :: l
    else if e.seq < p.seq then e :: p :: l
    else p :: addPartial e l

/-- Raise 0x0514 at a site (R278, R281). -/
def State.redUnexpected (s : State) (site t seq : Nat) : State :=
  (s.put (SIT_RTR_ERR.RED_UNEXPECTED site) 1).raiseMesh 0x0514 site 8 0 [t, seq]

/-- Write a root's record through its handle, or send it as a MWRITE (R279). -/
def State.rootDeliver (s : State) (site t : Nat) (e : TreeEntry) (p : Partial) : State :=
  -- the digest check of R311
  let wrong := !p.poison && digest (s.reg SDG_SEED_CUR.REG).toNat t p.seq p.vals != p.digest
  let s := if wrong then
      let s := s.record { code := 0x0408, source := 1, node := site, unit := t, action := s.discardBit,
                          details := [t * 2 ^ 58 + p.seq, p.digest, digest (s.reg SDG_SEED_CUR.REG).toNat t p.seq p.vals] }
      (((s.put SDG_STATUS.LAST_CODE 0x0408).addSat SDG_TOTALS.DIGEST_FAIL 1).discardPass 0x0408)
    else s
  let poison := p.poison || wrong
  let fail := fun (s : State) =>
    (s.record { code := 0x0204, source := 1, node := site, unit := t, action := s.abortBit, details := [t, p.seq] }).abortPass 0x0204 site
  match s.handle site e.dhandle with
  | none => fail s
  | some h =>
    if h.kind = 3 ∨ h.view ≠ 0 ∨ h.wp ∨ p.seq * 1024 + 1024 > h.size then fail s
    else
      let at_ := h.base + p.seq * 1024
      let data := recordBytes p.vals
      if e.rmode = 0 then
        if ppaSpace at_ = 0 ∧ ppaSite at_ = site then (s.writeMem ⟨site, 0xFF⟩ at_ data poison).1
        else (pieces at_ 1024).foldl (fun s q =>
          (s.issue site (.root t) (ppaNode q.1) true q.1 q.2 ((data.drop (q.1 - at_)).take q.2) poison none none).1) s
      else
        (pieces at_ 1024).foldl (fun s q =>
          let tag := s.freeTag site
          let len := (q.2 + 127) / 128
          let pk : Packet := { dst := site, src := site, type := 3, mask := e.mask, len := len, bytes := q.2, tag := tag, ppa := q.1,
                               data := (data.drop (q.1 - at_)).take q.2, poison := if poison then 2 ^ len - 1 else 0 }
          let rq : Request := { node := site, tag := tag, use := .root t, dst := site, write := true, ppa := q.1, bytes := q.2,
                                left := s.get (SIT_MCAST.NDEST site e.mask) }
          ({ s with requests := s.requests ++ [rq] }).send (.packet pk)) s

/-- Send on, or deliver at the root, the complete partials in ascending SEQ order from OUT_SEQ on (R278). -/
def State.redFlush (site t : Nat) (e : TreeEntry) : Nat → State → State
  | 0, s => s
  | f + 1, s =>
    let out := s.get (SIT_TREE_W1.OUT_SEQ site t)
    match (lookD [] s.partials (partialKey site t)).find? (fun p => p.seq == out && decide (e.nchild ≤ p.count)) with
    | none => s
    | some p =>
      let s := s.setPartials site t ((lookD [] s.partials (partialKey site t)).filter (fun x => x.seq != out))
      let s := s.put (SIT_TREE_W1.OUT_SEQ site t) (out + 1)
      let s := if e.root then s.rootDeliver site t e p
        else s.inject ({ dst := e.parent, src := site, type := 12, len := 8, bytes := 1024, tree := t, seq := p.seq, digest := p.digest,
                         data := recordBytes p.vals, poison := if p.poison then 255 else 0 } : Packet)
      State.redFlush site t e f s

/-- Take one contribution that lies in the window (R278). -/
def State.redTake (s : State) (site t : Nat) (e : TreeEntry) (c : Partial) : State :=
  State.redFlush site t e 33 (s.setPartials site t (addPartial c (lookD [] s.partials (partialKey site t))))

/-- Contributions that waited in their input buffers and now lie in the window, in the order they arrived. -/
def State.redWake (site t : Nat) (e : TreeEntry) : Nat → State → State
  | 0, s => s
  | f + 1, s =>
    let top := s.get (SIT_TREE_W1.OUT_SEQ site t) + e.window
    match indexOf? (fun (w : RedWait) => w.site == site && w.tree == t && decide (w.entry.seq < top)) s.redWait with
    | none => s
    | some i =>
      match s.redWait[i]? with
      | none => s
      | some w => State.redWake site t e f (({ s with redWait := s.redWait.eraseIdx i }).redTake site t e w.entry)

/-- A contribution at a stack router (R278, R281). -/
def State.contribute (s : State) (site t : Nat) (c : Partial) : State :=
  match s.tree site t with
  | none => s.redUnexpected site t c.seq
  | some e =>
    let out := s.get (SIT_TREE_W1.OUT_SEQ site t)
    if c.seq < out then s.redUnexpected site t c.seq
    else if c.seq ≥ out + e.window then { s with redWait := s.redWait ++ [⟨site, t, c⟩] }
    else
      let s := s.redTake site t e c
      State.redWake site t e (s.redWait.length) s

/-- A record of the local source of a slot: the next SEQ, and the digest of the bytes as sent (R277, R310). -/
def State.localRecord (s : State) (site t : Nat) (vals : List Acc) (poison : Bool) : State :=
  let q := s.get (SIT_TREE_W1.LOCAL_SEQ site t)
  let s := s.put (SIT_TREE_W1.LOCAL_SEQ site t) (q + 1)
  s.contribute site t ⟨q, vals, digest (s.reg SDG_SEED_CUR.REG).toNat t q vals, poison, 1⟩

/-- SWEEP_START's effect on the slots of a site (R280). -/
def State.redStart (s : State) (site : Nat) : State :=
  let s := (below 64).foldl (fun s t =>
    if (s.tree site t).isSome then ((s.put (SIT_TREE_W1.OUT_SEQ site t) 0).put (SIT_TREE_W1.LOCAL_SEQ site t) 0).setPartials site t [] else s) s
  { s with redWait := s.redWait.filter (fun w => w.site != site) }

/-- A slot of a site holds a partial (R280). -/
def State.redBusy (s : State) (site : Nat) : Bool :=
  (below 64).any (fun t => !(lookD [] s.partials (partialKey site t)).isEmpty) || s.redWait.any (fun w => w.site == site)

/-! ## Packets at a router (R250, R259, R266, R283) -/

/-- A packet is invalid at a router (R250). -/
def State.packetInvalid (s : State) (node : Nat) (p : Packet) : Bool :=
  let req := p.type == 1 || p.type == 2 || p.type == 3
  let known := req || p.type == 4 || p.type == 8 || p.type == 9 || p.type == 12
  let len := if p.type = 2 ∨ p.type = 3 ∨ p.type = 8 then (p.bytes + 127) / 128 else if p.type = 12 then 8 else 1
  let guest := fun (n : Nat) => ringNode n && (n - 169) % 11 == 5
  !known || p.len != len || !validNode p.dst || !validNode p.src ||
  (req && (p.bytes == 0 || decide (p.ppa % 1024 + p.bytes > 1024))) ||
  (p.type != 3 && p.mask != 0) || (p.type == 3 && (p.mask == 0 || s.get (SIT_MCAST.OUT node p.mask) == 0)) ||
  (guest p.dst && !((p.type == 1 || p.type == 2) && ppaSpace p.ppa == 3)) || (guest p.src && !(p.type == 8 || p.type == 9))

/-- A fenced destination (R283): a READ and a WRITE are answered poisoned, anything else is dropped; the router counts it. -/
def State.fenceDrop (s : State) (node : Nat) (p : Packet) : State :=
  let s := s.addSat (SIT_RTR_ERR.FENCE_DROPS node) 1
  if p.type = 1 then
    let len := (p.bytes + 127) / 128
    s.tick.send (.packet { p with dst := p.src, src := p.dst, type := 8, len := len, data := s.freeBytes p.bytes, poison := 2 ^ len - 1 })
  else if p.type = 2 then s.send (.packet { p with dst := p.src, src := p.dst, type := 9, len := 1, data := [], poison := 1 })
  else s

/-- The router's end of a link, as one of its two ends names it: hub ports and ring ports face a stack router. -/
def linkAt (node port : Nat) : Option (Nat × Nat) :=
  if node = 84 then ((below 4).find? (fun p => neighbour (hubPortSite port) p == some (84, port))).map (fun p => (hubPortSite port, p))
  else if ringNode node then some (ringRouter node port) else some (node, port)

/-- The link of a port is marked RETRAIN. -/
def State.markRetrain (s : State) (node port : Nat) : State :=
  match linkAt node port with | some (x, p) => s.put (SIT_LINK.RETRAIN x p) 1 | none => s

/-- Corrected groups of a packet at a port of a stack router (R269): counted, and above SEAM_CE_LIMIT in one pass the link is marked. -/
def State.linkCorrected (s : State) (node port ce : Nat) : State :=
  if ce = 0 ∨ node = 84 ∨ 169 ≤ node then s
  else
    let s := (s.addSat (SIT_LINK_ERR.CE node port) ce).addSat (SIT_LINK_ERR.CE_PASS node port) ce
    if s.get MSH_CFG.SEAM_CE_LIMIT < s.get (SIT_LINK_ERR.CE_PASS node port) then s.markRetrain node port else s

/-- An uncorrectable group (R269): the rest of the packet is dropped, and the link is marked. -/
def State.linkUncorrectable (s : State) (node port : Nat) : State :=
  let s := if node = 84 ∨ 169 ≤ node then s else s.addSat (SIT_LINK_ERR.UE node port) 1
  ((s.addSat MSH_RETRAINS.UE 1).markRetrain node port).raiseMesh 0x0512 node port 0 []

/-- ROUTER_HEAD_FLIT (R259, R250, R266, R269, R283): a head flit, with the rest of its packet, at a port of a router; ce is how many of its
groups were corrected, and ue says that a flit of it has an uncorrectable group. -/
def execRouterHeadFlit (node port : Nat) (p : Packet) (ce : Nat) (ue : Bool) (s : State) : Host.Outcome State Fault Refusal :=
  let s := s.linkCorrected node port ce
  if ue then .next (s.linkUncorrectable node port)
  else if node = 84 ∨ ringNode node then
    -- the hub and the ring dies forward nothing (R244); a version 3 feature at a hub port is R54's
    if node = 84 ∧ (p.type = 3 ∨ p.type = 12) then .next (s.raiseMesh 0x0510 84 port 0 [p.type])
    else if p.dst = node then .next (s.send (.deliver node p))
    else .next (s.raiseMesh 0x051B node port 0 [p.type, p.dst, p.src])
  else if s.packetInvalid node p then
    .next ((s.put (SIT_RTR_ERR.PKT_INVALID node) 1).raiseMesh 0x051B node port 0 [p.type, p.dst, p.src])
  else if p.type = 3 then
    let out := s.get (SIT_MCAST.OUT node p.mask)
    .next ((below 5).foldl (fun s b =>
      if !bit out b then s
      else if b = 4 then s.send (.deliver node p)
      else if (match neighbour node b with | some (n, _) => s.fenced n | none => true) then s.addSat (SIT_RTR_ERR.FENCE_DROPS node) 1
      else s.send (.forward node b p)) s)
  else if p.dst = node then .next (s.send (.deliver node p))
  else if s.fenced p.dst then .next (s.fenceDrop node p)
  else
    match s.choosePort node p.dst with
    | none =>
      .next (((s.put (SIT_RTR_ERR.NO_ROUTE node) 1).addSat (SIT_RTR_ERR.FENCE_DROPS node) 1).raiseMesh 0x0516 node port 0 [p.dst])
    | some o => .next (s.send (.forward node o { p with lane := if bit (s.route node p.dst) 14 then 1 else p.lane }))

/-- MSH_DEADLOCK (R264): a head flit that could not leave its input buffer for DL_LIMIT cycles. -/
def execMshDeadlock (node port channel lane : Nat) (s : State) : Host.Outcome State Fault Refusal :=
  let s := if node < 169 ∧ node ≠ 84 then s.put (SIT_RTR_ERR.DEADLOCK node) 1 else s
  .next (s.raiseMesh 0x051A node port 0 [channel, lane])

/-- MSH_RED_TIMEOUT (R280): a partial held for more than RED_LIMIT cycles. -/
def execMshRedTimeout (site t seq : Nat) (s : State) : Host.Outcome State Fault Refusal :=
  if (lookD [] s.partials (partialKey site t)).any (fun p => p.seq == seq) then
    .next ((s.put (SIT_RTR_ERR.RED_TIMEOUT site) 1).raiseMesh 0x0515 site 8 0 [t, seq])
  else .next s

/-- LINK_LOSS_DETECT (R282): a port of a stack router saw no valid flit for 64 cycles and goes DOWN; the hub asks the partner by
another path, and the link alone has failed, or the partner is fenced. Detection is suspended during an operating-point change (R453). -/
def execLinkLossDetect (site port : Nat) (answers : Bool) (s : State) : Host.Outcome State Fault Refusal :=
  if s.get (SIT_LINK.STATE site port) ≠ 3 ∨ s.clock.pause ≠ 0 then .next s
  else
    let s := s.linkState site port 4
    if answers then .next ((s.linkFail site port 0x051C).verifySoon)
    else match neighbour site port with
      | some (n, _) =>
        if n = 84 then .next ((s.linkFail site port 0x051C).verifySoon)
        else .next ((s.fence n 0x0513).verifySoon)
      | none => .next s

/-- MSH_VERIFY (R262): a write of 1 to MSH_STATUS.VERIFY verifies the routes and clears. -/
def execMshVerify (who : Requester) (value : Nat) (s : State) : Host.Outcome State Fault Refusal :=
  s.atHub who MSH_STATUS.REG <|
  if bit value 2 then .next ((s.verifyRoutes).put MSH_STATUS.VERIFY 0) else .next s

/-! ## Width tokens (R271 to R274) -/

/-- The width that n good groups allow (R272): 3 W8, 2 W4, 1 W2, 0 none. -/
def widthOf (n : Nat) : Nat := if n = 8 then 3 else if 4 ≤ n then 2 else if 2 ≤ n then 1 else 0

/-- How many groups a width uses. -/
def groupsOf (w : Nat) : Nat := if w = 0 then 0 else 2 ^ w

/-- The lowest good groups of a width, as a mask. -/
def lowGroups (good w : Nat) : Nat := maskOf ((setBits 8 good).take (groupsOf w))

/-- One step of the CRC-8 of R273 (polynomial 0x07) over n bits of v, the highest first. -/
def crc8 : Nat → Nat → Nat → Nat
  | 0, _, c => c
  | n + 1, v, c =>
    let x := (if c ≥ 128 then 1 else 0) ^^^ (b2n (v.testBit n))
    crc8 n v ((c * 2 % 256) ^^^ (if x = 1 then 7 else 0))

/-- A width token: its fields and whether its CRC checks. -/
structure Token where
  mask : Nat
  width : Nat
  round : Nat
  ok : Bool
  deriving DecidableEq, Repr

def decodeToken (w : Nat) : Token := ⟨bits w 23 16, bits w 15 14, bits w 13 8, crc8 16 (bits w 23 8) 0 == bits w 7 0⟩

def encodeToken (mask width round : Nat) : Nat :=
  let h := mask * 256 + width * 64 + round
  h * 256 + crc8 16 h 0

def linkKey (site port : Nat) : Nat := site * 8 + port

/-- One end of a link comes UP at a width (R273): what it drives is its partner's MASK; a width below W8 raises 0x051D once
for the link. -/
def State.linkUp (s : State) (site port good width mask : Nat) : State :=
  let s := if s.flag (SIT_LINK.RETRAIN site port) then s.addWrap MSH_RETRAINS.RETRAINS 1 else s
  let s := (((s.put (SIT_LINK.RX_MASK site port) (lowGroups good width)).put (SIT_LINK.TX_MASK site port) mask).put
    (SIT_LINK.WIDTH site port) width).put (SIT_LINK.RETRAIN site port) 0
  let s := { s.linkState site port 3 with links := delKey s.links (linkKey site port) }
  let other : Bool := match neighbour site port with
    | some (n, q) => if n < 169 ∧ n ≠ 84 then s.get (SIT_LINK.STATE n q) == 3 && s.get (SIT_LINK.WIDTH n q) == width else false
    | none => false
  if width = 3 ∨ other then s else (s.addSat MSH_STATUS.NARROW_LINKS 1).raiseMesh 0x051D site port 0 []

/-- WIDTH_TOKEN (R272, R273): one end of a link that trains, with the groups its receiver found good and the spares it uses,
takes its partner's token. -/
def execWidthToken (site port good spares token : Nat) (s : State) : Host.Outcome State Fault Refusal :=
  let st := s.get (SIT_LINK.STATE site port)
  let t := decodeToken token
  if (st ≠ 1 ∧ st ≠ 2) ∨ ¬ t.ok then .next s
  else
    let s := (s.put (SIT_LINK.STATE site port) 2).put (SIT_LINK.SPARES site port) spares
    let own := widthOf (popCount 8 good)
    if own = 0 then .next (s.linkFail site port 0x0519)
    else
      let tr := lookD {} s.links (linkKey site port)
      if tr.round = 1 then
        if t.width = own then .next (s.linkUp site port good own t.mask)
        else if t.width = 0 then .next (s.linkFail site port 0x0518)
        else
          let w := Nat.min own t.width
          .next (({ s with links := putKey s.links (linkKey site port) ⟨2, w⟩ }).send
            (.unit 0x1000 site [port, encodeToken (lowGroups good w) w 2]))
      else if t.round = 2 ∧ t.width = tr.width then .next (s.linkUp site port good tr.width t.mask)
      else .next (s.linkFail site port 0x0518)

/-- WIDTH_TOKEN_TIMEOUT (R273): no valid token by tick 1,000 of round 1 or tick 2,000 of round 2. -/
def execWidthTokenTimeout (site port : Nat) (s : State) : Host.Outcome State Fault Refusal :=
  let st := s.get (SIT_LINK.STATE site port)
  if st = 1 ∨ st = 2 then .next (s.linkFail site port 0x0518) else .next s

/-! ## Table registers (R263, R266, R276, R277) -/

/-- 0x0517 for a table write that is dropped. -/
def State.tableRefused (s : State) (node : Nat) : State := s.raiseMesh 0x0517 node 0xF 0 []

/-- ROUTE_TABLE_WRITE (R263): a write of a route register of a router (the hub for node 84), or of a multicast entry. -/
def execRouteTableWrite (who : Requester) (node i value : Nat) (mcast : Bool) (s : State) : Host.Outcome State Fault Refusal :=
  (if node = 84 then s.atHub who (MSH_HRTE.REG i) else s.atSite who (if mcast then SIT_MCAST.REG node i else SIT_RTE.REG node i) node) <|
  if !s.betweenPasses then .next (s.tableRefused node)
  else if mcast then
    .next (s.setReg (SIT_MCAST.REG node i) (withField (withField 0 15 8 (bits value 15 8)) 4 0 (bits value 4 0)))
  else .next (s.setReg (if node = 84 then MSH_HRTE.REG i else SIT_RTE.REG node i) (word value))

/-- TREE_ENTRY_WRITE (R263, R276): an accepted write recomputes BAD of every entry of the router. -/
def execTreeEntryWrite (who : Requester) (site t value : Nat) (s : State) : Host.Outcome State Fault Refusal :=
  s.atSite who (SIT_TREE_W0.REG site t) site <|
  if !s.betweenPasses then .next (s.tableRefused site)
  else .next ((s.setReg (SIT_TREE_W0.REG site t) (withField (word value) 27 27 0)).treeBad site)

/-- RED_DRAIN_WRITE (R263, R277, R167). -/
def execRedDrainWrite (who : Requester) (site value : Nat) (s : State) : Host.Outcome State Fault Refusal :=
  s.atSite who (SIT_RED_DRAIN.REG site) site <|
  if s.fwOwned who site then .next (s.record { code := 0x0B11, source := 1, node := site })
  else if !s.betweenPasses || (bit value 15 && bit value 7 && bits value 13 8 == bits value 5 0) then .next (s.tableRefused site)
  else .next (s.setReg (SIT_RED_DRAIN.REG site)
    (withField (withField (withField (withField 0 15 15 (bits value 15 15)) 13 8 (bits value 13 8)) 7 7 (bits value 7 7)) 5 0 (bits value 5 0)))

/-- MSH_EVENT_READ (R287). -/
def execMshEventRead (who : Requester) (bytes half : Nat) (s : State) : Host.Outcome State Fault Refusal :=
  s.readAtHub who (MSH_EVENT.REG + 4 * half) bytes <|
  let r := s.readLog MSH_EVENT.REG bytes half
  .next (r.2.send (.readData who (MSH_EVENT.REG + 4 * half) bytes r.1.toNat false))

end Sys2Proof.Machine
end

