-- ==== Sys2Proof/Machine/ArrayOps.lean ====
section
/-! DEFINITION. Operations over the matrix arrays: their rows and positions (R66, R88, R89), weight tiles (R112 to R115), the column
path (R72 to R74, R116, R119, R124), halting (R99), and the work in program order (R78, R95). -/

namespace Sys2Proof.Machine

open Sys2Proof

/-! ## Arrays of a die -/

def arrayKey (site a : Nat) : Nat := site * 18 + a
def State.array (s : State) (site a : Nat) : ArrayState := lookD {} s.arrays (arrayKey site a)
def State.setArray (s : State) (site a : Nat) (x : ArrayState) : State := { s with arrays := putKey s.arrays (arrayKey site a) x }

/-- The row of a physical array: 0 north, 1 south (R66). -/
def arrayRow (a : Nat) : Nat := a / 9

/-- SPARE and RETIRED of a row in a value of MXA_ROWMAP. -/
def mapSpare (m row : Nat) : Nat := if row = 0 then bits m 3 0 else bits m 19 16
def mapRetired (m row : Nat) : Nat := if row = 0 then bits m 12 4 else bits m 28 20

/-- Positions of a row that are neither the spare nor retired, rising (R89). -/
def inService (m row : Nat) : List Nat := (below 9).filter (fun p => p != mapSpare m row && !bit (mapRetired m row) p)

/-- The fuse value of MXA_ROWMAP where the module has no factory-failed array (R88) stands in Config like every fuse. -/
def State.rowMap (s : State) (site : Nat) : Nat := (s.reg (MXA_ROWMAP.REG site)).toNat

/-- The in-service physical arrays of a row, in logical order. -/
def State.rowArrays (s : State) (site row : Nat) : List Nat := (inService (s.rowMap site) row).map (fun p => 9 * row + p)

/-- The logical number of a physical array (R89): its rank in its row. -/
def State.logicalOf (s : State) (site a : Nat) : Nat :=
  8 * arrayRow a + (indexOf? (fun x => x == a) (s.rowArrays site (arrayRow a))).getD 0

/-- MXA_LMAP for a value of MXA_ROWMAP (R89). -/
def lmapOf (m : Nat) : Nat :=
  sumNat ((below 16).map (fun l => nth 0xF (inService m (l / 8)) (l % 8) * 16 ^ l))

/-- The domain of a row: NR for north, SR for south. -/
def State.rowOn (s : State) (site row : Nat) : Bool := s.powered site && s.domainOn site row

/-! ## Weight tiles (Table 2.4, R112 to R115) -/

/-- Data beats and scale beats of a weight format (Table 2.4). -/
def dataBeats (wfmt : Nat) : Nat :=
  match formatClass wfmt with
  | 16 => 128
  | 8 => if formatWidth wfmt = 6 then 48 else 64
  | _ => if wfmt = 9 then 30 else 64
def scaleBeats (wfmt : Nat) (mxw : Bool) : Nat := if mxw then (if formatClass wfmt = 4 then 4 else 2) else 0
def tileBeats (wfmt : Nat) (mxw : Bool) : Nat := dataBeats wfmt + scaleBeats wfmt mxw

/-- Multiply an encoding's value by a power of two; none for a non-finite value. -/
def Num.exact (n : Num) (k : Int) : Option Dyadic :=
  match n with
  | .fin _ d => some (d.scale k)
  | _ => none

/-- The weights of a tile, K rows of 64 columns, scales applied (R107, R108, R112 to R115); none for a non-finite weight. -/
def BankTile.weights (t : BankTile) : List (List (Option Dyadic)) :=
  if t.wfmt = 9 then
    (below 128).map (fun k => (below 64).map (fun j =>
      let g := 2 * j + k / 64
      let e := k % 64
      match decodeFloat fp16 (ofLe ((t.bytes.drop (1664 + 2 * g)).take 2)) with
      | .fin _ d => some (d.mul ⟨tritOf (nth 0 t.bytes (13 * g + e / 5)) (e % 5), 0⟩)
      | _ => none))
  else
    let w := formatWidth t.wfmt
    let kk := classK (formatClass t.wfmt)
    let es := groups 64 (elements t.bytes w (64 * kk))
    let sb := 64 * dataBeats t.wfmt
    (below kk).map (fun k => (below 64).map (fun j =>
      let x := decodeElement t.wfmt t.mxw (nth 0 (nth [] es k) j)
      if t.mxw then
        match decodeScale (nth 0 t.bytes (sb + 64 * (k / 32) + j)) with
        | some e => x.exact e
        | none => none
      else x.exact 0))

/-- Non-finite weight elements and scales of a tile, each counted once (R116). -/
def BankTile.nonfinite (t : BankTile) : Nat :=
  let fin := fun (n : Num) => match n with | .fin _ _ => true | _ => false
  if t.wfmt = 9 then
    ((below 128).filter (fun g => !fin (decodeFloat fp16 (ofLe ((t.bytes.drop (1664 + 2 * g)).take 2))))).length
  else
    let kk := classK (formatClass t.wfmt)
    ((elements t.bytes (formatWidth t.wfmt) (64 * kk)).filter (fun e => !fin (decodeElement t.wfmt t.mxw e))).length +
      (if t.mxw then ((below (64 * (kk / 32))).filter (fun i => (decodeScale (nth 0 t.bytes (64 * dataBeats t.wfmt + i))).isNone)).length else 0)

/-- A ternary tile holds an invalid trit byte (R109). -/
def BankTile.tritBad (t : BankTile) : Bool := t.wfmt == 9 && (t.bytes.take 1664).any (fun b => !tritByteOk b)

/-! ## Activation vectors (R111, R115, R116) -/

/-- The elements of a vector with their scales applied; none for a non-finite one. -/
def ChainVector.elems (v : ChainVector) : List (Option Dyadic) :=
  let w := formatWidth v.fmt
  let k := classK (formatClass v.fmt)
  let sb := k * w / 8
  (below k).map (fun i =>
    let x := decodeElement v.fmt v.mxa (elementAt v.bytes w i)
    if v.mxa then
      match decodeScale (nth 0 v.bytes (sb + i / 32)) with
      | some e => x.exact e
      | none => none
    else x.exact 0)

/-- Non-finite activation elements and scales of a vector, each counted once. -/
def ChainVector.nonfinite (v : ChainVector) : Nat :=
  let fin := fun (n : Num) => match n with | .fin _ _ => true | _ => false
  let w := formatWidth v.fmt
  let k := classK (formatClass v.fmt)
  ((below k).filter (fun i => !fin (decodeElement v.fmt v.mxa (elementAt v.bytes w i)))).length +
    (if v.mxa then ((below (k / 32)).filter (fun q => (decodeScale (nth 0 v.bytes (k * w / 8 + q))).isNone)).length else 0)

/-! ## The column path (R72, R116, R119, R120, R124) -/

/-- What a column sum of products has met: its exact sum, the flushes and the largest relative exponents. -/
structure ColumnSum where
  v : Int := 0
  high : Nat := 0
  low : Nat := 0
  highRel : Nat := 0x8000
  lowRel : Nat := 0x8000
  deriving DecidableEq, Repr

/-- Add one product: zero, inside the window, or flushed (R119); a non-finite factor makes it zero (R116). -/
def ColumnSum.add (anchor : Int) (c : ColumnSum) (w a : Option Dyadic) : ColumnSum :=
  match w, a with
  | some x, some y =>
    match classify anchor (x.mul y) with
    | .zero => c
    | .inside v => { c with v := c.v + v }
    | .high r => { c with high := c.high + 1, highRel := relMax c.highRel (relField r) }
    | .low r => { c with low := c.low + 1, lowRel := relMax c.lowRel (relField r) }
  | _, _ => c

/-- The column sum of column j. -/
def columnSum (anchor : Int) (ws : List (List (Option Dyadic))) (as : List (Option Dyadic)) (j : Nat) : ColumnSum :=
  (ws.zip as).foldl (fun c p => c.add anchor (nth none p.1 j) p.2) {}

/-- Σₖ ρ(aₖ) × ρ(rₖ) of an entry (R290), with rₖ the row sum of K row k. -/
def checksum (ws : List (List (Option Dyadic))) (as : List (Option Dyadic)) : Nat :=
  (ws.zip as).foldl (fun c p =>
    let r := p.1.foldl (fun r w => match w with | some d => addRes r d.rho | none => r) 0
    match p.2 with | some a => addRes c (mulRes a.rho r) | none => c) 0

/-! ## Halting, waiting and stepping a sequencer (R95, R99, R109) -/

/-- An array enters HALT (R99): its state, LAST_CODE, the error bit, the notice to the control cores, the record, and the
running pass's abort. -/
def State.haltArray (s : State) (site a code : Nat) (err : Option Loc) : State :=
  let s := (s.put (MXA_STATUS.STATE site a) 3).put (MXA_STATUS.LAST_CODE site a) code
  let s := (s.put (MXA_STATUS.WAIT site a) 0)
  let s := match err with | some l => s.put l 1 | none => s
  let s := s.irqBoth site (6 + arrayRow a)
  (s.record { code := code, source := 1, node := site, unit := a, action := s.abortBit }).abortPass code site

/-- The row is finished when every in-service array of it is IDLE or HALT: GO clears, and the control cores hear of it (R95). -/
def State.rowDone (s : State) (site row : Nat) : State :=
  let go := if row = 0 then MXA_ROWCTL.GO_N site else MXA_ROWCTL.GO_S site
  if (s.rowArrays site row).all (fun a => s.get (MXA_STATUS.STATE site a) == 0 || s.get (MXA_STATUS.STATE site a) == 3)
  then (s.put go 0).irqBoth site (6 + row) else s

/-- HALT, and the end of the row where it was the last array running. -/
def State.haltRow (s : State) (site a code : Nat) (err : Option Loc) : State := (s.haltArray site a code err).rowDone site (arrayRow a)

/-- A program runs on the array. -/
def State.arrayRunning (s : State) (site a : Nat) : Bool :=
  let st := s.get (MXA_STATUS.STATE site a)
  st == 1 || st == 2 || st == 5

/-- The word at the program counter. -/
def State.ucodeWord (s : State) (site a : Nat) : Nat := (s.reg (MXA_UCODE.REG site (s.get (MXA_STATUS.PC site a)))).toNat

/-- The next instruction may issue: a program runs, it has not passed address 511, and no STREAM waits for its first entry (R95). -/
def State.canIssue (s : State) (site a : Nat) : Bool :=
  s.arrayRunning site a && !(s.array site a).pcPast &&
    (s.array site a).work.all (fun w => match w.kind with | .stream _ => decide (0 < w.done) | _ => true)

/-- The array waits for a reason (MXA_STATUS.WAIT); a cycle waited on a load or an interlock is counted (MXA_STALLS). -/
def State.arrayWait (s : State) (site a reason : Nat) : State :=
  let s := if s.get (MXA_STATUS.STATE site a) = 1 then s.put (MXA_STATUS.STATE site a) 2 else s
  let s := s.put (MXA_STATUS.WAIT site a) reason
  if reason = 1 then s.addSat (MXA_STALLS.LOAD site a) 1
  else if reason = 2 then s.addSat (MXA_STALLS.INTERLOCK site a) 1 else s

/-- The array goes on. -/
def State.arrayGo (s : State) (site a : Nat) : State :=
  let s := if s.get (MXA_STATUS.STATE site a) = 2 then s.put (MXA_STATUS.STATE site a) 1 else s
  s.put (MXA_STATUS.WAIT site a) 0

/-- Step to the next address; beyond 511 the program has run off its end (R98). -/
def State.arrayNext (s : State) (site a : Nat) : State :=
  let pc := s.get (MXA_STATUS.PC site a)
  let s := s.arrayGo site a
  if pc = 511 then s.setArray site a { s.array site a with pcPast := true } else s.put (MXA_STATUS.PC site a) (pc + 1)

/-- Run an instruction where it is the next to issue and has the opcode; otherwise nothing happens (log entry 5). -/
def State.sequence (s : State) (site a op : Nat) (f : Nat → State → State) : State :=
  if s.canIssue site a && bits (s.ucodeWord site a) 63 60 == op then f (s.ucodeWord site a) s else s

/-- Add work in program order. -/
def State.addWork (s : State) (site a : Nat) (w : Work) : State :=
  s.setArray site a { s.array site a with work := (s.array site a).work ++ [w] }

/-- The rows that a piece of work has still to touch contain row r. -/
def Work.pending (w : Work) (r : Nat) : Bool := decide (w.base + w.done ≤ r) && decide (r < w.base + w.count)

/-- Work before index i still has to touch row r, for the kinds that a test picks. -/
def blocks (l : List Work) (i r : Nat) (p : WorkKind → Bool) : Bool := (l.take i).any (fun w => p w.kind && w.pending r)

def WorkKind.isStream : WorkKind → Bool | .stream _ => true | _ => false
def WorkKind.isDrain : WorkKind → Bool | .drain _ _ => true | _ => false
def WorkKind.isZero : WorkKind → Bool | .zero => true | _ => false

/-- One row of the work at index i is done; finished work leaves the list. -/
def stepWork (l : List Work) (i : Nat) : List Work :=
  match l[i]? with
  | none => l
  | some w => if w.done + 1 ≥ w.count then l.eraseIdx i else setNth l i { w with done := w.done + 1 }

/-- The accumulator row of an array. -/
def ArrayState.row (x : ArrayState) (r : Nat) : List Acc := lookD (List.replicate 64 0#128) x.acc r

/-- Rows r of a COUNT and ACC_BASE (R97): 0x0201 for none, 0x0421 beyond row 256. -/
def rowsError (count base : Nat) : Option Nat :=
  if count = 0 then some 0x0201 else if count > 256 ∨ base + count > 256 then some 0x0421 else none

/-- The error bit of MXA_ERR or MXA_ARITH that a code sets. -/
def arrayErrBit (site a code : Nat) : Option Loc :=
  match code with
  | 0x0201 => some (MXA_ERR.COUNT_ZERO site a)
  | 0x0204 => some (MXA_ERR.OUT_OF_BOUNDS site a)
  | 0x0420 => some (MXA_ERR.FORMAT_PAIR site a)
  | 0x0421 => some (MXA_ERR.ACC_RANGE site a)
  | 0x0422 => some (MXA_ERR.UCODE_INVALID site a)
  | 0x0423 => some (MXA_ERR.BANK_EMPTY site a)
  | 0x0430 => some (MXA_ARITH.TRIT_INVALID site a)
  | 0x0433 => some (MXA_ARITH.ANCHOR_CHANGE site a)
  | _ => none

/-- An instruction is rejected with a code (R99). -/
def State.reject (s : State) (site a code : Nat) : State := s.haltRow site a code (arrayErrBit site a code)

/-- The active bank of an array. -/
def State.activeTile (s : State) (site a : Nat) : BankTile :=
  if s.get (MXA_STATUS.ACTIVE_BANK site a) = 0 then (s.array site a).bank0 else (s.array site a).bank1

def bankValid (site a b : Nat) : Loc := if b = 0 then MXA_STATUS.BANK0_VALID site a else MXA_STATUS.BANK1_VALID site a

/-- The sweep anchor of an array, as its last SETFMT gave it. -/
def State.anchor (s : State) (site a : Nat) : Int := signed 16 (s.get (MXA_FMT.ANCHOR site a))

/-- Non-finite inputs: the count, NONFINITE_SEEN, and 0x0431 at the first of a sweep, which discards the pass (R116, R117). -/
def State.nonfinite (s : State) (site a n : Nat) : State :=
  if n = 0 then s
  else
    let s := (s.addSat (MXA_ARITH.NONFINITE site a) n).put (MXA_ARITH.NONFINITE_SEEN site a) 1
    if (s.array site a).nonfinRaised then s
    else
      let s := s.setArray site a { s.array site a with nonfinRaised := true }
      (s.record { code := 0x0431, source := 1, node := site, unit := a, action := s.discardBit }).discardPass 0x0431

/-- The beginning of a sweep in an array (R94, R124): the counters of the last sweep are kept aside and zeroed, and the program
starts at an address. -/
def State.startArray (s : State) (site a pc st : Nat) : State :=
  let s := s.setReg (MXA_FLUSH_PREV.REG site a) (s.reg (MXA_FLUSH.REG site a))
  let s := s.setReg (MXA_FLUSH_EXT_PREV.REG site a) (s.reg (MXA_FLUSH_EXT.REG site a))
  let s := (s.setReg (MXA_FLUSH.REG site a) 0).setReg (MXA_STALLS.REG site a) 0
  let s := (s.setReg (MXA_FLUSH_EXT.REG site a) (word 0x80008000)).put (MXA_ARITH.NONFINITE site a) 0
  let s := s.setReg (MXA_CHK_MARK.REG site a) 0
  let x := s.array site a
  let s := s.setArray site a { x with fmtSet := false, pcPast := false, loop := none, nonfinRaised := false }
  ((s.put (MXA_STATUS.PC site a) pc).put (MXA_STATUS.STATE site a) st).put (MXA_STATUS.WAIT site a) 0

/-- The open votes of a site, the running one first (R300). -/
def State.siteVotes (s : State) (site : Nat) : List Vote := lookD [] s.votes site
def State.setVotes (s : State) (site : Nat) (l : List Vote) : State := { s with votes := putKey s.votes site l }

/-- The row runs the deferred re-run of the site's running vote (R302): the pass drains. -/
def State.deferredRow (s : State) (site row : Nat) : Bool :=
  s.get HUB_PASS.STATE == 4 && (match s.siteVotes site with | v :: _ => v.deferred && arrayRow v.array == row | [] => false)

/-- The two replay banks of a row (R299). -/
def replayKey (site row : Nat) : Nat := site * 2 + row
def State.replay (s : State) (site row : Nat) : List ReplayBank := lookD [{}, {}] s.replays (replayKey site row)
def State.setReplay (s : State) (site row : Nat) (l : List ReplayBank) : State := { s with replays := putKey s.replays (replayKey site row) l }

/-- A dropped write of a register that firmware owns (R167). -/
def State.fwRefused (s : State) (site : Nat) : State := s.record { code := 0x0B11, source := 1, node := site }

/-- The die is at a pass boundary: no pass runs, or its site has reached the empty state (R90). -/
def State.atBoundary (s : State) (site : Nat) : Bool :=
  s.betweenPasses || (s.get HUB_PASS.STATE == 4 && s.pass.empty.contains site)

end Sys2Proof.Machine
end

