-- ==== Sys2Proof/Machine/Throttle.lean ====
section
/-! DEFINITION. The throttle demands of the Updraft scheduler (R429, Table 11.8). -/

namespace Sys2Proof.Machine

open Sys2Proof

def State.demand (s : State) (site : Nat) : Demand := lookD {} s.demands site

/-- The backstop demand: 12 while R366 forces every serving die, or R372 the dies of the segment (R366, R372). -/
def State.backstopOf (s : State) (site : Nat) : Nat := if s.power.inForced || s.power.segForced.contains (sectorOf site) then 12 else 0

/-- The largest demand of a die, 0 to 12. -/
def State.blockOf (s : State) (site : Nat) : Nat :=
  let d := s.demand site
  sat 12 (maxNat [d.thermal, d.domain, d.sector, d.debt, d.host, s.backstopOf site])

/-- BLOCK of a die is written where the largest demand differs from what it was (R429). -/
def State.block (s : State) (site was : Nat) : State :=
  if s.blockOf site = was then s else s.put (MXA_THROTTLE.BLOCK site) (s.blockOf site)

/-- The demands of a die change. -/
def State.setDemand (s : State) (site : Nat) (d : Demand) : State :=
  let was := s.blockOf site
  (({ s with demands := putKey s.demands site d }).put (THM_STK.DEMAND site) d.thermal).block site was

/-- The forced throttles change (R366, R372): every die of the list follows. -/
def State.setForced (s : State) (sites : List Nat) (inForced : Bool) (segs : List Nat) : State :=
  let was := sites.map (fun x => (x, s.blockOf x))
  let s := { s with power := { s.power with inForced := inForced, segForced := segs } }
  was.foldl (fun s p => s.block p.1 p.2) s

end Sys2Proof.Machine
end

