-- ==== Sys2Proof/Machine/Arrays.lean ====
section
/-! DEFINITION. The meanings of the matrix arrays' commands (02_arrays.md): the microcode instructions, bank loads, the rows that
drain and clear, and the writes of the MXA_ registers. Entries and the output path stand in Streams.lean. -/

namespace Sys2Proof.Machine

open Sys2Proof

/-! ## Microcode (Table 2.5) -/

/-- ARRAY_NOP (R96). -/
def execArrayNop (site a : Nat) (s : State) : Host.Outcome State Fault Refusal :=
  .next (s.sequence site a 0 (fun _ s => s.arrayNext site a))

/-- The beats of a LOADW: the first weight-store row and whether the B beats lie in the handle's buffer (R96, R97, R212). -/
def State.loadwRow (s : State) (site a w : Nat) : Nat × Bool :=
  let rep := match (s.array site a).loop with | some (_, n) => n | none => 0
  let r := bits w 31 0 + s.get (MXA_WBASE.ROW_BASE site a) + rep * s.get (MXA_WBASE.WSTRIDE site a)
  let beats := tileBeats (s.get (MXA_FMT.WFMT site a)) (s.flag (MXA_FMT.MXW site a))
  match s.handle site (bits w 59 52) with
  | none => (0, false)
  | some h =>
    (ppaOffset h.base / 64 + r,
      decide (h.kind = 1 ∧ h.view = 0 ∧ ppaSite h.base = site ∧ storeOf (ppaOffset h.base) = 0 ∧ (r + beats) * 64 ≤ h.size))

/-- LOADW (R80, R81, R97): the shadow bank begins to fill; found names the beats whose row the decoder corrects or finds
uncorrectable (R215). -/
def execLoadw (site a : Nat) (found : List (Nat × Ecc)) (s : State) : Host.Outcome State Fault Refusal :=
  .next (s.sequence site a 1 (fun w s =>
    if (s.array site a).load.isSome then s.arrayWait site a 1
    else
      let (row, ok) := s.loadwRow site a w
      if !ok then s.reject site a 0x0204
      else
        let wfmt := s.get (MXA_FMT.WFMT site a)
        let mxw := s.flag (MXA_FMT.MXW site a)
        let p := mkPpa 0 site (64 * row)
        let s := found.foldl (fun s f => if f.1 < tileBeats wfmt mxw then s.eccOn (p + 64 * f.1) f.2 else s) s
        let d := s.readMem p (64 * tileBeats wfmt mxw)
        let s := if d.2 then s.discardPass 0x0302 else s
        let x := s.array site a
        let s := s.setArray site a { x with load := some ⟨d.1, wfmt, mxw, d.2, bits w 59 52, row⟩, loadedSinceSwap := true }
        let s := s.put (bankValid site a (1 - s.get (MXA_STATUS.ACTIVE_BANK site a))) 0
        (s.put (MXA_STATUS.LOADING site a) 1).arrayNext site a))

/-- STREAM (R82, R83, R97): COUNT entries are set up; the next instruction waits for the first. -/
def execStream (site a : Nat) (s : State) : Host.Outcome State Fault Refusal :=
  .next (s.sequence site a 3 (fun w s =>
    let swap := bit w 47
    match rowsError (bits w 40 32) (bits w 23 16) with
    | some code => s.reject site a code
    | none =>
      if !(s.array site a).fmtSet then s.reject site a 0x0420
      else if swap && !(s.array site a).loadedSinceSwap then s.reject site a 0x0423
      else if !swap && !(s.flag (bankValid site a (s.get (MXA_STATUS.ACTIVE_BANK site a)))) then s.reject site a 0x0423
      else
        let x := s.array site a
        let rep := match x.loop with | some (_, n) => n | none => 0
        let s := if s.get (MXA_STATUS.STATE site a) = 5 ∨ s.deferredRow site (arrayRow a) then s
          else s.setArray site a { x with tiles := x.tiles ++ [{ pc := s.get (MXA_STATUS.PC site a), rep := rep, count := bits w 40 32 }] }
        (s.addWork site a ⟨.stream swap, bits w 23 16, bits w 40 32, 0⟩).arrayNext site a))

/-- DRAIN (R78, R97, R98, R277): the reading of COUNT rows is set up. -/
def execDrain (site a : Nat) (s : State) : Host.Outcome State Fault Refusal :=
  .next (s.sequence site a 4 (fun w s =>
    let dest := bits w 44 42
    if dest ≥ 3 then s.reject site a 0x0422
    else match rowsError (bits w 40 32) (bits w 23 16) with
      | some code => s.reject site a code
      | none =>
        if dest = 0 ∧ ¬ (s.array site a).fmtSet then s.reject site a 0x0420
        else
          let en := if arrayRow a = 0 then SIT_RED_DRAIN.EN_N site else SIT_RED_DRAIN.EN_S site
          let slot := if arrayRow a = 0 then SIT_RED_DRAIN.TREE_N site else SIT_RED_DRAIN.TREE_S site
          if dest = 2 ∧ (¬ s.flag en ∨ (s.tree site (s.get slot)).isNone) then s.reject site a 0x0203
          else (s.addWork site a ⟨.drain dest (bit w 41), bits w 23 16, bits w 40 32, 0⟩).arrayNext site a))

/-- ZERO (R78, R97): the zeroing of COUNT rows is set up. -/
def execZero (site a : Nat) (s : State) : Host.Outcome State Fault Refusal :=
  .next (s.sequence site a 5 (fun w s =>
    match rowsError (bits w 40 32) (bits w 23 16) with
    | some code => s.reject site a code
    | none => (s.addWork site a ⟨.zero, bits w 23 16, bits w 40 32, 0⟩).arrayNext site a))

/-- CLASS of MXA_FMT for a rate class. -/
def classCode (cls : Nat) : Nat := if cls = 4 then 1 else if cls = 8 then 2 else 3

/-- SETFMT (R65, R121): the formats, scale enables and sweep anchor of the entries that follow. -/
def execSetfmt (site a : Nat) (s : State) : Host.Outcome State Fault Refusal :=
  .next (s.sequence site a 6 (fun w s =>
    let wf := bits w 59 56; let af := bits w 55 52
    if !formatPairOk wf af (bit w 51) (bit w 50) then s.reject site a 0x0420
    else if (s.array site a).fmtSet && s.get (MXA_FMT.ANCHOR site a) != bits w 31 16 then s.reject site a 0x0433
    else
      let s := (((s.put (MXA_FMT.WFMT site a) wf).put (MXA_FMT.AFMT site a) af).put (MXA_FMT.MXW site a) (bits w 51 51)).put
        (MXA_FMT.MXA site a) (bits w 50 50)
      let s := (s.put (MXA_FMT.ANCHOR site a) (bits w 31 16)).put (MXA_FMT.CLASS site a) (classCode (formatClass wf))
      (s.setArray site a { s.array site a with fmtSet := true }).arrayNext site a))

/-- A LOOP keeps the rules of R98: a TARGET below its own address, no LOOP in its body, a REPEAT of at least 1. -/
def State.loopOk (s : State) (site a w : Nat) : Bool :=
  let pc := s.get (MXA_STATUS.PC site a)
  let t := bits w 40 32
  decide (t < pc) && bits w 15 0 != 0 &&
    (below (pc - t)).all (fun i => bits (s.reg (MXA_UCODE.REG site (t + i))).toNat 63 60 != 7)

/-- LOOP (R96, R98): the body from TARGET runs again, REPEAT more times. -/
def execLoop (site a : Nat) (s : State) : Host.Outcome State Fault Refusal :=
  .next (s.sequence site a 7 (fun w s =>
    if !(s.loopOk site a w) then s.reject site a 0x0422
    else
      let pc := s.get (MXA_STATUS.PC site a)
      let n := match (s.array site a).loop with | some (l, n) => if l = pc then n else 0 | none => 0
      let x := s.array site a
      if n < bits w 15 0 then ((s.setArray site a { x with loop := some (pc, n + 1) }).put (MXA_STATUS.PC site a) (bits w 40 32)).arrayGo site a
      else (s.setArray site a { x with loop := none }).arrayNext site a))

/-- ARRAY_END (R95): once every earlier commit, drain and zero is done, the array returns to IDLE (a re-run's spare to SPARE). -/
def execArrayEnd (site a : Nat) (s : State) : Host.Outcome State Fault Refusal :=
  .next (s.sequence site a 0xF (fun _ s =>
    if !(s.array site a).work.isEmpty then
      s.arrayWait site a (if (s.array site a).work.any (fun w => w.kind.isDrain) then 5 else 2)
    else if s.get (MXA_STATUS.STATE site a) = 5 then
      ((s.arrayGo site a).put (MXA_STATUS.STATE site a) 4).put (MXA_CTRL.RERUN_GO site a) 0
    else ((s.arrayGo site a).put (MXA_STATUS.STATE site a) 0).rowDone site (arrayRow a)))

/-- UCODE_INVALID_OPCODE (R98): an opcode of 0x2 or 0x8 to 0xE, or a program counter that passed 511. -/
def execUcodeInvalidOpcode (site a : Nat) (s : State) : Host.Outcome State Fault Refusal :=
  let op := bits (s.ucodeWord site a) 63 60
  if s.arrayRunning site a && ((s.array site a).pcPast || (s.canIssue site a && (op == 2 || (decide (8 ≤ op) && decide (op ≤ 14))))) then
    .next (s.reject site a 0x0422)
  else .next s

/-! ## Bank loads -/

/-- BANK_LOAD_DONE (R80, R109, R116): the shadow bank holds the tile and becomes valid; non-finite weights are counted, and an
invalid trit byte halts the array. -/
def execBankLoadDone (site a : Nat) (s : State) : Host.Outcome State Fault Refusal :=
  match (s.array site a).load with
  | none => .next s
  | some t =>
    let b := 1 - s.get (MXA_STATUS.ACTIVE_BANK site a)
    let x := s.array site a
    let s := s.setArray site a (if b = 0 then { x with load := none, bank0 := t } else { x with load := none, bank1 := t })
    let s := (s.put (MXA_STATUS.LOADING site a) 0).put (bankValid site a b) 1
    let s := s.nonfinite site a t.nonfinite
    .next (if t.tritBad then s.reject site a 0x0430 else s)

/-! ## Rows that drain and clear -/

/-- Retire an array at the next boundary by the checker's decision (R294, R304). -/
def State.retireArray (s : State) (site a : Nat) : State :=
  if s.arrayRetire.contains (site, a) then s
  else { s with arrayRetire := s.arrayRetire ++ [(site, a)] }.addSat SDG_TOTALS.RETIRED 1

/-- The drain check of R294 on a row as it is read: the row's residue against T_r. A mismatch poisons the record and discards
the pass; the second of an array retires it. -/
def State.drainCheck (s : State) (site a r : Nat) (vals : List Acc) (poison : Bool) : State × Bool :=
  let anchor := if s.get (MXA_FMT.CLASS site a) = 0 then 0 else s.anchor site a
  let v := vals.foldl (fun c x => addRes c (accRho anchor x)) 0
  let t := lookD 0 (s.array site a).rowResidue r
  if poison || !s.flag SDG_STATUS.CHECK_ACTIVE || v == t then (s, poison)
  else
    let s := s.record { code := 0x0402, source := 1, node := site, unit := a, action := s.discardBit,
                        details := [a * 2 ^ 59 + r, v, t] }
    let s := ((s.put SDG_STATUS.LAST_CODE 0x0402).addSat (SDG_SITE.DRAIN_MM site) 1).addSat (MXA_CHK.DRAIN_MM site a) 1
    let s := s.discardPass 0x0402
    (if s.get (MXA_CHK.DRAIN_MM site a) ≥ 2 then s.retireArray site a else s, true)

/-- Zero an accumulator row, its poison mark and its T_r. -/
def State.clearRow (s : State) (site a r : Nat) : State :=
  let x := s.array site a
  s.setArray site a { x with acc := delKey x.acc r, accPoison := markOut x.accPoison r, rowResidue := delKey x.rowResidue r }

/-- DRAIN_ROW_READ (R78, R594, R294): the next row of the first unfinished DRAIN, once no earlier commit or ZERO of the row is
outstanding and the output path has room. -/
def execDrainRowRead (site a : Nat) (s : State) : Host.Outcome State Fault Refusal :=
  let x := s.array site a
  match indexOf? (fun (w : Work) => w.kind.isDrain) x.work with
  | none => .next s
  | some i =>
    match x.work[i]? with
    | some ⟨.drain dest clear, base, _, done⟩ =>
      let r := base + done
      if blocks x.work i r (fun k => !k.isDrain) then .next (s.arrayWait site a 2)
      else if x.held.length ≥ 16 then .next (s.arrayWait site a 5)
      else
        let vals := x.row r
        let (s, poison) := s.drainCheck site a r vals (x.accPoison.contains r)
        let s := if clear then s.clearRow site a r else s
        let x := s.array site a
        let s := s.setArray site a { x with
          work := stepWork x.work i,
          held := if s.get (MXA_STATUS.STATE site a) = 5 then x.held else x.held ++ [⟨dest, r, vals, poison⟩] }
        .next (s.arrayGo site a)
    | _ => .next s

/-- ACC_ROW_ZERO (R78): the next row of the first unfinished ZERO, once every earlier drain has read the row and no earlier
commit of it is outstanding. -/
def execAccRowZero (site a : Nat) (s : State) : Host.Outcome State Fault Refusal :=
  let x := s.array site a
  match indexOf? (fun (w : Work) => w.kind.isZero) x.work with
  | none => .next s
  | some i =>
    match x.work[i]? with
    | some w =>
      let r := w.base + w.done
      if blocks x.work i r (fun k => !k.isZero) then .next (s.arrayWait site a 2)
      else
        let s := s.clearRow site a r
        let x := s.array site a
        .next ((s.setArray site a { x with work := stepWork x.work i }).arrayGo site a)
    | none => .next s

/-! ## Writes of the MXA_ registers -/

/-- MXA_THROTTLE_WRITE (R86, R87, R432): 13 to 15 store 12. With energy scheduling off, the value is the host demand of the die. -/
def execMxaThrottleWrite (who : Requester) (site value : Nat) (s : State) : Host.Outcome State Fault Refusal :=
  s.atSite who (MXA_THROTTLE.REG site) site <|
  let n := sat 12 (bits value 3 0)
  .next (if s.updraft.en then s.put (MXA_THROTTLE.BLOCK site) n else
    let s := s.setDemand site { s.demand site with host := n }
    s.put (MXA_THROTTLE.BLOCK site) (s.blockOf site))

/-- A value of MXA_ROWMAP keeps the rules of R90 for a row. -/
def rowMapOk (m row : Nat) : Bool :=
  let sp := mapSpare m row
  (decide (sp ≤ 8) || sp == 0xF) && !(decide (sp ≤ 8) && bit (mapRetired m row) sp) &&
    (decide ((inService m row).length = 7) || decide ((inService m row).length = 8))

/-- The states that a value of MXA_ROWMAP gives the arrays of a die: SPARE, RETIRED, or IDLE where the row's domain is on. -/
def State.mapStates (s : State) (site : Nat) : State :=
  let m := s.rowMap site
  let s := s.setReg (MXA_LMAP.REG site) (word (lmapOf m))
  (below 18).foldl (fun s a =>
    s.put (MXA_STATUS.STATE site a)
      (if bit (mapRetired m (arrayRow a)) (a % 9) then 6
       else if !(s.rowOn site (arrayRow a)) then 7
       else if mapSpare m (arrayRow a) = a % 9 then 4 else 0)) s

/-- A write of MXA_ROWMAP by someone who may write it (R90): refused with 0x0426, or taken; a row left with 7 arrays retires the stack. -/
def State.writeRowMap (s : State) (site value : Nat) : State :=
  if !(s.atBoundary site && rowMapOk value 0 && rowMapOk value 1) then
    (s.put (MXA_DIE_ERR.MAP_REJECT site) 1).record { code := 0x0426, source := 1, node := site }
  else
    let v := withField (withField (withField (withField 0 28 20 (bits value 28 20)) 19 16 (bits value 19 16)) 12 4 (bits value 12 4)) 3 0 (bits value 3 0)
    let s := (s.setReg (MXA_ROWMAP.REG site) v).mapStates site
    (below 2).foldl (fun s row =>
      if (inService value row).length = 7 then
        let s := s.put (if row = 0 then MXA_DIE_ERR.ROW_EXH_N site else MXA_DIE_ERR.ROW_EXH_S site) 1
        (s.record { code := 0x0427, source := 1, node := site, unit := row, action := 4 }).decideRetire ⟨site, 0x0427, false, false⟩
      else s) s

/-- MXA_ROWMAP_WRITE (R90, R89, R167). -/
def execMxaRowmapWrite (who : Requester) (site value : Nat) (s : State) : Host.Outcome State Fault Refusal :=
  s.atSite who (MXA_ROWMAP.REG site) site <|
  if s.fwOwned who site then .next (s.fwRefused site) else .next (s.writeRowMap site value)

/-- The site's firmware retires an array that the checker has given up (R91): its position is marked retired and SPARE is set to 0xF. -/
def State.retireMapped (s : State) (site a : Nat) : State :=
  if !s.powered site then s
  else
    let row := arrayRow a
    let m := withField (s.reg (MXA_ROWMAP.REG site)) (if row = 0 then 4 + a % 9 else 20 + a % 9) (if row = 0 then 4 + a % 9 else 20 + a % 9) 1
    s.writeRowMap site (withField m (if row = 0 then 3 else 19) (if row = 0 then 0 else 16) 0xF).toNat

/-- Every array that the checker has retired leaves at the boundary (R91). -/
def State.retireArrays (s : State) : State :=
  s.arrayRetire.foldl (fun (s : State) p => s.retireMapped p.1 p.2) { s with arrayRetire := [] }

/-- The spare that runs the re-run of the site's running vote is the one that firmware starts (R301 step 5). -/
def State.rerunBy (s : State) (site a : Nat) : State :=
  match s.siteVotes site with
  | v :: l => if !v.deferred && v.rrDone == 0 then s.setVotes site ({ v with rerun := a } :: l) else s
  | [] => s

/-- RERUN_GO (R92, R94, R167): RERUN_PC is stored; a 1 in RERUN_GO starts an idle spare there, and is refused elsewhere. -/
def execRerunGo (who : Requester) (site a value : Nat) (s : State) : Host.Outcome State Fault Refusal :=
  s.atSite who (MXA_CTRL.REG site a) site <|
  if s.fwOwned who site then .next (s.fwRefused site)
  else
    let s := s.put (MXA_CTRL.RERUN_PC site a) (bits value 8 0)
    if !bit value 16 then .next s
    else if s.get (MXA_STATUS.STATE site a) = 4 ∧ s.rowOn site (arrayRow a) then
      .next (((s.startArray site a (bits value 8 0) 5).put (MXA_CTRL.RERUN_GO site a) 1).rerunBy site a)
    else if s.get (MXA_STATUS.STATE site a) = 5 then .next s
    else .next (s.put (MXA_ERR.RERUN_REJECT site a) 1)

/-- Start one row where its GO bit is written (R93). -/
def State.goRow (s : State) (site row : Nat) : State :=
  let go := if row = 0 then MXA_ROWCTL.GO_N site else MXA_ROWCTL.GO_S site
  let pc := if row = 0 then s.get (MXA_ROWCTL.START_PC_N site) else s.get (MXA_ROWCTL.START_PC_S site)
  if !(s.rowOn site row) then (s.put (MXA_DIE_ERR.ROW_GATED site) 1).record { code := 0x0428, source := 1, node := site, unit := row }
  else if s.flag go then s
  else ((s.rowArrays site row).foldl (fun s a => s.startArray site a pc 1) s).put go 1

/-- ROW_GO (R93, R94, R167): a write of MXA_ROWCTL. -/
def execRowGo (who : Requester) (site value : Nat) (s : State) : Host.Outcome State Fault Refusal :=
  s.atSite who (MXA_ROWCTL.REG site) site <|
  if s.fwOwned who site then .next (s.fwRefused site)
  else
    let s := (s.put (MXA_ROWCTL.START_PC_N site) (bits value 8 0)).put (MXA_ROWCTL.START_PC_S site) (bits value 24 16)
    let s := if bit value 32 then s.goRow site 0 else s
    .next (if bit value 33 then s.goRow site 1 else s)

/-- UCODE_WRITE (R93, R167). -/
def execUcodeWrite (who : Requester) (site i value : Nat) (s : State) : Host.Outcome State Fault Refusal :=
  s.atSite who (MXA_UCODE.REG site i) site <|
  if s.fwOwned who site then .next (s.fwRefused site)
  else if (below 18).any (fun a => s.get (MXA_STATUS.STATE site a) == 1 || s.get (MXA_STATUS.STATE site a) == 2) then
    .next ((s.put (MXA_DIE_ERR.UCODE_BUSY site) 1).record { code := 0x0425, source := 1, node := site })
  else .next (s.setReg (MXA_UCODE.REG site i) (word value))

end Sys2Proof.Machine
end

