-- ==== Sys2Proof/Machine/GaleOps.lean ====
section
/-! DEFINITION. Gale links and conduits as shared operations (09_gale_links.md): flits with CRC, replay and credits (R323 to R326), link
states (R327 to R332), transport packets (R334), the streams of a conduit (R336), and how a conduit ends (R339). -/

namespace Sys2Proof.Machine

open Sys2Proof

/-! ## CRC-32 (R324, R520) -/

/-- Eight steps of a reflected CRC of 32 bits. -/
def crcByte (poly : Nat) : Nat → Nat → Nat
  | 0, c => c
  | n + 1, c => crcByte poly n (if c % 2 = 1 then (c / 2) ^^^ poly else c / 2)

/-- A reflected CRC-32 with initial value and final XOR 0xFFFFFFFF; poly is the reflected polynomial. -/
def crc32 (poly : Nat) (bytes : List Nat) : Nat :=
  bytes.foldl (fun c b => crcByte poly 8 (c ^^^ (b % 256))) 0xFFFFFFFF ^^^ 0xFFFFFFFF

/-- The polynomial 0x04C11DB7 of IEEE 802.3, reflected. -/
def crcEthernet : Nat := 0xEDB88320

/-- The polynomial 0x1EDC6F41 of CRC-32C, reflected. -/
def crcCastagnoli : Nat := 0x82F63B78

/-! ## State of links, conduits and slots -/

def State.link (s : State) (l : Nat) : GaleLink := lookD {} s.gale l
def State.setLink (s : State) (l : Nat) (x : GaleLink) : State := { s with gale := putKey s.gale l x }
def State.conduit (s : State) (c : Nat) : Conduit := lookD {} s.conduits c
def State.setConduit (s : State) (c : Nat) (x : Conduit) : State := { s with conduits := putKey s.conduits c x }
def Conduit.txs (x : Conduit) (st : Nat) : TxStream := nth {} x.tx st
def Conduit.setTx (x : Conduit) (st : Nat) (t : TxStream) : Conduit := { x with tx := setNth x.tx st t }
def Conduit.rxs (x : Conduit) (st : Nat) : RxStream := nth {} x.rx st
def Conduit.setRx (x : Conduit) (st : Nat) (t : RxStream) : Conduit := { x with rx := setNth x.rx st t }

/-- GAL_LSTATUS.STATE of a link (Table 9.4). -/
def State.linkSt (s : State) (l : Nat) : Nat := s.get (GAL_LSTATUS.STATE l)

/-- LINKS_UP of the link's module follows its state. -/
def State.setLinkSt (s : State) (l st : Nat) : State :=
  (s.put (GAL_LSTATUS.STATE l) st).put ⟨LEN_STATUS.REG (l / 8), l % 8, l % 8⟩ (b2n (st == 6))

/-- A class 0x06 code of a link: its record and LAST_CODE (R359). -/
def State.raiseLink (s : State) (l code : Nat) : State :=
  (s.record { code := code, source := 2, node := edgeNode (l / 4), unit := l % 4 }).put (GAL_LSTATUS.LAST_CODE l) code

def cndEdge (s : State) (c : Nat) : Nat := s.get (GAL_CND_CFG.EDGE c)

/-- A class 0x06 code of a conduit (R359): UNIT is its link. -/
def State.raiseCnd (s : State) (c code action : Nat) : State :=
  (s.record { code := code, source := 2, node := edgeNode (cndEdge s c), unit := s.get (GAL_CND_STATE.LINK c), action := action }).put
    (GAL_CND_STATE.LAST_CODE c) code

/-- The panel's own ID. -/
def State.panelId (s : State) : Nat := s.get GAL_PANEL.ID

/-- A panel ID that a conduit or a link cannot use. -/
def badPanel (p : Nat) : Bool := p == 0 || p == 0xFFFE || p == 0xFFFF

/-- The edge die is in service. -/
def State.edgeIn (s : State) (e : Nat) : Bool := decide (e < 24) && s.flag (ringOkBit (edgeNode e - 169)) && !s.fenced (edgeNode e)

/-- The configuration of a conduit lets it open (R333). -/
def State.cndUsable (s : State) (c : Nat) : Bool :=
  s.edgeIn (cndEdge s c) && s.get (GAL_CND_CFG.LINKS c) != 0 && !badPanel (s.get (GAL_CND_CFG.PEER_PANEL c))

def State.cndState (s : State) (c : Nat) : Nat := s.get (GAL_CND_STATE.STATE c)

/-- The lowest-numbered link of a conduit that is UP (R338). -/
def State.cndLink (s : State) (c : Nat) : Option Nat :=
  ((below 4).find? (fun n => bit (s.get (GAL_CND_CFG.LINKS c)) n && s.linkSt (4 * cndEdge s c + n) == 6)).map (fun n => 4 * cndEdge s c + n)

/-! ## Flits (R323 to R326) -/

/-- The link header of Table 9.3 for flits that this end sends now. ft is 0 idle, 1 data or 2 control. -/
def GaleLink.header (x : GaleLink) (ft : Nat) (f : Flit) : Nat :=
  let n := f.payload.length
  (((((((((withField 0 63 62 ft |> fun w => withField w 61 50 (if ft = 1 then f.lseq else 0)) |> fun w =>
    withField w 49 38 ((x.rxNext + 4095) % 4096)) |> fun w => withField w 37 37 (b2n x.nak)) |> fun w => withField w 36 35 (if ft = 1 then f.vc else 0)) |> fun w =>
    withField w 34 34 (b2n (ft == 1 && f.sop))) |> fun w => withField w 33 33 (b2n (ft == 1 && f.eop))) |> fun w =>
    withField w 32 25 (if ft ≠ 1 then 0 else if f.eop then n else 244)) |> fun w => withField w 24 17 (nth 0 x.freed 0 % 256)) |> fun w =>
    withField (withField w 16 9 (nth 0 x.freed 1 % 256)) 8 1 (nth 0 x.freed 2 % 256)).toNat

/-- The 256 bytes of a flit (Table 9.2). -/
def flitBytes (header : Nat) (payload : List Nat) : List Nat :=
  let b := leBytes 8 header ++ payload ++ List.replicate (244 - payload.length) 0
  b ++ leBytes 4 (crc32 crcEthernet b)

/-- Send one data flit on a link. -/
def State.sendFlit (s : State) (l : Nat) (f : Flit) : State :=
  let x := s.link l
  let s := s.send (.gale l 1 [] (flitBytes (x.header 1 f) f.payload))
  let s := s.setLink l { x with txFlits := (x.txFlits + 1) % 2 ^ 42 }
  s.put (GAL_TRAFFIC.TX l) ((x.txFlits + 1) / 1024 % 2 ^ 32)

/-- Data flits leave while fewer than 2,048 are unacknowledged and their VC has a credit (R325, R326). -/
def State.pumpLink (l : Nat) : Nat → State → State
  | 0, s => s
  | n + 1, s =>
    let x := s.link l
    match x.waiting with
    | [] => s
    | f :: rest =>
      let cr := nth 0 x.credit f.vc
      if s.linkSt l ≠ 6 ∨ x.unacked.length ≥ 2048 ∨ cr = 0 then s
      else
        let f : Flit := { f with lseq := x.txNext }
        let s := s.setLink l { x with waiting := rest, unacked := x.unacked ++ [f], txNext := (x.txNext + 1) % 4096,
                                      credit := setNth x.credit f.vc (cr - 1) }
        State.pumpLink l n (s.sendFlit l f)

def State.pump (s : State) (l : Nat) : State := State.pumpLink l (s.link l).waiting.length s

/-- Every unacknowledged flit again, in LSEQ order (R325). -/
def State.replayLink (s : State) (l : Nat) : State :=
  let x := s.link l
  let s := (s.setLink l { x with replays := x.replays + 1 }).addSat (GAL_LLERR.REPLAYS l) 1
  x.unacked.foldl (fun s f => s.sendFlit l f) s

/-! ## Transport packets (R334) -/

/-- The four header words of a transport packet (Table 9.6). -/
def packetWords (p : GalePacket) : List Nat :=
  let w0 := withField (withField (withField (withField (withField (withField 0 63 48 p.dpanel) 47 32 p.spanel) 31 23 p.dcnd) 22 19 p.type) 18 17 p.stream) 12 0 p.len
  let w1 := withField (withField (withField (withField 0 63 40 p.psn) 39 16 p.apsn) 15 8 p.status) 7 7 (b2n p.poison)
  [w0.toNat, w1.toNat, p.offset, p.ref * 2 ^ 40]

/-- A collective packet carries four digest words. -/
def isColl (type : Nat) : Bool := type == 8 || type == 9

/-- The bytes of a transport packet. -/
def packetBytes (p : GalePacket) : List Nat :=
  (packetWords p).flatMap (leBytes 8) ++ (if isColl p.type then (below 4).flatMap (fun i => leBytes 8 (nth 0 p.digests i)) else []) ++ p.data

/-- The packet that bytes spell. -/
def decodePacket (b : List Nat) : GalePacket :=
  let w (k : Nat) : Nat := ofLe ((b.drop (8 * k)).take 8)
  let type := bits (w 0) 22 19
  { dpanel := bits (w 0) 63 48, spanel := bits (w 0) 47 32, dcnd := bits (w 0) 31 23, type := type, stream := bits (w 0) 18 17, len := bits (w 0) 12 0,
    psn := bits (w 1) 63 40, apsn := bits (w 1) 39 16, status := bits (w 1) 15 8, poison := bit (w 1) 7, offset := w 2, ref := bits (w 3) 63 40,
    digests := if isColl type then (below 4).map (fun i => w (4 + i)) else [],
    data := b.drop (if isColl type then 64 else 32) }

/-- Put a packet on a link: flits of 244 bytes on the packet's VC; an acknowledgement travels on the response VC (log entry 9). -/
def State.linkPacket (s : State) (l : Nat) (p : GalePacket) : State :=
  let gs := groups 244 (packetBytes p)
  let n := gs.length
  let vc := if p.type = 3 then 1 else p.stream
  let fs := gs.zipIdx.map (fun g => ({ vc := vc, sop := g.2 == 0, eop := g.2 + 1 == n, lseq := 0, payload := g.1 } : Flit))
  let x := s.link l
  (s.setLink l { x with waiting := x.waiting ++ fs }).pump l

/-- A conduit sends a packet on the link in use; with none UP it is sent again when a link comes UP (R338). -/
def State.cndTransmit (s : State) (c : Nat) (p : GalePacket) : State :=
  match s.cndLink c with
  | none => s
  | some l => (s.put (GAL_CND_STATE.LINK c) (l % 4)).linkPacket l p

/-- A packet of a conduit to its peer, without its PSN. -/
def State.cndPacket (s : State) (c type stream : Nat) : GalePacket :=
  { dpanel := s.get (GAL_CND_CFG.PEER_PANEL c), spanel := s.panelId, dcnd := s.get (GAL_CND_CFG.PEER_CND c), type := type, stream := stream, len := 0 }

/-- Send a sequenced packet (R336): it takes the next PSN of its stream, and waits where 256 packets are unacknowledged. The
answer gives its PSN. -/
def State.cndSend (s : State) (c : Nat) (p : GalePacket) : State × Nat :=
  let x := s.conduit c
  let t := x.txs p.stream
  let p : GalePacket := { p with psn := t.next }
  let t := { t with next := (t.next + 1) % 2 ^ 24 }
  if t.unacked.length < 256 ∧ t.backlog.isEmpty then
    ((s.setConduit c (x.setTx p.stream { t with unacked := t.unacked ++ [p] })).cndTransmit c p, p.psn)
  else (s.setConduit c (x.setTx p.stream { t with backlog := t.backlog ++ [p] }), p.psn)

/-- Packets that waited leave as acknowledgements make room. -/
def State.cndAdmit (c st : Nat) : Nat → State → State
  | 0, s => s
  | n + 1, s =>
    let x := s.conduit c
    let t := x.txs st
    match t.backlog with
    | [] => s
    | p :: rest =>
      if t.unacked.length ≥ 256 then s
      else State.cndAdmit c st n ((s.setConduit c (x.setTx st { t with backlog := rest, unacked := t.unacked ++ [p] })).cndTransmit c p)

/-- Every unacknowledged packet of a stream again, counted in RETX. -/
def State.cndResend (s : State) (c st : Nat) : State :=
  let t := (s.conduit c).txs st
  t.unacked.foldl (fun s p => (s.addSat (GAL_CND_STATE.RETX c) 1).cndTransmit c p) s

/-- The last PSN that an ACK of a stream may name: of the request stream, up to the first PUT whose writes are not all acknowledged
(R342). -/
def Conduit.ackable (x : Conduit) (st : Nat) : Nat :=
  let e := (x.rxs st).expect
  let waits := if st = 0 then (x.ops.filter (fun o => o.kind == 0)).map (fun o => o.psn) else []
  let back := maxNat (waits.map (fun q => (e + 2 ^ 24 - q) % 2 ^ 24))
  (e + 2 ^ 24 - back + 2 ^ 24 - 1) % 2 ^ 24

/-- Send an ACK of a stream (R336): its STREAM names the stream that it acknowledges (log entry 9). -/
def State.cndAck (s : State) (c st status ref : Nat) : State :=
  let x := s.conduit c
  let s := s.setConduit c (x.setRx st { x.rxs st with since := 0 })
  s.cndTransmit c { s.cndPacket c 3 st with apsn := x.ackable st, status := status, ref := ref }

/-- The receiver acknowledges at least every eight accepted packets (R336). -/
def State.cndAckEvery (s : State) (c st : Nat) : State :=
  if ((s.conduit c).rxs st).since ≥ 8 then s.cndAck c st 0 0 else s

/-! ## Answers on the mesh -/

/-- Answer a mesh READ. -/
def State.answerRead (s : State) (node : Nat) (a : MeshAsk) (data : List Nat) (poison : Bool) : State :=
  let len := (a.bytes + 127) / 128
  s.inject { dst := a.src, src := node, type := 8, len := len, bytes := a.bytes, tag := a.tag, ppa := a.ppa, data := data,
             poison := if poison then 2 ^ len - 1 else 0 }

/-- Answer a mesh WRITE. -/
def State.answerWrite (s : State) (node : Nat) (a : MeshAsk) (poison : Bool) : State :=
  s.inject { dst := a.src, src := node, type := 9, len := 1, bytes := a.bytes, tag := a.tag, ppa := a.ppa, poison := b2n poison }

/-! ## Collective slots: registers -/

def collKey (e t : Nat) : Nat := e * 64 + t
def State.coll (s : State) (e t : Nat) : Coll := lookD {} s.colls (collKey e t)

/-- PENDING of a slot follows its records. -/
def State.setColl (s : State) (e t : Nat) (x : Coll) : State :=
  ({ s with colls := putKey s.colls (collKey e t) x }).put (GAL_COLL_W3.PENDING e t) (sat 32 (x.recs.length + x.early.length))

def State.collActive (s : State) (e t : Nat) : Bool := s.get (GAL_COLL_W3.STATE e t) == 1

/-- The conduits of a slot: UP and the children. -/
def State.slotPeers (s : State) (e t : Nat) : Bool × Nat × Nat × Nat × Nat :=
  let w := (s.reg (GAL_COLL_W1.REG e t)).toNat
  (bit w 63, bits w 62 59, bits w 58 50, bits w 49 41, bits w 40 24)

/-- A slot names a conduit. -/
def State.slotNames (s : State) (e t c : Nat) : Bool :=
  match s.slotPeers e t with
  | (proot, nch, cbase, up, _) => (!proot && up == c) || (decide (cbase ≤ c) && decide (c < cbase + nch))

/-- The slots that are ACTIVE, as edge die and number: among those that a write has enabled. -/
def State.activeSlots (s : State) : List (Nat × Nat) :=
  (s.colls.map (fun p => (p.1 / 64, p.1 % 64))).filter (fun p => s.collActive p.1 p.2)

/-- A slot is SUSPENDED and drops its partials (R351). -/
def State.suspendSlot (s : State) (e t : Nat) : State := (s.setColl e t {}).put (GAL_COLL_W3.STATE e t) 2

/-! ## The end of a conduit (R339, R350) -/

/-- Every mesh request that a conduit holds is answered poisoned; a pass that runs is discarded where one was (R339). -/
def State.cndRelease (s : State) (c : Nat) : State :=
  let x := s.conduit c
  let node := edgeNode (cndEdge s c)
  let writes := x.puts.flatMap (·.2) ++ (match x.merge with | some m => m.asks | none => [])
  let s := writes.foldl (fun s a => s.answerWrite node a true) s
  let s := x.gets.foldl (fun s g => s.tick.answerRead node g.2 (s.freeBytes g.2.bytes) true) s
  let s := if s.flag (GAL_CND_SCTL.BUSY c) then (s.put (GAL_CND_SCTL.BUSY c) 0).put (GAL_CND_SCTL.STATUS c) 0x20 else s
  let s := s.setConduit c { heard := x.heard }
  if writes.isEmpty && x.gets.isEmpty then s else s.discardPass 0x0610

/-- A conduit named by an ACTIVE slot that fails or closes during a pass aborts it (R350). -/
def State.cndCollective (s : State) (c : Nat) : State :=
  let e := cndEdge s c
  if s.pass.running && (below 64).any (fun t => s.collActive e t && s.slotNames e t c) then s.abortPass 0x0610 0xFF else s

/-- A conduit becomes CLOSED (0) or FAILED (4). -/
def State.cndEnd (s : State) (c st : Nat) : State :=
  let s := (s.put (GAL_CND_STATE.STATE c) st).cndRelease c
  let s := if st = 4 then s.raiseCnd c 0x0610 0 else s
  s.cndCollective c

/-- A conduit that is CLOSING sends its CLOSE once every stream is acknowledged (Table 9.9). -/
def State.cndClosing (s : State) (c : Nat) : State :=
  let x := s.conduit c
  if s.cndState c = 3 ∧ x.tx.all (fun t => t.unacked.isEmpty && t.backlog.isEmpty) then (s.cndSend c (s.cndPacket c 2 0)).1 else s

/-- OPEN requests of GAL_CND_CFG take effect (Table 9.9, R333). -/
def State.cndRequest (s : State) (c : Nat) : State :=
  let st := s.cndState c
  if s.flag (GAL_CND_CFG.OPEN c) then
    if st = 0 then
      if s.cndUsable c then (s.setConduit c { heard := s.isobar }).put (GAL_CND_STATE.STATE c) 1
      else s.put (GAL_CND_STATE.LAST_CODE c) 0x0612
    else s
  else if st = 1 ∨ st = 4 then s.put (GAL_CND_STATE.STATE c) 0
  else if st = 2 then (s.put (GAL_CND_STATE.STATE c) 3).cndClosing c
  else s

/-! ## Link states (R327 to R332) -/

/-- The conduits of an edge die. -/
def State.cndsOf (s : State) (e : Nat) : List Nat := (s.conduits.map (·.1)).filter (fun c => cndEdge s c == e && s.cndState c != 0)

/-- Conduits of the link's edge die take the lowest link that is UP, and send every unacknowledged packet again there (R338). -/
def State.cndsMove (s : State) (l : Nat) : State :=
  (s.cndsOf (l / 4)).foldl (fun s c =>
    if s.cndState c = 2 ∨ s.cndState c = 3 then (below 3).foldl (fun s st => s.cndResend c st) s else s) s

/-- A link that leaves UP (R327, R338). -/
def State.leaveUp (s : State) (l st : Nat) : State :=
  if s.linkSt l = 6 then
    let x := s.link l
    let s := (s.setLinkSt l st).setLink l { fails := x.fails, fullFails := x.fullFails, rate := x.rate, misSecond := x.misSecond }
    let s := (s.addSat (GAL_LLERR.DOWNS l) 1).raiseLink l 0x0603
    s.cndsMove l
  else s.setLinkSt l st

/-- A failed attempt or a DOWN counts against the link (R331). -/
def State.linkAgainst (s : State) (l : Nat) : State :=
  let x := s.link l
  let s := s.setLink l { x with fails := x.fails + 1, fullFails := if x.rate = 1 then x.fullFails + 1 else x.fullFails }
  s.putSat (GAL_LSTATUS.FAILS l) (x.fails + 1)

/-- The next attempt: PMA at full rate, or at the fallback rate after three failures in a row at full rate (R322, R331). -/
def State.linkPma (s : State) (l : Nat) : State :=
  let x := s.link l
  let rate := if 3 ≤ x.fullFails ∧ s.flag (GAL_LCTRL.FALLBACK_EN l) then 2 else 1
  (((s.setLink l { x with rate := rate }).setLinkSt l 2).put (GAL_LSTATUS.RATE l) rate).put (GAL_LCTRL.RETRAIN l) 0

/-- FAILED after eight in a row, else the next attempt (R331). -/
def State.linkRetry (s : State) (l : Nat) : State :=
  if (s.link l).fails ≥ 8 then ((s.setLinkSt l 8).put (GAL_LSTATUS.RATE l) 0).raiseLink l 0x0601 else s.linkPma l

/-- A failed training attempt. -/
def State.linkFailed (s : State) (l : Nat) : State := (s.linkAgainst l).linkRetry l

/-- A link goes DOWN from UP. -/
def State.linkDown (s : State) (l : Nat) : State := if s.linkSt l = 6 then (s.leaveUp l 7).linkAgainst l else s

/-- A link that reaches UP (R331): the counts clear, both directions start anew, and the conduits without a link use it. -/
def State.linkReady (s : State) (l : Nat) (f : ParamFlit) : State :=
  let x := s.link l
  let idle := (s.cndsOf (l / 4)).filter (fun c => (s.cndLink c).isNone && bit (s.get (GAL_CND_CFG.LINKS c)) (l % 4))
  let s := s.setLink l { rate := x.rate, credit := f.credits, credMax := f.credits, misSecond := x.misSecond }
  let s := (s.setLinkSt l 6).put (GAL_LSTATUS.FAILS l) 0
  let s := if x.rate = 2 then s.raiseLink l 0x0602 else s
  idle.foldl (fun s c => if s.cndState c = 2 ∨ s.cndState c = 3 then (below 3).foldl (fun s st => s.cndResend c st) s else s) s

/-- The module lets its links train (R327, R355). -/
def State.moduleLets (s : State) (k : Nat) : Bool :=
  s.get (LEN_STATE.STATE k) == 3 || (s.get (LEN_STATE.STATE k) == 4 && s.flag (LEN_CTRL.ALLOW_UNAUTH k))

/-- A link in WAIT_MODULE goes on where its module and the panel ID let it (R327, GAL_PANEL.ID). -/
def State.linkGo (s : State) (l : Nat) : State :=
  if s.linkSt l = 1 ∧ s.moduleLets (l / 8) ∧ ¬ badPanel s.panelId ∧ s.edgeIn (l / 4) then s.linkPma l else s

/-- The panel is in WARM or SERVING, where links run (R332). -/
def State.linksRun (s : State) : Bool := s.get RST_STATUS.PSTATE == 3 || s.get RST_STATUS.PSTATE == 4

/-- A link with EN = 1 starts from WAIT_MODULE, where links run. -/
def State.linkStart (s : State) (l : Nat) : State :=
  if s.linksRun then
    let x := s.link l
    ((s.setLink l { misSecond := x.misSecond }).setLinkSt l 1).linkGo l
  else s

/-- On the way to RETAINED or lower (R332): every open conduit closes, then every link is DISABLED, EN as written. -/
def State.galeStop (s : State) : State :=
  let s := (s.conduits.map (·.1)).foldl (fun s c =>
    if s.cndState c = 0 then s
    else
      let s := if s.cndState c = 2 then (s.put (GAL_CND_STATE.STATE c) 3).cndClosing c else s
      s.cndEnd c 0) s
  (s.gale.map (·.1)).foldl (fun s l =>
    if s.linkSt l = 9 ∨ s.linkSt l = 0 then s else (s.leaveUp l 0).put (GAL_LSTATUS.RATE l) 0) s

/-- On the return to WARM (R332): links with EN = 1 from WAIT_MODULE, conduits with OPEN = 1 from OPENING. -/
def State.galeStart (s : State) : State :=
  let s := (below 96).foldl (fun s l => if s.flag (GAL_LCTRL.EN l) ∧ s.linkSt l = 0 then s.linkStart l else s) s
  (s.conduits.map (·.1)).foldl (fun s c => if s.flag (GAL_CND_CFG.OPEN c) ∧ s.cndState c = 0 then s.cndRequest c else s) s

/-! ## Receiving (R335, R336) -/

/-- A dropped packet (R335): counted at the conduit or the link, and 0x0607 at most once a second a link. -/
def State.misdirected (s : State) (l dcnd : Nat) (usable : Bool) : State :=
  let s := if usable then s.addSat (GAL_CND_STATE.DROPS dcnd) 1 else s.addSat (GAL_LLERR.MISROUTED l) 1
  let x := s.link l
  if x.misSecond = some (s.isobar / second) then s
  else (s.setLink l { x with misSecond := some (s.isobar / second) }).raiseLink l 0x0607

/-- LEN keeps Table 9.7. -/
def packetLenOk (p : GalePacket) : Bool :=
  match p.type with
  | 1 | 2 | 3 | 0xA => p.len == 0
  | 4 => decide (1 ≤ p.len) && decide (p.len ≤ 4096)
  | 5 => decide (1 ≤ p.len) && decide (p.len ≤ 4096)
  | 6 => decide (p.len ≤ 4096)
  | 7 => decide (1 ≤ p.len) && decide (p.len ≤ 4080)
  | 8 | 9 => p.len == 1024 * (bits p.offset 24 23 + 1)
  | _ => false

/-- The types that carry a PSN (Table 9.7). -/
def sequencedType (t : Nat) : Bool := t == 2 || decide (4 ≤ t) && decide (t ≤ 9)

/-- A packet arrives at a link: the conduit that takes it, where R335 does not drop it. Anything received keeps the conduit alive. -/
def State.receive (s : State) (l : Nat) (p : GalePacket) : State × Option Nat :=
  let c := p.dcnd
  let usable := cndEdge s c == l / 4 && s.cndUsable c
  if s.linkSt l ≠ 6 then (s, none)
  else if p.dpanel ≠ s.panelId ∨ ¬ usable ∨ s.get (GAL_CND_CFG.PEER_PANEL c) ≠ p.spanel ∨ ¬ packetLenOk p then (s.misdirected l c usable, none)
  else
    let s := s.setConduit c { s.conduit c with heard := s.isobar }
    match s.cndState c with
    | 0 => (if sequencedType p.type then s.cndTransmit c { s.cndPacket c 3 p.stream with status := 0x20, ref := p.psn, apsn := (p.psn + 2 ^ 24 - 1) % 2 ^ 24 } else s, none)
    | 4 => (s, none)
    | _ => (s, some c)

/-- A sequenced packet is taken only as the next of its stream; a duplicate is answered with an ACK, a packet beyond it once with a NAK
(R336). -/
def State.inOrder (s : State) (c : Nat) (p : GalePacket) : State × Bool :=
  let x := s.conduit c
  let r := x.rxs p.stream
  let d := (p.psn + 2 ^ 24 - r.expect) % 2 ^ 24
  if d = 0 then (s, true)
  else if d < 2 ^ 23 then
    if r.nakked then (s, false) else ((s.setConduit c (x.setRx p.stream { r with nakked := true })).cndAck c p.stream 1 0, false)
  else (s.cndAck c p.stream 0 0, false)

/-- The packet is accepted. -/
def State.accept (s : State) (c : Nat) (p : GalePacket) : State :=
  let x := s.conduit c
  let r := x.rxs p.stream
  s.setConduit c (x.setRx p.stream { expect := (r.expect + 1) % 2 ^ 24, nakked := false, since := r.since + 1 })

/-! ## Operations of a conduit on the mesh (R341 to R344) -/

/-- Write bytes of an edge die at a PPA as mesh WRITEs of one 1 KiB block each; the answer counts them. -/
def State.edgeWrite (s : State) (e : Nat) (use : ReqUse) (p : Nat) (data : List Nat) (poison : Bool) : State × Nat :=
  let ps := pieces p data.length
  (ps.foldl (fun s q => (s.issue (edgeNode e) use (ppaNode q.1) true q.1 q.2 ((data.drop (q.1 - p)).take q.2) poison none none).1) s, ps.length)

/-- Read bytes for an edge die at a PPA as mesh READs. -/
def State.edgeRead (s : State) (e : Nat) (use : ReqUse) (p n : Nat) : State × Nat :=
  let ps := pieces p n
  (ps.foldl (fun s q => (s.issue (edgeNode e) use (ppaNode q.1) false q.1 q.2 [] false none none).1) s, ps.length)

/-- Begin an operation of a conduit. -/
def State.cndOp (s : State) (c : Nat) (o : CndOp) : State :=
  let x := s.conduit c
  s.setConduit c { x with ops := x.ops ++ [{ o with key := x.nextKey }], nextKey := x.nextKey + 1 }

/-- The bytes of parts in address order. -/
def partBytes (base len : Nat) (parts : List (Nat × List Nat)) : List Nat :=
  parts.foldl (fun acc p => acc.take (p.1 - base) ++ p.2 ++ acc.drop (p.1 - base + p.2.length)) (List.replicate len 0xFF)

/-- An operation whose answers have all arrived ends. -/
def State.cndOpEnd (s : State) (c : Nat) (o : CndOp) : State :=
  let x := s.conduit c
  let s := s.setConduit c { x with ops := x.ops.filter (fun y => y.key != o.key) }
  match o.kind with
  | 0 => if o.poison then s.cndAck c 0 0x12 o.psn else s.cndAckEvery c 0
  | 1 =>
    let st := if o.poison then 0x12 else 0
    let d := partBytes o.base o.len o.parts
    (s.cndSend c { s.cndPacket c 6 1 with len := o.len, ref := o.psn, status := st, poison := o.poison, data := d }).1
  | 2 =>
    -- the trailer follows the data (R344)
    let slot := o.base
    let w0 := o.len + s.get (GAL_CND_CFG.PEER_PANEL c) * 2 ^ 16
    let key := (s.conduit c).nextKey
    let r := s.edgeWrite (cndEdge s c) (.conduit c key) (slot + 4080) (leBytes 8 w0 ++ leBytes 8 o.psn) false
    r.1.cndOp c { key := key, kind := 3, psn := o.psn, left := r.2, base := slot, len := o.len }
  | 3 =>
    let n := 2 ^ s.get (GAL_CND_RX.LOG2 c)
    let s := s.put (GAL_CND_RX.TAIL c) ((s.get (GAL_CND_RX.TAIL c) + 1) % n)
    if s.flag (GAL_CND_RX.IRQ c) then
      let b : Loc := ⟨HUB_GRX_PEND.REG (c / 64), c % 64, c % 64⟩
      if s.flag b then s else (s.put b 1).trigger (64 + c / 4)
    else s
  | _ =>
    let r := s.cndSend c { s.cndPacket c 7 0 with len := o.len, poison := o.poison, data := partBytes o.base o.len o.parts }
    r.1.setConduit c { r.1.conduit c with sendPsn := some r.2 }

/-- One answer of a conduit's mesh request has arrived. -/
def State.cndAnswer (s : State) (c key ppa : Nat) (data : List Nat) (poison : Bool) : State :=
  let x := s.conduit c
  match x.ops.find? (fun o => o.key == key) with
  | none => s
  | some o =>
    let o : CndOp := { o with left := o.left - 1, poison := o.poison || poison, parts := (if data.isEmpty then o.parts else o.parts ++ [(ppa, data)]) }
    let s := s.setConduit c { x with ops := x.ops.map (fun y => if y.key = key then o else y) }
    if o.left = 0 then s.cndOpEnd c o else s

/-! ## Requests of this panel to a peer (R340) -/

/-- Send the PUT that a conduit has merged. -/
def State.cndFlush (s : State) (c : Nat) : State :=
  let x := s.conduit c
  match x.merge with
  | none => s
  | some m =>
    let r := (s.setConduit c { x with merge := none }).cndSend c
      { s.cndPacket c 4 0 with len := m.data.length, offset := m.offset, poison := m.poison, data := m.data }
    let y := r.1.conduit c
    r.1.setConduit c { y with puts := y.puts ++ [(r.2, m.asks)] }

/-- A mesh WRITE to a peer window: merged with the one before it, or the start of a new PUT. -/
def State.cndPut (s : State) (c offset : Nat) (a : MeshAsk) (data : List Nat) (poison : Bool) : State :=
  let fresh := fun (s : State) => s.setConduit c { s.conduit c with merge := some ⟨a.src, offset, data, poison, [a]⟩ }
  match (s.conduit c).merge with
  | none => fresh s
  | some m =>
    if m.src = a.src ∧ m.offset + m.data.length = offset ∧ m.data.length + data.length ≤ 4096 ∧ m.poison = poison ∧
        m.offset / 2 ^ 21 = (offset + data.length - 1) / 2 ^ 21 then
      s.setConduit c { s.conduit c with merge := some { m with data := m.data ++ data, asks := m.asks ++ [a] } }
    else fresh (s.cndFlush c)

/-- A mesh READ of a peer window: a GET_REQ, after the writes before it. -/
def State.cndGet (s : State) (c offset : Nat) (a : MeshAsk) : State :=
  let s := s.cndFlush c
  let r := s.cndSend c { s.cndPacket c 5 0 with len := a.bytes, offset := offset }
  let x := r.1.conduit c
  r.1.setConduit c { x with gets := x.gets ++ [(r.2, a)] }

/-- 0x0611: a peer refused a put or a get (R340); the pass is discarded. -/
def State.remoteRefused (s : State) (c : Nat) : State := (s.raiseCnd c 0x0611 s.discardBit).discardPass 0x0611

end Sys2Proof.Machine
end

