-- ==== Sys2Proof/Machine/GuestOps.lean ====
section
/-! DEFINITION. Operations over the guest sites (16_host.md R567 to R572): their state, their codes, and how a guest leaves UP. -/

namespace Sys2Proof.Machine

open Sys2Proof

def State.guest (s : State) (g : Nat) : Guest := lookD {} s.guests g
def State.setGuest (s : State) (g : Nat) (x : Guest) : State := { s with guests := putKey s.guests g x }
def State.guestSt (s : State) (g : Nat) : Nat := s.get (GST_STATUS.STATE g)

/-- The bit of a guest in HUB_RING_OK. -/
def guestOkBit (g : Nat) : Loc := ringOkBit (11 * g + 5)

/-- GST_STATUS.STATE takes a value; a change is a hub event. RATE and WIDTH are 0 unless UP, and so is the guest's bit of
HUB_RING_OK. -/
def State.guestState (s : State) (g st : Nat) : State :=
  if s.guestSt g = st then s
  else
    let s := (s.put (GST_STATUS.STATE g) st).hubEvent HUB_EVENT.GUEST
    if st = 5 then s.put (guestOkBit g) 1
    else ((s.put (GST_STATUS.RATE g) 0).put (GST_STATUS.WIDTH g) 0).put (guestOkBit g) 0

/-- Raise a code of 0x0B50 to 0x0B53 (R574). -/
def State.raiseGuest (s : State) (g code : Nat) : State :=
  (s.record { code := code, source := 4, node := guestNode g }).put (GST_STATUS.LAST_CODE g) code

/-- The mesh gets a poisoned answer to a guest request. -/
def State.guestPoison (s : State) (g : Nat) (r : GuestReq) : State :=
  if r.answered then s
  else if r.write then s.answerWrite (guestNode g) r.ask true
  else s.tick.answerRead (guestNode g) r.ask (s.freeBytes r.ask.bytes) true

/-- Every outstanding and waiting request is answered as poisoned, and every tag is free (R571, R572). -/
def State.guestFlush (s : State) (g : Nat) : State :=
  let x := s.guest g
  let s := (x.out ++ x.waiting).foldl (fun s r => s.guestPoison g r) s
  if (look s.guests g).isSome then s.setGuest g { x with out := [], waiting := [] } else s

/-- A guest leaves the state it is in for another (R572): its requests are flushed. -/
def State.guestLeave (s : State) (g st : Nat) : State := (s.guestFlush g).guestState g st

/-- The mainband or the sideband is lost while the guest is UP (R572). -/
def State.guestLoss (s : State) (g : Nat) : State :=
  let s := (s.raiseGuest g 0x0B51).guestLeave g 8
  s.setGuest g { s.guest g with retrainDue := true }

/-- The guest switches off (R572): STATE OFF and no code. -/
def State.guestOff (s : State) (g : Nat) : State :=
  let s := (s.guestLeave g 0).put (GST_STATUS.RETRAINS g) 0
  if (look s.guests g).isSome then s.setGuest g { s.guest g with retrainDue := false } else s

end Sys2Proof.Machine
end

