-- ==== Sys2Proof/Machine/CollOps.lean ====
section
/-! DEFINITION. Exact collectives as shared operations (09_gale_links.md R345 to R352): a slot's rounds, its local sum, the records of
the child panels, what is sent up and down, and delivery. -/

namespace Sys2Proof.Machine

open Sys2Proof

/-- The entry of a slot, where it is enabled and not BAD. -/
def State.collTree (s : State) (e t : Nat) : TreeEntry := decodeTree (s.reg (GAL_COLL_W0.REG e t)).toNat

/-- The digest of a record at this panel (R309). -/
def State.recDigest (s : State) (t : Nat) (p : Partial) : Nat := digest (s.reg SDG_SEED_CUR.REG).toNat t p.seq p.vals

/-- The check of R311 and R349: a record that fails raises 0x0408 and is used as poisoned. -/
def State.checkRecord (s : State) (e t : Nat) (p : Partial) : State × Partial :=
  if p.poison || s.recDigest t p == p.digest then (s, p)
  else
    let s := s.record { code := 0x0408, source := 2, node := edgeNode e, unit := t, action := s.discardBit,
                        details := [t * 2 ^ 58 + p.seq, p.digest, s.recDigest t p] }
    (((s.put SDG_STATUS.LAST_CODE 0x0408).addSat SDG_TOTALS.DIGEST_FAIL 1), { p with poison := true })

/-- Sum of two records of one SEQ (R278). -/
def addRecords (a b : Partial) : Partial :=
  { a with vals := (below 64).map (fun j => nth 0 a.vals j + nth 0 b.vals j), digest := addRes a.digest b.digest, poison := a.poison || b.poison }

/-- The record of a SEQ in a slot; a new one with nothing in it. -/
def Coll.entry (x : Coll) (q : Nat) : CollRec := (x.recs.find? (fun r => r.seq == q)).getD { seq := q }

/-- Put a record into its slot. -/
def Coll.put (x : Coll) (r : CollRec) : Coll :=
  if x.recs.any (fun y => y.seq == r.seq) then { x with recs := x.recs.map (fun y => if y.seq = r.seq then r else y) }
  else { x with recs := x.recs ++ [r] }

def State.putRec (s : State) (e t : Nat) (r : CollRec) : State := s.setColl e t ((s.coll e t).put r)

/-- The sum that a record holds, as a partial. -/
def CollRec.sum (r : CollRec) : Partial := ⟨r.seq, r.vals, r.digest, r.poison, 1⟩

/-- A record is complete, and leaves its slot, once it is delivered, acknowledged by its WACK, and every COLL packet that carried it is
acknowledged (R348). -/
def CollRec.complete (r : CollRec) : Bool := r.delivered && r.wack && r.toSend == 0 && r.acks.isEmpty

def State.collPrune (s : State) (e t : Nat) : State :=
  let x := s.coll e t
  s.setColl e t { x with recs := x.recs.filter (fun r => !r.complete) }

/-- A COLL packet of consecutive records on one conduit in one direction (R348, Table 9.6). -/
def State.collPacket (s : State) (e t : Nat) (up : Bool) (c : Nat) (l : List Partial) : State :=
  match l with
  | [] => s
  | first :: _ =>
    let n := l.length
    let pois := maskOf (l.zipIdx.filterMap (fun p => if p.1.poison then some p.2 else none))
    let off := (withField (withField (withField (withField (withField 0 63 48 (s.get (GAL_COLL_W3.ROUND e t))) 47 42 t) 41 25 first.seq) 24 23 (n - 1)) 22 19 pois).toNat
    let ds := l.map (fun p => p.digest)
    let bytes := l.flatMap (fun p => recordBytes p.vals)
    let r := s.cndSend c { s.cndPacket c (if up then 8 else 9) 2 with len := 1024 * n, offset := off, digests := ds, data := bytes }
    if up then r.1
    else l.foldl (fun s p =>
      let x := (s.coll e t).entry p.seq
      s.putRec e t { x with toSend := x.toSend - 1, acks := x.acks ++ [(c, r.2)] }) r.1

/-- The longest run, at most four, of packed records of one conduit and direction with consecutive SEQ, from the first. -/
def runOf : List CollOut → Nat → List Partial
  | [], _ => []
  | o :: l, n => match n with
    | 0 => []
    | k + 1 => o.record :: (match l with
      | o' :: _ => if o'.record.seq = o.record.seq + 1 then runOf l k else []
      | [] => [])

/-- Send what a slot has packed: everything (all), or only runs of four (R348). -/
def State.collSend (e t : Nat) (all : Bool) : Nat → State → State
  | 0, s => s
  | f + 1, s =>
    let x := s.coll e t
    let pick := x.ready.find? (fun o =>
      let l := x.ready.filter (fun y => y.conduit == o.conduit && y.up == o.up)
      all || (runOf l 4).length == 4 || decide (l.length > (runOf l 4).length))
    match pick with
    | none => s
    | some o =>
      let run := runOf (x.ready.filter (fun y => y.conduit == o.conduit && y.up == o.up)) 4
      let s := s.setColl e t { x with ready := x.ready.filter (fun y => !(y.conduit == o.conduit && y.up == o.up && run.any (fun p => p.seq == y.record.seq))) }
      State.collSend e t all f (s.collPacket e t o.up o.conduit run)

/-- A record is ready to leave on a conduit. -/
def State.collReady (s : State) (e t : Nat) (up : Bool) (c : Nat) (p : Partial) : State :=
  let x := s.coll e t
  let s := s.setColl e t { x with ready := x.ready ++ [⟨c, up, p⟩] }
  State.collSend e t false 1 s

/-- The children of a slot. -/
def State.slotChildren (s : State) (e t : Nat) : List Nat :=
  match s.slotPeers e t with
  | (_, nch, cbase, _, _) => (below nch).map (fun i => cbase + i)

/-- Step 5 of R348: deliver the final records in ascending SEQ order from OUT_SEQ on. A SEQ at or above DLIMIT is dropped with 0x0204 and
the pass aborts; a poisoned record discards the pass (R349). -/
def State.collDeliver (e t : Nat) : Nat → State → State
  | 0, s => s
  | f + 1, s =>
    let q := s.get (GAL_COLL_W3.OUT_SEQ e t)
    match (s.coll e t).recs.find? (fun r => r.seq == q && r.final.isSome && !r.delivered) with
    | none => s
    | some r =>
      match r.final with
      | none => s
      | some p =>
        let s := s.put (GAL_COLL_W3.OUT_SEQ e t) (q + 1)
        let dlimit := (s.slotPeers e t).2.2.2.2
        if q ≥ dlimit then
          let s := s.putRec e t { r with delivered := true, wack := true }
          State.collDeliver e t f ((s.record { code := 0x0204, source := 2, node := edgeNode e, unit := t, action := s.abortBit, details := [t, q] }).abortPass 0x0204 0xFF)
        else
          let s := s.putRec e t { r with delivered := true }
          let s := if p.poison then s.discardPass 0x0408 else s
          let r := s.edgeWrite e (.coll t q) (s.get (GAL_COLL_W2.DEST e t) + 1024 * q) (recordBytes p.vals) p.poison
          State.collDeliver e t f r.1

/-- Steps 4 and 5 of R348 for the final record F of a SEQ. -/
def State.collFinal (s : State) (e t : Nat) (p : Partial) : State :=
  let kids := s.slotChildren e t
  let r := (s.coll e t).entry p.seq
  let s := s.putRec e t { r with final := some p, toSend := kids.length }
  let s := kids.foldl (fun s c => s.collReady e t false c p) s
  (State.collDeliver e t 33 s).collPrune e t

/-- Steps 2 and 3 of R348: once the local sum and every child's record of a SEQ are added. -/
def State.collForm (s : State) (e t q : Nat) : State :=
  let r := (s.coll e t).entry q
  let kids := s.slotChildren e t
  if r.formed || !r.locDone || !(kids.all (fun c => r.heard.contains c)) then s
  else
    let s := s.putRec e t { r with formed := true }
    match s.slotPeers e t with
    | (true, _, _, _, _) =>
      let k := s.checkRecord e t r.sum
      k.1.collFinal e t k.2
    | (false, _, _, up, _) => s.collReady e t true up r.sum

/-- Add a record into the sum of its SEQ. -/
def CollRec.add (r : CollRec) (p : Partial) : CollRec :=
  let z := addRecords { p with vals := r.vals, digest := r.digest, poison := r.poison } p
  { r with vals := z.vals, digest := z.digest, poison := z.poison }

/-- A slot has room for the record of a SEQ (R278, R347): it lies in the window, or is in progress. -/
def State.collRoom (s : State) (e t q : Nat) : Bool :=
  let x := s.coll e t
  x.recs.any (fun r => r.seq == q) ||
    (decide (q < s.get (GAL_COLL_W3.OUT_SEQ e t) + (s.collTree e t).window) && decide (x.recs.length + x.early.length < (s.collTree e t).window))

/-- A record of a child or of UP is taken into the current round (R348, R349). -/
def State.collTake (s : State) (e t c : Nat) (up : Bool) (p : Partial) : State :=
  let k := s.checkRecord e t p
  let s := k.1
  if up then
    let r := (s.coll e t).entry p.seq
    (s.putRec e t { r.add k.2 with heard := markIn r.heard c }).collForm e t p.seq
  else s.collFinal e t k.2

/-- A contribution of this panel's mesh tree (R346): the checked local sum forms once NCHILD have arrived. -/
def State.collContrib (s : State) (e t : Nat) (p : Partial) : State :=
  if !s.collActive e t then s.raiseMesh 0x0514 (edgeNode e) 0xF s.abortBit [t, p.seq]
  else if p.seq < s.get (GAL_COLL_W3.OUT_SEQ e t) then s.raiseMesh 0x0514 (edgeNode e) 0xF s.abortBit [t, p.seq]
  else if !s.collRoom e t p.seq then { s with redWait := s.redWait ++ [⟨edgeNode e, t, p⟩] }
  else
    let r := (s.coll e t).entry p.seq
    let l : Partial := match r.loc with | none => p | some x => { addRecords x p with count := x.count + p.count }
    if l.count ≥ (s.collTree e t).nchild then
      let k := s.checkRecord e t l
      ((k.1).putRec e t { r.add k.2 with loc := some l, locDone := true }).collForm e t p.seq
    else s.putRec e t { r with loc := some l }

/-- Contributions that waited for room are taken as it comes. -/
def State.collWake (e t : Nat) : Nat → State → State
  | 0, s => s
  | f + 1, s =>
    match indexOf? (fun (w : RedWait) => w.site == edgeNode e && w.tree == t && s.collRoom e t w.entry.seq) s.redWait with
    | none => s
    | some i =>
      match s.redWait[i]? with
      | none => s
      | some w => State.collWake e t f (({ s with redWait := s.redWait.eraseIdx i }).collContrib e t w.entry)

/-- The WACK of a delivery. -/
def State.collWack (s : State) (e t q : Nat) (poison : Bool) : State :=
  let s := if poison then s.discardPass 0x0310 else s
  let x := s.coll e t
  if x.recs.any (fun r => r.seq == q) then
    State.collWake e t s.redWait.length ((s.putRec e t { x.entry q with wack := true }).collPrune e t)
  else s

/-- Transport acknowledgement of a packet of a conduit: the records it carried. -/
def State.collAcked (s : State) (c psn : Nat) : State :=
  let e := cndEdge s c
  (below 64).foldl (fun s t =>
    let x := s.coll e t
    if x.recs.any (fun r => r.acks.contains (c, psn)) then
      State.collWake e t s.redWait.length
        ((s.setColl e t { x with recs := x.recs.map (fun r => { r with acks := r.acks.filter (fun a => a != (c, psn)) }) }).collPrune e t)
    else s) s

/-- A slot is idle (R350): no partial held, no F awaited, no record incomplete. -/
def State.collIdle (s : State) (e t : Nat) : Bool := (s.coll e t).recs.isEmpty

/-- Some ACTIVE slot is not idle. -/
def State.collBusy (s : State) : Bool := s.colls.any (fun p => s.collActive (p.1 / 64) (p.1 % 64) && !s.collIdle (p.1 / 64) (p.1 % 64))

/-- SWEEP_START's effect on every ACTIVE slot (R347): the next round from SEQ 0, and the early records are taken. -/
def State.collStart (s : State) : State :=
  s.activeSlots.foldl (fun s p =>
    let e := p.1; let t := p.2
    let x := s.coll e t
    let s := (s.addWrap (GAL_COLL_W3.ROUND e t) 1).put (GAL_COLL_W3.OUT_SEQ e t) 0
    let s := s.setColl e t { x with early := [], recs := [] }
    x.early.foldl (fun s o => s.collTake e t o.conduit o.up o.record) s) s

/-- A pass that aborts suspends every ACTIVE slot (R351). -/
def State.collSuspend (s : State) : State := s.activeSlots.foldl (fun s p => s.suspendSlot p.1 p.2) s

end Sys2Proof.Machine
end

