-- ==== Sys2Proof/Machine/Crypto.lean ====
section
/-! DEFINITION. The published functions that chapters 9, 13 and 14 name: SHA-256 and SHA-384 (FIPS 180-4), CRC-32C, ECDSA over P-256 and
P-384 (FIPS 186-4), and the parts of an X.509 certificate that R476 looks at (RFC 5280, DER). -/

namespace Sys2Proof.Machine

open Sys2Proof

/-! ## SHA-2 -/

/-- The initial hash value of SHA-384: the fractional parts of the square roots of the ninth to sixteenth primes. -/
def sha384Init : List Nat :=
  [0xCBBB9D5DC1059ED8, 0x629A292A367CD507, 0x9159015A3070DD17, 0x152FECD8F70E5939,
   0x67332667FFC00B31, 0x8EB44A8768581511, 0xDB0C2E0D64F98FA7, 0x47B5481DBEFA4FA4]

/-- The initial hash value of SHA-256. -/
def sha256Init : List Nat :=
  [0x6A09E667, 0xBB67AE85, 0x3C6EF372, 0xA54FF53A,
   0x510E527F, 0x9B05688C, 0x1F83D9AB, 0x5BE0CD19]

/-- The round constants of SHA-512 and SHA-384: the fractional parts of the cube roots of the first 80 primes. -/
def sha512K : List Nat :=
  [0x428A2F98D728AE22, 0x7137449123EF65CD, 0xB5C0FBCFEC4D3B2F, 0xE9B5DBA58189DBBC,
   0x3956C25BF348B538, 0x59F111F1B605D019, 0x923F82A4AF194F9B, 0xAB1C5ED5DA6D8118,
   0xD807AA98A3030242, 0x12835B0145706FBE, 0x243185BE4EE4B28C, 0x550C7DC3D5FFB4E2,
   0x72BE5D74F27B896F, 0x80DEB1FE3B1696B1, 0x9BDC06A725C71235, 0xC19BF174CF692694] ++
  [0xE49B69C19EF14AD2, 0xEFBE4786384F25E3, 0x0FC19DC68B8CD5B5, 0x240CA1CC77AC9C65,
   0x2DE92C6F592B0275, 0x4A7484AA6EA6E483, 0x5CB0A9DCBD41FBD4, 0x76F988DA831153B5,
   0x983E5152EE66DFAB, 0xA831C66D2DB43210, 0xB00327C898FB213F, 0xBF597FC7BEEF0EE4,
   0xC6E00BF33DA88FC2, 0xD5A79147930AA725, 0x06CA6351E003826F, 0x142929670A0E6E70] ++
  [0x27B70A8546D22FFC, 0x2E1B21385C26C926, 0x4D2C6DFC5AC42AED, 0x53380D139D95B3DF,
   0x650A73548BAF63DE, 0x766A0ABB3C77B2A8, 0x81C2C92E47EDAEE6, 0x92722C851482353B,
   0xA2BFE8A14CF10364, 0xA81A664BBC423001, 0xC24B8B70D0F89791, 0xC76C51A30654BE30,
   0xD192E819D6EF5218, 0xD69906245565A910, 0xF40E35855771202A, 0x106AA07032BBD1B8] ++
  [0x19A4C116B8D2D0C8, 0x1E376C085141AB53, 0x2748774CDF8EEB99, 0x34B0BCB5E19B48A8,
   0x391C0CB3C5C95A63, 0x4ED8AA4AE3418ACB, 0x5B9CCA4F7763E373, 0x682E6FF3D6B2B8A3,
   0x748F82EE5DEFB2FC, 0x78A5636F43172F60, 0x84C87814A1F0AB72, 0x8CC702081A6439EC,
   0x90BEFFFA23631E28, 0xA4506CEBDE82BDE9, 0xBEF9A3F7B2C67915, 0xC67178F2E372532B] ++
  [0xCA273ECEEA26619C, 0xD186B8C721C0C207, 0xEADA7DD6CDE0EB1E, 0xF57D4F7FEE6ED178,
   0x06F067AA72176FBA, 0x0A637DC5A2C898A6, 0x113F9804BEF90DAE, 0x1B710B35131C471B,
   0x28DB77F523047D84, 0x32CAAB7B40C72493, 0x3C9EBE0A15C9BEBC, 0x431D67C49C100D4C,
   0x4CC5D4BECB3E42B6, 0x597F299CFC657E2A, 0x5FCB6FAB3AD6FAEC, 0x6C44198C4A475817]

/-- The round constants of SHA-256: the upper halves of the first 64. -/
def sha256K : List Nat := (sha512K.take 64).map (fun k => k / 2 ^ 32)

/-- The word size and the rotations of a SHA-2 function: of the two sums and the two schedule functions (the last amount of the latter
is a shift). -/
structure Sha where
  w : Nat
  k : List Nat
  sum0 : Nat × Nat × Nat
  sum1 : Nat × Nat × Nat
  sig0 : Nat × Nat × Nat
  sig1 : Nat × Nat × Nat
  deriving DecidableEq, Repr

def sha384Of : Sha := ⟨64, sha512K, (28, 34, 39), (14, 18, 41), (1, 8, 7), (19, 61, 6)⟩
def sha256Of : Sha := ⟨32, sha256K, (2, 13, 22), (6, 11, 25), (7, 18, 3), (17, 19, 10)⟩

/-- Rotate a word of w bits right. -/
def rotr (w x n : Nat) : Nat := (x >>> n) ||| ((x <<< (w - n)) % 2 ^ w)

def Sha.big (h : Sha) (r : Nat × Nat × Nat) (x : Nat) : Nat := rotr h.w x r.1 ^^^ rotr h.w x r.2.1 ^^^ rotr h.w x r.2.2
def Sha.small (h : Sha) (r : Nat × Nat × Nat) (x : Nat) : Nat := rotr h.w x r.1 ^^^ rotr h.w x r.2.1 ^^^ (x >>> r.2.2)

/-- The rounds of one block: the window of 16 schedule words, the constants left, and the eight working words. -/
def Sha.rounds (h : Sha) : List Nat → List Nat → List Nat → List Nat
  | _, [], v => v
  | win, k :: ks, v =>
    let g := fun (l : List Nat) (i : Nat) => nth 0 l i
    let m := 2 ^ h.w
    let w := g win 0
    let e := g v 4
    let a := g v 0
    let ch := (e &&& g v 5) ^^^ ((m - 1 - e) &&& g v 6)
    let maj := (a &&& g v 1) ^^^ (a &&& g v 2) ^^^ (g v 1 &&& g v 2)
    let t1 := (g v 7 + h.big h.sum1 e + ch + k + w) % m
    let t2 := (h.big h.sum0 a + maj) % m
    let next := (h.small h.sig1 (g win 14) + g win 9 + h.small h.sig0 (g win 1) + w) % m
    h.rounds (win.drop 1 ++ [next]) ks [(t1 + t2) % m, a, g v 1, g v 2, (g v 3 + t1) % m, e, g v 5, g v 6]

/-- A big-endian number. -/
def ofBe (l : List Nat) : Nat := l.foldl (fun n b => n * 256 + b) 0

/-- n bytes of a number, big-endian. -/
def beBytes (n v : Nat) : List Nat := (leBytes n v).reverse

/-- One block into the hash value. -/
def Sha.block (h : Sha) (v : List Nat) (b : List Nat) : List Nat :=
  let r := h.rounds ((groups (h.w / 8) b).map ofBe) h.k v
  (v.zip r).map (fun p => (p.1 + p.2) % 2 ^ h.w)

/-- The padded message: a 1 bit, zeros, and the length in bits in two words. -/
def Sha.pad (h : Sha) (msg : List Nat) : List Nat :=
  let size := 2 * h.w
  let field := h.w / 4
  let zeros := (size - (msg.length + 1 + field) % size) % size
  msg ++ [0x80] ++ List.replicate zeros 0 ++ beBytes field (8 * msg.length)

/-- The hash value of a message as bytes. -/
def Sha.hash (h : Sha) (init : List Nat) (out : Nat) (msg : List Nat) : List Nat :=
  (((groups (2 * h.w) (h.pad msg)).foldl h.block init).flatMap (beBytes (h.w / 8))).take out

/-- SHA-384 of a byte string. -/
def sha384 (msg : List Nat) : List Nat := sha384Of.hash sha384Init 48 msg

/-- SHA-256 of a byte string. -/
def sha256 (msg : List Nat) : List Nat := sha256Of.hash sha256Init 32 msg

/-! ## CRC-32C (R520) -/

/-- One byte into a reflected CRC-32C (polynomial 0x1EDC_6F41, reflected 0x82F6_3B78). -/
def crc32cByte (c b : Nat) : Nat :=
  (below 8).foldl (fun c _ => if c % 2 = 1 then (c / 2) ^^^ 0x82F63B78 else c / 2) (c ^^^ b)

/-- CRC-32C with initial value and final XOR 0xFFFF_FFFF. -/
def crc32c (l : List Nat) : Nat := (l.foldl crc32cByte 0xFFFFFFFF) ^^^ 0xFFFFFFFF

/-! ## ECDSA -/

/-- A curve y² = x³ − 3x + b over the prime field of p, with a base point of order n. -/
structure Curve where
  bytes : Nat
  p : Nat
  n : Nat
  b : Nat
  gx : Nat
  gy : Nat
  deriving DecidableEq, Repr

def p384 : Curve :=
  { bytes := 48
    p := 2 ^ 384 - 2 ^ 128 - 2 ^ 96 + 2 ^ 32 - 1
    n := 0xFFFFFFFFFFFFFFFFFFFFFFFFFFFFFFFFFFFFFFFFFFFFFFFFC7634D81F4372DDF581A0DB248B0A77AECEC196ACCC52973
    b := 0xB3312FA7E23EE7E4988E056BE3F82D19181D9C6EFE8141120314088F5013875AC656398D8A2ED19D2A85C8EDD3EC2AEF
    gx := 0xAA87CA22BE8B05378EB1C71EF320AD746E1D3B628BA79B9859F741E082542A385502F25DBF55296C3A545E3872760AB7
    gy := 0x3617DE4A96262C6F5D9E98BF9292DC29F8F41DBD289A147CE9DA3113B5F0B8C00A60B1CE1D7E819D7A431D7C90EA0E5F }

def p256 : Curve :=
  { bytes := 32
    p := 2 ^ 256 - 2 ^ 224 + 2 ^ 192 + 2 ^ 96 - 1
    n := 0xFFFFFFFF00000000FFFFFFFFFFFFFFFFBCE6FAADA7179E84F3B9CAC2FC632551
    b := 0x5AC635D8AA3A93E7B3EBBD55769886BC651D06B0CC53B0F63BCE3C3E27D2604B
    gx := 0x6B17D1F2E12C4247F8BCE6E563A440F277037D812DEB33A0F4A13945D898C296
    gy := 0x4FE342E2FE1A7F9B8EE7EB4A7C0F9E162BCE33576B315ECECBB6406837BF51F5 }

/-- A power modulo m, by squaring: fuel bounds the bits of the exponent. -/
def powMod : Nat → Nat → Nat → Nat → Nat
  | 0, _, _, _ => 1
  | f + 1, m, b, e =>
    if e = 0 then 1 % m
    else
      let r := powMod f m (b * b % m) (e / 2)
      if e % 2 = 1 then r * b % m else r

/-- The inverse modulo a prime. -/
def invMod (m a : Nat) : Nat := powMod 600 m (a % m) (m - 2)

/-- The sum of two points; none is the point at infinity. -/
def Curve.add (c : Curve) : Option (Nat × Nat) → Option (Nat × Nat) → Option (Nat × Nat)
  | none, q => q
  | q, none => q
  | some (x1, y1), some (x2, y2) =>
    if x1 = x2 ∧ (y1 + y2) % c.p = 0 then none
    else
      let l := if x1 = x2 then (3 * x1 * x1 + (c.p - 3)) * invMod c.p (2 * y1) % c.p
        else (y2 + (c.p - y1)) * invMod c.p (x2 + (c.p - x1)) % c.p
      let x := (l * l + (c.p - x1) + (c.p - x2)) % c.p
      some (x, (l * (x1 + (c.p - x)) + (c.p - y1)) % c.p)

/-- A multiple of a point, by doubling. -/
def Curve.mul (c : Curve) : Nat → Nat → Option (Nat × Nat) → Option (Nat × Nat)
  | 0, _, _ => none
  | f + 1, k, q =>
    if k = 0 then none
    else
      let r := c.mul f (k / 2) (c.add q q)
      if k % 2 = 1 then c.add q r else r

/-- The point lies on the curve. -/
def Curve.on (c : Curve) (x y : Nat) : Bool :=
  decide (x < c.p) && decide (y < c.p) && y * y % c.p == (x * x * x + (c.p - 3) * x + c.b) % c.p

/-- ECDSA verification of a hash: the key's point and the two numbers of the signature. -/
def Curve.verify (c : Curve) (key : Nat × Nat) (hash : List Nat) (r s : Nat) : Bool :=
  if r = 0 ∨ s = 0 ∨ c.n ≤ r ∨ c.n ≤ s ∨ ¬ c.on key.1 key.2 then false
  else
    let z := ofBe (hash.take c.bytes)
    let w := invMod c.n s
    match c.add (c.mul 600 (z * w % c.n) (some (c.gx, c.gy))) (c.mul 600 (r * w % c.n) (some key)) with
    | none => false
    | some (x, _) => x % c.n == r

/-! ## DER -/

/-- One element of a DER encoding: its tag, its contents, its whole encoding and what follows it. -/
structure Tlv where
  tag : Nat
  body : List Nat
  whole : List Nat
  rest : List Nat
  deriving DecidableEq, Repr

/-- The first element of a byte string. -/
def derHead (l : List Nat) : Option Tlv :=
  match l with
  | t :: n :: r =>
    if n < 128 then
      if r.length < n then none else some ⟨t, r.take n, l.take (2 + n), r.drop n⟩
    else
      let k := n - 128
      let len := ofBe (r.take k)
      if k = 0 ∨ 4 < k ∨ r.length < k + len then none else some ⟨t, (r.drop k).take len, l.take (2 + k + len), r.drop (k + len)⟩
  | _ => none

/-- The elements of a byte string, as long as they parse; fuel bounds their number. -/
def derAll : Nat → List Nat → List Tlv
  | 0, _ => []
  | f + 1, l => match derHead l with | none => [] | some t => t :: derAll f t.rest

/-- The elements inside an element. -/
def Tlv.parts (t : Tlv) : List Tlv := derAll (t.body.length + 1) t.body

/-- The elements inside the first element of a byte string, where it has the tag. -/
def derInside (tag : Nat) (l : List Nat) : List Tlv :=
  match derHead l with | some t => if t.tag = tag then t.parts else [] | none => []

/-- The two numbers of an ECDSA signature (SEQUENCE of two INTEGERs). -/
def derSignature (l : List Nat) : Option (Nat × Nat) :=
  match derInside 0x30 l with
  | [a, b] => if a.tag = 2 ∧ b.tag = 2 then some (ofBe a.body, ofBe b.body) else none
  | _ => none

/-- The point of a SubjectPublicKeyInfo with an uncompressed point of a curve. -/
def Curve.derKey (c : Curve) (l : List Nat) : Option (Nat × Nat) :=
  match derInside 0x30 l with
  | [_, k] =>
    if k.tag = 3 ∧ k.body.length = 2 + 2 * c.bytes ∧ k.body.take 2 = [0, 4] then
      some (ofBe ((k.body.drop 2).take c.bytes), ofBe (k.body.drop (2 + c.bytes)))
    else none
  | _ => none

/-- A signature in DER over a hash verifies under a key in DER. -/
def Curve.checks (c : Curve) (key hash sig : List Nat) : Bool :=
  match c.derKey key, derSignature sig with
  | some k, some (r, s) => c.verify k hash r s
  | _, _ => false

/-! ## Certificates -/

/-- The parts of an X.509 certificate that matter: what is signed, the signature, the subject, the key and the extensions. -/
structure Cert where
  tbs : List Nat
  sig : List Nat
  subject : List Tlv
  key : List Nat
  exts : List Tlv
  deriving DecidableEq, Repr

/-- Read a certificate. -/
def certOf (der : List Nat) : Option Cert :=
  match derInside 0x30 der with
  | [tbs, _, sig] =>
    let ps := tbs.parts.filter (fun t => t.tag != 0xA0)
    if sig.tag ≠ 3 ∨ sig.body.head? ≠ some 0 then none
    else match ps with
      | _ :: _ :: _ :: _ :: subject :: key :: more =>
        let exts := match more.find? (fun t => t.tag == 0xA3) with | some e => derInside 0x30 e.body | none => []
        some ⟨tbs.whole, sig.body.drop 1, subject.parts, key.whole, exts⟩
      | _ => none
  | _ => none

/-- The certificate verifies under a key. -/
def Cert.signedBy (x : Cert) (c : Curve) (hash : List Nat → List Nat) (key : List Nat) : Bool := c.checks key (hash x.tbs) x.sig

/-- The values of the organizationalUnitName attributes (2.5.4.11) of the subject: tag and bytes. -/
def Cert.units (x : Cert) : List (Nat × List Nat) :=
  x.subject.flatMap (fun rdn => rdn.parts.filterMap (fun a =>
    match a.parts with
    | [oid, v] => if oid.tag = 6 ∧ oid.body = [0x55, 4, 11] then some (v.tag, v.body) else none
    | _ => none))

/-- keyUsage (2.5.29.15) is present, critical, and asserts digitalSignature and nothing else. -/
def Cert.signsOnly (x : Cert) : Bool :=
  x.exts.any (fun e => match e.parts with
    | [oid, crit, v] => oid.body == [0x55, 0x1D, 15] && crit.tag == 1 && crit.body == [0xFF] && v.tag == 4 && v.body == [3, 2, 7, 0x80]
    | _ => false)

/-- The certificate is marked for a purpose (R476): one organizational unit, a UTF8String of that value, and the key usage. -/
def Cert.markedFor (x : Cert) (purpose : List Nat) : Bool := x.units == [(12, purpose)] && x.signsOnly

/-- The bytes of an ASCII text. -/
def asciiBytes (t : String) : List Nat := t.toList.map (fun c => c.toNat)

end Sys2Proof.Machine
end

