-- ==== Sys2Proof/Machine/Modules.lean ====
section
/-! DEFINITION. Lenticular modules (09_gale_links.md R353 to R358, 16_host.md R565): insertion, authentication, life data, faults and
replacement. -/

namespace Sys2Proof.Machine

open Sys2Proof

def State.lenModule (s : State) (k : Nat) : LenModule := lookD {} s.modules k
def State.setModule (s : State) (k : Nat) (x : LenModule) : State := { s with modules := putKey s.modules k x }

/-- LEN_STATE of a module takes a value; a change is a hub event. -/
def State.moduleState (s : State) (k st : Nat) : State :=
  if s.get (LEN_STATE.STATE k) = st then s else (s.put (LEN_STATE.STATE k) st).hubEvent HUB_EVENT.MODULE

/-- A code of 0x0630 to 0x0636 (R359): NODE 0xFF, UNIT the module. -/
def State.raiseModule (s : State) (k code : Nat) : State :=
  (s.record { code := code, unit := k }).put (LEN_STATUS.LAST_CODE k) code

/-- The links of a module that wait for it go on. -/
def State.moduleLinks (s : State) (k : Nat) : State := (below 8).foldl (fun s b => s.linkGo (8 * k + b)) s

/-- A module that R353 supports. -/
def moduleSupported (m : ModuleId) : Bool := m.cmis == 5 && m.apps && decide (m.maxPower ≤ 32) && m.vendorPages

/-- Authentication begins: a fresh challenge goes to the module (R355). -/
def State.authStart (s : State) (k : Nat) : State :=
  let n := s.fresh
  let s := s.tick.setModule k { s.lenModule k with challenge := some n }
  s.send (.module k 1 (Config.challenge n))

/-- The hub reads a module's identity (R353) and authenticates it, or leaves it UNSUPPORTED. -/
def State.moduleIdentify (s : State) (k : Nat) : State :=
  match (s.lenModule k).ident with
  | none => s
  | some m =>
    let s := s.put (LEN_SERIAL.SERIAL k) (ofLe (m.serial.take 8))
    if !moduleSupported m then (s.raiseModule k 0x0630).moduleState k 5
    else (s.moduleState k 2).authStart k

/-- MODULE_INSERT (R353, R355): identified and authenticated at once, but for a QUIESCED module, which waits for RESUME, and while the
modules have no supply. -/
def execModuleInsert (k : Nat) (m : ModuleId) (s : State) : Host.Outcome State Fault Refusal :=
  let x := s.lenModule k
  let s := s.setModule k { present := true, ident := some m, quiesceWaits := x.quiesceWaits }
  if s.get (LEN_STATE.STATE k) = 6 then .next s
  else if s.linksRun then .next ((s.moduleState k 1).moduleIdentify k)
  else .next (s.moduleState k 1)

/-- MODULE_REMOVE (R357): outside QUIESCED it raises 0x0636 and its 8 links go DOWN. -/
def execModuleRemove (k : Nat) (s : State) : Host.Outcome State Fault Refusal :=
  let x := s.lenModule k
  if !x.present then .next s
  else
    let s := s.setModule k { quiesceWaits := x.quiesceWaits }
    if s.get (LEN_STATE.STATE k) = 6 then .next s
    else
      let s := (s.raiseModule k 0x0636).moduleState k 0
      let s := s.put (LEN_SERIAL.SERIAL k) 0
      .next ((below 8).foldl (fun s b =>
        let l := 8 * k + b
        if s.linkSt l = 6 then s.linkDown l
        else if 2 ≤ s.linkSt l ∧ s.linkSt l ≤ 5 then (s.linkAgainst l).setLinkSt l 7 else s) s)

/-- MODULE_INTERRUPT (R357, R565): an alarm or a lost data path raises 0x0635; a bus that failed its retries makes the module FAULT too. -/
def execModuleInterrupt (k : Nat) (f : ModuleFlag) (s : State) : Host.Outcome State Fault Refusal :=
  if !(s.lenModule k).present then .next s
  else match f with
    | .none => .next s
    | .busFailed => .next ((s.raiseModule k 0x0635).moduleState k 7)
    | .alarm => .next (s.raiseModule k 0x0635)
    | .pathLost _ => .next (s.raiseModule k 0x0635)

/-! ## Life data (R354, R356) -/

/-- A number of the life page, little-endian (R6), at a byte of Table 9.12. -/
def lifeWord (page : List Nat) (at_ n : Nat) : Nat := ofLe ((page.drop (at_ - 128)).take n)

/-- DRIFT of an optical port, signed. -/
def lifeDrift (page : List Nat) (port : Nat) : Int := signed 16 (lifeWord page (144 + 2 * port) 2)

/-- The port of the largest drift. -/
def worstPort (page : List Nat) : Nat :=
  (below 8).foldl (fun b p => if lifeDrift page p > lifeDrift page b then p else b) 0

/-- The hub mirrors the life page, and judges it for a module that is not UNTRUSTED (R354 to R356). -/
def State.lifeRead (s : State) (k : Nat) (page : List Nat) : State :=
  let w := lifeWord page 132 4
  let rated := lifeWord page 136 4
  let s := (s.put (LEN_LIFE.WEIGHTED k) w).put (LEN_LIFE.LASER_HOURS k) (lifeWord page 128 4)
  let worst := worstPort page
  let s := (s.put (LEN_LIFE2.DRIFT_MAX k) (unsigned 16 (lifeDrift page worst))).put (LEN_LIFE2.DRIFT_PORT k) worst
  let s := (s.put (LEN_LIFE2.MAX_TEMP k) (lifeWord page 142 1)).put (LEN_LIFE2.RATED k) rated
  let s := s.put (LEN_STATUS.INSERTIONS k) (lifeWord page 140 2)
  let s := s.setModule k { s.lenModule k with lifePage := page }
  if s.get (LEN_STATE.STATE k) = 4 then s
  else
    let x := s.lenModule k
    let warn := decide (w * 5 ≥ rated * 64) && !x.eolWarned
    let eol := decide (w ≥ rated * 16) && !x.eolRaised
    let s := s.setModule k { x with eolWarned := x.eolWarned || warn, eolRaised := x.eolRaised || eol }
    let s := if warn then s.raiseModule k 0x0632 else s
    let s := if eol then s.raiseModule k 0x0633 else s
    (below 8).foldl (fun s p =>
      let x := s.lenModule k
      if lifeDrift page p > 200 ∧ ¬ x.drifted.contains p then
        (s.setModule k { x with drifted := markIn x.drifted p }).raiseModule k 0x0634
      else s) s

/-- MODULE_LIFE_READ (R354): every 60 s, of a module that the hub manages. -/
def execModuleLifeRead (k : Nat) (page : List Nat) (s : State) : Host.Outcome State Fault Refusal :=
  let st := s.get (LEN_STATE.STATE k)
  .next (if (s.lenModule k).present ∧ (st = 3 ∨ st = 4) then s.lifeRead k page else s)

/-! ## Authentication (R355) -/

/-- An authentication fails with a RESULT: UNTRUSTED and 0x0631. -/
def State.authFail (s : State) (k result : Nat) : State :=
  let s := s.setModule k { s.lenModule k with challenge := none }
  let s := (s.put (LEN_AUTH.RESULT k) result).addSat (LEN_AUTH.FAILS k) 1
  ((s.raiseModule k 0x0631).moduleState k 4).moduleLinks k

/-- MODULE_AUTH_ANSWER (R355): the certificate, the signature over the challenge, the vendor serial and bytes 128 to 175 of page 0xB0, and
that page. -/
def execModuleAuthAnswer (k : Nat) (cert sig page : List Nat) (s : State) : Host.Outcome State Fault Refusal :=
  let x := s.lenModule k
  match x.challenge, x.ident with
  | some n, some m =>
    match (if cert.length ≤ 1024 then (certOf cert).filter (fun c => c.signedBy p256 sha256 Config.moduleCaKey) else none) with
    | none => .next ((s.authFail k 3).lifeRead k page)
    | some c =>
      if !p256.checks c.key (sha256 (Config.challenge n ++ m.serial ++ page.take 48)) sig then .next ((s.authFail k 2).lifeRead k page)
      else
        let s := s.setModule k { x with challenge := none, authTime := some s.isobar }
        let s := ((s.put (LEN_AUTH.RESULT k) 1).put (LEN_AUTH.AGE k) 0).moduleState k 3
        .next ((s.lifeRead k page).moduleLinks k)
  | _, _ => .next s

/-- MODULE_AUTH_TIMEOUT (R355). -/
def execModuleAuthTimeout (k : Nat) (s : State) : Host.Outcome State Fault Refusal :=
  .next (if (s.lenModule k).challenge.isSome then s.authFail k 4 else s)

/-- MODULE_REAUTH_TIMER (R355): every 24 h. -/
def execModuleReauthTimer (k : Nat) (s : State) : Host.Outcome State Fault Refusal :=
  let st := s.get (LEN_STATE.STATE k)
  .next (if (s.lenModule k).present ∧ (st = 3 ∨ st = 4) then s.authStart k else s)

/-! ## Replacement (R358) -/

/-- Steps 3 and 4 of Table 9.13. -/
def State.quiesce (s : State) (k : Nat) : State :=
  let s := [2 * k, 2 * k + 1].foldl (fun s e =>
    let s := (s.cndsOf e).foldl (fun s c =>
      let s := if s.cndState c = 2 then (s.put (GAL_CND_STATE.STATE c) 3).cndClosing c else s
      s.cndEnd c 0) s
    (s.activeSlots.filter (fun p => p.1 == e)).foldl (fun s p => s.suspendSlot p.1 p.2) s) s
  let s := (below 8).foldl (fun s b => let l := 8 * k + b; (s.leaveUp l 9).put (GAL_LSTATUS.RATE l) 0) s
  let x := s.lenModule k
  let s := s.setModule k { x with quiesceWaits := false, challenge := none }
  (s.put (LEN_CTRL.QUIESCE k) 0).moduleState k 6

/-- LEN_QUIESCE (R358): between passes at once, else at the next boundary; a QUIESCED module ignores it. -/
def execLenQuiesce (who : Requester) (k : Nat) (s : State) : Host.Outcome State Fault Refusal :=
  s.atHub who (LEN_CTRL.REG k) <|
  if s.get (LEN_STATE.STATE k) = 6 then .next s
  else if s.betweenPasses then .next (s.quiesce k)
  else .next ((s.put (LEN_CTRL.QUIESCE k) 1).setModule k { s.lenModule k with quiesceWaits := true })

/-- The quiescing that waits for the boundary (Table 9.13 step 3). -/
def State.quiesceWaiting (s : State) : State :=
  s.modules.foldl (fun s p => if p.2.quiesceWaits then s.quiesce p.1 else s) s

/-- LEN_RESUME (R358): ignored unless QUIESCED with a module present. Its links leave QUIESCED, and the module is identified and
authenticated. -/
def execLenResume (who : Requester) (k : Nat) (s : State) : Host.Outcome State Fault Refusal :=
  s.atHub who (LEN_CTRL.REG k) <|
  if s.get (LEN_STATE.STATE k) ≠ 6 ∨ ¬ (s.lenModule k).present then .next s
  else
    let s := (below 8).foldl (fun s b =>
      let l := 8 * k + b
      if s.linkSt l = 9 then s.setLinkSt l (if s.flag (GAL_LCTRL.EN l) then 1 else 0) else s) s
    .next ((s.moduleState k 1).moduleIdentify k)

/-- Modules come up with WARM (R512 step 8, R514), or lose their supply on the way to RETAINED (R516). -/
def State.modulesStart (s : State) : State :=
  s.modules.foldl (fun s p =>
    let st := s.get (LEN_STATE.STATE p.1)
    if p.2.present ∧ st ≠ 6 then (s.moduleState p.1 1).moduleIdentify p.1 else s) s

def State.modulesStop (s : State) : State :=
  s.modules.foldl (fun s p =>
    let st := s.get (LEN_STATE.STATE p.1)
    if p.2.present ∧ st ≠ 6 then (s.setModule p.1 { s.lenModule p.1 with challenge := none }).moduleState p.1 1 else s) s

end Sys2Proof.Machine
end

