-- ==== Sys2Proof/Machine/VectorOps.lean ====
section
/-! DEFINITION. Operations over the vector cores that the engines, the mailboxes and the programs share: their hidden state, scratch,
pairs (R155) and token counters (R149, R198). -/

namespace Sys2Proof.Machine

open Sys2Proof

def vectorKey (site v : Nat) : Nat := site * 4 + v
def State.vector (s : State) (site v : Nat) : VectorState := lookD {} s.vectors (vectorKey site v)
def State.setVector (s : State) (site v : Nat) (x : VectorState) : State := { s with vectors := putKey s.vectors (vectorKey site v) x }

/-- The four vector cores of the die run as checked pairs. -/
def State.paired (s : State) (site : Nat) : Bool := s.flag (VCO_MODE.PAIRED site)

/-- The cores that a transfer or a token for core v reaches: both of its pair in paired mode (R155). -/
def State.pairOf (s : State) (site v : Nat) : List Nat := if s.paired site then [v - v % 2, v - v % 2 + 1] else [v]

/-- The VC domain of the site is on. -/
def State.vcOn (s : State) (site : Nat) : Bool := s.powered site && s.domainOn site 2

/-- Bytes of scratch. -/
def scratchSize : Nat := 0x40000

def VectorState.read (x : VectorState) (a n : Nat) : List Nat := readBytes x.scratch a n
def VectorState.write (x : VectorState) (a : Nat) (data : List Nat) : VectorState := { x with scratch := writeBytes x.scratch a data }

/-- An engine or a control core writes scratch: both cores of a pair take it (R155). -/
def State.scratchWrite (s : State) (site v a : Nat) (data : List Nat) : State :=
  (s.pairOf site v).foldl (fun s c => s.setVector site c ((s.vector site c).write a data)) s

/-- Token counter t of a vector core. -/
def vecToken (site v t : Nat) : Loc := ⟨VCO_TOKEN.REG site v, 16 * t + 15, 16 * t⟩

/-- The VCO_ERR bit of a code. -/
def vecErrBit (site v code : Nat) : Option Loc :=
  match code with
  | 0x0440 => some (VCO_ERR.MISMATCH site v)
  | 0x0441 => some (VCO_ERR.NAN_STORE site v)
  | 0x0442 => some (VCO_ERR.INVALID site v)
  | 0x0443 => some (VCO_ERR.RANGE site v)
  | 0x0444 => some (VCO_ERR.TOKEN site v)
  | 0x0446 => some (VCO_ERR.PROG_BUSY site v)
  | 0x0447 => some (VCO_ERR.GATED site v)
  | 0x0311 => some (VCO_ERR.UNCORRECTABLE site v)
  | 0x0434 => none
  | _ => none

/-- A code of a vector core: LAST_CODE, its VCO_ERR bit and its record. -/
def State.raiseVector (s : State) (site v code action : Nat) : State :=
  let s := s.put (VCO_STATUS.LAST_CODE site v) code
  let s := match vecErrBit site v code with | some l => s.put l 1 | none => s
  s.record { code := code, source := 1, node := site, unit := v, action := action }

/-- Add to one token counter of one core; above 0xFFFF it stays there and 0x0444 is raised (R149). -/
def State.addToken (s : State) (site v t n : Nat) : State :=
  let l := vecToken site v t
  if s.get l + n > 0xFFFF then (s.put l 0xFFFF).raiseVector site v 0x0444 0 else s.put l (s.get l + n)

/-- A token for core v reaches both cores of its pair (R155, R198). -/
def State.signalVector (s : State) (site v t n : Nat) : State := (s.pairOf site v).foldl (fun s c => s.addToken site c t n) s

/-- Add to an engine's token counter: an overflow raises 0x0444 and the pass aborts (R198). -/
def State.addEngineToken (s : State) (site n : Nat) (exec : Bool) : State :=
  let l := if exec then STR_TOKEN.EXEC site else STR_TOKEN.FETCH site
  if s.get l + n > 0xFFFF then
    ((s.put l 0xFFFF).record { code := 0x0444, source := 1, node := site, action := s.abortBit }).abortPass 0x0444 site
  else s.put l (s.get l + n)

/-- A SIGNAL to a control core: bit 8 of IRQ_PEND, and EVENTS rises by one (R198). -/
def State.engineEvent (s : State) (site c : Nat) : State := (s.irq site c 8).addWrap (STR_STATUS.EVENTS site) 1

end Sys2Proof.Machine
end

