-- ==== Sys2Proof/Machine/StreamOps.lean ====
section
/-! DEFINITION. Stream descriptors (R193 to R200): decoding, the checks of an admission, the place of each byte, run-ahead queues,
and the registers that follow a halted channel (R204, R205). -/

namespace Sys2Proof.Machine

open Sys2Proof

/-! ## Dies and descriptors -/

def State.die (s : State) (site : Nat) : DieState := lookD {} s.dies site
def State.setDie (s : State) (site : Nat) (d : DieState) : State := { s with dies := putKey s.dies site d }

/-- Decode the nine words of a descriptor (Table 5.6). rsv says that a reserved field is not 0. -/
def decodeDesc (w : List Nat) : Desc :=
  let x := fun (i hi lo : Nat) => bits (nth 0 w i) hi lo
  { srcT := x 0 63 60, dstT := x 0 59 56, ndim := x 0 55 53, after := bit (nth 0 w 0) 52, early := bit (nth 0 w 0) 51, sv := x 0 49 48,
    sarg := x 0 47 44, darg := x 0 43 40, afmt := x 0 39 36, mxa := bit (nth 0 w 0) 35, ch := x 0 33 32,
    rsv := bit (nth 0 w 0) 50 || bit (nth 0 w 0) 34 || x 0 31 0 != 0,
    shandle := x 1 63 56, saddr := x 1 55 0, dhandle := x 2 63 56, daddr := x 2 55 0,
    counts := [x 3 15 0, x 3 31 16, x 3 47 32, x 3 63 48, x 4 15 0],
    cvt := x 4 31 16, swait := x 4 39 32, dwait := x 4 47 40, signal := x 4 63 48,
    sstrides := [signed 32 (x 5 31 0), signed 32 (x 5 63 32), signed 32 (x 6 31 0), signed 32 (x 6 63 32)],
    dstrides := [signed 32 (x 7 31 0), signed 32 (x 7 63 32), signed 32 (x 8 31 0), signed 32 (x 8 63 32)] }

/-- Count of dimension k. -/
def Desc.count (d : Desc) (k : Nat) : Nat := nth 0 d.counts k

/-- The transfer size T: the product of the used counts (R194). -/
def Desc.total (d : Desc) : Nat := (d.counts.take d.ndim).foldl (· * ·) 1

/-- Index (i0 … i4) of the byte at position n of the transfer: i0 runs fastest (R194). -/
def Desc.index (d : Desc) (n : Nat) : List Nat :=
  ((below 5).foldl (fun (acc : List Nat × Nat) k =>
    if k < d.ndim ∧ 0 < d.count k then (acc.1 ++ [acc.2 % d.count k], acc.2 / d.count k) else (acc.1 ++ [0], acc.2)) ([], n)).1

/-- The byte offset of position n of a side under its strides (R194). -/
def Desc.offset (d : Desc) (strides : List Int) (n : Nat) : Int :=
  let ix := d.index n
  (nth 0 ix 0 : Nat) + ((below 4).map (fun k => ((nth 0 ix (k + 1) : Nat) : Int) * nth 0 strides k)).foldl (· + ·) 0

/-- Where position n of the source or sink side stands: its address with the argument, plus the offset. -/
def Stream.place (x : Stream) (sink : Bool) (n : Nat) : Nat :=
  if sink then ((x.dbase : Int) + x.desc.offset x.desc.dstrides n).toNat else ((x.sbase : Int) + x.desc.offset x.desc.sstrides n).toNat

/-- How many bytes of the current run are left at position n. -/
def Desc.runLeft (d : Desc) (n : Nat) : Nat := d.count 0 - n % (if d.count 0 = 0 then 1 else d.count 0)

/-- The type of a side's endpoint, and whether the side is a plain stream (R194, Table 5.7). -/
def Stream.endpoint (x : Stream) (sink : Bool) : Nat := if sink then x.desc.dstT else x.desc.srcT
def plainSource (t : Nat) : Bool := decide (2 ≤ t) && decide (t ≤ 5)
def plainSink (t : Nat) : Bool := decide (2 ≤ t) && decide (t ≤ 4)

/-- The lowest and the highest byte of a side's extent over an address (R195). -/
def Desc.extent (d : Desc) (addr : Nat) (strides : List Int) : Int × Int :=
  (below 4).foldl (fun (acc : Int × Int) k =>
    if k + 1 < d.ndim then
      let m := ((d.count (k + 1) : Nat) - 1 : Int) * nth 0 strides k
      (acc.1 + min 0 m, acc.2 + max 0 m)
    else acc) ((addr : Int), (addr : Int) + (d.count 0 : Nat) - 1)

/-! ## The checks of an admission (R195 to R200) -/

/-- SIGNAL is valid (Table 5.8). -/
def signalOk (n : Nat) : Bool :=
  let t := bits n 15 13
  !bit n 8 && decide (t ≤ 5) && (t == 0 || bits n 7 0 != 0)

/-- The fields under R199, in the order of its list, with 0x0201 for a used count of 0; and the tree sink fields of R277. -/
def Desc.fieldCode (d : Desc) : Option Nat :=
  let unused := (below 5).any (fun k => decide (d.ndim ≤ k) && d.count k != 0) ||
    (below 4).any (fun k => decide (d.ndim ≤ k + 1) && (nth 0 d.sstrides k != 0 || nth 0 d.dstrides k != 0))
  let plain :=
    (plainSource d.srcT && (d.saddr != 0 || d.sarg != 0 || d.sstrides.any (fun x => x != 0))) ||
    (plainSink d.dstT && (d.daddr != 0 || d.darg != 0 || d.dstrides.any (fun x => x != 0)))
  let fmt := plainSink d.dstT && (formatClass d.afmt == 0 || d.afmt == 9 || (d.mxa && !scaleAllowed d.afmt))
  let tree := d.dstT == 6 && d.dstrides.any (fun x => x != 0)
  if d.srcT > 6 ∨ d.dstT > 6 then some 0x0202
  else if d.ndim = 0 ∨ d.ndim > 5 then some 0x0202
  else if (below d.ndim).any (fun k => d.count k == 0) then some 0x0201
  else if unused || decide (d.sarg > 6) || decide (d.darg > 6) || plain || !signalOk d.signal || d.rsv || fmt || tree then some 0x0202
  else none

/-- The address of a side with its argument (R194). -/
def State.argOf (s : State) (site n : Nat) : Nat := if n = 0 then 0 else (s.reg (STR_ARG.REG site (n - 1))).toNat

/-- The die has an idle spare array (R92). -/
def State.idleSpare (s : State) (site : Nat) : Bool :=
  (below 18).any (fun a => s.get (MXA_STATUS.STATE site a) == 4 && s.powered site && s.domainOn site (a / 9))

/-- The row's chain, converter or exact drain can be used: its domain is on (R199). -/
def State.rowUsable (s : State) (site row : Nat) : Bool := s.powered site && s.domainOn site row

/-- Scratch of core v can be used: VC is on, and v is no odd core of a pair (R199). -/
def State.scratchUsable (s : State) (site v : Nat) : Bool := s.vcOn site && !(s.paired site && v % 2 == 1)

/-- A tree slot can take a descriptor of a sweep as its local source (R277). -/
def State.treeFree (s : State) (site t sweep : Nat) (earlier : List Stream) : Bool :=
  let w := decide (t < 64) && bit (s.reg (SIT_TREE_W0.REG site t)).toNat 63 && !bit (s.reg (SIT_TREE_W0.REG site t)).toNat 27
  let drained := (s.flag (SIT_RED_DRAIN.EN_N site) && s.get (SIT_RED_DRAIN.TREE_N site) == t) ||
    (s.flag (SIT_RED_DRAIN.EN_S site) && s.get (SIT_RED_DRAIN.TREE_S site) == t)
  w && !drained && !earlier.any (fun x => x.desc.dstT == 6 && x.sweep == sweep && x.dbase == t)

/-- The endpoints of a descriptor can be used (R199, R212, R277); earlier holds the descriptors before it. -/
def State.endpointsOk (s : State) (site sweep : Nat) (d : Desc) (earlier : List Stream) : Bool :=
  let src : Bool := match d.srcT with
    | 2 => s.rowUsable site 0 | 3 => s.rowUsable site 1 | 4 => s.rowUsable site 0 | 5 => s.rowUsable site 1
    | 6 => s.scratchUsable site d.sv
    | _ => true
  let dst : Bool := match d.dstT with
    | 0 => (match s.handle site d.dhandle with | some h => !h.wp | none => true)
    | 2 => s.rowUsable site 0 | 3 => s.rowUsable site 1
    | 4 => s.idleSpare site
    | 5 => s.scratchUsable site d.sv
    | 6 => s.treeFree site (d.daddr + s.argOf site d.darg) sweep earlier
    | _ => true
  src && dst

/-- The two ends of a PPA extent keep R55 to R60, in one SPACE and SITE (R195). -/
def State.ppaEnds (s : State) (lo hi : Nat) : Bool :=
  ppaSpace lo == ppaSpace hi && ppaSite lo == ppaSite hi && decide (lo < 2 ^ 56) && decide (hi < 2 ^ 56) &&
    match ppaSpace lo with
    | 0 => s.memValid lo && s.memValid hi
    | 1 => s.memValid lo && s.memValid hi
    | 2 => stackSite (ppaSite lo) && decide (ppaOffset lo < 0x10000) && decide (ppaOffset hi < 0x10000)
    | 3 => (rwtEntry lo).isSome && (rwtEntry hi).isSome
    | _ => false

/-- The extent of one side keeps the rule of its endpoint (R195, R212). -/
def State.extentOk (s : State) (site : Nat) (d : Desc) (sink : Bool) : Bool :=
  let t := if sink then d.dstT else d.srcT
  let addr := if sink then d.daddr + s.argOf site d.darg else d.saddr + s.argOf site d.sarg
  let e := d.extent addr (if sink then d.dstrides else d.sstrides)
  if t = 0 then
    match s.handle site (if sink then d.dhandle else d.shandle) with
    | none => false
    | some h => s.handleUp h && decide (0 ≤ e.1) && decide (e.2 < (h.size : Int))
  else if t = 1 then decide (0 ≤ e.1) && s.ppaEnds e.1.toNat e.2.toNat
  else if (sink && t == 5) || (!sink && t == 6) then decide (0 ≤ e.1) && decide (e.2 < (scratchSize : Int))
  else true

/-- T is a whole number of the records of both sides (R196, Table 5.8). -/
def Desc.shapeOk (d : Desc) : Bool :=
  (if d.srcT = 2 ∨ d.srcT = 3 then d.total % outputRecordSize d.cvt == 0 else if d.srcT = 4 ∨ d.srcT = 5 then d.total % 1024 == 0 else true) &&
  (if plainSink d.dstT then d.total % vectorRecordSize d.afmt d.mxa == 0 else if d.dstT = 6 then d.total % 1024 == 0 else true)

/-- The first check that a descriptor fails (R200). -/
def State.descCode (s : State) (site sweep : Nat) (d : Desc) (earlier : List Stream) : Option Nat :=
  match d.fieldCode with
  | some c => some c
  | none =>
    if d.dstT = 6 ∧ d.daddr + s.argOf site d.darg > 63 then some 0x0202
    else if (d.srcT = 2 ∨ d.srcT = 3) ∧ ¬ outWordOk d.cvt then some 0x0434
    else if !(s.endpointsOk site sweep d earlier) then some 0x0203
    else if !(s.extentOk site d false) then some 0x0204
    else if !(s.extentOk site d true) then some 0x0204
    else if !d.shapeOk then some 0x0206
    else none

/-! ## Run-ahead queues (R191) -/

def Segment.size : Segment → Nat
  | .data b _ => b.length
  | .wait _ n => n

/-- Bytes of a channel's run-ahead queue in use. -/
def DieState.queued (d : DieState) (ch : Nat) : Nat :=
  sumNat ((d.streams.filter (fun x => x.desc.ch == ch)).map (fun x => sumNat (x.queue.map Segment.size)))

/-- Bytes of a channel's run-ahead queue (R191). -/
def runAhead : Nat := 0x10000

/-- Take n bytes from the front of a queue, where that many have arrived: the bytes, whether any is poisoned, and the rest. -/
def takeBytes : List Segment → Nat → Option (List Nat × Bool × List Segment)
  | q, 0 => some ([], false, q)
  | [], _ + 1 => none
  | .wait _ _ :: _, _ + 1 => none
  | .data b p :: q, n + 1 =>
    if b.length ≤ n + 1 then
      match takeBytes q (n + 1 - b.length) with
      | none => none
      | some (r, p', q') => some (b ++ r, p || p', q')
    else some (b.take (n + 1), p, .data (b.drop (n + 1)) p :: q)

/-- Bytes at the front of a queue that have arrived. -/
def arrived : List Segment → Nat
  | .data b _ :: q => b.length + arrived q
  | _ => 0

/-! ## Descriptors of a die -/

/-- Replace the descriptor with an admission index. -/
def DieState.setStream (d : DieState) (x : Stream) : DieState :=
  { d with streams := d.streams.map (fun (y : Stream) => if y.index == x.index then x else y) }

def DieState.stream (d : DieState) (i : Nat) : Option Stream := d.streams.find? (fun x => x.index == i)

def State.setStream (s : State) (site : Nat) (x : Stream) : State := s.setDie site ((s.die site).setStream x)

/-- STR_STATUS.ADMITTED and FULL follow the descriptors admitted and not complete. -/
def State.admittedBits (s : State) (site : Nat) : State :=
  let n := (s.die site).streams.length
  (s.putSat (STR_STATUS.ADMITTED site) n).put (STR_STATUS.FULL site) (b2n (decide (256 ≤ n)))

/-- The descriptor that the cursor registers describe: of the halted channels, the lowest. -/
def DieState.cursor (d : DieState) : Option Stream :=
  ((below 4).flatMap (fun c => d.streams.filter (fun x => x.halted && x.desc.ch == c))).head?

/-- STR_STATUS.HALTED, STR_CURSOR0 and STR_CURSOR1 follow the halted descriptors of a die (R204, R205). -/
def State.haltedBits (s : State) (site : Nat) : State :=
  let d := s.die site
  let s := s.put (STR_STATUS.HALTED site) (maskOf ((below 4).filter (fun c => d.streams.any (fun x => x.halted && x.desc.ch == c))))
  match d.cursor with
  | none => (s.setReg (STR_CURSOR0.REG site) 0).setReg (STR_CURSOR1.REG site) 0
  | some x =>
    let ix := x.desc.index (if x.haltSink then x.snkPos else x.srcPos)
    let s := (((s.put (STR_CURSOR0.I0 site) (nth 0 ix 0)).put (STR_CURSOR0.I1 site) (nth 0 ix 1)).put (STR_CURSOR0.I2 site) (nth 0 ix 2)).put
      (STR_CURSOR0.I3 site) (nth 0 ix 3)
    ((((s.put (STR_CURSOR1.I4 site) (nth 0 ix 4)).put (STR_CURSOR1.DESC site) (x.index % 256)).put (STR_CURSOR1.CH site) x.desc.ch).put
      (STR_CURSOR1.SIDE site) (b2n x.haltSink)).put (STR_CURSOR1.VALID site) 1

/-- A write of an entry wakes every channel that halted on it; it retries its translation (R205). -/
def State.wakeEntry (s : State) (e : Nat) : State :=
  s.dies.foldl (fun s p =>
    if p.2.streams.any (fun x => x.halted && x.haltEntry == e) then
      let d := s.die p.1
      (s.setDie p.1 { d with streams := d.streams.map (fun (x : Stream) =>
          if x.halted && x.haltEntry == e then { x with halted := false } else x) }).haltedBits p.1
    else s) s

/-- STR_ERR takes the first fault of the pass at a die: its code and its index in its list (R200). -/
def State.strErr (s : State) (site code index : Nat) : State :=
  let d := s.die site
  if d.errSeen then s
  else ((((s.setDie site { d with errSeen := true }).put (STR_ERR.CODE site) code).put (STR_ERR.INDEX site) index).put (STR_ERR.VALID site) 1)

end Sys2Proof.Machine
end

