-- ==== Sys2Proof/Machine/Serving.lean ====
section
/-! DEFINITION. Which stacks serve (R467, R469, R531, R541, R542), and what the hub reads of the image in force: its sections, its pass
templates and their sweeps (R465, R466, R471). -/

namespace Sys2Proof.Machine

open Sys2Proof

/-! ## Stacks in service -/

/-- A stack in service (R469): it passed discovery and has since been neither fenced nor retired. -/
def State.stackIn (s : State) (site : Nat) : Bool := s.present site && !s.retired.contains site

/-- The stack that stands in for a site (R542): its sector's substitution, or the stack of the site itself. -/
def State.standIn (s : State) (x : Nat) : Nat := s.substSite x

/-- The SERVING site that a stack serves, where the image in force gives it one. -/
def State.servesSite (s : State) (stack : Nat) : Option Nat := s.image.serving.find? (fun x => s.standIn x == stack && s.stackIn stack)

/-- The serving stacks, rising by the site they serve. -/
def State.servingStacks (s : State) : List Nat := (s.image.serving.map s.standIn).filter s.stackIn

/-- The vote partner of a stack (R298): the next serving stack of its sector, wrapping; none where it is the only one. -/
def State.partner (s : State) (site : Nat) : Option Nat :=
  let l := (sectorSites (sectorOf site)).filter (fun x => s.servingStacks.contains x)
  if !l.contains site || l.length < 2 then none
  else some (((l.find? (fun x => decide (site < x))).getD (l.headD 0)))

/-- The sites whose partner a stack is. -/
def State.predecessor (s : State) (site : Nat) : Option Nat := s.servingStacks.find? (fun x => s.partner x == some site)

/-! ## Reading an image (R465, R466) -/

/-- Bytes of an image staged at a PPA: the n bytes at offset o. -/
def State.imageBytes (s : State) (base o n : Nat) : List Nat := (s.readMem (base + o) n).1

/-- A little-endian number of n bytes of a staged image. -/
def State.imageNum (s : State) (base o n : Nat) : Nat := ofLe (s.imageBytes base o n)

/-- Offset and size of the section of a type, from the section table (Table 13.2). -/
def State.imageSection (s : State) (base type : Nat) : Option (Nat × Nat) :=
  ((below 10).find? (fun i => s.imageNum base (256 + 80 * i) 2 == type)).map (fun i =>
    (s.imageNum base (256 + 80 * i + 8) 8, s.imageNum base (256 + 80 * i + 16) 8))

/-- Sweeps and the offset of the sweep records of a template, from the directory of the TEMPLATES section at offset o: an entry of
32 bytes, the number of sweeps in word 0 and the offset in word 1 (log entry 6). -/
def State.templateAt (s : State) (base o k : Nat) : Nat × Nat :=
  (s.imageNum base (o + 32 * k) 8, s.imageNum base (o + 32 * k + 8) 8)

/-- A sweep record (Table 13.6) as its eight words. -/
def State.sweepWords (s : State) (base o off sweep : Nat) : List Nat :=
  (below 8).map (fun i => s.imageNum base (o + off + 64 * sweep + 8 * i) 8)

/-- The number of templates: directory entries stand in index order up to the first sweep record, and there are at most 1,024 (R471). -/
def State.templateCount (s : State) (base o size : Nat) : Nat :=
  let first := (s.templateAt base o 0).2
  Nat.min 1024 (Nat.min (first / 32) (size / 32))

/-- Template k of the image in force: its number of sweeps and the words of each of its sweeps by number. -/
def State.template (s : State) (k : Nat) : Option (Nat × (Nat → List Nat)) :=
  match s.image.area with
  | none => none
  | some (base, _) =>
    match s.imageSection base 8 with
    | none => none
    | some (o, size) =>
      if k < s.templateCount base o size then
        let t := s.templateAt base o k
        some (t.1, s.sweepWords base o t.2)
      else none

/-- Sweeps of the template of the running pass. -/
def State.passSweeps (s : State) : Nat := match s.template (s.get HUB_PASS.TEMPLATE) with | some t => t.1 | none => 0

/-- ANCHOR and HIGH_LIMIT of a sweep of the running pass's template. -/
def State.sweepWord (s : State) (sweep i : Nat) : Nat :=
  match s.template (s.get HUB_PASS.TEMPLATE) with | some t => nth 0 (t.2 sweep) i | none => 0

/-- The energy estimate of a template in mJ: the sum over its sweeps (R428). -/
def State.templateEnergy (s : State) (k : Nat) : Nat :=
  match s.template k with
  | none => 0
  | some t => sumNat ((below t.1).map (fun i => bits (nth 0 (t.2 i) 2) 31 0))

end Sys2Proof.Machine
end

