-- ==== Sys2Proof/Machine/Ready.lean ====
section
/-! DEFINITION. SERVING-ready (R502) and what follows its rise (R501). -/

namespace Sys2Proof.Machine

open Sys2Proof

/-- Both control cores of a stack are READY. -/
def State.coresReady (s : State) (site : Nat) : Bool := s.get (CCO_STATUS.STATE site 0) == 2 && s.get (CCO_STATUS.STATE site 1) == 2

/-- The stack that serves a SERVING site, where one does, meets its part of R502. -/
def State.siteReady (s : State) (x : Nat) : Bool :=
  s.stackIn (s.standIn x) && s.coresReady (s.standIn x) && s.flag (GLT_STATUS.EXIT_DONE (s.standIn x))

/-- The panel is SERVING-ready (R502). -/
def State.servingReady (s : State) : Bool :=
  s.get RST_STATUS.PSTATE == 4 && s.get OVC_STATUS.STATE == 5 && s.flag MSH_STATUS.ROUTES_OK && s.image.serving.all s.siteReady

/-- The start window closes (R501). -/
def State.closeWindow (s : State) : State := (s.put RST_STATUS.WINDOW 0).put RST_STATUS.WINDOW_S 0

/-- RST_STATUS.READY follows R502: a change is a hub event; SERVING-ready sets FAILS to 0 and closes the start window (R501). -/
def State.readyRefresh (s : State) : State :=
  let r := s.servingReady
  if r == s.flag RST_STATUS.READY then s
  else
    let s := (s.put RST_STATUS.READY (b2n r)).hubEvent HUB_EVENT.READY
    if r then (s.put DWN_CAUSE0.FAILS 0).closeWindow else s

end Sys2Proof.Machine
end

