-- ==== Sys2Proof/Machine/Control.lean ====
section
/-! DEFINITION. The control cores as the hardware around them (04_cores.md R160 to R170): firmware's own registers, the watchdog and
fatal stops, the mailboxes, and the fault report that aborts a pass. -/

namespace Sys2Proof.Machine

open Sys2Proof

/-! ## Readiness, watchdog and fatal faults (R162, R168 to R170) -/

/-- The control core runs: BOOT or READY. -/
def State.coreRuns (s : State) (site c : Nat) : Bool :=
  s.powered site && (s.get (CCO_STATUS.STATE site c) == 1 || s.get (CCO_STATUS.STATE site c) == 2)

/-- What CCO_WDOG.REMAIN shows (R168): the microseconds left of the last reload while the core runs. -/
def State.wdogLeft (s : State) (site c : Nat) : Nat :=
  let r := s.get (CCO_WDOG.REMAIN site c)
  if s.coreRuns site c then r - (s.isobar - (s.control site c).kicked) / 100 else r

/-- A control core becomes FATAL (R169): its state, cause and code, the record that names site, core, cause and CCO_PCSAMPLE, the
pass aborted, and the stack retired at the boundary that ends the drain. -/
def State.fatalCore (s : State) (site c cause code value : Nat) : State :=
  let s := s.put (CCO_WDOG.REMAIN site c) (s.wdogLeft site c)
  let s := ((s.put (CCO_STATUS.STATE site c) 3).put (CCO_STATUS.FATAL_CAUSE site c) cause).put (CCO_STATUS.LAST_CODE site c) code
  let s := s.put RST_STATUS.LAST_CODE code
  let s := s.record { code := code, source := 1, node := site, unit := c, action := s.abortBit + 4,
                      details := [site, c, cause, s.get (CCO_PCSAMPLE.PC site c), value] }
  let s := s.abortPass code site
  (s.decideRetire ⟨site, code, false, false⟩).readyRefresh

/-- Started units with both control cores READY (RST_FW_STATUS.READY). -/
def State.readyUnits (s : State) : State :=
  s.putSat RST_FW_STATUS.READY (stackSites.filter (fun x => s.present x && s.coresReady x)).length

/-- CCO_FW_WRITE (R162, R170): the owning core writes its fields; READY, once set, stays set, and moves a core in BOOT to READY. A
write of any other requester is dropped. -/
def execCcoFwWrite (who : Requester) (site c value : Nat) (s : State) : Host.Outcome State Fault Refusal :=
  s.atSite who (CCO_FW.REG site c) site <|
  if who ≠ .core site c ∨ ¬ s.coreRuns site c then .next s
  else
    let s := (s.put (CCO_FW.HEARTBEAT site c) (bits value 63 32)).put (CCO_FW.FW_CODE site c) (bits value 31 16)
    if !bit value 0 then .next s
    else
      let s := (s.put (CCO_FW.READY site c) 1).put (CCO_STATUS.STATE site c) 2
      .next (s.readyUnits.readyRefresh)

/-- CCO_BOOT_TIMEOUT (R162). -/
def execCcoBootTimeout (site c : Nat) (s : State) : Host.Outcome State Fault Refusal :=
  .next (if s.get (CCO_STATUS.STATE site c) = 1 then s.fatalCore site c 5 0x0A20 0 else s)

/-- CCO_WDOG_KICK (R168, R170). -/
def execCcoWdogKick (who : Requester) (site c : Nat) (s : State) : Host.Outcome State Fault Refusal :=
  s.atSite who (CCO_WDOG_KICK.REG site c) site <|
  .next (if who = .core site c then
      (s.setControl site c { s.control site c with kicked := s.isobar }).put (CCO_WDOG.REMAIN site c) (s.get (CCO_WDOG.PERIOD site c))
    else s)

/-- CCO_WATCHDOG_EXPIRY (R168, R169): the watchdog of a core in BOOT or READY has counted down. -/
def execCcoWatchdogExpiry (site c : Nat) (s : State) : Host.Outcome State Fault Refusal :=
  .next (if s.coreRuns site c then (s.put (CCO_WDOG.REMAIN site c) 0).fatalCore site c 1 0x0A22 0 else s)

/-- CCO_FATAL_WRITE (R169, R170): the value goes into the record. -/
def execCcoFatalWrite (who : Requester) (site c value : Nat) (s : State) : Host.Outcome State Fault Refusal :=
  s.atSite who (CCO_FATAL.REG site c) site <|
  .next (if who = .core site c ∧ s.coreRuns site c ∧ bits value 15 0 ≠ 0 then s.fatalCore site c 4 0x0A21 (bits value 15 0) else s)

/-- TCM_UNCORRECTABLE (R169). -/
def execTcmUncorrectable (site c : Nat) (itcm : Bool) (s : State) : Host.Outcome State Fault Refusal :=
  .next (if s.coreRuns site c then s.fatalCore site c (if itcm then 2 else 3) 0x0A21 0 else s)

/-! ## Mailboxes (R163 to R165) -/

/-- The bit of a site in HUB_MBX_PEND0 to 2. -/
def mbxPendBit (site : Nat) : Loc := ⟨HUB_MBX_PEND.REG (site / 64), site % 64, site % 64⟩

/-- The registers that show a core's queues follow them. -/
def State.mbxShow (s : State) (site c : Nat) : State :=
  let x := s.control site c
  let s := (s.put (CCO_MBX_IN_STAT.COUNT site c) x.inq.length).put (CCO_MBX_IN_STAT.FULL site c) (b2n (x.inq.length == 16))
  let s := s.put (CCO_MBX_OUT_STAT.COUNT site c) x.outq.length
  let head := match x.outq with | m :: _ => m | [] => []
  let s := (below 8).foldl (fun s i => s.setReg (CCO_MBX_OUT_D.REG site c i) (nth 0 head i)) s
  let pend := !(s.control site 0).outq.isEmpty || !(s.control site 1).outq.isEmpty
  let was := s.flag (mbxPendBit site)
  let s := s.put (mbxPendBit site) (b2n pend)
  if pend && !was then s.trigger (16 + sectorOf site) else s

/-- A message with the SOURCE that hardware writes (R163). -/
def withSource (m : Message) (src : Nat) : Message :=
  match m with | [] => [] | w :: l => withField w 31 0 src :: l

/-- TYPE of a message. -/
def messageType (m : Message) : Nat := match m with | [] => 0 | w :: _ => fieldOf w 63 56

/-- A full queue's drop (R164). -/
def State.mbxFull (s : State) (site c : Nat) : State :=
  ((s.addSat (CCO_MBX_IN_STAT.DROPS_FULL site c) 1).put (CCO_STATUS.LAST_CODE site c) 0x0B10).record
    { code := 0x0B10, source := 1, node := site, unit := c }

/-- A push of a reserved TYPE is dropped (R163). -/
def State.mbxType (s : State) (site c : Nat) : State :=
  ((s.addSat (CCO_MBX_IN_STAT.DROPS_TYPE site c) 1).put (CCO_STATUS.LAST_CODE site c) 0x0B12).record
    { code := 0x0B12, source := 1, node := site, unit := c }

/-- Put a message at the end of an inbound queue that has room; bit 0 of IRQ_PEND. -/
def State.inEnqueue (s : State) (site c : Nat) (m : Message) : State :=
  let x := s.control site c
  ((s.setControl site c { x with inq := x.inq ++ [m] }).mbxShow site c).irq site c 0

/-- A push from any source but the hub (R163, R164). -/
def State.mbxPush (s : State) (site c : Nat) (m : Message) (src : Nat) : State :=
  if messageType m < 0x40 then s.mbxType site c
  else if (s.control site c).inq.length ≥ 16 then s.mbxFull site c
  else s.inEnqueue site c (withSource m src)

/-- A message of the hub: enqueued, or held until space frees (R164). -/
def State.hubMessage (s : State) (site c : Nat) (m : Message) : State :=
  let x := s.control site c
  let m := withSource m 0xFFFFFFFF
  if x.inq.length ≥ 16 ∨ ¬ x.hubHeld.isEmpty then s.setControl site c { x with hubHeld := x.hubHeld ++ [m] }
  else s.inEnqueue site c m

/-- A hub message of a TYPE with its words 1 to 7; SEQ counts nothing that the spec fixes and is written 0 (log entry 7). -/
def hubWords (type : Nat) (ws : List Nat) : Message :=
  withField 0 63 56 type :: (below 7).map (fun i => word (nth 0 ws i))

/-- SOURCE of a requester's push. -/
def pushSource : Requester → Nat
  | .host => 0xFFFFFFFE | .mgmt _ => 0xFFFFFFFD | .core site c => 2 * site + c | .hub => 0xFFFFFFFF | .mesh _ => 0xFFFFFFFE

/-- CCO_MBX_IN_PUSH (R163, R164): a 1 enqueues whatever the staging registers hold. -/
def execCcoMbxInPush (who : Requester) (site c value : Nat) (s : State) : Host.Outcome State Fault Refusal :=
  s.atSite who (CCO_MBX_IN_PUSH.REG site c) site <|
  if !bit value 0 then .next s
  else
    let m : Message := (below 8).map (fun i => s.reg (CCO_MBX_IN_D.REG site c i))
    .next (s.mbxPush site c m (pushSource who))

/-- HUB_MESSAGE_ENQUEUE (R164): the oldest message that the hub holds for a core, once there is space. -/
def execHubMessageEnqueue (site c : Nat) (s : State) : Host.Outcome State Fault Refusal :=
  let x := s.control site c
  match x.hubHeld with
  | [] => .next s
  | m :: l => .next (if x.inq.length ≥ 16 then s else (s.setControl site c { x with hubHeld := l }).inEnqueue site c m)

/-- MBX_HEAD_REMOVE (R165). -/
def execMbxHeadRemove (site c : Nat) (s : State) : Host.Outcome State Fault Refusal :=
  let x := s.control site c
  .next ((s.setControl site c { x with inq := x.inq.drop 1 }).mbxShow site c)

/-- The message that a core has staged. -/
def ControlState.staged (x : ControlState) : Message := (below 8).map (fun i => lookD 0 x.outStage i)

/-- MBX_SEND (R163, R165): to the host queue (0), the hub (1) or the other core (2); another destination names none, and nothing is
sent (log entry 8). -/
def execMbxSend (site c dest : Nat) (s : State) : Host.Outcome State Fault Refusal :=
  let x := s.control site c
  let m := withSource x.staged (2 * site + c)
  match dest with
  | 0 =>
    if messageType m < 0x40 then .next (s.mbxType site c)
    else if x.outq.length ≥ 16 then .next (s.addSat (CCO_MBX_OUT_STAT.DROPS site c) 1)
    else .next ((s.setControl site c { x with outq := x.outq ++ [m] }).mbxShow site c)
  | 1 => .next (s.send (.unit (messageType m) site (c :: m.map BitVec.toNat)))
  | 2 =>
    let full := decide (messageType m ≥ 0x40) && decide ((s.control site (1 - c)).inq.length ≥ 16)
    let s := if full then s.addSat (CCO_MBX_OUT_STAT.DROPS site c) 1 else s
    .next (s.mbxPush site (1 - c) x.staged (2 * site + c))
  | _ => .next s

/-- CCO_MBX_OUT_POP (R165): a 1 removes the head of the outbound queue, where it has one; bit 1 of IRQ_PEND tells the core that
space is free. -/
def execCcoMbxOutPop (who : Requester) (site c value : Nat) (s : State) : Host.Outcome State Fault Refusal :=
  s.atSite who (CCO_MBX_OUT_POP.REG site c) site <|
  let x := s.control site c
  if !bit value 0 || x.outq.isEmpty then .next s
  else .next (((s.setControl site c { x with outq := x.outq.drop 1 }).mbxShow site c).irq site c 1)

/-! ## The fault report (R166) -/

/-- SWEEP_FAULT_REPORT (R166, R185): a halted array or vector core ends the loop of CC0, and the hub aborts the pass on every die. -/
def execSweepFaultReport (site : Nat) (unit : FaultUnit) (s : State) : Host.Outcome State Fault Refusal :=
  let r : Bool × Nat := match unit with
    | .array a => (s.get (MXA_STATUS.STATE site a) == 3, s.get (MXA_STATUS.LAST_CODE site a))
    | .vector v => (s.get (VCO_STATUS.STATE site v) == 3, s.get (VCO_STATUS.LAST_CODE site v))
  .next (if r.1 && s.coreRuns site 0 then s.abortPass r.2 site else s)

end Sys2Proof.Machine
end

