-- ==== Sys2Proof/Machine/Entries.lean ====
section
/-! DEFINITION. The two ends of a row: activation vectors that enter its arrays in lockstep (R68 to R74, R86, R92, R290 to R302), and
the records of drained rows that its output path hands on (R197, R594). -/

namespace Sys2Proof.Machine

open Sys2Proof

/-! ## Issue slots (R86) -/

/-- How many of the first n issue slots are blocked at a BLOCK value. -/
def blockedBefore (block n : Nat) : Nat := n / 16 * block + n % 16 * block / 16

/-- Issue slot n is blocked. -/
def slotBlocked (block n : Nat) : Bool := decide (n % 16 * block / 16 < (n % 16 + 1) * block / 16)

/-- The die reaches an issue slot: MXA_SLOT, and the blocked slots passed (R86). -/
def State.reachSlot (s : State) (site slot : Nat) : State :=
  let at_ := s.get (MXA_SLOT.SLOT site)
  if slot ≤ at_ then s
  else
    let b := s.get (MXA_THROTTLE.BLOCK site)
    (s.addSat (MXA_THROTTLE.BLOCKED site) (blockedBefore b (slot + 1) - blockedBefore b (at_ + 1))).put (MXA_SLOT.SLOT site) slot

/-! ## Vectors of a feed (R68, R92, R196, R301, R302) -/

/-- The number of a feed among those of its die. -/
def feedKey : EntryFeed → Nat
  | .row r => r
  | .rerun a => 2 + a

/-- The arrays that a feed's vectors enter. -/
def State.feedArrays (s : State) (site : Nat) : EntryFeed → List Nat
  | .row r => s.rowArrays site r
  | .rerun a => [a]

/-- The vote whose frozen bank the feed replays, if it does. -/
def State.replaying (s : State) (site : Nat) (f : EntryFeed) : Option Vote :=
  match s.siteVotes site with
  | [] => none
  | v :: _ =>
    match f with
    | .row r => if s.deferredRow site r then some v else none
    | .rerun a => if !v.deferred && v.rerun == a then some v else none

/-- The next vector of the chain or re-run sinks of a die: it leaves its run-ahead queue (R594). -/
def State.sinkVector (s : State) (site dst : Nat) : Option (ChainVector × State) :=
  let d := s.die site
  (d.streams.filter (fun x => x.snkStarted && x.desc.dstT == dst && !d.stopped && decide (x.snkPos < x.desc.total))).findSome? (fun x =>
    let n := vectorRecordSize x.desc.afmt x.desc.mxa
    match takeBytes x.queue n with
    | none => none
    | some (b, p, q) =>
      let d := d.setStream { x with queue := q, snkPos := x.snkPos + n }
      let d := { d with sunk := d.sunk + n }
      some (⟨x.desc.afmt, x.desc.mxa, b, p⟩, (s.setDie site d).put (STR_COUNT.KIB site) (d.sunk / 1024 % 2 ^ 32)))

/-- The next vector of a feed. -/
def State.feedVector (s : State) (site : Nat) (f : EntryFeed) : Option (ChainVector × State) :=
  match s.replaying site f with
  | some v => ((nth {} (s.replay site (arrayRow v.array)) v.bank).vecs[v.rrDone]?).map (fun x => (x, s))
  | none => s.sinkVector site (match f with | .row r => 2 + r | .rerun _ => 4)

/-! ## One array takes one vector -/

/-- What an array lacks for its next entry. -/
inductive Lack where
  | nothing
  | stream
  | load
  | interlock
  deriving DecidableEq, Repr

/-- What array a lacks: a STREAM that is set up, a valid bank for a swap (R82), or the rows that earlier drains and zeros have still
to touch (R78). -/
def State.entryLack (s : State) (site a : Nat) : Lack :=
  let x := s.array site a
  match indexOf? (fun (w : Work) => w.kind.isStream) x.work with
  | none => .stream
  | some i =>
    match x.work[i]? with
    | some ⟨.stream swap, base, _, done⟩ =>
      if !s.arrayRunning site a then .stream
      else if swap && done == 0 && !(s.flag (bankValid site a (1 - s.get (MXA_STATUS.ACTIVE_BANK site a)))) then .load
      else if blocks x.work i (base + done) (fun k => !k.isStream) then .interlock
      else .nothing
    | _ => .stream

/-- The exact change of column j's sum that the faults of an entry make. -/
def columnDelta (faults : List EntryFault) (a j : Nat) : Int :=
  faults.foldl (fun d f => match f with | .column b c x => if b = a ∧ c = j then d + x else d | _ => d) 0

def parityFault (faults : List EntryFault) (a : Nat) : Bool :=
  faults.any (fun f => match f with | .parity b => b == a | _ => false)

/-- What one entry does in one array, before it is counted: the column sums with the faults added, and the tap. -/
structure EntrySum where
  cols : List ColumnSum
  tap : Acc
  flushed : Bool
  deriving DecidableEq, Repr

/-- The column sums and the tap of an entry (R72, R74): the tap is the exact sum of the 64 column sums. -/
def entrySum (anchor : Int) (t : BankTile) (v : ChainVector) (faults : List EntryFault) (a : Nat) : EntrySum :=
  let ws := t.weights
  let as := v.elems
  let cols := (below 64).map (fun j =>
    let c := columnSum anchor ws as j
    { c with v := c.v + columnDelta faults a j })
  ⟨cols, cols.foldl (fun (x : Acc) c => x + BitVec.ofInt 128 c.v) 0, cols.any (fun c => c.high != 0 || c.low != 0)⟩

/-- Count the flushes of an entry (R119, R124): the counters, the largest relative exponents, and FLUSH_SEEN. -/
def State.countFlushes (s : State) (site a : Nat) (e : EntrySum) : State :=
  if !e.flushed then s
  else
    let s := (s.addSat (MXA_FLUSH.HIGH site a) (sumNat (e.cols.map (·.high)))).addSat (MXA_FLUSH.LOW site a) (sumNat (e.cols.map (·.low)))
    let s := s.put (MXA_FLUSH_EXT.HIGH_MAX site a) (e.cols.foldl (fun m c => relMax m c.highRel) (s.get (MXA_FLUSH_EXT.HIGH_MAX site a)))
    let s := s.put (MXA_FLUSH_EXT.LOW_MAX site a) (e.cols.foldl (fun m c => relMax m c.lowRel) (s.get (MXA_FLUSH_EXT.LOW_MAX site a)))
    s.put (MXA_ARITH.FLUSH_SEEN site a) 1

/-- The tile that is filling takes one entry (R290, R292). -/
def fillTile (t : BankTile) (v : ChainVector) (anchor : Int) (mark parity : Bool) (bank : Option Nat) (tap chk : Nat) : List Tile → List Tile
  | [] => []
  | x :: l =>
    if x.closed then x :: fillTile t v anchor mark parity bank tap chk l
    else
      let x : Tile := if x.entries = 0 then
          { x with anchor := anchor, handle := t.handle, row := t.row, wfmt := t.wfmt, mxw := t.mxw, afmt := v.fmt, mxa := v.mxa, replay := bank }
        else x
      { x with
        marks := withBit x.marks x.entries mark
        entries := x.entries + 1
        o := if mark then x.o else addRes x.o tap
        c := if mark then x.c else addRes x.c chk
        parity := x.parity || parity
        closed := decide (x.count ≤ x.entries + 1) } :: l

/-- One vector enters one array and commits (R72 to R74, R77, R82, R84, R116, R216, R290 to R294): the new state and the residue
of the tap. tiled says that the entry belongs to a tile of its own. -/
def State.enterArray (s : State) (site a : Nat) (v : ChainVector) (faults : List EntryFault) (tiled : Bool) (bank : Option Nat) :
    State × Nat :=
  let x := s.array site a
  match indexOf? (fun (w : Work) => w.kind.isStream) x.work with
  | none => (s, 0)
  | some i =>
    match x.work[i]? with
    | some ⟨.stream swap, base, _, done⟩ =>
      let r := base + done
      let s := if swap && done == 0 then
          (s.setArray site a { x with loadedSinceSwap := false }).put (MXA_STATUS.ACTIVE_BANK site a) (1 - s.get (MXA_STATUS.ACTIVE_BANK site a))
        else s
      let t := s.activeTile site a
      let anchor := s.anchor site a
      let e := entrySum anchor t v faults a
      let tap := accRho anchor e.tap
      let poison := t.poison || v.poison
      let nonfin := v.nonfinite
      let mark := e.flushed || nonfin != 0 || t.nonfinite != 0 || poison
      let parity := parityFault faults a
      let s := s.countFlushes site a e
      let s := (s.addWrap (MXA_VECTORS.COUNT site a) 1).addSat (MXA_CHK_MARK.ENTRIES site a) 1
      let s := if mark then s.addSat (MXA_CHK_MARK.MARKED site a) 1 else s
      let s := s.nonfinite site a nonfin
      let s := if parity then
          ((s.put (MXA_STATUS.LAST_CODE site a) 0x0424).put (MXA_ERR.BANK_PARITY site a) 1).record
            { code := 0x0424, source := 1, node := site, unit := a }
        else s
      let x := s.array site a
      let old := x.row r
      let s := s.setArray site a { x with
        acc := putKey x.acc r ((below 64).map (fun j => nth 0 old j + BitVec.ofInt 128 (nth {} e.cols j).v)),
        accPoison := if poison then markIn x.accPoison r else x.accPoison,
        rowResidue := putKey x.rowResidue r (addRes (lookD 0 x.rowResidue r) tap),
        tiles := if tiled then fillTile t v anchor mark parity bank tap (checksum t.weights v.elems) x.tiles else x.tiles,
        work := stepWork x.work i }
      (s.arrayGo site a, tap)
    | _ => (s, 0)

/-! ## Recording (R299) -/

/-- The STREAM that a row's arrays are in is at its first entry. -/
def State.rowStarts (s : State) (site : Nat) (as : List Nat) : Bool :=
  match as with
  | [] => false
  | a :: _ => (((s.array site a).work.find? (fun w => w.kind.isStream)).map (fun w => w.done == 0)).getD false

/-- Record a vector of a row: a STREAM's first vector takes a free bank, where there is one; the bank's number, if any. -/
def State.recordVector (s : State) (site row : Nat) (as : List Nat) (v : ChainVector) : State × Option Nat :=
  let banks := s.replay site row
  if s.rowStarts site as then
    match indexOf? (fun (b : ReplayBank) => b.waiting == 0 && b.users == 0) banks with
    | none => (s, none)
    | some i => (s.setReplay site row (setNth banks i { waiting := as.length, users := 0, vecs := [v] }), some i)
  else
    let bank := match as with
      | [] => none
      | a :: _ => ((s.array site a).tiles.find? (fun t => !t.closed)).bind (·.replay)
    match bank with
    | none => (s, none)
    | some i => (s.setReplay site row (setNth banks i (let b : ReplayBank := nth {} banks i; { b with vecs := b.vecs ++ [v] })), some i)

/-- A tap of a re-run joins Rr of the site's running vote, where its entry is clear in MARKS (R301 step 5, R302). -/
def State.voteTap (s : State) (site : Nat) (f : EntryFeed) (taps : List (Nat × Nat)) : State :=
  match s.replaying site f, s.siteVotes site with
  | some _, v :: l =>
    let a := if v.deferred then v.array else v.rerun
    let tap := lookD 0 taps a
    let sum := if bit v.tile.marks v.rrDone then v.rrSum else addRes v.rrSum tap
    let n := v.rrDone + 1
    s.setVotes site ({ v with rrSum := sum, rrDone := n, rr := if n ≥ v.tile.count then some sum else v.rr } :: l)
  | _, _ => s

/-! ## ARRAY_ENTRY -/

/-- The vector enters every array of the feed. -/
def State.enterFeed (s : State) (site : Nat) (f : EntryFeed) (v : ChainVector) (faults : List EntryFault) : State :=
  let as := s.feedArrays site f
  let bad := as.filter (fun a => s.get (MXA_FMT.AFMT site a) != v.fmt || s.flag (MXA_FMT.MXA site a) != v.mxa)
  if !bad.isEmpty then bad.foldl (fun s a => s.reject site a 0x0420) s
  else
    let tiled : Bool := match f with | .row r => !s.deferredRow site r | .rerun _ => false
    let rec_ := match f with
      | .row r => if tiled then s.recordVector site r as v else (s, none)
      | .rerun _ => (s, none)
    let r := as.foldl (fun (acc : State × List (Nat × Nat)) a =>
      let y := acc.1.enterArray site a v faults tiled rec_.2
      (y.1, acc.2 ++ [(a, y.2)])) (rec_.1, [])
    r.1.voteTap site f r.2

/-- ARRAY_ENTRY (R68 to R74, R86, R92): the next vector of a feed enters in an issue slot, where the slot is free and not blocked
and every array of the feed can take it; an array that cannot is left waiting, and its row with it (R70). -/
def execArrayEntry (site : Nat) (feed : EntryFeed) (slot : Nat) (faults : List EntryFault) (s : State) :
    Host.Outcome State Fault Refusal :=
  let as := s.feedArrays site feed
  let d := s.die site
  if as.isEmpty || as.any (fun a => s.entryLack site a == .stream) || decide (slot < s.get (MXA_SLOT.SLOT site)) ||
      decide (slot < lookD 0 d.slots (feedKey feed)) then .next s
  else
    let s := s.reachSlot site slot
    if slotBlocked (s.get (MXA_THROTTLE.BLOCK site)) slot then .next (as.foldl (fun s a => s.arrayWait site a 4) s)
    else if as.any (fun a => s.entryLack site a != .nothing) then
      .next (as.foldl (fun s a =>
        s.arrayWait site a (match s.entryLack site a with | .load => 1 | .interlock => 2 | _ => 3)) s)
    else
      match s.feedVector site feed with
      | none => .next (as.foldl (fun s a => s.arrayWait site a 3) s)
      | some (v, s) =>
        let s := s.setDie site { s.die site with slots := putKey (s.die site).slots (feedKey feed) (slot + 1) }
        .next (s.enterFeed site feed v faults)

/-! ## The output path (R197, R594) -/

/-- The descriptor whose source takes the records of an endpoint. -/
def State.sourceStream (s : State) (site t : Nat) : Option Stream :=
  let d := s.die site
  if d.stopped then none
  else d.streams.find? (fun x => x.desc.srcT == t && x.srcStarted && decide (x.srcPos < x.desc.total))

/-- Put a record at the end of a descriptor's run-ahead queue, where the channel has room. -/
def State.enqueue (s : State) (site : Nat) (x : Stream) (data : List Nat) (poison : Bool) : Option State :=
  let d := s.die site
  if d.queued x.desc.ch + data.length > runAhead ∨ x.srcPos + data.length > x.desc.total then none
  else some (s.setDie site (d.setStream { x with queue := x.queue ++ [.data data poison], srcPos := x.srcPos + data.length }))

/-- Hand on the record of one array's row (R130 to R135, R148, R277). -/
def State.handOn (s : State) (site a : Nat) (h : HeldRow) : Option State :=
  let row := arrayRow a
  if h.dest = 0 then
    match s.sourceStream site (2 + row) with
    | none => none
    | some x =>
      let anchor := s.anchor site a
      let r := outputRecord (outWord x.desc.cvt) (h.vals.map (fun v => Num.fin (decide (v.toInt < 0)) (accValue anchor v)))
      (s.enqueue site x r.1 h.poison).map (fun s => s.setDie site { s.die site with sat := (s.die site).sat + r.2 })
  else if h.dest = 1 then
    match s.sourceStream site (4 + row) with
    | none => none
    | some x => s.enqueue site x (recordBytes h.vals) h.poison
  else some (s.localRecord site (s.get (if row = 0 then SIT_RED_DRAIN.TREE_N site else SIT_RED_DRAIN.TREE_S site)) h.vals h.poison)

/-- Hand on the front row of every array of a list, in order; none where one cannot leave. -/
def State.handAll (s : State) (site : Nat) : List Nat → Option State
  | [] => some s
  | a :: l =>
    match (s.array site a).held with
    | [] => none
    | h :: hs =>
      match s.handOn site a h with
      | none => none
      | some s => State.handAll (s.setArray site a { s.array site a with held := hs }) site l

/-- OUTPUT_RECORD_HANDOFF (R197): the records of one accumulator row leave in logical order, once every in-service array has
delivered the row and the destination has room for all of them. -/
def execOutputRecordHandoff (site row : Nat) (s : State) : Host.Outcome State Fault Refusal :=
  let as := s.rowArrays site row
  let front := as.map (fun a => (s.array site a).held.head?.map (fun h => (h.dest, h.row)))
  match front with
  | some k :: l => if l.all (fun x => x == some k) then .next ((s.handAll site as).getD s) else .next s
  | _ => .next s

end Sys2Proof.Machine
end

