-- ==== Sys2Proof/Machine/PassOps.lean ====
section
/-! DEFINITION. Operations over the running pass (05_sweeps.md R182 to R188): who takes part, the hub's messages, the CLEAR after the last
QUIET, and the words of reports and completion records. -/

namespace Sys2Proof.Machine

open Sys2Proof

/-! ## Participants and messages (R182) -/

/-- The participants of the running pass that the hub waits for: a fenced one answers no longer (R188). -/
def State.waiters (s : State) : List Nat := s.pass.parts.filter (fun x => !s.fenced x)

/-- A message of the hub to CC0 of every participant. -/
def State.toAll (s : State) (type : Nat) (ws : List Nat) : State := s.waiters.foldl (fun s x => s.hubMessage x 0 (hubWords type ws)) s

/-- Ring dies in service. -/
def State.ringIn (s : State) : List Nat := ((below 44).map (· + 169)).filter (fun n => s.flag (ringOkBit (n - 169)) && !s.fenced n)

/-- Step 1 of the drain (Table 5.5): PASS_END or PASS_ABORT to every CC0 and to every ring die, and the pass drains. -/
def State.startDrain (s : State) (type : Nat) : State :=
  let s := s.toAll type []
  let s := s.ringIn.foldl (fun s n => s.send (.unit type n [])) s
  { s.put HUB_PASS.STATE 4 with pass := { s.pass with quiet := [], cleared := false, empty := [], taken := [] } }

/-- The drain of a pass that wrote to host memory reads the last such address at length zero (R553). -/
def State.drainRead (s : State) : State :=
  match s.host.wrote with
  | none => s
  | some a =>
    let used := (s.host.reads ++ s.host.readWait).map (·.tag)
    let tag := ((below (used.length + 1)).find? (fun t => !used.contains t)).getD used.length
    let s : State := { s with host := { s.host with wrote := none, drain := some tag, reads := s.host.reads ++ [{ tag := tag, addr := a, n := 0 }] } }
    if s.flag HUB_PCIE.BME then s.send (.hostRead a 0 tag) else { s with host := { s.host with held := s.host.held ++ [.hostRead a 0 tag] } }

/-- CLEAR (0x14) goes out after the last QUIET and the end of every deferred vote (Table 5.5, R302). -/
def State.maybeClear (s : State) : State :=
  if s.get HUB_PASS.STATE = 4 ∧ s.pass.running ∧ ¬ s.pass.cleared ∧ s.waiters.all (fun x => s.pass.quiet.contains x) ∧
      s.votes.all (fun p => p.2.isEmpty) then
    { (s.toAll 0x14 []).drainRead with pass := { s.pass with cleared := true } }
  else s

/-! ## Sweep reports (R126, R127, R154, R179, Table 3.6) -/

/-- The partial report of a die, added to a sum: the counters of its in-service logical arrays, of its vector cores (in pairs those of
the primary), and its saturated outputs. -/
def State.addPartial (s : State) (site : Nat) (r : SweepSum) : SweepSum :=
  let as := s.rowArrays site 0 ++ s.rowArrays site 1
  let vs := (below 4).filter (fun v => !(s.paired site && v % 2 == 1))
  let r := as.foldl (fun (r : SweepSum) a =>
    { r with low := r.low + s.get (MXA_FLUSH.LOW site a), high := r.high + s.get (MXA_FLUSH.HIGH site a),
             nonfinite := r.nonfinite + s.get (MXA_ARITH.NONFINITE site a),
             arraysHigh := r.arraysHigh + b2n (decide (0 < s.get (MXA_FLUSH.HIGH site a))),
             highMax := relMax r.highMax (s.get (MXA_FLUSH_EXT.HIGH_MAX site a)), lowMax := relMax r.lowMax (s.get (MXA_FLUSH_EXT.LOW_MAX site a)) }) r
  let r := vs.foldl (fun (r : SweepSum) v =>
    { r with satOut := r.satOut + s.get (VCO_ARITH.SAT site v), nonfinite := r.nonfinite + s.get (VCO_ARITH.NAN_STORE site v) }) r
  { r with satOut := r.satOut + (s.die site).sat }

/-- Marked entries and all entries of a die's sweep (R296). -/
def State.markedOf (s : State) (site : Nat) : Nat × Nat :=
  let as := s.rowArrays site 0 ++ s.rowArrays site 1
  (sumNat (as.map (fun a => s.get (MXA_CHK_MARK.MARKED site a))), sumNat (as.map (fun a => s.get (MXA_CHK_MARK.ENTRIES site a))))

/-- The flags of a sweep report. -/
def SweepSum.flags (r : SweepSum) (limit : Nat) : Nat :=
  b2n (decide (0 < r.low)) + 2 * b2n (decide (limit < r.high)) + 4 * b2n (decide (0 < r.nonfinite)) + 8 * b2n (decide (0 < r.satOut))

/-- The four words of a sweep report record. -/
def SweepSum.words (r : SweepSum) (sweep anchor limit : Nat) : List Word :=
  [withField (withField (withField (withField 0 63 48 sweep) 47 32 (sat 0xFFFF r.arraysHigh)) 31 16 anchor) 3 0 (r.flags limit),
   word (sat (2 ^ 64 - 1) r.low),
   withField (withField 0 63 32 (sat 0xFFFFFFFF r.high)) 31 0 (sat 0xFFFFFFFF r.nonfinite),
   withField (withField (withField 0 63 32 (sat 0xFFFFFFFF r.satOut)) 31 16 r.highMax) 15 0 r.lowMax]

/-- The bytes of words, little-endian. -/
def wordBytes (ws : List Word) : List Nat := ws.flatMap (fun w => leBytes 8 w.toNat)

/-! ## Completion records (R178, R180, Table 5.2) -/

/-- Energy metered at the input in mJ (R398, R400): the meter counts units of 10 pJ. -/
def State.energyIn (s : State) : Nat := s.power.eIn / 100000000

/-- The energy of the running pass in mJ (R400). -/
def State.passEnergy (s : State) : Nat := s.energyIn - s.pass.energyAt

/-- The completion record of the running pass at its boundary, without PHASE. -/
def State.passRecord (s : State) : List Word :=
  let p := s.pass
  [withField (withField (withField (withField 0 62 56 1) 55 48 p.status) 47 32 p.code) 31 0 p.tag,
   word p.admitTime,
   word s.isobar,
   withField (withField (withField 0 63 48 (s.get HUB_PASS.TEMPLATE)) 47 32 p.sweepsDone) 31 0 (sat 0xFFFFFFFF s.passEnergy),
   word p.seq,
   withField (withField (withField 0 63 56 p.faultSite) 47 16 (sat 0xFFFFFFFF p.nonfinite)) 3 0 p.flags,
   word (sat (2 ^ 64 - 1) p.lowTotal),
   withField (withField 0 63 32 (sat 0xFFFFFFFF p.highTotal)) 31 0 (sat 0xFFFFFFFF p.satTotal)]

/-- The record of a MARKER or of an entry that was never run: zero in words 1 to 7 except PASS_SEQ (R178, log entry 11). -/
def State.plainRecord (s : State) (status code tag : Nat) : List Word :=
  [withField (withField (withField (withField 0 62 56 1) 55 48 status) 47 32 code) 31 0 tag, 0, 0, 0, word s.pass.seq, 0, 0, 0]

/-- A record joins those that wait for its queue's ring. -/
def State.complete (s : State) (q : Nat) (ws : List Word) (irq ok : Bool) : State :=
  { s with completions := s.completions ++ [⟨q, ws, irq, ok⟩] }

/-- The completion ring of a queue is full (R180); it counts as full while Bus Master Enable is 0 (R552). -/
def State.ringFull (s : State) (q : Nat) : Bool :=
  !s.flag HUB_PCIE.BME || (s.get (CQ_PTR.TAIL q) + 1) % 2 ^ s.get (SQ_CTRL.CQ_LOG2 q) == s.get (CQ_PTR.HEAD q)

/-- The entry of a queue has not been admitted yet (R175). -/
def State.queued (s : State) (q : Nat) : Bool := s.get (SQ_DB.TAIL q) != s.get (SQ_STATE.HEAD q)

/-- Word i of submission slot n of a queue (R175). -/
def State.slotWord (s : State) (q n i : Nat) : Nat :=
  let a := q * 0x10000 + 64 * n + 8 * i
  ofLe ((below 8).map (fun k => (lookD 0 s.slots (a + k)).toNat))

/-- Word i of the head entry of a queue. -/
def State.headWord (s : State) (q i : Nat) : Nat := s.slotWord q (s.get (SQ_STATE.HEAD q)) i

/-- The head entry of a queue is taken. -/
def State.takeHead (s : State) (q : Nat) : State := s.put (SQ_STATE.HEAD q) ((s.get (SQ_STATE.HEAD q) + 1) % 1024)

end Sys2Proof.Machine
end

