-- ==== Sys2Proof/Machine/Sundog.lean ====
section
/-! DEFINITION. The Sundog checker's commands (08_sundog.md): the comparison of a tile, the three-way vote, the vote log, and the
windows in which a Barograph record is read. -/

namespace Sys2Proof.Machine

open Sys2Proof

/-! ## Vote detail words (Table 8.4) -/

/-- The residue C′ that the requester's vote area holds, where RESULT is VALID (Table 8.2). -/
def voteArea (site off : Nat) : Nat := mkPpa 0 site (0xFFF0000 + off)
def State.voteWord (s : State) (site off : Nat) : Nat := ofLe (s.readMem (voteArea site off) 8).1
def State.cPrime (s : State) (site : Nat) : Option Nat :=
  let w := s.voteWord site 0x80
  if bit w 63 then some (bits w 60 0) else none

/-- Words D0 to D9 of a vote about a tile of an array with an outcome. -/
def State.voteDetails (s : State) (site a : Nat) (t : Tile) (partner rerun : Nat) (rr cp : Nat) (outcome : Nat) : List Nat :=
  let d0 := a * 2 ^ 59 + s.logicalOf site a * 2 ^ 55 + t.pc * 2 ^ 46 + t.rep % 2 ^ 16 * 2 ^ 30 + t.handle * 2 ^ 22 + t.row % 2 ^ 22
  let d5 := partner * 2 ^ 56 + rerun * 2 ^ 48 + outcome * 2 ^ 40 + sat 255 (popCount 256 t.marks) * 2 ^ 32 + t.count * 2 ^ 23
  [d0, t.o, t.c, rr, cp, d5] ++ (below 4).map (fun k => bits t.marks (64 * k + 63) (64 * k))

/-- Write words to this site's own vote area. -/
def State.writeOwn (s : State) (site off : Nat) (ws : List Nat) : State := s.storeKey (voteArea site off) (ws.flatMap (leBytes 8)) false

/-- OUT of the site's running vote (Table 8.2). -/
def State.writeOut (s : State) (site : Nat) (details : List Nat) : State := s.writeOwn site 0 (details ++ List.replicate 6 0)

/-- The detail words of a vote as it stands. -/
def State.detailsOf (s : State) (site : Nat) (v : Vote) (outcome : Nat) : List Nat :=
  s.voteDetails site v.array v.tile v.partner (if v.deferred then v.array else v.rerun) (v.rr.getD 0) ((s.cPrime site).getD 0) outcome

/-- OPEN of the site and of the panel follow the open votes. -/
def State.openVotes (s : State) (site : Nat) : State :=
  let s := s.put (SDG_SITE.OPEN site) (s.siteVotes site).length
  s.putSat SDG_STATUS.OPEN (sumNat (s.votes.map (fun p => p.2.length)))

/-! ## Beginning a vote (R301 step 3) -/

/-- The chain beats of a vector: 64 data bytes and 4 scale bytes each (R68). -/
def vectorBeats (v : ChainVector) : List (List Nat × List Nat) :=
  let w := formatWidth v.fmt
  let k := classK (formatClass v.fmt)
  let n := k * w / 8
  let d := v.bytes.take n ++ List.replicate (if n ≤ 64 then 64 - n else 128 - n) 0
  let sc := v.bytes.drop n
  (groups 64 d).zipIdx.map (fun p => (p.1, if p.2 = 0 then (sc ++ List.replicate 4 0).take 4 else List.replicate 4 0))

/-- Write bytes to a place of the partner's vote area: as WRITE packets, or directly where the site is its own partner. -/
def State.writeVote (s : State) (site dest off : Nat) (data : List Nat) (poison : Bool) : State :=
  if dest = site then s.storeKey (voteArea site off) data poison
  else (pieces (voteArea dest off) data.length).foldl (fun s q =>
    (s.issue site .none dest true q.1 q.2 ((data.drop (q.1 - voteArea dest off)).take q.2) poison none none).1) s

/-- The running vote begins: OUT is written, RESULT cleared, and the tile's weight beats and frozen activation beats go to the partner's
IN area, the header last. -/
def State.beginVote (s : State) (site : Nat) : State :=
  match s.siteVotes site with
  | [] => s
  | v :: l =>
    if v.begun then s
    else
      let p := s.partner site
      let rr := if v.deferred then v.array else v.rerun
      let v : Vote := { v with begun := true, partner := p.getD 0xFF, rerun := rr }
      let s := s.setVotes site (v :: l)
      let s := (s.writeOut site (s.detailsOf site v 0)).writeOwn site 0x80 [0]
      let t := v.tile
      let b := tileBeats t.wfmt t.mxw
      let w := s.readMem (mkPpa 0 site (64 * t.row)) (64 * b)
      let vecs := (nth {} (s.replay site (arrayRow v.array)) v.bank).vecs
      let beats := vecs.flatMap vectorBeats
      let dest := p.getD site
      let s := s.writeVote site dest 0x200 w.1 w.2
      let s := s.writeVote site dest 0x2200 (beats.flatMap (·.1)) false
      let s := s.writeVote site dest 0xA200 (beats.flatMap (·.2)) false
      let h := 2 ^ 63 + site * 2 ^ 48 + t.wfmt * 2 ^ 44 + t.afmt * 2 ^ 40 + b2n t.mxw * 2 ^ 39 + b2n t.mxa * 2 ^ 38 + t.count * 2 ^ 23 + b * 2 ^ 8 +
        (if formatClass t.afmt = 16 then 2 else 1)
      s.writeVote site dest 0x100 (([h, 0, 0, 0] ++ (below 4).map (fun k => bits t.marks (64 * k + 63) (64 * k))).flatMap (leBytes 8)) false

/-! ## Ending a vote (R304 to R307, R318) -/

/-- A user of a replay bank leaves it (R299). -/
def State.releaseBank (s : State) (site row i : Nat) (waiting : Bool) : State :=
  let l := s.replay site row
  let b : ReplayBank := nth {} l i
  s.setReplay site row (setNth l i (if waiting then { b with waiting := b.waiting - 1 } else { b with users := b.users - 1 }))

/-- A suspect mark of a site's checker (R307): SUSPECT, the sites with marks, and the retirement at SUSPECT_LIMIT. -/
def State.suspect (s : State) (site : Nat) : State :=
  let first := s.get (SDG_SITE.SUSPECT site) == 0
  let s := s.addSat (SDG_SITE.SUSPECT site) 1
  let s := if first then s.addSat SDG_STATUS.SUSPECT_SITES 1 else s
  if s.get (SDG_SITE.SUSPECT site) ≥ s.get SDG_CFG.SUSPECT_LIMIT then s.decideRetire ⟨site, 0x0405, false, true⟩ else s

/-- The last code of Table 8.10 raised. -/
def State.sdgCode (s : State) (code : Nat) : State := s.put SDG_STATUS.LAST_CODE code

/-- One record and one log entry for a vote that ends (R318, R319), the counts, and the next vote of the site. -/
def State.endVote (s : State) (site : Nat) (v : Vote) (outcome code action : Nat) (corrected : Bool) : State :=
  let d := s.detailsOf site v outcome
  let s := s.writeOut site d
  let s := s.setVotes site ((s.siteVotes site).drop 1)
  let s := s.releaseBank site (arrayRow v.array) v.bank false
  let s := s.record { code := code, source := 1, node := site, unit := v.array, action := action, corrected := corrected, details := d }
  let s := s.pushLog SDG_VOTE_LOG.REG (withField (withField (withField (withField 0 55 48 site) 47 43 v.array) 39 32 outcome) 31 16
    (if outcome = 5 then 0 else code))
  let s := (s.addWrap SDG_TOTALS.VOTES 1).addSat (SDG_SITE.VOTES site) 1
  ((s.openVotes site).irq site 1 9).maybeClear

/-- Cancel every open vote of a site (R306): each makes its record and log entry with OUTCOME 5. -/
def State.cancelVotes (site : Nat) : Nat → State → State
  | 0, s => s
  | n + 1, s =>
    match s.siteVotes site with
    | [] => s
    | v :: _ => State.cancelVotes site n (s.endVote site v 5 0x0401 0 false)

/-! ## TILE_COMPARE -/

/-- A disagreement of a tile opens a vote, where it was recorded and fewer than eight are open (R299, R300). -/
def State.openVote (s : State) (site a : Nat) (t : Tile) : State :=
  let s := ((s.addSat (MXA_CHK.MISMATCH site a) 1).put (MXA_STATUS.LAST_CODE site a) 0x0401).sdgCode 0x0401
  let fail := fun (s : State) =>
    let d := s.voteDetails site a t ((s.partner site).getD 0xFF) a 0 0 0
    ((s.sdgCode 0x0406).record { code := 0x0406, source := 1, node := site, unit := a, action := s.abortBit, details := d }).abortPass 0x0406 site
  match t.replay with
  | none => fail s
  | some b =>
    let s := s.releaseBank site (arrayRow a) b true
    if (s.siteVotes site).length ≥ 8 then fail s
    else
      let l := s.replay site (arrayRow a)
      let bank : ReplayBank := nth {} l b
      let s := s.setReplay site (arrayRow a) (setNth l b { bank with users := bank.users + 1 })
      let spare := (below 18).find? (fun x => s.get (MXA_STATUS.STATE site x) == 4 && s.rowOn site (arrayRow x))
      let v : Vote := { array := a, tile := t, partner := (s.partner site).getD 0xFF, rerun := spare.getD a, bank := b, deferred := spare.isNone }
      ((s.setVotes site (s.siteVotes site ++ [v])).openVotes site).irq site 1 9 |>.beginVote site

/-- TILE_COMPARE (R84, R293, R295): the first closed tile of an array is compared; a parity error counts as a disagreement. -/
def execTileCompare (site a : Nat) (s : State) : Host.Outcome State Fault Refusal :=
  let x := s.array site a
  match x.tiles with
  | [] => .next s
  | t :: ts =>
    if !t.closed then .next s
    else
      let s := s.setArray site a { x with tiles := ts }
      let done := fun (s : State) => match t.replay with | some b => s.releaseBank site (arrayRow a) b true | none => s
      if !s.flag SDG_STATUS.CHECK_ACTIVE then .next (done s)
      else if t.parity then .next (s.openVote site a t)
      else if popCount 256 t.marks = t.entries then .next (done s)
      else if t.o = t.c then .next (done (s.addSat (MXA_CHK.TILES site a) 1))
      else .next (s.openVote site a t)

/-! ## The partner's answer (R301 step 4) -/

/-- The vectors that an IN area holds: COUNT vectors of one or two chain beats. -/
def State.inVectors (s : State) (site afmt : Nat) (mxa : Bool) (count : Nat) : List ChainVector :=
  let w := formatWidth afmt
  let k := classK (formatClass afmt)
  let z := k * w / 8
  let beats := if formatClass afmt = 16 then 2 else 1
  (below count).map (fun i =>
    let d := (s.readMem (voteArea site (0x2200 + 64 * beats * i)) (64 * beats)).1
    let sc := (s.readMem (voteArea site (0xA200 + 4 * beats * i)) 4).1
    ⟨afmt, mxa, d.take z ++ (if mxa then sc.take (k / 32) else []), false⟩)

/-- VOTE_CPRIME_DONE (R301 step 4): the checker of a site computes C′ from its IN area over the entries clear in MARKS, writes RESULT
at the requester and clears its own IN VALID. -/
def execVoteCprimeDone (site : Nat) (s : State) : Host.Outcome State Fault Refusal :=
  let h := s.voteWord site 0x100
  if !bit h 63 || !(s.gelatUp site) then .next s
  else
    let wfmt := bits h 47 44
    let t : BankTile := ⟨(s.readMem (voteArea site 0x200) (64 * bits h 15 8)).1, wfmt, bit h 39, false, 0, 0⟩
    let vs := s.inVectors site (bits h 43 40) (bit h 38) (bits h 31 23)
    let ws := t.weights
    let marks := (below 4).foldl (fun m k => m + s.voteWord site (0x120 + 8 * k) * 2 ^ (64 * k)) 0
    let c := vs.zipIdx.foldl (fun c p => if bit marks p.2 then c else addRes c (checksum ws p.1.elems)) 0
    let req := bits h 55 48
    let s := s.writeOwn site 0x100 [bits h 62 0]
    .next (s.writeVote site req 0x80 (leBytes 8 (2 ^ 63 + c) ++ List.replicate 56 0) false)

/-! ## The decision (R304) -/

/-- The outcome of three results (Table 8.5). -/
def voteOutcome (o rr cp : Nat) : Nat := if rr = o then 1 else if rr = cp then 2 else if o = cp then 3 else 4

/-- What an outcome does beyond the record: retirements, marks, and the pass. -/
def State.voteEffect (s : State) (site : Nat) (v : Vote) (outcome : Nat) : State :=
  match outcome with
  | 1 => ((s.sdgCode 0x0405).endVote site v 1 0x0405 0 true).suspect site
  | 2 => (((s.sdgCode 0x0404).endVote site v 2 0x0404 (s.discardBit + 4) false).discardPass 0x0404).retireArray site v.array
  | 3 =>
    let s := (s.sdgCode 0x040A).endVote site v 3 0x040A (if v.deferred then 0 else 4) true
    let s := if v.deferred then s else s.retireArray site v.rerun
    (s.sdgCode 0x0405).suspect site
  | _ => ((s.sdgCode 0x0403).endVote site v 4 0x0403 s.abortBit false).abortPass 0x0403 site

/-- VOTE_DECIDE (R301 step 6, R304): once O, Rr and C′ of the site's running vote are known. -/
def execVoteDecide (site : Nat) (s : State) : Host.Outcome State Fault Refusal :=
  match s.siteVotes site with
  | [] => .next s
  | v :: _ =>
    match v.rr, s.cPrime site with
    | some rr, some cp => .next ((s.voteEffect site v (voteOutcome v.tile.o rr cp)).beginVote site)
    | _, _ => .next s

/-- VOTE_TIMEOUT (R305): the site's running vote was not decided within VOTE_LIMIT. -/
def execVoteTimeout (site : Nat) (s : State) : Host.Outcome State Fault Refusal :=
  match s.siteVotes site with
  | [] => .next s
  | v :: _ => .next ((((s.sdgCode 0x0407).endVote site v 6 0x0407 s.abortBit false).abortPass 0x0407 site).beginVote site)

/-- SDG_VOTE_LOG_READ (R319). -/
def execSdgVoteLogRead (who : Requester) (bytes half : Nat) (s : State) : Host.Outcome State Fault Refusal :=
  s.readAtHub who (SDG_VOTE_LOG.REG + 4 * half) bytes <|
  let r := s.readLog SDG_VOTE_LOG.REG bytes half
  .next (r.2.send (.readData who (SDG_VOTE_LOG.REG + 4 * half) bytes r.1.toNat false))

/-! ## Reading a Barograph record (R316, R317) -/

/-- Two binary-coded decimal digits. -/
def bcd (n : Nat) : Nat := n / 10 % 10 * 16 + n % 10

/-- Year, month and day of a day number counted from 1 January 1970 (the civil calendar). -/
def civil (days : Nat) : Nat × Nat × Nat :=
  let z := days + 719468
  let era := z / 146097
  let doe := z % 146097
  let yoe := (doe - doe / 1460 + doe / 36524 - doe / 146096) / 365
  let doy := doe - (365 * yoe + yoe / 4 - yoe / 100)
  let mp := (5 * doy + 2) / 153
  let d := doy - (153 * mp + 2) / 5 + 1
  let m := if mp < 10 then mp + 3 else mp - 9
  (yoe + era * 400 + (if m ≤ 2 then 1 else 0), m, d)

/-- The CPER timestamp of an Isobar count (R317, R459, R460): UTC in the binary-coded decimal form of the UEFI specification. -/
def State.cperTime (s : State) (time : Nat) : List Nat :=
  let sec := ((s.reg ISB_EPOCH.REG).toNat + 10 * time) / 1000000000 - s.get ISB_PTP_STAT.UTC_OFFSET
  let c := civil (sec / 86400)
  let r := sec % 86400
  [bcd (r % 60), bcd (r / 60 % 60), bcd (r / 3600), 1, bcd c.2.2, bcd c.2.1, bcd (c.1 % 100), bcd (c.1 / 100)]

/-- A GUID in EFI_GUID byte order from its five parts. -/
def guid (a b c d e : Nat) : List Nat := leBytes 4 a ++ leBytes 2 b ++ leBytes 2 c ++ (leBytes 2 d).reverse ++ (leBytes 6 e).reverse

/-- The CPER form of a record's 16 words (Table 8.9). -/
def State.cper (s : State) (rec_ : List Word) : List Nat :=
  let w := fun (i : Nat) => (nth 0 rec_ i).toNat
  let sev := nth 3 [3, 2, 0, 1] (bits (w 0) 47 40)
  let locked := s.flag ISB_PTP_STAT.LOCKED
  let node := bits (w 0) 31 24
  let id := leBytes 8 (s.reg HUB_IDENT.REG).toNat ++ leBytes 8 (s.reg HUB_SERIAL.REG).toNat
  [0x43, 0x50, 0x45, 0x52] ++ leBytes 2 0x0101 ++ leBytes 4 0xFFFFFFFF ++ leBytes 2 1 ++ leBytes 4 sev ++
  leBytes 4 (1 + 2 * b2n locked) ++ leBytes 4 344 ++ (if locked then s.cperTime (w 2) else List.replicate 8 0) ++ id ++ List.replicate 16 0 ++
  guid 0x5B9D2E71 0x0C48 0x4A1F 0x9E36 0xD7A40B1C8E25 ++ guid 0x3F6A8C14 0x92D7 0x4E05 0xA1B3 0x6C2E5F09D7A8 ++
  leBytes 8 (w 2) ++ List.replicate 24 0 ++
  leBytes 4 200 ++ leBytes 4 144 ++ leBytes 2 0x0100 ++ [3, 0] ++ leBytes 4 1 ++ guid 0x7C1E0A52 0x4D3B 0x4F96 0xB8A1 0x2E60C9D4F317 ++
  id ++ leBytes 4 sev ++ "LVT-E9P-144 N".toList.map Char.toNat ++ [0x30 + node / 100, 0x30 + node / 10 % 10, 0x30 + node % 10, 0, 0, 0, 0] ++
  leBytes 2 1 ++ leBytes 2 128 ++ List.replicate 4 0 ++ leBytes 8 (w 1) ++ (below 16).flatMap (fun i => leBytes 8 (w i))

/-- BAR_RD_SEQ_WRITE (R316): the record and its CPER form into the windows, zero where the ring does not hold it. -/
def execBarRdSeqWrite (_who : Requester) (value : Nat) (s : State) : Host.Outcome State Fault Refusal :=
  s.atDawn <|
  let s := s.setReg BAR_RD_SEQ.REG (word value)
  let hit := look s.baro (value % 2 ^ 64)
  let rec_ := hit.getD (List.replicate 16 0)
  let cper := match hit with | some r => s.cper r | none => List.replicate 344 0
  let s := (below 16).foldl (fun s i => s.setReg (BAR_REC.REG i) (nth 0 rec_ i)) s
  let s := (groups 8 cper).zipIdx.foldl (fun s p => s.setReg (BAR_CPER.REG p.2) (word (ofLe p.1))) s
  .next (s.put BAR_STATUS.RD_HIT (b2n hit.isSome))

end Sys2Proof.Machine
end

