-- ==== Sys2Proof/Machine/Vector.lean ====
section
/-! DEFINITION. The vector cores' programs (04_cores.md R136 to R159): the instruction word, what each instruction computes, checked
pairs, faults, and the meanings of the vector rows. -/

namespace Sys2Proof.Machine

open Sys2Proof

/-! ## The instruction word (Table 4.1) -/

structure VecWord where
  op : Nat
  d : Nat
  a : Nat
  b : Nat
  mask : Nat
  fn : Nat
  sb : Nat
  imm : Nat
  deriving DecidableEq, Repr

def decodeVec (w : Nat) : VecWord :=
  ⟨bits w 63 58, bits w 57 53, bits w 52 48, bits w 47 43, bits w 42 40, bits w 39 36, bits w 35 32, bits w 31 0⟩

/-- The fields that an instruction does not use are 0: the flags say which of D, A, B, MK, FN, S and IMM it uses. -/
def VecWord.unused (w : VecWord) (d a b m fn sb imm : Bool) : Bool :=
  (d || w.d == 0) && (a || w.a == 0) && (b || w.b == 0) && (m || w.mask == 0) && (fn || w.fn == 0) && (sb || w.sb == 0) && (imm || w.imm == 0)

/-- Formats that VLD takes (R146). -/
def vldFormat (f : Nat) : Bool := decide (f ≤ 8) || f == 0xB

/-- A word that R144, R145 and R152 accept. -/
def VecWord.ok (w : VecWord) : Bool :=
  match w.op with
  | 0x00 => w.unused false false false false false false false
  | 0x01 => w.unused false false false false false false false
  | 0x02 | 0x03 | 0x04 | 0x06 | 0x07 | 0x10 | 0x11 | 0x12 | 0x21 => w.unused true true true true false false false
  | 0x05 => w.unused true true true true false false true && decide (w.imm < 32)
  | 0x08 => w.unused true true false true true false false && decide (w.fn ≤ 5)
  | 0x09 => w.unused true true false true true false false && decide (w.fn ≤ 4)
  | 0x13 => w.unused true true true true true false false && decide (w.fn ≤ 5)
  | 0x14 => w.unused true true false true true false false && decide (w.fn ≤ 1)
  | 0x18 => w.unused true true true true true false false && decide (w.fn ≤ 3) && decide (1 ≤ w.d) && decide (w.d ≤ 7)
  | 0x19 => w.unused true true true true true false false && decide (w.fn ≤ 2) && decide (1 ≤ w.d) && decide (w.d ≤ 7)
  | 0x1A => w.unused true true true true false false true && decide (w.imm < 8)
  | 0x20 => w.unused true false false true true (w.fn == 1) (w.fn == 0) && decide (w.fn ≤ 1)
  | 0x22 => w.unused true true false true false false true && decide (w.imm < 256)
  | 0x28 | 0x29 => w.unused true true false true false false false
  | 0x30 => w.unused true false false false true true true && vldFormat w.fn
  | 0x31 => w.unused true false false false false true true
  | 0x32 => w.unused false true false false true true true
  | 0x33 => w.unused true false false false true true true
  | 0x38 => w.unused true false false false false false true && decide (1 ≤ w.d) && decide (w.d ≤ 15)
  | 0x39 => w.unused true true false false false false true && decide (1 ≤ w.d) && decide (w.d ≤ 15) && decide (w.a ≤ 15)
  | 0x3A => w.unused false true false false false false true && decide (w.a ≤ 15) && decide (w.imm ≤ 4095)
  | 0x3B => w.unused false false false false false false true && decide (w.imm ≤ 4095)
  | 0x3C | 0x3D => w.unused false false false false true false true && decide (w.fn ≤ 3) && decide (w.imm < 0x10000)
  | _ => false

/-! ## Registers of a core (R137) -/

def zeroLanes : List Lane := List.replicate 128 0#32

def VectorState.lanes (x : VectorState) (r : Nat) : List Lane := lookD zeroLanes x.v r

/-- Mask m0 reads all ones. -/
def VectorState.mask (x : VectorState) (r : Nat) : BitVec 128 := if r = 0 then BitVec.allOnes 128 else lookD 0#128 x.m r

/-- Scalar s0 reads 0. -/
def VectorState.scalar (x : VectorState) (r : Nat) : Nat := if r = 0 then 0 else (lookD 0#64 x.s r).toNat

/-! ## What an instruction does -/

/-- The effect of an instruction on its core: at most one register of each kind, a store, a token sent, a token taken, a
jump, and its counts. -/
structure VecResult where
  vec : Option (Nat × List Lane) := none
  mask : Option (Nat × BitVec 128) := none
  scal : Option (Nat × Nat) := none
  store : Option (Nat × List Nat) := none
  signal : Option (Nat × Nat) := none
  take : Option (Nat × Nat) := none
  jump : Option Nat := none
  sats : Nat := 0
  nans : Nat := 0
  deriving DecidableEq, Repr

/-- How an instruction ends: with its effect, rejected with a code, waiting, or as the end of the program. -/
inductive VecOut where
  | done (r : VecResult)
  | reject (code : Nat)
  | wait
  | finish
  deriving DecidableEq, Repr

/-- Write lanes under the mask: lanes that are off keep their contents (R145). -/
def VectorState.masked (x : VectorState) (w : VecWord) (l : List Lane) : VecOut :=
  let old := x.lanes w.d
  let m := x.mask w.mask
  .done { vec := some (w.d, (below 128).map (fun i => if m.getLsbD i then nth 0#32 l i else nth 0#32 old i)) }

/-- An instruction of two lane operands. -/
def binary (f : Lane → Lane → Lane) (x : VectorState) (w : VecWord) : VecOut :=
  x.masked w ((x.lanes w.a).zip (x.lanes w.b) |>.map (fun p => f p.1 p.2))

/-- An instruction of one lane operand. -/
def unary (f : Lane → Lane) (x : VectorState) (w : VecWord) : VecOut := x.masked w ((x.lanes w.a).map f)

def vecFma (x : VectorState) (w : VecWord) : VecOut :=
  x.masked w (((x.lanes w.a).zip ((x.lanes w.b).zip (x.lanes w.imm))).map (fun p => laneFma p.1 p.2.1 p.2.2))

/-- FUN (Table 4.2). -/
def laneFun (fn : Nat) (a : Lane) : Lane :=
  match fn with
  | 0 => if isNanLane a then nanLane else a &&& 0x7FFFFFFF#32
  | 1 => if isNanLane a then nanLane else laneNeg a
  | 2 => laneIntegral 3 a
  | 3 => laneIntegral 2 a
  | 4 => laneIntegral 0 a
  | _ => laneIntegral 1 a

/-- ILOG (Table 4.2): shifts count by b[4:0]. -/
def laneLog (fn : Nat) (a b : Lane) : Lane :=
  let n := b.toNat % 32
  match fn with
  | 0 => a &&& b
  | 1 => a ||| b
  | 2 => a ^^^ b
  | 3 => a <<< n
  | 4 => a >>> n
  | _ => a.sshiftRight n

def laneCvt (fn : Nat) (a : Lane) : Lane := if fn = 0 then laneToInt a else laneOfInt a

/-- A compare writes a mask register, where the governing mask has its lane on. -/
def compare (f : Lane → Lane → Bool) (x : VectorState) (w : VecWord) : VecOut :=
  let l := (x.lanes w.a).zip (x.lanes w.b)
  let m := x.mask w.mask
  let old := x.mask w.d
  .done { mask := some (w.d, BitVec.ofNat 128 (maskOf ((below 128).filter (fun i =>
    if m.getLsbD i then f (nth (0#32, 0#32) l i).1 (nth (0#32, 0#32) l i).2 else old.getLsbD i)))) }

def fcmpHolds (fn : Nat) (a b : Lane) : Bool :=
  match fn with
  | 0 => laneEq a b
  | 1 => laneLt false a b
  | 2 => laneLt false a b || laneEq a b
  | _ => isNanLane a || isNanLane b

def icmpHolds (fn : Nat) (a b : Lane) : Bool :=
  match fn with
  | 0 => a == b
  | 1 => BitVec.slt a b
  | _ => BitVec.sle a b

def vecSel (x : VectorState) (w : VecWord) : VecOut :=
  let m := x.mask w.imm
  x.masked w ((below 128).map (fun i => if m.getLsbD i then nth 0#32 (x.lanes w.a) i else nth 0#32 (x.lanes w.b) i))

def vecBcast (x : VectorState) (w : VecWord) : VecOut :=
  x.masked w (List.replicate 128 (lane (if w.fn = 0 then w.imm else x.scalar w.sb)))

def vecPerm (x : VectorState) (w : VecWord) : VecOut :=
  let a := x.lanes w.a
  x.masked w ((x.lanes w.b).map (fun i => nth 0#32 a (i.toNat % 128)))

def vecLshift (x : VectorState) (w : VecWord) : VecOut :=
  let a := x.lanes w.a
  let k := signed 8 w.imm
  x.masked w ((below 128).map (fun (i : Nat) =>
    let j : Int := (i : Int) + k
    if 0 ≤ j ∧ j < 128 then nth 0#32 a j.toNat else 0#32))

/-- A lane reduction (R143): the result is in every lane of VD; lanes that are off contribute the neutral value. -/
def reduce (f : Lane → Lane → Lane) (off : Lane) (x : VectorState) (w : VecWord) : VecOut :=
  let m := x.mask w.mask
  let a := x.lanes w.a
  let r := treeReduce f 7 ((below 128).map (fun i => if m.getLsbD i then nth 0#32 a i else off))
  .done { vec := some (w.d, List.replicate 128 r) }

/-- The address of a memory instruction (R149): s[S] + IMM, a multiple of an alignment, n bytes inside the scratch. -/
def VectorState.address (x : VectorState) (w : VecWord) (align n : Nat) : Option Nat :=
  let a := x.scalar w.sb + w.imm
  if a % align = 0 ∧ a + n ≤ scratchSize then some a else none

def vecVld (x : VectorState) (w : VecWord) : VecOut :=
  let b := formatWidth w.fn
  match x.address w 16 (16 * b) with
  | none => .reject 0x0443
  | some a => .done { vec := some (w.d, (elements (x.read a (16 * b)) b 128).map (laneOfElement w.fn)) }

def vecVldsc (x : VectorState) (w : VecWord) : VecOut :=
  match x.address w 4 4 with
  | none => .reject 0x0443
  | some a =>
    let l := (x.read a 4).map laneOfScale
    .done { vec := some (w.d, (below 128).map (fun i => nth 0#32 l (i / 32))) }

/-- VST (R147): a NaN lane stores +0. -/
def vecVst (x : VectorState) (w : VecWord) : VecOut :=
  let c := x.scalar w.fn % 0x10000
  if !outWordOk c then .reject 0x0434
  else
    let o := outWord c
    match x.address w 16 (16 * formatWidth o.ofmt + (if o.mxo then 4 else 0)) with
    | none => .reject 0x0443
    | some a =>
      let ns := (x.lanes w.a).map laneNum
      let r := outputRecord o (ns.map (fun n => match n with | .nan => Num.fin false Dyadic.zero | n => n))
      .done { store := some (a, r.1), sats := r.2, nans := (ns.filter (fun n => n == .nan)).length }

/-- EXLD (R148): the conversion controls stand in a scalar register. -/
def vecExld (x : VectorState) (w : VecWord) : VecOut :=
  match x.address w 16 2048 with
  | none => .reject 0x0443
  | some a =>
    let c := x.scalar w.fn
    let anchor := signed 16 (bits c 15 0)
    let vs : List Acc := (groups 16 (x.read a 2048)).map (fun g => BitVec.ofNat 128 (ofLe g))
    let r := outputRecord ⟨0, false, bit c 18, bits c 17 16, 0xB⟩ (vs.map (fun v => Num.fin (decide (v.toInt < 0)) (accValue anchor v)))
    .done { vec := some (w.d, (groups 4 r.1).map (fun g => lane (ofLe g))), sats := r.2 }

def vecSli (_ : VectorState) (w : VecWord) : VecOut := .done { scal := some (w.d, w.imm) }

def vecSadd (x : VectorState) (w : VecWord) : VecOut :=
  .done { scal := some (w.d, unsigned 64 ((x.scalar w.a : Int) + signed 32 w.imm)) }

def vecBnz (x : VectorState) (w : VecWord) : VecOut :=
  if x.scalar w.a = 0 then .done {} else .done { scal := some (w.a, x.scalar w.a - 1), jump := some w.imm }

/-! ## Issue, checked pairs and faults (R140, R151 to R156) -/

/-- The cores that run a program on behalf of core v: v, and in paired mode its pair with the even core first. -/
def State.vecCores (s : State) (site v : Nat) : List Nat := s.pairOf site v

/-- A core that runs, and that no odd place in a pair excludes. -/
def State.vecRuns (s : State) (site v : Nat) : Bool :=
  let st := s.get (VCO_STATUS.STATE site v)
  decide (v < 4) && (st == 1 || st == 2) && !(s.paired site && v % 2 == 1)

def State.vecWord (s : State) (site v : Nat) : Nat := (lookD 0#64 (s.vector site v).prog (s.get (VCO_STATUS.PC site v))).toNat

/-- A core stops in a state, and the control cores hear of it (R161, R153). -/
def State.vecStop (s : State) (site v st : Nat) : State :=
  (((s.put (VCO_STATUS.STATE site v) st).put (VCO_STATUS.WAIT site v) 0).put (VCO_CTRL.GO site v) 0).irqBoth site (2 + v)

/-- HALT (R153): the core, with its pair, stops; the code, its bit, one record, and the pass aborts. -/
def State.vecHalt (s : State) (site v code : Nat) : State :=
  let s := (s.vecCores site v).foldl (fun s c =>
    let s := (s.vecStop site c 3).put (VCO_STATUS.LAST_CODE site c) code
    match vecErrBit site c code with | some l => s.put l 1 | none => s) s
  (s.record { code := code, source := 1, node := site, unit := v, action := s.abortBit }).abortPass code site

/-- A checked pair disagrees (R156, R157): PC and count of the pair; the second since the fabric reset retires the stack. -/
def State.vecMismatch (s : State) (site v : Nat) : State :=
  let pc := s.get (VCO_STATUS.PC site v)
  let s := if v < 2 then (s.put (VCO_PAIR.PC_P0 site) pc).addSat (VCO_PAIR.COUNT_P0 site) 1
    else (s.put (VCO_PAIR.PC_P1 site) pc).addSat (VCO_PAIR.COUNT_P1 site) 1
  let s := s.vecHalt site v 0x0440
  if s.get (if v < 2 then VCO_PAIR.COUNT_P0 site else VCO_PAIR.COUNT_P1 site) ≥ 2 then s.decideRetire ⟨site, 0x0440, false, false⟩ else s

/-- One cycle without issue (VCO_COUNT.STALLS), with its reason. -/
def State.vecWait (s : State) (site v reason : Nat) : State :=
  (s.vecCores site v).foldl (fun s c =>
    ((s.put (VCO_STATUS.STATE site c) 2).put (VCO_STATUS.WAIT site c) reason).addSat (VCO_COUNT.STALLS site c) 1) s

/-- A core's registers take a result. -/
def VectorState.take (x : VectorState) (r : VecResult) : VectorState :=
  let x := match r.vec with | some (d, l) => { x with v := putKey x.v d l } | none => x
  let x := match r.mask with | some (d, m) => if d = 0 then x else { x with m := putKey x.m d m } | none => x
  match r.scal with | some (d, n) => if d = 0 then x else { x with s := putKey x.s d (word n) } | none => x

/-- Step a core's program counter; past 4,095 the program has run off its end (R152). -/
def State.vecNext (s : State) (site v : Nat) (r : VecResult) : State :=
  let s := (s.put (VCO_STATUS.STATE site v) 1).put (VCO_STATUS.WAIT site v) 0
  let s := s.addSat (VCO_COUNT.INSTRS site v) 1
  let pc := s.get (VCO_STATUS.PC site v)
  match r.jump with
  | some t => s.put (VCO_STATUS.PC site v) t
  | none =>
    if pc = 4095 then s.setVector site v { s.vector site v with pcPast := true } else s.put (VCO_STATUS.PC site v) (pc + 1)

/-- The counts of a result in a core, and its first NaN store of the sweep (R147). -/
def State.vecCounts (s : State) (site v : Nat) (r : VecResult) : State :=
  let s := (s.addSat (VCO_ARITH.SAT site v) r.sats).addSat (VCO_ARITH.NAN_STORE site v) r.nans
  if r.nans = 0 then s else s.put (VCO_ERR.NAN_STORE site v) 1

/-- 0x0441 at the first NaN store of a program's core in a sweep; the pass is discarded. -/
def State.nanStore (s : State) (site v : Nat) : State :=
  if (s.vector site v).nanRaised then s
  else
    let s := s.setVector site v { s.vector site v with nanRaised := true }
    (s.raiseVector site v 0x0441 s.discardBit).discardPass 0x0441

/-- Commit a result that every core of the program agrees on: registers and counts of each, the store in every scratch of the
pair, and the primary's token. -/
def State.vecCommit (s : State) (site v : Nat) (r : VecResult) : State :=
  let s := (s.vecCores site v).foldl (fun s c =>
    let s := s.setVector site c ((s.vector site c).take r)
    let s := match r.take with | some (t, n) => s.put (vecToken site c t) (s.get (vecToken site c t) - n) | none => s
    (s.vecCounts site c r).vecNext site c r) s
  let s := match r.store with | some (a, b) => s.scratchWrite site v a b | none => s
  let s := if r.nans = 0 then s else s.nanStore site v
  match r.signal with
  | some (0, _) => s.engineEvent site 0
  | some (1, _) => s.engineEvent site 1
  | some (2, n) => s.addEngineToken site n false
  | some (3, n) => s.addEngineToken site n true
  | _ => s

/-- The four token counters of a core. -/
def State.vecTokens (s : State) (site v : Nat) : List Nat := (below 4).map (fun t => s.get (vecToken site v t))

/-- Count a corrected word, or halt on an uncorrectable one (R140). reads says that the instruction reads scratch. -/
def State.vecFault (s : State) (site v : Nat) (f : CoreFault) (reads : Bool) : State × Bool :=
  match f with
  | .progCorrected => (s.addSat (VCO_MEM_ERR.PROG_CE site v) 1, false)
  | .progUncorrectable => (s.vecHalt site v 0x0311, true)
  | .scratchCorrected => (if reads then s.addSat (VCO_MEM_ERR.SCRATCH_CE site v) 1 else s, false)
  | .scratchUncorrectable => if reads then (s.vecHalt site v 0x0311, true) else (s, false)
  | _ => (s, false)

/-- Run the instruction at a core's program counter where its opcode is op (log entry 5 otherwise): the word is fetched and
checked, every core of the pair computes it, and the results commit where they agree (R152, R156). -/
def State.vecExec (s : State) (site v : Nat) (f : CoreFault) (op : Nat) (reads : Bool)
    (g : VectorState → List Nat → VecWord → VecOut) : State :=
  if !(s.vecRuns site v) || (s.vector site v).pcPast || (decodeVec (s.vecWord site v)).op != op then s
  else
    let cs := s.vecCores site v
    let w := decodeVec (s.vecWord site v)
    if cs.any (fun c => s.vecWord site c != s.vecWord site v) then s.vecMismatch site v
    else
      match s.vecFault site v f reads with
      | (s, true) => s
      | (s, false) =>
        if !w.ok then s.vecHalt site v 0x0442
        else
          let outs := cs.map (fun c => g (s.vector site c) (s.vecTokens site c) w)
          let out := g (s.vector site v) (s.vecTokens site v) w
          if (f == .disagree && cs.length == 2) || outs.any (fun o => o != out) then s.vecMismatch site v
          else
            match out with
            | .done r => s.vecCommit site v r
            | .reject code => s.vecHalt site v code
            | .wait => s.vecWait site v 2
            | .finish => cs.foldl (fun s c => (s.addSat (VCO_COUNT.INSTRS site c) 1).vecStop site c 0) s

/-- An instruction that reads no scratch and no token. -/
def State.vecPlain (s : State) (site v : Nat) (f : CoreFault) (op : Nat) (g : VectorState → VecWord → VecOut) : State :=
  s.vecExec site v f op false (fun x _ w => g x w)

/-! ## The instructions (Table 4.2) -/

/-- VEC_NOP. -/
def execVecNop (site v : Nat) (f : CoreFault) (s : State) : Host.Outcome State Fault Refusal :=
  .next (s.vecPlain site v f 0x00 (fun _ _ => .done {}))

/-- VEC_END (R150): stores commit as they issue, so every earlier one has. -/
def execVecEnd (site v : Nat) (f : CoreFault) (s : State) : Host.Outcome State Fault Refusal :=
  .next (s.vecPlain site v f 0x01 (fun _ _ => .finish))

/-- FADD (R141). -/
def execFadd (site v : Nat) (f : CoreFault) (s : State) : Host.Outcome State Fault Refusal := .next (s.vecPlain site v f 0x02 (binary laneAdd))

/-- FSUB (R141). -/
def execFsub (site v : Nat) (f : CoreFault) (s : State) : Host.Outcome State Fault Refusal := .next (s.vecPlain site v f 0x03 (binary laneSub))

/-- FMUL (R141). -/
def execFmul (site v : Nat) (f : CoreFault) (s : State) : Host.Outcome State Fault Refusal := .next (s.vecPlain site v f 0x04 (binary laneMul))

/-- FMA (R141, R145): c is named by IMM[4:0]. -/
def execFma (site v : Nat) (f : CoreFault) (s : State) : Host.Outcome State Fault Refusal := .next (s.vecPlain site v f 0x05 vecFma)

/-- FMIN (R141). -/
def execFmin (site v : Nat) (f : CoreFault) (s : State) : Host.Outcome State Fault Refusal := .next (s.vecPlain site v f 0x06 (binary laneMin))

/-- FMAX (R141). -/
def execFmax (site v : Nat) (f : CoreFault) (s : State) : Host.Outcome State Fault Refusal := .next (s.vecPlain site v f 0x07 (binary laneMax))

/-- FUN (R145). -/
def execFunOp (site v : Nat) (f : CoreFault) (s : State) : Host.Outcome State Fault Refusal :=
  .next (s.vecPlain site v f 0x08 (fun x w => unary (laneFun w.fn) x w))

/-- FTR (R142). -/
def execFtr (site v : Nat) (f : CoreFault) (s : State) : Host.Outcome State Fault Refusal :=
  .next (s.vecPlain site v f 0x09 (fun x w => unary (laneFtr w.fn) x w))

/-- IADD (R141, R145). -/
def execIadd (site v : Nat) (f : CoreFault) (s : State) : Host.Outcome State Fault Refusal := .next (s.vecPlain site v f 0x10 (binary (· + ·)))

/-- ISUB (R141, R145). -/
def execIsub (site v : Nat) (f : CoreFault) (s : State) : Host.Outcome State Fault Refusal := .next (s.vecPlain site v f 0x11 (binary (· - ·)))

/-- IMUL (R141, R145). -/
def execImul (site v : Nat) (f : CoreFault) (s : State) : Host.Outcome State Fault Refusal := .next (s.vecPlain site v f 0x12 (binary (· * ·)))

/-- ILOG (R145). -/
def execIlog (site v : Nat) (f : CoreFault) (s : State) : Host.Outcome State Fault Refusal :=
  .next (s.vecPlain site v f 0x13 (fun x w => binary (laneLog w.fn) x w))

/-- CVT (R145). -/
def execCvt (site v : Nat) (f : CoreFault) (s : State) : Host.Outcome State Fault Refusal :=
  .next (s.vecPlain site v f 0x14 (fun x w => unary (laneCvt w.fn) x w))

/-- FCMP (R145). -/
def execFcmp (site v : Nat) (f : CoreFault) (s : State) : Host.Outcome State Fault Refusal :=
  .next (s.vecPlain site v f 0x18 (fun x w => compare (fcmpHolds w.fn) x w))

/-- ICMP (R145). -/
def execIcmp (site v : Nat) (f : CoreFault) (s : State) : Host.Outcome State Fault Refusal :=
  .next (s.vecPlain site v f 0x19 (fun x w => compare (icmpHolds w.fn) x w))

/-- SEL (R145). -/
def execSel (site v : Nat) (f : CoreFault) (s : State) : Host.Outcome State Fault Refusal := .next (s.vecPlain site v f 0x1A vecSel)

/-- BCAST (R145). -/
def execBcast (site v : Nat) (f : CoreFault) (s : State) : Host.Outcome State Fault Refusal := .next (s.vecPlain site v f 0x20 vecBcast)

/-- PERM (R145). -/
def execPerm (site v : Nat) (f : CoreFault) (s : State) : Host.Outcome State Fault Refusal := .next (s.vecPlain site v f 0x21 vecPerm)

/-- LSHIFT (R145). -/
def execLshift (site v : Nat) (f : CoreFault) (s : State) : Host.Outcome State Fault Refusal := .next (s.vecPlain site v f 0x22 vecLshift)

/-- RSUM (R143). -/
def execRsum (site v : Nat) (f : CoreFault) (s : State) : Host.Outcome State Fault Refusal :=
  .next (s.vecPlain site v f 0x28 (reduce laneAdd (zeroLane true)))

/-- RMAX (R143). -/
def execRmax (site v : Nat) (f : CoreFault) (s : State) : Host.Outcome State Fault Refusal :=
  .next (s.vecPlain site v f 0x29 (reduce laneMax (infLane true)))

/-- VLD (R146). -/
def execVld (site v : Nat) (f : CoreFault) (s : State) : Host.Outcome State Fault Refusal :=
  .next (s.vecExec site v f 0x30 true (fun x _ w => vecVld x w))

/-- VLDSC (R146). -/
def execVldsc (site v : Nat) (f : CoreFault) (s : State) : Host.Outcome State Fault Refusal :=
  .next (s.vecExec site v f 0x31 true (fun x _ w => vecVldsc x w))

/-- VST (R147). -/
def execVst (site v : Nat) (f : CoreFault) (s : State) : Host.Outcome State Fault Refusal := .next (s.vecPlain site v f 0x32 vecVst)

/-- EXLD (R148). -/
def execExld (site v : Nat) (f : CoreFault) (s : State) : Host.Outcome State Fault Refusal :=
  .next (s.vecExec site v f 0x33 true (fun x _ w => vecExld x w))

/-- SLI (R145). -/
def execSli (site v : Nat) (f : CoreFault) (s : State) : Host.Outcome State Fault Refusal := .next (s.vecPlain site v f 0x38 vecSli)

/-- SADD (R145). -/
def execSadd (site v : Nat) (f : CoreFault) (s : State) : Host.Outcome State Fault Refusal := .next (s.vecPlain site v f 0x39 vecSadd)

/-- BNZ (R145). -/
def execBnz (site v : Nat) (f : CoreFault) (s : State) : Host.Outcome State Fault Refusal := .next (s.vecPlain site v f 0x3A vecBnz)

/-- JMP (R145). -/
def execJmp (site v : Nat) (f : CoreFault) (s : State) : Host.Outcome State Fault Refusal :=
  .next (s.vecPlain site v f 0x3B (fun _ w => .done { jump := some w.imm }))

/-- TWAIT (R149): IMM of 0 is rejected; below IMM the core waits. -/
def execTwait (site v : Nat) (f : CoreFault) (s : State) : Host.Outcome State Fault Refusal :=
  .next (s.vecExec site v f 0x3C false (fun _ t w =>
    if w.imm = 0 then .reject 0x0444 else if nth 0 t w.fn < w.imm then .wait else .done { take := some (w.fn, w.imm) }))

/-- TSIG (R145, R198). -/
def execTsig (site v : Nat) (f : CoreFault) (s : State) : Host.Outcome State Fault Refusal :=
  .next (s.vecPlain site v f 0x3D (fun _ w => .done { signal := some (w.fn, w.imm) }))

/-- VEC_INVALID_OPCODE (R152): an invalid word, or a program counter that passed 4,095. -/
def execVecInvalidOpcode (site v : Nat) (f : CoreFault) (s : State) : Host.Outcome State Fault Refusal :=
  if !(s.vecRuns site v) then .next s
  else if (s.vector site v).pcPast then .next (s.vecHalt site v 0x0442)
  else if (s.vecCores site v).any (fun c => s.vecWord site c != s.vecWord site v) then .next (s.vecMismatch site v)
  else match s.vecFault site v f false with
    | (s, true) => .next s
    | (s, false) => if (decodeVec (s.vecWord site v)).ok then .next s else .next (s.vecHalt site v 0x0442)

/-! ## Writes of the VCO_ registers -/

/-- Start one core at its program's first word (R155): its counts of the last GO are zeroed. -/
def State.vecStart (s : State) (site pc c : Nat) : State :=
  let s := (s.put (VCO_STATUS.PC site c) pc).put (VCO_STATUS.STATE site c) 1
  let s := ((s.put (VCO_STATUS.WAIT site c) 0).setReg (VCO_COUNT.REG site c) 0).setReg (VCO_ARITH.REG site c) 0
  (s.setVector site c { s.vector site c with pcPast := false }).put (VCO_CTRL.GO site c) 1

/-- VCO_GO (R152, R155, R167): START_PC is stored; a GO starts an IDLE core, and in paired mode its pair. -/
def execVcoGo (who : Requester) (site v value : Nat) (s : State) : Host.Outcome State Fault Refusal :=
  s.atSite who (VCO_CTRL.REG site v) site <|
  if s.fwOwned who site then .next (s.fwRefused site)
  else
    let pc := bits value 11 0
    let s := s.put (VCO_CTRL.START_PC site v) pc
    if !bit value 16 then .next s
    else if s.paired site && v % 2 == 1 then .next (s.put (VCO_ERR.GO_REJECT site v) 1)
    else if !(s.vcOn site) then .next (s.raiseVector site v 0x0447 0)
    else if s.get (VCO_STATUS.STATE site v) = 0 then .next ((s.vecCores site v).foldl (fun s c => s.vecStart site pc c) s)
    else .next s

/-- VCO_PROG_WRITE (R152): a word of program memory, through the control cores' local map. -/
def execVcoProgWrite (site v i value : Nat) (s : State) : Host.Outcome State Fault Refusal :=
  let st := s.get (VCO_STATUS.STATE site v)
  if st = 1 ∨ st = 2 then .next (s.raiseVector site v 0x0446 0)
  else .next (s.setVector site v (let x := s.vector site v; { x with prog := putKey x.prog i (word value) }))

/-- VCO_MODE_WRITE (R158, R167). -/
def execVcoModeWrite (who : Requester) (site value : Nat) (s : State) : Host.Outcome State Fault Refusal :=
  s.atSite who (VCO_MODE.REG site) site <|
  if s.fwOwned who site then .next (s.fwRefused site)
  else if s.atBoundary site then .next (s.put (VCO_MODE.PAIRED site) (bits value 0 0))
  else .next (s.record { code := 0x0445, source := 1, node := site })

end Sys2Proof.Machine
end

