-- ==== Sys2Proof/Machine/Sweeps.lean ====
section
/-! DEFINITION. The running pass and the serving queues (05_sweeps.md R171 to R188): the sequence of Table 5.4, the drain of Table 5.5
up to the empty state, and the queue registers. The boundary itself stands in Boundary.lean. -/

namespace Sys2Proof.Machine

open Sys2Proof

/-! ## Queue registers (R175, R180, R181) -/

/-- A code of a serving queue with its record. -/
def State.queueErr (s : State) (q code : Nat) : State := s.record { code := code, unit := q }

/-- SQ_DOORBELL (R175). -/
def execSqDoorbell (who : Requester) (q value : Nat) (s : State) : Host.Outcome State Fault Refusal :=
  s.atHub who (SQ_DB.REG q) <|
  if bits value 15 0 ≥ 1024 then .next (s.queueErr q 0x0B20) else .next (s.put (SQ_DB.TAIL q) (bits value 15 0))

/-- A write of CQ_LOG2 (R181); a write that leaves it as it is touches nothing (log entry 12). -/
def State.cqLog (s : State) (q n : Nat) : State :=
  if n = s.get (SQ_CTRL.CQ_LOG2 q) then s
  else if s.flag (SQ_CTRL.ENABLE q) ∨ n < 6 ∨ 16 < n then s.queueErr q 0x0B21 else s.put (SQ_CTRL.CQ_LOG2 q) n

/-- A write of ENABLE (R181, R431): from 0 to 1 it sets TAIL and HEAD of CQ_PTR and CREDIT to 0 and PHASE to 1. -/
def State.queueEnable (s : State) (q : Nat) (on : Bool) : State :=
  let s := if on && !s.flag (SQ_CTRL.ENABLE q) then
      let s := ((s.put (CQ_PTR.TAIL q) 0).put (CQ_PTR.HEAD q) 0).put (UPD_SQ.CREDIT q) 0
      { s with phases := putKey s.phases q 1, updraft := { s.updraft with credits := delKey s.updraft.credits q } }
    else s
  s.put (SQ_CTRL.ENABLE q) (b2n on)

/-- A 1 written to ABORT (R181, R185): it aborts the running pass of the queue, and has no effect with none. -/
def State.queueAbort (s : State) (q : Nat) : State :=
  if s.pass.running ∧ s.get HUB_PASS.SQ = q then (s.put (SQ_CTRL.ABORT q) 1).abortPass 0x020D 0xFF else s

/-- Complete the first n pending entries as REJECTED with 0x020C (R181). -/
def State.flushQueue (q : Nat) : Nat → State → State
  | 0, s => s
  | n + 1, s =>
    if !s.queued q then s
    else
      let w := s.headWord q 0
      State.flushQueue q n ((s.takeHead q).complete q (s.plainRecord 4 0x020C (bits w 31 0)) (bit w 48) false)

/-- A 1 written to FLUSH (R181): ignored with ENABLE = 1. -/
def State.queueFlush (s : State) (q : Nat) : State := if s.flag (SQ_CTRL.ENABLE q) then s else State.flushQueue q 1024 s

/-- A write of SQ_CTRL. -/
def State.writeSqCtrl (s : State) (q value : Nat) : State :=
  let s := (s.cqLog q (bits value 12 8)).put (SQ_CTRL.HALT_ON_FAULT q) (bits value 1 1)
  let s := s.queueEnable q (bit value 0)
  let s := if bit value 2 then s.queueAbort q else s
  if bit value 3 then s.queueFlush q else s

/-- SQ_ENABLE (R181): a write of SQ_CTRL. -/
def execSqEnable (who : Requester) (q value : Nat) (s : State) : Host.Outcome State Fault Refusal :=
  s.atHub who (SQ_CTRL.REG q) <| .next (s.writeSqCtrl q value)

/-- SQ_ABORT (R181). -/
def execSqAbort (who : Requester) (q : Nat) (s : State) : Host.Outcome State Fault Refusal :=
  s.atHub who (SQ_CTRL.REG q) <| .next (s.queueAbort q)

/-- SQ_FLUSH (R181). -/
def execSqFlush (who : Requester) (q : Nat) (s : State) : Host.Outcome State Fault Refusal :=
  s.atHub who (SQ_CTRL.REG q) <| .next (s.queueFlush q)

/-- SQ_CQ_CONFIG (R181): a write of CQ_BASE, or of CQ_LOG2. -/
def execSqCqConfig (who : Requester) (q : Nat) (base : Bool) (value : Nat) (s : State) : Host.Outcome State Fault Refusal :=
  s.atHub who (if base then CQ_BASE.REG q else SQ_CTRL.REG q) <|
  if base then
    if s.flag (SQ_CTRL.ENABLE q) ∨ bits value 11 0 ≠ 0 then .next (s.queueErr q 0x0B21) else .next (s.setReg (CQ_BASE.REG q) (word value))
  else .next (s.cqLog q (bits value 4 0))

/-- CQ_HEAD_WRITE (R180). -/
def execCqHeadWrite (who : Requester) (q value : Nat) (s : State) : Host.Outcome State Fault Refusal :=
  s.atHub who (CQ_PTR.REG q) <|
  if bits value 15 0 ≥ 2 ^ s.get (SQ_CTRL.CQ_LOG2 q) then .next (s.queueErr q 0x0B21) else .next (s.put (CQ_PTR.HEAD q) (bits value 15 0))

/-- Write one record into the ring of its queue (R178, R180, R181): words 1 to 7 first and word 0 with PHASE last, then the vector, then
HALT_ON_FAULT. -/
def State.writeRecord (s : State) (c : Completion) : State :=
  let q := c.queue
  let tail := s.get (CQ_PTR.TAIL q)
  let phase := lookD 1 s.phases q
  let at_ := (s.reg (CQ_BASE.REG q)).toNat + 64 * tail
  let w0 : Word := match c.words with | w :: _ => withField w 63 63 phase | [] => 0
  let s := s.hostWrite (at_ + 8) (wordBytes (c.words.drop 1))
  let s := s.hostWrite at_ (wordBytes [w0])
  let last := tail + 1 == 2 ^ s.get (SQ_CTRL.CQ_LOG2 q)
  let s := (s.put (CQ_PTR.TAIL q) (if last then 0 else tail + 1)).addWrap (SQ_STATE.DONE q) 1
  let s := if last then { s with phases := putKey s.phases q (1 - phase) } else s
  let s := if bits w0.toNat 62 56 = 1 then s.put HUB_PASS.LAST_CODE (bits w0.toNat 47 32) else s
  let s := if c.irq then s.trigger q else s
  if !c.ok && s.flag (SQ_CTRL.HALT_ON_FAULT q) then (((s.put (SQ_CTRL.ENABLE q) 0).put (SQ_STATE.STOPPED q) 1).trigger q) else s

/-- COMPLETION_WRITE (R178, R180): the oldest record that waits for a queue's ring, once it has room. -/
def execCompletionWrite (q : Nat) (s : State) : Host.Outcome State Fault Refusal :=
  match indexOf? (fun (c : Completion) => c.queue == q) s.completions with
  | none => .next s
  | some i =>
    match s.completions[i]? with
    | none => .next s
    | some c => .next (if s.ringFull q then s else ({ s with completions := s.completions.eraseIdx i }).writeRecord c)

/-! ## Sweeps of a pass (Table 5.4) -/

/-- PASS_BEGIN (R182): CC0 of a site takes its message and loads sweep 0; when every one has, the pass runs. -/
def execPassBegin (site : Nat) (s : State) : Host.Outcome State Fault Refusal :=
  if s.get HUB_PASS.STATE ≠ 2 ∨ ¬ s.pass.parts.contains site ∨ s.pass.begun.contains site then .next s
  else
    let s := s.put (STR_STATUS.SWEEP site) 0
    let s := { s with pass := { s.pass with begun := s.pass.begun ++ [site] } }
    .next (if s.waiters.all (fun x => s.pass.begun.contains x) then s.put HUB_PASS.STATE 3 else s)

/-- GO of both rows and of the vector primaries that the sweep gives a program (R93, R155, Table 13.6). -/
def State.goSweep (s : State) (site : Nat) : State :=
  let n := s.get HUB_PASS.SWEEP
  let w0 := s.sweepWord n 0
  let s := (s.put (MXA_ROWCTL.START_PC_N site) (bits w0 40 32)).put (MXA_ROWCTL.START_PC_S site) (bits w0 24 16)
  let s := (s.goRow site 0).goRow site 1
  let vp := s.sweepWord n 3
  (below 4).foldl (fun s v =>
    if bits vp (16 * v + 15) (16 * v) = 0xFFFF ∨ (s.paired site ∧ v % 2 = 1) then s
    else if !(s.vcOn site) then s.raiseVector site v 0x0447 0
    else if s.get (VCO_STATUS.STATE site v) = 0 then (s.vecCores site v).foldl (fun s c => s.vecStart site (s.get (VCO_CTRL.START_PC site v)) c) s
    else s) s

/-- SWEEP_START (R182, R192, R280, R350): the first die of a sweep takes it once every collective slot is idle; the hub's message goes to
every CC0 and the collective rounds advance. The die starts its sweep. -/
def execSweepStart (site : Nat) (s : State) : Host.Outcome State Fault Refusal :=
  let n := s.get HUB_PASS.SWEEP
  if s.get HUB_PASS.STATE ≠ 3 ∨ s.pass.aborting ∨ s.passSweeps ≤ n ∨ ¬ s.waiters.contains site ∨ s.pass.started.contains site then .next s
  else if s.pass.started.isEmpty && s.collBusy then .next s
  else
    let s := if s.pass.started.isEmpty then (s.toAll 0x11 [n]).collStart else s
    let s := { s with pass := { s.pass with started := s.pass.started ++ [site] } }
    let s := s.put (STR_STATUS.SWEEP site) n
    let s := s.setDie site { s.die site with sweepRunning := true, sat := 0 }
    .next ((s.redStart site).goSweep site)

/-- The die has finished the running sweep (R172, R280, R303). -/
def State.sweepOver (s : State) (site : Nat) : Bool :=
  let n := s.get HUB_PASS.SWEEP
  let idle := fun (x : Nat) => x == 0 || x == 3 || x == 4 || x == 6 || x == 7
  (below 18).all (fun a => idle (s.get (MXA_STATUS.STATE site a))) &&
    (below 4).all (fun v => let x := s.get (VCO_STATUS.STATE site v); x == 0 || x == 3 || x == 4) &&
    !(s.die site).streams.any (fun x => x.sweep == n) && !s.redBusy site && (s.siteVotes site).all (fun v => v.deferred)

/-- The hub closes a sweep after its last SWEEP_DONE (R126, R127, R179). -/
def State.closeSweep (s : State) : State :=
  let n := s.get HUB_PASS.SWEEP
  let r := s.pass.report
  let w1 := s.sweepWord n 1
  let limit := bits w1 31 0
  let s := if s.pass.reportAddr = 0 then s else s.hostWrite (s.pass.reportAddr + 32 * n) (wordBytes (r.words n (bits w1 63 48) limit))
  let p := s.pass
  let flags := p.flags ||| r.flags limit
  let p := { p with flags := flags, lowTotal := p.lowTotal + r.low, highTotal := p.highTotal + r.high }
  let p := { p with nonfinite := p.nonfinite + r.nonfinite, satTotal := p.satTotal + r.satOut, sweepsDone := n + 1 }
  let s := { s with pass := { p with report := {}, reported := [], started := [] } }
  let s := if limit < r.high then (s.record { code := 0x0432, details := [n, r.high, limit] }).passStatus 1 0x0432 else s
  if n + 1 < s.passSweeps then s.put HUB_PASS.SWEEP (n + 1) else s

/-- SWEEP_DONE (R172, R182): the partial report of a die; the last one closes the sweep. -/
def execSweepDone (site : Nat) (s : State) : Host.Outcome State Fault Refusal :=
  if s.get HUB_PASS.STATE ≠ 3 ∨ s.pass.aborting ∨ ¬ s.pass.started.contains site ∨ s.pass.reported.contains site ∨ ¬ s.sweepOver site then .next s
  else
    let m := s.markedOf site
    let s := s.setDie site { s.die site with sweepRunning := false }
    let p := s.pass
    let p := { p with report := s.addPartial site p.report, reported := p.reported ++ [site] }
    let s := { s with pass := { p with marked := p.marked + m.1, entries := p.entries + m.2 } }
    .next (if s.waiters.all (fun x => s.pass.reported.contains x) then s.closeSweep else s)

/-! ## The drain (R186, R187, Table 5.5) -/

/-- PASS_END (R186): after the last sweep the drain starts. -/
def execPassEnd (s : State) : Host.Outcome State Fault Refusal :=
  .next (if s.get HUB_PASS.STATE = 3 ∧ ¬ s.pass.aborting ∧ s.pass.sweepsDone = s.passSweeps then s.startDrain 0x12 else s)

/-- The abort line stops a die's sequencers (R186): no descriptor starts a further access, run-ahead data is discarded, loads in progress
stop, and an array or vector core that ran enters IDLE. -/
def State.stopDie (s : State) (site : Nat) : State :=
  let d := s.die site
  let s := s.setDie site { d with stopped := true, sweepRunning := false, streams := d.streams.map (fun (x : Stream) => { x with queue := [] }) }
  let s := (below 18).foldl (fun s a =>
    let st := s.get (MXA_STATUS.STATE site a)
    let x := s.array site a
    let s := if x.load.isSome then s.setArray site a { x with load := none } else s
    if st = 1 ∨ st = 2 then (s.put (MXA_STATUS.STATE site a) 0).put (MXA_STATUS.WAIT site a) 0
    else if st = 5 then (s.put (MXA_STATUS.STATE site a) 4).put (MXA_CTRL.RERUN_GO site a) 0 else s) s
  let s := (s.rowDone site 0).rowDone site 1
  let s := (below 4).foldl (fun s v =>
    let st := s.get (VCO_STATUS.STATE site v)
    if st = 1 ∨ st = 2 then ((s.put (VCO_STATUS.STATE site v) 0).put (VCO_STATUS.WAIT site v) 0).put (VCO_CTRL.GO site v) 0 else s) s
  State.cancelVotes site 8 s

/-- PASS_ABORT (R186, R306, R351): the hub has sent PASS_ABORT; the abort line of a site stops it. -/
def execPassAbort (site : Nat) (s : State) : Host.Outcome State Fault Refusal :=
  if ¬ s.pass.running ∨ ¬ s.pass.aborting ∨ ¬ s.pass.parts.contains site ∨ (s.die site).stopped then .next s
  else
    let s := if s.get HUB_PASS.STATE = 4 then s else s.startDrain 0x13
    .next (s.collSuspend.stopDie site)

/-- Mesh requests that belong to passes. -/
def ReqUse.ofPass : ReqUse → Bool | .core _ => false | .conduit _ _ => false | .bar4 _ => false | _ => true

/-- Every write that the site issued is acknowledged and every packet of the pass addressed to it has arrived (Table 5.5 step 3). -/
def State.siteQuiet (s : State) (site : Nat) : Bool := !s.requests.any (fun r => r.use.ofPass && (r.node == site || r.dst == site))

/-- QUIET (R186, R302). -/
def execQuiet (site : Nat) (s : State) : Host.Outcome State Fault Refusal :=
  if s.get HUB_PASS.STATE ≠ 4 ∨ ¬ s.pass.parts.contains site ∨ s.pass.quiet.contains site ∨ ¬ s.siteQuiet site ∨
      (s.pass.aborting ∧ ¬ (s.die site).stopped) then .next s
  else .next ({ s with pass := { s.pass with quiet := s.pass.quiet ++ [site] } }).maybeClear

/-- The empty state of an array (R76, R187, R308). -/
def State.emptyArray (s : State) (site a : Nat) : State :=
  let s := s.setArray site a {}
  let s := ((s.put (MXA_STATUS.BANK0_VALID site a) 0).put (MXA_STATUS.BANK1_VALID site a) 0).put (MXA_STATUS.ACTIVE_BANK site a) 0
  let s := (s.put (MXA_STATUS.WAIT site a) 0).put (MXA_CTRL.RERUN_GO site a) 0
  let st := s.get (MXA_STATUS.STATE site a)
  if st = 1 ∨ st = 2 ∨ st = 3 then s.put (MXA_STATUS.STATE site a) 0
  else if st = 5 then s.put (MXA_STATUS.STATE site a) 4 else s

/-- The empty state of a vector core (R138, R187): only program memory keeps its contents. -/
def State.emptyVector (s : State) (site v : Nat) : State :=
  let s := (s.setVector site v { prog := (s.vector site v).prog }).setReg (VCO_TOKEN.REG site v) 0
  let s := (s.put (VCO_STATUS.WAIT site v) 0).put (VCO_CTRL.GO site v) 0
  let st := s.get (VCO_STATUS.STATE site v)
  if st = 1 ∨ st = 2 ∨ st = 3 then s.put (VCO_STATUS.STATE site v) 0 else s

/-- A die clears its state to the empty state (R76, R138, R187, R308). -/
def State.emptyDie (s : State) (site : Nat) : State :=
  let s := (below 18).foldl (fun s a => s.emptyArray site a) s
  let s := (s.put (MXA_ROWCTL.GO_N site) 0).put (MXA_ROWCTL.GO_S site) 0
  let s := (below 4).foldl (fun s v => s.emptyVector site v) s
  let s := ((s.setDie site { sunk := (s.die site).sunk }).admittedBits site).haltedBits site
  let s := (s.put (STR_TOKEN.FETCH site) 0).put (STR_TOKEN.EXEC site) 0
  let s := s.setGelat site { s.gelat site with written := [] }
  let s := (below 64).foldl (fun s t => if (look s.partials (partialKey site t)).isSome then s.setPartials site t [] else s) s
  let s := { s with redWait := s.redWait.filter (fun w => w.site != site) }
  ((s.setReplay site 0 [{}, {}]).setReplay site 1 [{}, {}]).setVotes site []

/-- CLEAR (R187). -/
def execClear (site : Nat) (s : State) : Host.Outcome State Fault Refusal :=
  if s.get HUB_PASS.STATE ≠ 4 ∨ ¬ s.pass.cleared ∨ ¬ s.pass.parts.contains site ∨ s.pass.empty.contains site then .next s
  else
    let s := s.emptyDie site
    .next { s with pass := { s.pass with empty := s.pass.empty ++ [site] } }

end Sys2Proof.Machine
end

