-- ==== Sys2Proof/Machine/Reset.lean ====
section
/-! DEFINITION. Resets (14_bringup.md R489 to R506): what each level resets, the sources, the cause record, the stretch, the release, and
DOLDRUMS. -/

namespace Sys2Proof.Machine

open Sys2Proof

/-! ## What each level resets (Table 14.1) -/

/-- A register of a reset class takes its Reset value at a level. -/
def ResetClass.resets (level : Nat) : ResetClass → Bool
  | .never => false
  | .dawn => level == 0
  | .hub => decide (level ≤ 2)
  | .fabric => true

/-- The register at an address takes its Reset value at a level. -/
def resetsAddr (level addr : Nat) : Bool := match regAt addr with | some d => d.cls.resets level | none => true

/-- Registers and queue registers at a reset. -/
def State.resetRegs (s : State) (level : Nat) : State :=
  { s with regs := s.regs.filter (fun p => !resetsAddr level p.1), logs := s.logs.filter (fun p => !resetsAddr level p.1) }

/-- The domain field of a node (Tables 10.4 and 10.5). -/
def domLoc (node d : Nat) : Loc := if node < 169 then domainLoc node d else ⟨PWR_RING.REG (node - 169), 4 * d + 3, 4 * d⟩

/-- The HBM stacks in service or in self-refresh. -/
def State.hbmHolding (s : State) : List Nat := (below 32).filter (fun k => s.get (hbmStateLoc k) == 2 || s.get (hbmStateLoc k) == 3)

/-- The DRAM port dies whose DC and DH domains are on. -/
def State.dpdOn (s : State) : List Nat := (below 16).filter (fun d => s.get (domLoc (dpdNode d) 0) == 3 && s.get (domLoc (dpdNode d) 1) == 3)

/-- What the fabric holds apart from its registers: Gelat contents, arrays, vector cores, control cores, engines, mesh, Gale links,
the loaded image, and the memory of retirements (R489). HBM contents stand. -/
def State.resetHidden (s : State) : State :=
  let gelat := fun (k : Nat) => ppaSpace k != 0
  let mods := s.modules.map (fun p => (p.1, { present := p.2.present, ident := p.2.ident : LenModule }))
  let s := { s with memory := s.memory.filter (fun c => gelat c.1), poison := s.poison.filter gelat, retire := [], retired := [] }
  let s := { s with arrays := [], vectors := [], controls := [], replays := [], votes := [], arrayRetire := [], dies := [], gelats := [] }
  let s := { s with hbms := [], rwtCache := [], rwtStale := [], requests := [], partials := [], redWait := [], links := [] }
  let s := { s with verifyPending := false, image := {}, gale := [], conduits := [], colls := [], modules := mods, pass := {}, trans := none }
  let p := s.power
  let p := { p with reqs := [], failedOnce := [], fromRetention := [], uvs := [], fails := [], segForced := [], inForced := false, hot := [] }
  let s := { s with demands := [], guests := [], spares := {}, thermal := { s.thermal with stackList := [], energy := [] } }
  let c := s.clock
  let s := { s with disc := {}, commit := {}, fw := {}, clock := { c with nodes := [], beacon := 0, pads := [], slipped := [], setOp := 2, pause := 0 } }
  { s with power := { p with eStk := [], eRing := [], ringHist := [], senses := [], hubFailed := false } }

/-- The hub core's own state (L0 to L2). -/
def State.resetHub (s : State) (level : Nat) : State :=
  let h := s.host
  let s := { s with clock := { s.clock with latch := none, ptp := {} } }
  let kept : HostState := { msix := h.msix, funcMask := h.funcMask, pend := h.pend }
  let s := { s with updraft := {}, thermal := { s.thermal with spots := [] } }
  { s with baro := [], completions := [], phases := [], slots := [], host := if level = 2 then kept else {}, mgmt := {} }

/-- SEG_TRIPPED and SECTORS_LOST follow the segments. -/
def State.segShow (s : State) : State :=
  let bad := (below 21).filter (fun g => s.get (PWR_SEG.STATE g) == 3 || s.get (PWR_SEG.STATE g) == 4)
  (s.put PWR_STATUS.SEG_TRIPPED (maskOf bad)).put PWR_STATUS.SECTORS_LOST (bad.filter (fun g => decide (g < 16))).length

/-- Segments at L1 to L3 (R374, R490): those that are ON stay ON, and a TRIPPED one may start once more. -/
def State.resetSegments (s : State) : State :=
  ((below 21).foldl (fun s g =>
    let s := s.put (PWR_SEG_BUDGET.BUDGET g) (s.get (PWR_SEG_BUDGET.RATED g))
    if s.get (PWR_SEG.STATE g) = 3 then s.put (PWR_SEG.STATE g) 0 else s) s).segShow

/-- What an L3 reset changes in registers of the hub that it otherwise keeps (R441, R463, R518): the operating point and its table, the counts since
the last reset of the fabric, and what describes the firmware of the fabric. -/
def State.resetFabricShow (s : State) : State :=
  let s := (below 8).foldl (fun s k => s.setReg (CLK_OPTAB.REG k) (resetWord (CLK_OPTAB.REG k))) s
  let s := (((s.put CLK_OP.CUR 2).put CLK_OP.MAX 2).put CLK_OP.PENDING 0xF).put CLK_OP.CHANGES 0
  let s := (((s.put CLK_STATUS.SLIPS 0).put CLK_STATUS.UNLOCKED 0).put ISB_STATUS.STEPS 0).put ISB_STATUS.BEACON_LOSS 0
  let s := s.setReg RST_FW_STATUS.REG 0
  { s with regs := s.regs.filter (fun p => !(decide (RST_FW_MISSCNT.REG 0 ≤ p.1) && decide (p.1 ≤ RST_FW_MISS.REG 168))) }

/-- The Dawn island's findings about the clocks show in the hub's registers again after a reset (R438, R461). -/
def State.clockShow (s : State) : State :=
  (s.put CLK_STATUS.REF_OK (b2n s.clock.refOk)).put CLK_STATUS.DAWN_BACKUP (b2n s.clock.backup)

/-- Everything that a level resets, but for the power state (Table 14.1, R490, R491). -/
def State.applyReset (s : State) (level : Nat) : State :=
  let hbm := s.hbmHolding
  let dpd := s.dpdOn
  let pcie := s.reg HUB_PCIE.REG
  let credits := (below 4).map (fun q => UPD_SQ.CREDIT q)
  let s := (s.resetRegs level).resetHidden
  let s := if level ≤ 2 then s.resetHub level else s
  let s := if level = 2 then s.setReg HUB_PCIE.REG pcie else s
  let t := s.thermal
  if level = 0 then
    let s := { s with thermal := { samples := t.samples, coolant := t.coolant, hist := t.hist, heat := t.heat, flowAt := t.flowAt, tIn := t.tIn, tOut := t.tOut } }
    { s with memory := [], poison := [], clock := {}, power := { samples := s.power.samples, pwrokSince := s.power.pwrokSince } }
  else
    let s := s.clockShow
    let s := hbm.foldl (fun s k => s.put (hbmStateLoc k) 3) s
    let s := dpd.foldl (fun s d => (s.put (domLoc (dpdNode d) 0) 3).put (domLoc (dpdNode d) 1) 3) s
    let s := s.power.isolations.foldl (fun s p =>
      if p.2 < 2 then s else s.put (if p.1 < 169 then PWR_STK_W0.ISOLATED p.1 else PWR_RING.ISOLATED (p.1 - 169)) 1) s
    let s := s.resetSegments
    if level = 3 then
      let u := s.updraft
      let s := { s with thermal := { t with spots := t.spots.filter (fun p => p.1 / 16 == 84) } }
      let s := { s with updraft := { u with credits := [], coolDomain := [], coolSector := [], coolDebt := none } }
      ((credits.foldl (fun s l => s.put l 0) s).resetFabricShow.put HUB_PASS.STATE 6).put CLK_STATUS.BILLOW_RUN 0
    else s

/-! ## Sources and the cause record (R493 to R500, R503) -/

/-- The code of a source (Table 14.2); sources 0x0A and 0x0C have two. -/
def sourceCode (src : Nat) : Nat :=
  nth 0 [0x0A01, 0x0A02, 0x0A03, 0x0A04, 0x0A05, 0x0A06, 0x0A07, 0x0A08, 0x0A09, 0x070A, 0x0707, 0x0806, 0x0830] src

/-- A source that ends an open start window as a failed start. -/
def failsStart (src : Nat) : Bool := src == 5 || src == 6 || (9 ≤ src && src ≤ 12)

/-- The fused level of a source (RST_MAP). -/
def State.fused (s : State) (src : Nat) : Nat := s.get (RST_MAP.LEVEL.sub (2 * src) 2)

/-- FAILS rises by one, saturating at 15 (R503). -/
def State.failStart (s : State) : State := s.addSat DWN_CAUSE0.FAILS 1

/-- Write the cause record, all but FAILS (R499). -/
def State.cause (s : State) (src code level : Nat) (merged : Bool) (pstate : Nat) : State :=
  let s := ((s.put DWN_CAUSE0.CODE code).put DWN_CAUSE0.SOURCE src).put DWN_CAUSE0.LEVEL level
  let s := ((s.put DWN_CAUSE0.RESET 1).put DWN_CAUSE0.MERGED (b2n merged)).put DWN_CAUSE0.PSTATE pstate
  s.put DWN_CAUSE1.TIME s.isobar

/-- The completion record of a pass that an L3 reset ends (R492). -/
def State.resetCompletion (s : State) (code : Nat) : State :=
  if !s.pass.running then s
  else
    let s := { s with pass := { s.pass with status := 3, code := code } }
    let q := s.get HUB_PASS.SQ
    (s.complete q s.passRecord s.pass.irq false).put (SQ_CTRL.ABORT q) 0

/-- The power state that a reset at a level leaves until it is released. -/
def State.resetState (s : State) (level : Nat) : State :=
  let s := { s with rst := { s.rst with level := some level, ended := false, rsto := true, bootRecord := true } }
  let s := ((s.put RST_STATUS.COLD 1).put RST_STATUS.TARGET 0xF).closeWindow
  let s := (s.put RST_STATUS.READY 0).put DWN_DOLD.ACTIVE 0
  if level = 3 then s.put RST_STATUS.PSTATE 2
  else { s.put RST_STATUS.PSTATE 1 with isobar := (s.isobar + 3) / 4 * 4, rst := { s.rst with standbySince := s.isobar } }

/-- A reset source is detected (R494, R496, R497, R499): it merges into a reset in progress, or starts one. want is the level that the
source asks for, 3 where it asks for none. -/
def State.resetBy (s : State) (src code want : Nat) : State :=
  let level := Nat.min want (s.fused src)
  match s.rst.level with
  | some l =>
    let m := Nat.min l level
    let s := s.cause src code m true (s.get RST_STATUS.PSTATE)
    let s := if m < l then s.applyReset m else s
    s.resetState m
  | none =>
    let s := if failsStart src && s.flag RST_STATUS.WINDOW then s.failStart else s
    let s := s.cause src code level false (s.get RST_STATUS.PSTATE)
    let s := if level = 3 then s.resetCompletion code else s
    ((s.applyReset level).resetState level).send (.pin "RSTO_N" false)

/-! ## Release (R496, R498, R501, R504) -/

/-- A class 0x0A code (R526): its record and LAST_CODE. -/
def State.raiseReset (s : State) (code node : Nat) (details : List Nat) : State :=
  (s.record { code := code, source := if node < 169 then 1 else 0, node := node, details := details }).put RST_STATUS.LAST_CODE code

/-- The Barograph record of the cause, once the hub core runs (R498). -/
def State.bootRecord (s : State) : State :=
  if !s.rst.bootRecord then s
  else
    let s := { s with rst := { s.rst with bootRecord := false } }
    let code := s.get DWN_CAUSE0.CODE
    let s := s.record { code := code, source := 3, resets := true, details := [(s.reg DWN_CAUSE0.REG).toNat, (s.reg DWN_CAUSE1.REG).toNat] }
    if code / 256 = 0x0A then s.put RST_STATUS.LAST_CODE code else s

/-- The start window opens (R501). -/
def State.openWindow (s : State) : State :=
  { (s.put RST_STATUS.WINDOW 1).put RST_STATUS.WINDOW_S 120 with rst := { s.rst with windowAt := s.isobar } }

/-- The panel enters DOLDRUMS (R504, R505): only the hub segment stays ON. -/
def State.enterDoldrums (s : State) : State :=
  let s := (below 20).foldl (fun s g => if s.get (PWR_SEG.STATE g) = 1 ∨ s.get (PWR_SEG.STATE g) = 2 then s.put (PWR_SEG.STATE g) 0 else s) s
  let s := { s with isobar := (s.isobar + 3) / 4 * 4 }
  let s := ((s.put RST_STATUS.PSTATE 6).put RST_STATUS.COLD 1).closeWindow
  let s := (((s.put ISB_STATUS.SRC 0).put CLK_STATUS.ISB_LOCKED 0).put ISB_PTP_STAT.STEERING 0)
  let s := (s.put DWN_DOLD.ACTIVE 1).addSat DWN_DOLD.ENTRIES 1
  s.bootRecord.raiseReset 0x0A0A 0xFF []

/-- FAILS has reached DOLD_LIMIT (R504). -/
def State.tooManyFails (s : State) : Bool := decide (s.get RST_MAP.DOLD_LIMIT ≤ s.get DWN_CAUSE0.FAILS)

/-- The internal reset is released (step 4 of Table 14.3). -/
def State.releaseReset (s : State) : State :=
  match s.rst.level with
  | none => s
  | some l =>
    let s := { s with rst := { s.rst with level := none, ended := false } }
    if l ≤ 2 then s
    else if s.tooManyFails then s.enterDoldrums
    else s.openWindow.bootRecord

/-! ## The commands -/

/-- POWER_ON (R439, R499): standby power is applied. -/
def execPowerOn (s : State) : Host.Outcome State Fault Refusal :=
  let s := { s with isobar := 0 }
  let s := (s.put DWN_CAUSE0.FAILS 0).cause 0 0x0A01 0 false 0
  .next (((s.applyReset 0).resetState 0).send (.pin "RSTO_N" false))

/-- PERST_ASSERT (R493, R511): PERST_N is asserted; above STANDBY it is a reset source. -/
def execPerstAssert (s : State) : Host.Outcome State Fault Refusal :=
  let s := { s with rst := { s.rst with perst := true } }
  .next (if 2 ≤ s.get RST_STATUS.PSTATE then s.resetBy 1 0x0A02 3 else s)

/-- PERST_LONG (R493, R511): PERST_N has been held for 2 s. -/
def execPerstLong (s : State) : Host.Outcome State Fault Refusal :=
  .next (if s.rst.perst ∧ s.get RST_STATUS.PSTATE ≠ 0 ∧ ¬ (s.get RST_STATUS.PSTATE = 1 ∧ s.flag DWN_STATUS.HOLD) then s.resetBy 2 0x0A03 3 else s)

/-- PERST_RELEASE (R496, R511): PERST_N is released; a stretch whose 20 ms are over ends, and the STANDBY hold clears. -/
def execPerstRelease (s : State) : Host.Outcome State Fault Refusal :=
  if !s.rst.perst then .next s
  else
    let s := ({ s with rst := { s.rst with perst := false } }).put DWN_STATUS.HOLD 0
    .next (if s.rst.ended then s.releaseReset else s)

/-- RESET_REQUEST (R494): a write of RST_CTRL. -/
def execResetRequest (who : Requester) (value : Nat) (s : State) : Host.Outcome State Fault Refusal :=
  s.atDawn <|
  if !bit value 8 then .next (s.put RST_CTRL.LEVEL (bits value 1 0))
  else if bits value 31 24 ≠ 0x5A then .next s
  else
    let s := s.put RST_CTRL.LEVEL (bits value 1 0)
    match who with
    | .host => .next (s.resetBy 3 0x0A04 (bits value 1 0))
    | .mgmt _ => .next (s.resetBy 4 0x0A05 (bits value 1 0))
    | _ => .next s

/-- HUB_WATCHDOG_EXPIRY (R495). -/
def execHubWatchdogExpiry (s : State) : Host.Outcome State Fault Refusal :=
  .next (if s.hubRuns then (s.put DWN_WDOG.REMAIN 0).resetBy 5 0x0A06 3 else s)

/-- HUB_FATAL (R493). -/
def execHubFatal (s : State) : Host.Outcome State Fault Refusal := .next (if s.hubRuns then s.resetBy 6 0x0A07 3 else s)

/-- START_WINDOW_EXPIRY (R501, R503). -/
def execStartWindowExpiry (s : State) : Host.Outcome State Fault Refusal :=
  .next (if s.flag RST_STATUS.WINDOW then s.failStart.closeWindow.resetBy 7 0x0A08 3 else s)

/-- DOLDRUMS_EXIT (R506): a 1 written to DWN_DOLD.EXIT. -/
def execDoldrumsExit (_who : Requester) (value : Nat) (s : State) : Host.Outcome State Fault Refusal :=
  .next (if bit value 0 && s.get RST_STATUS.PSTATE == 6 then (s.put DWN_CAUSE0.FAILS 0).resetBy 8 0x0A09 3 else s)

/-- RESET_STRETCH_END (R496): 20 ms after the last source; the release waits for PERST_N. -/
def execResetStretchEnd (s : State) : Host.Outcome State Fault Refusal :=
  if s.rst.level.isNone then .next s
  else
    let s := { s with rst := { s.rst with ended := true } }
    .next (if s.rst.perst then s else s.releaseReset)

/-- RSTO_RELEASE (R496). -/
def execRstoRelease (s : State) : Host.Outcome State Fault Refusal :=
  .next (if s.rst.rsto ∧ s.rst.level.isNone then ({ s with rst := { s.rst with rsto := false } }).send (.pin "RSTO_N" true) else s)

/-- RST_PARK (R501). -/
def execRstPark (_who : Requester) (value : Nat) (s : State) : Host.Outcome State Fault Refusal :=
  s.atDawn <| .next (if bit value 0 then s.closeWindow else s)

end Sys2Proof.Machine
end

