-- ==== Sys2Proof/Machine/Stores.lean ====
section
/-! DEFINITION. The meanings of the commands of the stores (06_stores.md). -/

namespace Sys2Proof.Machine

open Sys2Proof

/-! ## The Gelat write port, scrubbing and repair -/

/-- One write at the port: classes 0 to 2 are writes of requesters; the repair engine and the scrubber pass the lock (R229),
and a scrub write-back is dropped where another write to its row commits in the same cycle (R223). -/
def commitWrite (site : Nat) (others : List PortWrite) (s : State) (w : PortWrite) : State :=
  if ppaSpace w.ppa ≠ 0 ∨ ppaSite w.ppa ≠ site then s
  else if w.cls < 3 then (s.writeMem ⟨w.node, w.unit⟩ w.ppa w.data w.poison).1
  else if w.cls = 4 ∧ others.any (fun o => decide (o.cls ≠ 4) && decide (o.ppa / 64 = w.ppa / 64)) then s
  else if s.memValid w.ppa then s.storeKey w.ppa w.data w.poison else s

/-- GELAT_WRITE_COMMIT (R223, R218): the writes that reach one write port in a cycle commit class by class, those of a class in
their order; where they overlap, the last to commit wins. -/
def execGelatWriteCommit (site : Nat) (writes : List PortWrite) (s : State) : Host.Outcome State Fault Refusal :=
  .next (((below 5).flatMap (fun c => writes.filter (fun w => w.cls == c))).foldl (commitWrite site writes) s)

/-- SCRUB_READ (R224): one weight row and one activation row, each in its walk's order. -/
def execScrubRead (site : Nat) (w a : RowErrors) (s : State) : Host.Outcome State Fault Refusal :=
  if !(s.gelatUp site) || !(s.flag (GLT_CTRL.SCRUB_EN site)) then .next s
  else
    let g := s.gelat site
    let rw := g.scrubW % 0x300000
    let ra := g.scrubA % 0xC0000
    let s := s.setGelat site { g with scrubW := (rw + 1) % 0x300000, scrubA := (ra + 1) % 0xC0000 }
    let s := (s.scrubRow site rw w).scrubRow site (0x300000 + ra) a
    .next (if rw = 0x2FFFFF then s.addWrap (GLT_SCRUB.WALKS site) 1 else s)

/-- GLT_ERR_LOG_READ (R225). -/
def execGltErrLogRead (who : Requester) (site bytes half : Nat) (s : State) : Host.Outcome State Fault Refusal :=
  s.readAtSite who (GLT_ERR_LOG.REG site + 4 * half) bytes site <|
  let r := s.readLog (GLT_ERR_LOG.REG site) bytes half
  .next (r.2.send (.readData who (GLT_ERR_LOG.REG site + 4 * half) bytes r.1.toNat false))

/-- GLT_REPAIR_RETRY (R228): every row held is scheduled for repair at the next boundary, and RETRY clears. -/
def execGltRepairRetry (who : Requester) (site : Nat) (s : State) : Host.Outcome State Fault Refusal :=
  s.atSite who (GLT_REPAIR.REG site) site <|
  let g := s.gelat site
  let s := g.held.foldl (fun s r =>
    let g := s.gelat site
    if g.repairW.length < 64 ∧ ¬ g.repairW.contains r then
      s.setGelat site { g with repairW := g.repairW ++ [r], held := markOut g.held r } else s) s
  .next ((s.repairCount site).put (GLT_REPAIR.RETRY site) 0)

/-- EXIT_SCRUB_DONE (R230): the die has read every row; corrections are written back, uncorrectable weight rows are repaired, and
EXIT_DONE reads 1. -/
def execExitScrubDone (site : Nat) (found : List (Nat × RowErrors)) (fails : List (Nat × Nat)) (s : State) :
    Host.Outcome State Fault Refusal :=
  if s.flag (GLT_STATUS.EXIT_SCRUB site) then
    let s := found.foldl (fun s f => s.scrubRow site f.1 f.2) s
    let s := s.repairSite site fails
    .next (((s.put (GLT_STATUS.EXIT_SCRUB site) 0).put (GLT_STATUS.EXIT_DONE site) 1).readyRefresh)
  else .next s

/-- Every byte of a site's Gelat reads zero with valid check bits (R512 step 6). -/
def State.clearGelat (s : State) (site : Nat) : State :=
  let lo := mkPpa 0 site 0
  let hi := mkPpa 0 site gelatSize
  let keep := fun (k : Nat) => decide (k < lo) || decide (hi ≤ k)
  let s := { s with memory := s.memory.filter (fun c => keep c.1), poison := s.poison.filter keep }
  s.setGelat site { s.gelat site with written := [] }

/-- GELAT_INIT_DONE (R513, R512 step 6). -/
def execGelatInitDone (site : Nat) (s : State) : Host.Outcome State Fault Refusal :=
  if s.gelatUp site then 
    .next ((((s.clearGelat site).put (GLT_STATUS.EXIT_SCRUB site) 0).put (GLT_STATUS.EXIT_DONE site) 1).readyRefresh) else .next s

/-- BAD and WHY of a handle entry are computed again (R210). -/
def State.handleJudge (s : State) (site h : Nat) : State :=
  let w (k : Nat) : Nat := (s.reg (BHT_ENTRY.REG site h k)).toNat
  let w3 := bits (w 3) 59 0
  let why := handleWhy (w 0) (w 1) (w 2) w3
  s.setReg (BHT_ENTRY.REG site h 3) (withField (withField (word w3) 63 63 (b2n (why != 0))) 62 60 why)

/-- BHT_WRITE (R211, R210): accepted only between passes; BAD and WHY of the entry are computed again. The hub keeps a shadow
of the writes of the host and the management ports (R541). -/
def execBhtWrite (who : Requester) (site h k value : Nat) (s : State) : Host.Outcome State Fault Refusal :=
  s.atSite who (BHT_ENTRY.REG site h k) site <|
  if !s.betweenPasses then .next (s.raiseGelat 0x0314 site 0 false [h])
  else
    let v := if k = 3 then bits value 59 0 else value
    let s := s.setReg (BHT_ENTRY.REG site h k) (word v)
    let host : Bool := match who with | .host => true | .mgmt _ => true | _ => false
    let shadow := s.spares.handles
    let s := if host then { s with spares := { s.spares with handles := putKey shadow (BHT_ENTRY.REG site h k) (word v) } } else s
    .next (s.handleJudge site h)

/-! ## HBM -/

/-- HBM_TRAIN (R232): the training of a stack ends. -/
def execHbmTrain (stack : Nat) (r : TrainResult) (s : State) : Host.Outcome State Fault Refusal :=
  if s.get (hbmStateLoc stack) ≠ 1 ∨ 32 ≤ stack then .next s
  else match r with
    | .trained => .next (s.put (hbmStateLoc stack) 2)
    | .unsupported => .next ((s.hbmLeave stack).raiseDpd 0x0315 stack 0 false [])
    | .failed => .next ((s.hbmLeave stack).raiseDpd 0x0316 stack 0 false [])

/-- GOLDEN_PATROL_READ (R234): the next 64-byte access of a locked golden range is read and corrected. -/
def execGoldenPatrolRead (stack : Nat) (e : Ecc) (s : State) : Host.Outcome State Fault Refusal :=
  let lo := s.get ⟨DPD_GOLD.REG (stack / 2) (stack % 2), 14, 0⟩ * 0x200000
  let hi := s.get ⟨DPD_GOLD.REG (stack / 2) (stack % 2), 46, 32⟩ * 0x200000
  if 32 ≤ stack ∨ ¬ s.goldenLocked stack ∨ ¬ s.hbmUp stack ∨ hi ≤ lo then .next s
  else
    let h := s.hbm stack
    let at_ := if h.patrol < lo ∨ hi ≤ h.patrol then lo else h.patrol
    let s := s.setHbm stack { h with patrol := if at_ + 64 ≥ hi then lo else at_ + 64 }
    let s := s.eccOn (mkPpa 1 stack at_) e
    .next (if at_ + 64 ≥ hi then s.addWrap (if stack % 2 = 0 then DPD_PATROL.WALKS0 (stack / 2) else DPD_PATROL.WALKS1 (stack / 2)) 1 else s)

/-- DPD_GOLD_WRITE (R234): accepted only between passes; a LIMIT above 24,576 stores 24,576. -/
def execDpdGoldWrite (who : Requester) (stack value : Nat) (s : State) : Host.Outcome State Fault Refusal :=
  s.atHub who (DPD_GOLD.REG (stack / 2) (stack % 2)) <|
  if !s.betweenPasses then .next (s.record { code := 0x0B11 })
  else
    let r := DPD_GOLD.REG (stack / 2) (stack % 2)
    .next (s.setReg r (withField (withField (withField 0 63 63 (bits value 63 63)) 46 32 (sat 24576 (bits value 46 32))) 14 0 (bits value 14 0)))

/-- The bytes [o, o+n) of a gather view, where they lie in one block (R235, R236): the data, whether it is poisoned, and whether
the block reaches beyond the stack. -/
def State.gatherBytes (s : State) (h : Handle) (o n : Nat) : List Nat × Bool × Bool :=
  let z := 2 ^ h.blockLog
  let ip := h.index + 4 * (o / z)
  let idx := s.readMem ip 4
  let off := ppaOffset h.base + ofLe idx.1 * z
  if idx.2 then (s.freeBytes n, true, false)
  else if off + z > hbmSize then (s.freeBytes n, true, true)
  else
    let d := s.readMem (mkPpa 1 (ppaSite h.base) (off + o % z)) n
    (d.1, d.2, false)

/-- GATHER_BLOCK_READ (R235, R236): the DRAM port die reads the index of the block that a waiting view request reaches, then
the block's bytes, and answers the request. The index and the block each meet an error code of their own. -/
def execGatherBlockRead (node tag : Nat) (ei eb : Ecc) (s : State) : Host.Outcome State Fault Refusal :=
  match s.requests.find? (fun r => r.node == node && r.tag == tag && !r.write) with
  | none => .next s
  | some r =>
    match r.view with
    | none => .next s
    | some (site, h, o) =>
      match s.handle site h with
      | none => .next s
      | some x =>
        if x.kind ≠ 3 then .next s
        else
          let d := ppaSite x.base / 2
          let s := if s.hbmUp (ppaSite x.base) then s.eccOn (x.index + 4 * (o / 2 ^ x.blockLog)) ei else s
          let off := ppaOffset x.base + ofLe (s.readMem (x.index + 4 * (o / 2 ^ x.blockLog)) 4).1 * 2 ^ x.blockLog
          let s := if s.hbmUp (ppaSite x.base) ∧ off + 2 ^ x.blockLog ≤ hbmSize then s.eccOn (mkPpa 1 (ppaSite x.base) (off + o % 2 ^ x.blockLog)) eb else s
          let g := if s.hbmUp (ppaSite x.base) then s.gatherBytes x o r.bytes else (List.replicate r.bytes 0xFF, true, false)
          let s := if s.hbmUp (ppaSite x.base) then s else s.ppaInvalid ⟨node, 0xFF⟩ r.ppa false
          let s := s.addWrap (DPD_GATHER.BLOCKS d) 1
          let s := if g.2.2 then
              ((s.addSat (DPD_GATHER.BAD_INDEX d) 1).raiseDpd 0x0313 (ppaSite x.base) s.discardBit false [site, h, o]).discardPass 0x0313
            else s
          let len := (r.bytes + 127) / 128
          let p : Packet := { dst := node, src := dpdNode d, type := 8, len := len, bytes := r.bytes, tag := tag, ppa := r.ppa, data := g.1 }
          .next (s.tick.inject { p with poison := if g.2.1 then 2 ^ len - 1 else 0 })

/-! ## The remote window table (R238 to R241) -/

/-- HUB_RWT_WRITE (R238, R241, R205): the entry takes effect at the hub at once, every cache drops it, and halted channels
wake. Requests translated with the old value that are still open are noted for the next sync. -/
def execHubRwtWrite (who : Requester) (e value : Nat) (s : State) : Host.Outcome State Fault Refusal :=
  s.atHub who (HUB_RWT.REG e) <|
  let s := s.setReg (HUB_RWT.REG e) (word value)
  let s := { s with rwtCache := s.rwtCache.map (fun (c : Nat × List (Nat × Word)) => (c.1, delKey c.2 e)), rwtStale := markIn s.rwtStale e }
  .next (s.wakeEntry e)

/-- HUB_RWT_SYNC (R241): SYNC reads 1 until the sync has completed. -/
def execHubRwtSync (who : Requester) (value : Nat) (s : State) : Host.Outcome State Fault Refusal :=
  s.atHub who HUB_RWT_SYNC.REG <|
  .next (if bit value 0 then s.put HUB_RWT_SYNC.SYNC 1 else s)

/-- RWT_SYNC_DONE (R241): once no request translated through an entry written before is open, SYNC clears. -/
def execRwtSyncDone (s : State) : Host.Outcome State Fault Refusal :=
  if s.flag HUB_RWT_SYNC.SYNC && !(s.requests.any (fun r => match r.rwt with | some e => s.rwtStale.contains e | none => false)) then
    .next ({ s with rwtStale := [] }.put HUB_RWT_SYNC.SYNC 0)
  else .next s

end Sys2Proof.Machine
end

