-- ==== Sys2Proof/Machine/PowerOps.lean ====
section
/-! DEFINITION. Operations of power delivery (10_power.md): raising its codes, the power tree, phases and caps, a domain's supply, the
queue of power-ups, segments, the input limits, and the request to go to a lower power state. -/

namespace Sys2Proof.Machine

open Sys2Proof

/-! ## Codes (R402) -/

/-- SOURCE of a record about a node; segments and the input are the Dawn island's. -/
def nodeSource (node : Nat) : Nat := if node < 169 ∧ node ≠ 84 then 1 else if ringNode node then 2 else if node = 84 then 0 else 3

/-- NODE of a record or event about a node: the hub has 0xFF (R402). -/
def shownNode (node : Nat) : Nat := if node = 84 then 0xFF else node

/-- Raise a class 0x07 code (R402): its record, its PWR_EVENT entry and the LAST_CODE fields. In OFF the panel raises nothing (R362). -/
def State.raisePower (s : State) (r : Raise) (phase : Nat) : State :=
  if s.get RST_STATUS.PSTATE = 0 then s
  else
    let s := s.record { r with source := nodeSource r.node, node := shownNode r.node }
    let e : Word := withField (withField (withField (withField 0 55 48 (shownNode r.node)) 47 40 r.unit) 39 32 phase) 31 16 r.code
    let s := (s.pushLog PWR_EVENT.REG e).put PWR_STATUS.LAST_CODE r.code
    if r.node < 169 ∧ r.node ≠ 84 then s.put (PWR_STK_W0.LAST_CODE r.node) r.code
    else if ringNode r.node then s.put (PWR_RING.LAST_CODE (r.node - 169)) r.code else s

/-- Raise a code of the input or of a segment. -/
def State.raiseInput (s : State) (code unit action : Nat) : State := s.raisePower { code := code, unit := unit, action := action } 0xFF

/-- Raise a code of a domain. -/
def State.raiseDomain (s : State) (code node unit action : Nat) : State :=
  s.raisePower { code := code, node := node, unit := unit, action := action } 0xFF

/-- Bit 4 of ACTION: the panel leaves SERVING. -/
def State.leaveBit (s : State) : Nat := if s.get RST_STATUS.PSTATE = 4 then 16 else 0

/-! ## The power tree (Tables 10.2, 10.4 and 10.5) -/

/-- The segment that feeds a node. -/
def segOf (node : Nat) : Nat := if node = 84 then 20 else if node < 169 then sectorOf node else 16 + (node - 169) / 11

/-- The nodes that a segment feeds. -/
def segNodes (g : Nat) : List Nat :=
  if g < 16 then sectorSites g else if g < 20 then (below 11).map (fun i => 169 + 11 * (g - 16) + i) else [84]

/-- One number for a node's domain. -/
def domKey (node d : Nat) : Nat := node * 8 + d

/-- The HBM rails of a DRAM port die are one domain field, DH, with phases by rail. -/
def isHbmDomain (node d : Nat) : Bool := ringNode node && ringKind ((node - 169) % 11) == 4 && d == 1

/-- Phases of a domain (of a rail, for DH). -/
def domPhases (node d rail : Nat) : Nat :=
  if node = 84 then nth 0 [5, 3] d
  else if node < 169 then nth 0 [5, 5, 3, 2, 2, 2] d
  else if isHbmDomain node d then Config.railPhases (node - 169) rail
  else if ringKind ((node - 169) % 11) = 3 then nth 0 [3, 3, 2] d
  else if d = 0 then 3 else 0

/-- The FAIL field of a stack's domain. -/
def failLoc (site d : Nat) : Loc :=
  match d with
  | 0 => PWR_STK_W1.FAIL_NR site | 1 => PWR_STK_W1.FAIL_SR site | 2 => PWR_STK_W1.FAIL_VC site
  | 3 => PWR_STK_W1.FAIL_TR site | 4 => PWR_STK_W1.FAIL_GA site | _ => PWR_STK_W1.FAIL_GP site

/-- The key of a ring or hub domain's failed phases. -/
def failKey (node d rail : Nat) : Nat := domKey node d * 1000 + rail

/-- The failed phases of a domain as a mask. -/
def State.failedPhases (s : State) (node d rail : Nat) : Nat :=
  if node < 169 ∧ node ≠ 84 then s.get (failLoc node d) else lookD 0 s.power.fails (failKey node d rail)

/-- The current cap in force of a stack's domain in 0.1 A (R379, R387, R388). -/
def State.domCap (s : State) (site d : Nat) : Nat :=
  let n := domPhases site d 0
  let f := popCount 8 (s.failedPhases site d 0)
  if f = 0 then nth 0 [320, 320, 200, 100, 80, 100] d else (n - f) * nth 0 [70, 70, 80, 80, 70, 80] d

/-- The setpoint of a domain in mV: NR, SR and VC have the setpoints of an operating point (R383, R453). -/
def State.setpoint (s : State) (node d : Nat) : Nat :=
  let k := s.clock.setOp
  if node < 169 ∧ node ≠ 84 then
    match d with
    | 0 => 5 * s.get (CLK_OPTAB.NR_SET k) | 1 => 5 * s.get (CLK_OPTAB.SR_SET k) | 2 => 5 * s.get (CLK_OPTAB.VC_SET k)
    | _ => Config.setpoint node d
  else if ringNode node && ringKind ((node - 169) % 11) == 5 then (s.guest ((node - 169) / 11)).vset
  else Config.setpoint node d

/-- The power cap of a stack's domain in mW (R387, R391). -/
def State.domPowerCap (s : State) (site d : Nat) : Nat :=
  let c := s.domCap site d * s.setpoint site d / 10
  if s.power.hot.contains site then c * 3 / 4 else c

/-- The state of a domain of any node; the hub's domains have no field. -/
def State.dom (s : State) (node d : Nat) : Nat := if node = 84 then 3 else s.get (domLoc node d)

/-- The LSR input switch of a node is open (R382). -/
def isolatedLoc (node : Nat) : Loc := if node < 169 then PWR_STK_W0.ISOLATED node else PWR_RING.ISOLATED (node - 169)

/-- A segment is TRIPPED or LOCKED. -/
def State.segDead (s : State) (g : Nat) : Bool := s.get (PWR_SEG.STATE g) == 3 || s.get (PWR_SEG.STATE g) == 4

/-- FLT_N is asserted (R369, as far as power goes): a dead segment, a lost bar, or an isolated stack or ring position. -/
def State.powerFault (s : State) : Bool :=
  (below 21).any s.segDead || s.power.lostA || s.power.lostB || stackSites.any (fun x => s.flag (isolatedLoc x)) ||
    (below 44).any (fun p => s.flag (PWR_RING.ISOLATED p))

/-! ## Queued power-ups (R393, R394) -/

/-- The order of a stack's domains: TR, GP, GA, VC, NR, SR. -/
def upRank (node d : Nat) : Nat := if node < 169 then nth 9 [4, 5, 3, 0, 2, 1] d else d

/-- The domains of a stack in the order in which they power up. -/
def upOrder : List Nat := [3, 5, 4, 2, 0, 1]

/-- DEFER of a segment follows its queue. -/
def State.deferShow (s : State) (g : Nat) : State :=
  s.put (PWR_SEG_BUDGET.DEFER g) (b2n (s.power.reqs.any (fun r => segOf r.node == g)))

def State.setReqs (s : State) (l : List PowerReq) : State := { s with power := { s.power with reqs := l } }

/-- Place a request: by time, then site, then the order of the domains. -/
def PowerReq.place (r : PowerReq) : List PowerReq → List PowerReq
  | [] => [r]
  | x :: l =>
    if r.since = x.since ∧ (r.node < x.node ∨ (r.node = x.node ∧ upRank r.node r.dom < upRank x.node x.dom)) then r :: x :: l
    else x :: r.place l

/-- A request leaves the queue. -/
def State.dropReq (s : State) (node d : Nat) : State :=
  (s.setReqs (s.power.reqs.filter (fun r => r.node != node || r.dom != d))).deferShow (segOf node)

/-- A power-up is refused now (R394, R396, R421). -/
def State.refusedUp (s : State) (node d : Nat) : Bool :=
  let off := fun (x : Nat) => x == 0 || x == 4 || x == 5
  s.segDead (segOf node) || s.flag (isolatedLoc node) || s.flag THM_EMERG.ACTIVE ||
    (decide (node < 169) && decide (d ≤ 2) && (off (s.dom node 4) || off (s.dom node 5)))

/-- The hub requests a domain (R393, R394): it waits for approval, or is refused with 0x0719. -/
def State.requestDomain (s : State) (node d : Nat) : State :=
  let st := s.dom node d
  if st = 1 ∨ st = 2 ∨ st = 3 then s
  else if s.refusedUp node d then s.raiseDomain 0x0719 node d 0
  else
    let p := s.power
    let p := { p with fromRetention := if st = 4 then markIn p.fromRetention (domKey node d) else p.fromRetention }
    let p := { p with reqs := PowerReq.place { node := node, dom := d, since := s.isobar } p.reqs }
    (({ s with power := p }).put (domLoc node d) 1).deferShow (segOf node)

/-- Step 1 of Table 16.8: where GST_CTRL.EN is 1 and the segment is ON, GU is requested at 0.750 V; where it is ON already the sideband is released (R568). -/
def State.guestStart (s : State) (g : Nat) : State :=
  if s.flag (GST_CTRL.EN g) ∧ s.get (PWR_SEG.STATE (segOf (guestNode g))) = 2 then
    let s := (s.setGuest g { s.guest g with vset := 750, retrainDue := false }).put (GST_STATUS.WHY g) 0
    let s := ((s.put (GST_STATUS.RETRAINS g) 0).guestState g 1).requestDomain (guestNode g) 0
    if s.dom (guestNode g) 0 = 3 then s.guestState g 2 else s
  else s

/-- Request several domains of a node. -/
def State.requestAll (s : State) (node : Nat) (ds : List Nat) : State := ds.foldl (fun s d => s.requestDomain node d) s

/-! ## A domain's supply (R392 to R397, R490) -/

/-- An array row loses its domain: banks, accumulators and everything in flight are gone; retired arrays stay retired. -/
def State.rowDown (s : State) (site row : Nat) : State :=
  (below 9).foldl (fun s i =>
    let a := 9 * row + i
    let s := if (look s.arrays (arrayKey site a)).isSome then s.setArray site a {} else s
    let s := ((s.put (MXA_STATUS.BANK0_VALID site a) 0).put (MXA_STATUS.BANK1_VALID site a) 0).put (MXA_STATUS.WAIT site a) 0
    if s.get (MXA_STATUS.STATE site a) = 6 then s else s.put (MXA_STATUS.STATE site a) 7) s

/-- An array row has its domain: its arrays are empty and idle, or spare. -/
def State.rowUp (s : State) (site row : Nat) : State :=
  let m := s.rowMap site
  (below 9).foldl (fun s i =>
    let a := 9 * row + i
    if s.get (MXA_STATUS.STATE site a) = 7 then s.put (MXA_STATUS.STATE site a) (if mapSpare m row = i then 4 else 0) else s) s

/-- The vector cores lose their domain: registers, scratch and program memory are gone (R395). -/
def State.vcDown (s : State) (site : Nat) : State :=
  (below 4).foldl (fun s v =>
    let s := if (look s.vectors (vectorKey site v)).isSome then s.setVector site v {} else s
    let s := (s.setReg (VCO_TOKEN.REG site v) 0).put (VCO_CTRL.GO site v) 0
    (s.put (VCO_STATUS.WAIT site v) 0).put (VCO_STATUS.STATE site v) 4) s

/-- The Izique die loses TR: both rows, the vector cores, the control cores and every engine. -/
def State.trDown (s : State) (site : Nat) : State :=
  let s := ((s.rowDown site 0).rowDown site 1).vcDown site
  let s := (below 2).foldl (fun s c =>
    let s := if (look s.controls (controlKey site c)).isSome then s.setControl site c {} else s
    s.put (CCO_STATUS.STATE site c) 4) s
  let s := if s.reg (CLK_SITE.REG site) = 0 then s else s.setReg (CLK_SITE.REG site) 0
  { s with dies := delKey s.dies site, replays := (s.replays.filter (fun p => p.1 / 2 != site)), votes := delKey s.votes site }

/-- The Gelat cells lose their supply (R208). -/
def State.gaDown (s : State) (site : Nat) : State :=
  (((s.clearGelat site).setGelat site {}).put (GLT_STATUS.EXIT_DONE site) 0).put (GLT_STATUS.EXIT_SCRUB site) 0

/-- The HBM stacks of a DRAM port die lose their supply, and with it their contents. -/
def State.hbmDown (s : State) (node : Nat) : State :=
  (below 16).foldl (fun s k =>
    if dpdNode k ≠ node then s
    else [2 * k, 2 * k + 1].foldl (fun s j =>
      let keep := fun (x : Nat) => ppaSpace x != 1 || ppaSite x != j
      let s := { s with memory := s.memory.filter (fun c => keep c.1), poison := s.poison.filter keep }
      if s.get (hbmStateLoc j) = 4 then s else s.put (hbmStateLoc j) 0) s) s

/-- A domain leaves its supply: st is OFF (0), RETENTION (4) or LOST (5). Any request for it is dropped (R396). -/
def State.domainDown (s : State) (node d st : Nat) : State :=
  if node = 84 then s
  else
    let s := (s.dropReq node d).put (domLoc node d) st
    let p := s.power
    let s := { s with power := { p with failedOnce := delKey p.failedOnce (domKey node d), fromRetention := markOut p.fromRetention (domKey node d) } }
    if node < 169 then
      match d with
      | 0 => s.rowDown node 0
      | 1 => s.rowDown node 1
      | 2 => s.vcDown node
      | 3 => if st = 4 then s else s.trDown node
      | 4 => if st = 4 then (s.put (GLT_STATUS.EXIT_DONE node) 0).put (GLT_STATUS.EXIT_SCRUB node) 0 else s.gaDown node
      | _ => s
    else if isHbmDomain node d then s.hbmDown node
    else if ringKind ((node - 169) % 11) = 5 ∧ s.guestSt ((node - 169) / 11) = 5 then s.guestLoss ((node - 169) / 11) else s

/-- A domain powers down where it has a supply or waits for one; no approval is needed (R393). -/
def State.powerDown (s : State) (node d : Nat) : State :=
  let st := s.dom node d
  if st = 0 ∨ st = 5 ∨ node = 84 then s else s.domainDown node d 0

/-- Power down domains of a node. -/
def State.powerDownAll (s : State) (node : Nat) (ds : List Nat) : State := ds.foldl (fun s d => s.powerDown node d) s

/-- Domains of a node, by field number. -/
def domsOf (node : Nat) : List Nat :=
  if node = 84 then [] else if node < 169 then upOrder.reverse
  else match ringKind ((node - 169) % 11) with
    | 3 => if ((indexOf? (fun e => edgeNode e == node) (below 24)).getD 1) % 2 = 0 then [2, 1, 0] else [1, 0]
    | 4 => [1, 0]
    | _ => [0]

/-- A node loses its supply (R375, R377, R382): every domain reads LOST. -/
def State.supplyLost (s : State) (node : Nat) : State := (domsOf node).foldl (fun s d => s.domainDown node d 5) s

/-- A domain is ON: what it supplies comes up empty (R395, R397, R230, R232). -/
def State.domainUp (s : State) (node d : Nat) : State :=
  let was := s.power.fromRetention.contains (domKey node d)
  let p := s.power
  let s := { s with power := { p with failedOnce := delKey p.failedOnce (domKey node d), fromRetention := markOut p.fromRetention (domKey node d) } }
  let s := s.put (domLoc node d) 3
  if node < 169 then
    match d with
    | 0 => s.rowUp node 0
    | 1 => s.rowUp node 1
    | 2 => (below 4).foldl (fun s v => s.put (VCO_STATUS.STATE node v) 0) s
    | 3 =>
      if was then s
      else
        let s := (s.mapStates node).vcDown node
        (below 2).foldl (fun s c => s.put (CCO_STATUS.STATE node c) 0) s
    | 4 => if was then s.put (GLT_STATUS.EXIT_SCRUB node) 1 else s
    | _ => s
  else if ringKind ((node - 169) % 11) = 4 then
    if s.dom node 0 = 3 ∧ s.dom node 1 = 3 then
      (below 32).foldl (fun s k => if dpdNode (k / 2) = node ∧ (s.get (hbmStateLoc k) = 0 ∨ s.get (hbmStateLoc k) = 3) then s.put (hbmStateLoc k) 1 else s) s
    else s
  else if ringKind ((node - 169) % 11) = 5 ∧ s.guestSt ((node - 169) / 11) = 1 then s.guestState ((node - 169) / 11) 2
  else s

/-! ## What a lost unit means -/

/-- A unit is to leave service at the next boundary: a stack is retired (R528), a ring position goes out (R390). -/
def State.unitLeaves (s : State) (node code : Nat) (deferrable : Bool) : State :=
  if node = 84 then s else s.decideRetire ⟨node, code, false, deferrable⟩

/-- ACTION of a code that fences a node. -/
def State.fenceBits (s : State) (node : Nat) : Nat := s.abortBit + 8 + (if node < 169 then 4 else 0)

/-! ## Going to a lower power state (R509, R516) -/

/-- The power state changes: PSTATE and its hub event. -/
def State.setPstate (s : State) (p : Nat) : State := if s.get RST_STATUS.PSTATE = p then s else (s.put RST_STATUS.PSTATE p).hubEvent HUB_EVENT.PSTATE

/-- A transition starts at its first step. -/
def State.startTransition (s : State) (target : Nat) : State :=
  let t : Transition := { target := target, start := s.get RST_STATUS.PSTATE, since := s.isobar, phaseSince := s.isobar }
  { s.put RST_STATUS.TARGET target with trans := some t }

/-- A transition goes down. -/
def Transition.down (t : Transition) : Bool := decide (t.target ≤ t.start)

/-- The panel is to go down to a power state (R368, R417, R421, R456, R509): the transition takes over one that goes up or less far
down. -/
def State.goDown (s : State) (target : Nat) : State :=
  match s.trans with
  | some t => if t.down && decide (t.target ≤ target) then s else s.startTransition target
  | none => if s.get RST_STATUS.PSTATE ≤ target ∨ s.get RST_STATUS.PSTATE = 6 then s else s.startTransition target

/-! ## Segments (R371 to R378) -/

/-- VIN is in range (R360): the 1 ms mean, in 10 mV units. -/
def State.vinOk (s : State) : Bool := decide (3600 ≤ s.get PWR_INPUT.VIN) && decide (s.get PWR_INPUT.VIN ≤ 4400)

/-- PWROK has been asserted for 1 s (R368). -/
def State.pwrokLong (s : State) : Bool :=
  s.flag PWR_STATUS.PWROK && (match s.power.pwrokSince with | none => false | some t => decide (t + 100000 ≤ s.power.samples))

/-- A segment that is OFF starts: it precharges (R373). -/
def State.startSegment (s : State) (g : Nat) : State :=
  if s.get (PWR_SEG.STATE g) = 0 ∧ s.vinOk ∧ s.flag PWR_STATUS.PWROK then s.put (PWR_SEG.STATE g) 1 else s

/-- The consequences of a segment that delivers no more (R375, R377, R378). -/
def State.segLost (s : State) (g : Nat) : State :=
  if g < 16 then
    let s := (s.raiseInput 0x0705 g (s.abortBit + 12)).abortPass 0x0705 0xFF
    (sectorSites g).foldl (fun s x => if s.present x then (s.supplyLost x).fence x 0x0705 else s.supplyLost x) s
  else if g < 20 then
    let s := s.raiseInput 0x0706 g (s.abortBit + 8)
    let s := (segNodes g).foldl (fun s n => (s.supplyLost n).fence n 0x0706) s
    [0, 1, 2].foldl (fun s i =>
      let k := 3 * (g - 16) + i
      if (s.lenModule k).present && s.get (LEN_STATE.STATE k) != 6 then
        ((s.setModule k { s.lenModule k with challenge := none }).raiseModule k 0x0636).moduleState k 1
      else s) s
  else (s.raisePower { code := 0x0707, unit := 20, resets := true } 0xFF).resetBy 10 0x0707 3

/-- A segment trips (R374): the second time since L0 it is LOCKED. -/
def State.segTrip (s : State) (g cause : Nat) : State :=
  let s := (s.addSat (PWR_SEG.TRIPS g) 1).put (PWR_SEG.TRIP_CAUSE g) cause
  let s := (s.put (PWR_SEG.STATE g) (if 2 ≤ s.get (PWR_SEG.TRIPS g) then 4 else 3)).segShow
  s.segLost g

/-! ## The input (R363, R399) -/

/-- I_LIM in 0.1 A units (R363, R364). -/
def State.iLim (s : State) : Nat := if s.power.lostA || s.power.lostB then 2500 else 4500

/-- IN_LIMIT in W for a mean VIN in mV (R363). -/
def State.inLimit (s : State) (mv : Nat) : Nat := Nat.min 18000 (mv * s.iLim / 10000)

/-- IN_LIMIT as the scheduler takes it (R401). -/
def State.inLimitUsed (s : State) : Nat := let n := s.get PWR_LIMIT.IN_LIMIT; if s.flag PWR_STATUS.METER_OK then n else n * 8 / 10

/-- The presence of the bars, as the registers show it. -/
def State.barShow (s : State) : State :=
  ((s.put PWR_STATUS.BAR_A_OK (b2n !s.power.lostA)).put PWR_STATUS.BAR_B_OK (b2n !s.power.lostB)).put PWR_LIMIT.I_LIM s.iLim

/-- Units of 10 pJ in a millijoule. -/
def mJ : Nat := 100000000

/-- A snapshot of every energy counter (R399). -/
def State.snapshot (s : State) : State :=
  let p := s.power
  let s := (s.put PWR_E_IN.ENERGY (p.eIn / mJ)).put PWR_SNAP_TIME.TIME s.isobar
  let s := (s.put PWR_BAR_E.BAR_A (p.eA / mJ / 1000)).put PWR_BAR_E.BAR_B (p.eB / mJ / 1000)
  let s := p.eSeg.foldl (fun s e => s.put (PWR_SEG_E.ENERGY e.1) (e.2 / mJ)) s
  p.eStk.foldl (fun s e => s.put (PWR_STK_E.ENERGY e.1) (e.2 / mJ)) s

end Sys2Proof.Machine
end

