-- ==== Sys2Proof/Machine/DiscOps.lean ====
section
/-! DEFINITION. Operations of discovery (01_panel.md R41 to R51): the position that a probe's path gives, the checks of an answer, and a stack that
fails. -/

namespace Sys2Proof.Machine

open Sys2Proof

/-- The rotation of the arm of a site (Table 1.1). -/
def armRotation (site : Nat) : Nat := armOf site

/-- Follow the edges of a path from a site entered on panel side d (R44): the position and the rotation of the stack at its end, entered by physical
edge e. -/
def derivePlace : Nat → Nat → List (Nat × Nat) → Nat → Option (Nat × Nat)
  | site, d, [], e => some (site, (d + 4 - e % 4) % 4)
  | site, d, (en, ex) :: l, e =>
    let out := (ex + (d + 4 - en % 4)) % 4
    match siteToward site out with
    | none => none
    | some t => if hubSite t then none else derivePlace t ((out + 2) % 4) l e

/-- The side of a site that faces hub port h. -/
def hubFacing (h : Nat) : Nat := ((below 4).find? (fun d => neighbour (hubPortSite h) d == some (84, h))).getD 0

/-- The position and rotation that the hub derives from a probe. -/
def probePlace (p : Probe) : Option (Nat × Nat) := if p.hport < 12 then derivePlace (hubPortSite p.hport) (hubFacing p.hport) p.hops p.entry else none

/-- The straps of a stack are valid (R42). -/
def State.strapsOk (s : State) (site : Nat) : Bool :=
  let x := s.get (SIT_IDENT.SITE site)
  stackSite x && s.get (SIT_IDENT.ORI site) == armRotation x

/-- The code of a reached stack that fails (R42, R44, R45), 0 for none. -/
def State.answerCode (s : State) (site : Nat) (place : Nat × Nat) : Nat :=
  if !s.strapsOk site then 0x0A10
  else if s.get (SIT_IDENT.SITE site) != place.1 || s.get (SIT_IDENT.ORI site) != place.2 then 0x0A11
  else if s.get (SIT_IDENT.IZQ_STEP site) != 0x21 || s.get (SIT_IDENT.GLT_STEP site) != 0x20 then 0x0A13 else 0

/-- The stepping that a ring die must have (R45). -/
def State.ringStep (s : State) (n : Nat) : Nat := if ringKind ((n - 169) % 11) = 3 then s.get HUB_IDENT.EDGE_STEP else s.get HUB_IDENT.DPD_STEP

/-- The code of a ring position (R45, R46), 0 for none: a guest site without an answer is absent. -/
def State.ringCode (s : State) (n : Nat) : Nat :=
  let kind := ringKind ((n - 169) % 11)
  match look s.disc.rings n with
  | none => if kind = 5 then 0 else 0x0A14
  | some (k, step) => if k ≠ kind then 0x0A14 else if kind ≠ 5 ∧ step ≠ s.ringStep n then 0x0A13 else 0

/-- One answer of a ring slot, kept unless a wrong one is known (R46). -/
def State.ringAnswer (s : State) (n kind step : Nat) : State :=
  let good := fun (p : Nat × Nat) => p.1 == ringKind ((n - 169) % 11) && (p.1 == 5 || p.2 == s.ringStep n)
  match look s.disc.rings n with
  | some old => if good old then { s with disc := { s.disc with rings := putKey s.disc.rings n (kind, step) } } else s
  | none => { s with disc := { s.disc with rings := putKey s.disc.rings n (kind, step) } }

/-- The counts of failed stacks (R48). -/
def State.discCounts (s : State) : State :=
  let ended := (below 16).filter (fun g => decide (2 ≤ (s.disc.failed.filter (fun x => sectorOf x == g)).length))
  (s.putSat HUB_DISC_STATUS.FAILED_SITES s.disc.failed.length).put HUB_DISC_STATUS.OVER_SECTORS ended.length

/-- A stack is failed by discovery, or counts as such (R47, R523): it is dark, fenced and without supply. -/
def State.discFail (s : State) (site : Nat) : State :=
  let s := (s.put (siteOkBit site) 0).powerDownAll site (domsOf site)
  let s := if s.fenced site then s else ((s.put (fencedBit site) 1).addSat MSH_STATUS.FENCED 1).dropToward site
  { s with disc := { s.disc with failed := markIn s.disc.failed site } }.discCounts

/-- Raise a code of Table 1.7 at a position: its record, its log entry and LAST_CODE. -/
def State.raiseDisc (s : State) (code node : Nat) : State :=
  let s := s.raiseReset code node []
  let ring := decide (node ≥ 169)
  let e : Word := withField (withField (withField 0 56 56 (b2n ring)) 55 48 (if ring then node - 169 else node)) 31 16 code
  (s.pushLog HUB_DISC_LOG.REG e).put HUB_DISC_STATUS.LAST_CODE code

/-- A ring die that fails: out of service, and counted. -/
def State.ringFail (s : State) (n code : Nat) : State := ((s.raiseDisc code n).addSat HUB_DISC_STATUS.RING_FAILED 1).ringOut n

/-- HUB_HPORT after discovery (R50). -/
def State.hportShow (s : State) : State :=
  (below 12).foldl (fun s h =>
    let x := hubPortSite h
    s.put (hportField h) (if s.flag (siteOkBit x) && s.portUp x (hubFacing h) then h / 3 * 4 + h % 3 else 0xF)) s

end Sys2Proof.Machine
end

