-- ==== Sys2Proof/Machine/CommitOps.lean ====
section
/-! DEFINITION. Operations of arm and commit (13_overcast.md R190, R481, R483 to R487): which units take part, arming a change that waits, and
aborting it; and the class 0x09 codes of the clocks (R462), which an aborted change may raise. -/

namespace Sys2Proof.Machine

open Sys2Proof

/-! ## Class 0x09 codes (R462) -/

/-- Raise a class 0x09 code: its record, its CLK_EVENT entry and CLK_STATUS.LAST_CODE. The reference monitor and the backup oscillator are the Dawn
island's. -/
def State.raiseClk (s : State) (code node unit action : Nat) (details : List Nat) : State :=
  let dawn := code = 0x0901 ∨ code = 0x0902 ∨ code = 0x0940
  let source := if node = 0xFF then (if dawn then 3 else 0) else nodeSource node
  let s := s.record { code := code, source := source, node := shownNode node, unit := unit, action := action, corrected := code == 0x0920, details := details }
  let e : Word := withField (withField (withField 0 55 48 node) 47 40 unit) 31 16 code
  (s.pushLog CLK_EVENT.REG e).put CLK_STATUS.LAST_CODE code

/-! ## Units and messages (R483) -/

/-- The units that take part: the hub, every stack whose TR domain is on, and every ring die in service; fenced ones take no part. -/
def State.armUnits (s : State) : List Nat :=
  84 :: (stackSites.filter (fun x => s.domainOn x 3 && !s.fenced x) ++ s.ringIn)

/-- A message of the hub to a unit: to control core 1 of a stack, or to a ring die. -/
def State.unitMessage (s : State) (kind node : Nat) (ws : List Nat) : State :=
  if node = 84 then s
  else if node < 169 then s.hubMessage node 1 (hubWords kind ws)
  else s.send (.unit kind node ws)

/-- Raise a code about a unit (R485, R486): its record, and OVC_ARM_MISS where it is the first. -/
def State.raiseUnit (s : State) (code node action : Nat) (details : List Nat) : State :=
  let s := s.record { code := code, source := nodeSource node, node := shownNode node, action := action, details := details }
  if s.get OVC_ARM_MISS.NODE = 0xFF then (s.put OVC_ARM_MISS.NODE node).put OVC_ARM_MISS.CODE code else s

/-! ## Hold, arm and abort (R190, R481, R483, R485) -/

/-- A change waits to be armed or is armed. -/
def State.changePending (s : State) : Bool := s.commit.op.isSome || s.commit.image || s.commit.armed != 0

/-- HOLD ends where no further change waits (R190). -/
def State.endHold (s : State) : State := if s.get HUB_PASS.STATE = 1 ∧ ¬ s.changePending then s.put HUB_PASS.STATE 0 else s

/-- Step 1 of Table 13.9 for the change that waits longest, once no pass runs and the spare swaps of the boundary are over (R189): HOLD, and
ARM to every unit. The hub acknowledges its own part at once. -/
def State.armNow (s : State) : State :=
  if s.pass.running ∨ s.commit.armed ≠ 0 ∨ ¬ s.changePending then s
  else if !s.spares.swaps.isEmpty then (if s.get HUB_PASS.STATE = 0 then s.put HUB_PASS.STATE 1 else s)
  else
    let kind := if s.commit.op.isSome then 2 else 1
    let param := s.commit.op.getD 0
    let units := s.armUnits
    let t := s.isobar + s.get OVC_ARM_CFG.LEAD
    let s := if s.get HUB_PASS.STATE = 0 then s.put HUB_PASS.STATE 1 else s
    let s := (((s.addWrap OVC_ARM.ID 1).put OVC_ARM.KIND kind).put OVC_ARM.STATE 1).put OVC_ARM.ACKS 1
    let s := (((s.put OVC_ARM.UNITS units.length).put OVC_ARM_T.T t).put OVC_ARM_MISS.NODE 0xFF).put OVC_ARM_MISS.CODE 0
    let s := if kind = 2 then (s.put CLK_OP.PENDING param).put CLK_OP_COMMIT.T t else s
    let c := s.commit
    let s := { s with commit := { c with armed := kind, units := units, acks := [84], prepared := [84], confirmed := [] } }
    let id := s.get OVC_ARM.ID
    units.foldl (fun s n => s.unitMessage 0x20 n [id, kind, param, t]) s

/-- The end of a load in FAILED: what OVC_STATUS names, and the protection of the staging area gone (R479, R480). -/
def State.loadEnd (s : State) (code section_ site : Nat) : State :=
  let s := ((s.put OVC_STATUS.LAST_CODE code).put OVC_STATUS.SECTION section_).put OVC_STATUS.SITE site
  ({ s with image := { s.image with staging := none, stagingLost := false } }.put OVC_STAGED.ID 0).ovcState 6

/-- The armed change is aborted (R485): ABORT to every unit, the old mode stays, a load ends in FAILED with the code and site given, and HOLD
ends unless another change waits. -/
def State.commitAbort (s : State) (code site : Nat) : State :=
  let c := s.commit
  if c.armed = 0 then s
  else
    let s := s.put OVC_ARM.STATE 3
    let id := s.get OVC_ARM.ID
    let s := c.units.foldl (fun s n => s.unitMessage 0x22 n [id]) s
    let c := { c with armed := 0, units := [], acks := [], prepared := markOut c.prepared 84, confirmed := markOut c.confirmed 84 }
    let s : State :=
      if s.commit.armed = 2 then
        let s := { s with commit := { c with op := none }, clock := { s.clock with setOp := s.get CLK_OP.CUR } }
        (s.put CLK_OP.PENDING 0xF).hubEvent HUB_EVENT.OP
      else { s with commit := { c with image := false } }.loadEnd code 0xFF site
    s.armNow.endHold

/-- A loss of reference or a coolant emergency (R455, R487): detected before T − 500 it aborts the armed change; an operating-point change that only
waits is given up too. -/
def State.commitHazard (s : State) : State :=
  if s.commit.armed = 0 then
    if s.commit.op.isSome then ({ s with commit := { s.commit with op := none } }.hubEvent HUB_EVENT.OP).endHold else s
  else if s.isobar + 500 < s.get OVC_ARM_T.T then s.commitAbort 0 0xFF else s

end Sys2Proof.Machine
end

