-- ==== Sys2Proof/Machine/ClockOps.lean ====
section
/-! DEFINITION. Operations of the clocks (12_clocks.md): who keeps the Isobar count, the lattice, the mesh cycle counters, and the switch of the
operating point. -/

namespace Sys2Proof.Machine

open Sys2Proof

/-! ## The Isobar count (R439) -/

/-- The hub keeps the count: RETAINED, WARM and SERVING. -/
def State.hubKeeps (s : State) : Bool := let p := s.get RST_STATUS.PSTATE; s.rst.level.isNone && (p == 2 || p == 3 || p == 4)

/-- The registers that show the Isobar PLL follow it (ISB_STATUS.SRC, CLK_STATUS.ISB_LOCKED). -/
def State.srcShow (s : State) : State :=
  let src := if !s.hubKeeps then 0 else if s.clock.refOk then 1 else 2
  (s.put ISB_STATUS.SRC src).put CLK_STATUS.ISB_LOCKED (b2n (src == 1))

/-- The hub hands the count back: it goes on from the next multiple of 4. -/
def State.dawnTakes (s : State) : State := { s with isobar := (s.isobar + 3) / 4 * 4 }

/-! ## The lattice (R444, R447) -/

/-- The node of a stack runs. -/
def State.nodeRuns (s : State) (site : Nat) : Bool := stackSite site && s.domainOn site 3 && s.flag CLK_STATUS.BILLOW_RUN

/-- The neighbour of a clock node on edge d: a stack site, or 84 for the hub. -/
def clockNeighbour (site d : Nat) : Option Nat := if d < 4 then (neighbour site d).map (·.1) else none

/-- The node on edge d forwards its clock. -/
def State.forwards (s : State) (site d : Nat) : Bool :=
  match clockNeighbour site d with
  | none => false
  | some n => n == 84 || (s.domainOn n 3 && !s.fenced n)

/-- COUPLED of a node when the mesh starts, and HOLD where nothing couples. -/
def State.coupleAll (s : State) (site : Nat) : State :=
  let c := maskOf ((below 4).filter (fun d => s.forwards site d && !s.flag ((CLK_SITE.LOST site).sub d 1)))
  (s.put (CLK_SITE.COUPLED site) c).put (CLK_SITE.HOLD site) (b2n (c == 0))

/-- A comparator loses its neighbour's clock (R447): LOST, no more coupling, HOLD where none is left, and 0x0911. -/
def State.edgeLost (s : State) (site d : Nat) : State :=
  let s := (s.put ((CLK_SITE.LOST site).sub d 1) 1).put ((CLK_SITE.COUPLED site).sub d 1) 0
  (s.put (CLK_SITE.HOLD site) (b2n (s.get (CLK_SITE.COUPLED site) == 0))).raiseClk 0x0911 site d 0 []

/-- How many edges of a node report its clock lost. -/
def State.reports (s : State) (n : Nat) : Nat :=
  ((below 4).filter (fun d => match clockNeighbour n d with
    | some m => m != 84 && s.flag ((CLK_SITE.LOST m).sub ((d + 2) % 4) 1)
    | none => false)).length

/-- UNLOCKED counts the stack nodes that are not locked. -/
def State.unlockedShow (s : State) : State :=
  s.putSat CLK_STATUS.UNLOCKED (stackSites.filter (fun x => s.nodeRuns x && !s.flag (CLK_SITE.LOCK x))).length

/-! ## Mesh cycle counters (R449 to R451) -/

/-- K of the current operating point. -/
def State.kNow (s : State) : Nat := s.get (CLK_OPTAB.K (s.get CLK_OP.CUR))

/-- The mesh cycle counter of the hub's port nodes. -/
def State.hubMcc (s : State) : Nat := (s.isobar - s.clock.base) * s.kNow % 2 ^ 48

/-- The mesh cycle counter of a node. -/
def State.mcc (s : State) (site : Nat) : Nat :=
  match look s.clock.nodes site with
  | none => s.hubMcc
  | some n => (n.mcc + (s.isobar - n.since) * s.kNow) % 2 ^ 48

/-- The local Isobar count of a node (R449). -/
def State.localIsobar (s : State) (site : Nat) : Nat := s.clock.base + s.mcc site / Nat.max 1 s.kNow

/-- Every counter restarts at a count (R449, R450). -/
def State.mccRestart (s : State) (at_ : Nat) : State :=
  let nodes := s.clock.nodes.map (fun p => (p.1, { p.2 with mcc := 0, since := at_ }))
  { s with clock := { s.clock with base := at_, nodes := nodes } }

/-- The mesh stops (R516, R490): no node is locked, coupled or fed with beacons. -/
def State.billowStop (s : State) : State :=
  let s := stackSites.foldl (fun s x =>
    if s.reg (CLK_SITE.REG x) = 0 then s
    else (((s.put (CLK_SITE.LOCK x) 0).put (CLK_SITE.COUPLED x) 0).put (CLK_SITE.BEACON_OK x) 0).put (CLK_SITE.HOLD x) 0) s
  ({ s with clock := { s.clock with nodes := [], pause := 0 } }.put CLK_STATUS.BILLOW_RUN 0).put CLK_STATUS.UNLOCKED 0

/-! ## The switch (R453) -/

/-- Every link end applies the padding of the current operating point (R446). -/
def State.padsApply (s : State) : State :=
  let k := s.get CLK_OP.CUR
  s.clock.pads.foldl (fun s (p : Nat × List Nat) => s.put (SIT_LINK.PAD (p.1 / 8) (p.1 % 8)) (nth 0 p.2 k)) s

/-- Step 5 of Table 12.3: the operating point changes at T, and the counters restart with BASE = T. -/
def State.opSwitch (s : State) (target t : Nat) : State :=
  let s := ((s.put CLK_OP.CUR target).put CLK_OP.PENDING 0xF).addSat CLK_OP.CHANGES 1
  let s := { s with clock := { s.clock with setOp := target } }
  (s.mccRestart t).hubEvent HUB_EVENT.OP

/-! ## PTP (R459) -/

/-- The lock ends: LOCKED and its copy, the servo stops steering, and the next first offset sets ISB_EPOCH. -/
def State.ptpUnlock (s : State) : State :=
  let was := s.flag ISB_PTP_STAT.LOCKED
  let s := ((s.put ISB_PTP_STAT.LOCKED 0).put ISB_STATUS.PTP_LOCKED 0).put ISB_PTP_STAT.STEERING 0
  let s := { s with clock := { s.clock with ptp := { s.clock.ptp with good := 0, farSince := none, first := true, waiting := none } } }
  if was then s.raiseClk 0x0931 0xFF 0xFF 0 [] else s

end Sys2Proof.Machine
end

