-- ==== Sys2Proof/Machine/SpareOps.lean ====
section
/-! DEFINITION. Operations of spares and degraded service (15_spares.md): the codes of Table 15.6, the standing state of the sectors, the spare
swap of Table 15.3 from its start to its end, and the retirements of a pass boundary (R528 to R532). -/

namespace Sys2Proof.Machine

open Sys2Proof

/-! ## Codes, log and registers (R546, R547) -/

/-- The severity that Table 15.6 gives a code. -/
def spareSeverity (code : Nat) : Nat :=
  if code = 0x0140 then 1 else if code = 0x0141 ∨ code = 0x0142 ∨ code = 0x0144 ∨ code = 0x0321 then 2 else 0

/-- An entry of HUB_SPARE_LOG. -/
def State.spareLog (s : State) (code site other : Nat) : State :=
  let w : Word := withField (withField (withField (withField 0 59 56 (sectorOf site)) 55 48 site) 47 40 other) 31 16 code
  (s.pushLog HUB_SPARE_LOG.REG w).hubEvent HUB_EVENT.SPARE_LOG

/-- Raise a code of Table 15.6: its record, whose NODE is the retired or the incoming stack, its log entry and LAST_CODE. -/
def State.raiseSpare (s : State) (code node site other : Nat) : State :=
  let s := s.record { code := code, source := 1, node := node, fixed := some (spareSeverity code) }
  (s.put HUB_SPARE_STATUS.LAST_CODE code).spareLog code site other

/-- The SERVING site that a stack stands for, in service or not (R531). -/
def State.roleOf (s : State) (stack : Nat) : Option Nat := s.image.serving.find? (fun x => s.standIn x == stack)

/-- The idle spare of a sector: the spare that the image names, where it is in service, serves nothing and is in no swap. -/
def State.sectorSpare (s : State) (g : Nat) : Option Nat :=
  let p := nth 0xFF s.image.spares g
  if p = 0xFF ∨ ¬ s.stackIn p ∨ (s.roleOf p).isSome ∨ (s.spares.swaps ++ s.spares.again).any (fun w => w.spare == p) then none else some p

/-- HUB_SECTOR of a sector. -/
def State.sectorShow (s : State) (g : Nat) : State :=
  let xs := s.image.serving.filter (fun x => sectorOf x == g)
  let served := (xs.filter (fun x => s.stackIn (s.standIn x))).length
  let from_ := s.get (HUB_SUBST.FROM g)
  let used := s.flag (HUB_SUBST.VALID g) && xs.contains from_ && s.stackIn (s.get (HUB_SUBST.TO g))
  let st := if s.segDead g then 3 else if xs.isEmpty then 4 else if served < xs.length then 2 else if used then 1 else 0
  let s := (s.put (HUB_SECTOR.SPARE g) ((s.sectorSpare g).getD 0xFF)).put (HUB_SECTOR.FOR g) (if used then from_ else 0xFF)
  let s := s.put (HUB_SECTOR.DEFERRED g) (s.spares.deferred.filter (fun r => sectorOf r.site == g)).length
  (s.put (HUB_SECTOR.IN_SERVICE g) served).put (HUB_SECTOR.STATE g) st

/-- The registers of the spares follow the state: STATE names the least advanced of the swaps. -/
def State.sparesShow (s : State) : State :=
  let st := s.spares.swaps.foldl (fun m (w : Swap) => if m = 0 ∨ w.phase < m then w.phase else m) 0
  let s := (s.put HUB_SPARE_STATUS.STATE st).putSat HUB_SPARE_STATUS.DEFERRED s.spares.deferred.length
  (below 16).foldl (fun s g => s.sectorShow g) s

/-- HUB_SPARE_COPY names a swap; rows are those written in its current attempt. -/
def State.copyShow (s : State) (w : Swap) (rows : Nat) : State :=
  let s := ((s.put HUB_SPARE_COPY.SPARE w.spare).put HUB_SPARE_COPY.FOR w.site).put HUB_SPARE_COPY.SOURCE w.source
  (s.putSat HUB_SPARE_COPY.ATTEMPT w.attempt).put HUB_SPARE_COPY.ROWS rows

/-- A swap of a spare takes new contents. -/
def State.setSwap (s : State) (w : Swap) : State :=
  { s with spares := { s.spares with swaps := s.spares.swaps.map (fun x => if x.spare = w.spare then w else x) } }

/-- The running swap of a spare. -/
def State.swapOf (s : State) (spare : Nat) : Option Swap := s.spares.swaps.find? (fun w => w.spare == spare)

/-- A swap is no longer running. -/
def State.dropSwap (s : State) (w : Swap) : State :=
  { s with spares := { s.spares with swaps := s.spares.swaps.filter (fun x => x.spare != w.spare) } }

/-! ## Copy sources (R535, R536) -/

/-- The manifest entry of a swap's site. -/
def State.swapManifest (s : State) (w : Swap) : Option Manifest := s.image.manifest.find? (fun m => m.site == w.site)

/-- LENGTH of the slice of a swap. -/
def State.swapLength (s : State) (w : Swap) : Nat := match s.swapManifest w with | some m => m.length | none => 0

/-- SOURCE 0x0 is usable: the stack that served the site is not fenced and its Gelat has both domains ON. -/
def State.copyFromOld (s : State) (w : Swap) : Bool := !s.fenced w.old && s.dom w.old 4 == 3 && s.dom w.old 5 == 3

/-- A slice lies wholly inside the locked golden range of its HBM stack, which is in service. -/
def State.goldenHolds (s : State) (m : Manifest) : Bool :=
  s.hbmUp m.stack && s.goldenLocked m.stack && s.inGolden m.stack m.offset && s.inGolden m.stack (m.offset + m.length - 1)

/-- SOURCE 0x1 is usable. -/
def State.copyFromGolden (s : State) (w : Swap) : Bool := match s.swapManifest w with | some m => s.goldenHolds m | none => false

/-- The first usable source from number n on (Table 15.4). -/
def State.copySource (s : State) (w : Swap) (n : Nat) : Nat :=
  if n = 0 ∧ s.copyFromOld w then 0 else if n ≤ 1 ∧ s.copyFromGolden w then 1 else 2

/-- The stack that a swap replaces is needed as a copy source no longer (R529). -/
def State.releaseOld (s : State) (w : Swap) : State := if s.fenced w.old then s else s.powerDownAll w.old [5, 4]

/-- The copy of a swap starts, or starts again, from a source: COPY, or HOST_WAIT with 0x0321 (R535, R537). -/
def State.copyFrom (s : State) (w : Swap) (source : Nat) : State :=
  let w : Swap := { w with source := source, phase := if source = 2 then 5 else 3, since := s.isobar }
  let s := if source = 0 then s else s.releaseOld w
  let s := (s.setSwap w).copyShow w 0
  if source = 2 then s.raiseSpare 0x0321 w.spare w.old w.spare else s

/-- The copy restarts from the next usable source (R536, R538): ATTEMPT counts it. -/
def State.copyAgain (s : State) (w : Swap) (code : Nat) : State :=
  let s := s.raiseSpare code w.spare w.old w.spare
  s.copyFrom { w with attempt := w.attempt + 1 } (s.copySource w (w.source + 1))

/-- Copy n bytes of memory from one key on to another, with their poison marks: nothing unlisted needs a write where the destination reads
zero. -/
def State.copyBytes (s : State) (src dst n : Nat) : State :=
  let inside := fun (k : Nat) => decide (src ≤ k) && decide (k < src + n)
  let ended := fun (k : Nat) => decide (dst ≤ k) && decide (k < dst + n)
  let cells := s.memory.filter (fun c => inside c.1)
  let marks := s.poison.filter inside
  let m := s.memory.filter (fun c => !ended c.1)
  let m := cells.foldl (fun m (c : Host.Cell) => writeByte m (c.1 - src + dst) c.2) m
  let p := s.poison.filter (fun k => !ended k)
  { s with memory := m, poison := marks.foldl (fun p k => markIn p (codewordBase (k - src + dst))) p }

/-! ## The end of a swap (R529, R533, R539, R540) -/

/-- The domains that a swap powers up, in their order. -/
def swapDomains : List Nat := [5, 4, 2, 0, 1]

/-- The substitution of a swap is in force. -/
def State.substOf (s : State) (w : Swap) : Bool :=
  let g := sectorOf w.site
  s.flag (HUB_SUBST.VALID g) && s.get (HUB_SUBST.FROM g) == w.site && s.get (HUB_SUBST.TO g) == w.spare

/-- The substitution of a swap that does not end is withdrawn. -/
def State.substDrop (s : State) (w : Swap) : State := if s.substOf w then s.setReg (HUB_SUBST.REG (sectorOf w.site)) 0 else s

/-- A swap fails (R539): 0x0144, the spare waits again unless it is fenced or to be retired, and the sector is SHORT. -/
def State.swapFail (s : State) (w : Swap) : State :=
  let s := ((s.dropSwap w).substDrop w).raiseSpare 0x0144 w.spare w.old w.spare
  let s := if s.fenced w.spare ∨ s.retire.any (fun r => r.site == w.spare) then s else s.powerDownAll w.spare swapDomains.reverse
  (s.releaseOld w).raiseSpare 0x0141 w.old w.old 0xFF

/-- Every swap stops (R540): what the spares hold is discarded, and the swaps wait for the next entry to SERVING. -/
def State.swapsStop (s : State) : State :=
  let ws := s.spares.swaps
  let s : State := { s with spares := { s.spares with swaps := [], again := s.spares.again ++ ws } }
  let s := ws.foldl (fun s w => (s.substDrop w).powerDownAll w.spare swapDomains.reverse) s
  if ws.isEmpty then s else s.sparesShow

/-- A swap starts (step 1 of Table 15.3), or waits for SERVING (R540). -/
def State.swapBegin (s : State) (w : Swap) : State :=
  let w : Swap := { w with phase := 1, source := 0, attempt := 0, since := s.isobar }
  if s.get RST_STATUS.PSTATE ≠ 4 ∨ s.flag THM_EMERG.ACTIVE then { s with spares := { s.spares with again := s.spares.again ++ [w] } }
  else
    let s : State := { s with spares := { s.spares with swaps := s.spares.swaps ++ [w] } }
    (s.requestAll w.spare swapDomains).copyShow w 0

/-- The swaps that wait for SERVING start again (R540). -/
def State.swapsResume (s : State) : State :=
  let ws := s.spares.again
  let s : State := { s with spares := { s.spares with again := [] } }
  let s := ws.foldl (fun s w => s.swapBegin w) s
  if ws.isEmpty then s else s.sparesShow

/-- What a running swap does by itself: it fails with its spare (R539), goes on to INIT when the domains are ON, and restarts a copy whose
source is lost (R536). -/
def State.swapAdvance (s : State) (w : Swap) : State :=
  if s.fenced w.spare ∨ s.retire.any (fun r => r.site == w.spare) then s.swapFail w
  else if w.phase = 1 then
    if swapDomains.all (fun d => s.dom w.spare d == 3) then s.setSwap { w with phase := 2 } else s
  else if w.phase = 3 then
    if (w.source = 0 ∧ ¬ s.copyFromOld w) ∨ (w.source = 1 ∧ ¬ s.copyFromGolden w) then s.copyAgain w 0x0320 else s
  else s

/-- Every running swap advances; outside SERVING and in a coolant emergency they stop. -/
def State.swapsAdvance (s : State) : State :=
  if s.spares.swaps.isEmpty then s
  else if s.get RST_STATUS.PSTATE ≠ 4 ∨ s.flag THM_EMERG.ACTIVE then s.swapsStop
  else (s.spares.swaps.foldl (fun s w => s.swapAdvance w) s).sparesShow

/-! ## Retirements at a boundary (R528 to R532, R543) -/

/-- A multicast entry of a stack in the loaded image has an OUT bit other than LOCAL (R543, Table 13.5). -/
def State.transitRouter (s : State) (site : Nat) : Bool :=
  match s.image.area with
  | none => false
  | some (base, _) =>
    match s.imageSection base 2 with
    | none => false
    | some (o, _) => (below 15).any (fun m => s.imageNum base (o + 170 * 512 + (site * 15 + m) * 8) 1 % 16 != 0)

/-- The domains that leave with a retired stack (R529): all of a fenced one; otherwise VC, NR and SR, and GP and GA too where no swap
needs them. -/
def State.retireDomains (s : State) (site : Nat) (fenced copies : Bool) : State :=
  if fenced then s.powerDownAll site upOrder.reverse else s.powerDownAll site (if copies then [1, 0, 2] else [1, 0, 2, 4, 5])

/-- A stack is retired, other being the spare that replaces it (R528, R529). -/
def State.retireStack (s : State) (r : Retire) (other : Option Nat) : State :=
  let fenced := r.fenced || s.fenced r.site
  let s : State := { s with retired := markIn s.retired r.site }
  let s : State := { s with spares := { s.spares with deferred := s.spares.deferred.filter (fun d => d.site != r.site) } }
  let s := (s.addSat HUB_SPARE_STATUS.RETIRED 1).spareLog r.code r.site (other.getD 0xFF)
  let s := s.retireDomains r.site fenced other.isSome
  if fenced && s.transitRouter r.site then
    { s with spares := { s.spares with mcastBroken := true } }.raiseSpare 0x0142 r.site r.site 0xFF else s

/-- One retirement is taken (R530 to R532). -/
def State.takeRetire (s : State) (r : Retire) : State :=
  if 169 ≤ r.site then s.ringOut r.site
  else if s.retired.contains r.site then s
  else
    let g := sectorOf r.site
    match s.roleOf r.site with
    | none =>
      let spare := nth 0xFF s.image.spares g == r.site
      let s := s.retireStack r none
      if spare then s.raiseSpare 0x0145 r.site r.site r.site else s
    | some x =>
      match s.sectorSpare g with
      | some p => (s.retireStack r (some p)).swapBegin { spare := p, site := x, old := r.site }
      | none =>
        if r.deferrable ∧ ¬ r.fenced ∧ ¬ s.fenced r.site ∧ s.flag HUB_SPARE_CFG.DEFER_EN then
          if s.spares.deferred.any (fun d => d.site == r.site) then s
          else
            let s : State := { s with spares := { s.spares with deferred := s.spares.deferred ++ [r] } }
            s.raiseSpare 0x0143 r.site r.site 0xFF
        else (s.retireStack r none).raiseSpare 0x0141 r.site r.site 0xFF

/-- The retirements decided since the last boundary are taken in their order, those of one instant by rising site (R531); none while a swap
runs (R540). -/
def State.takeRetires (s : State) : State :=
  if s.retire.isEmpty ∨ ¬ s.spares.swaps.isEmpty then s
  else
    let l := s.retire
    (l.foldl (fun (s : State) r => s.takeRetire r) { s with retire := [] }).sparesShow

end Sys2Proof.Machine
end

