-- ==== Sys2Proof/Machine/UpdraftOps.lean ====
section
/-! DEFINITION. What the Updraft scheduler computes from (11_heat_and_budget.md R418, R425 to R430): the inputs of the rate, the mean
input power, the capacity of the bucket and the eligible queues; and the codes of class 0x08. -/

namespace Sys2Proof.Machine

open Sys2Proof

/-- Division to the nearest whole number, halves upwards. -/
def nearest (a b : Nat) : Nat := if b = 0 then 0 else (2 * a + b) / (2 * b)

/-! ## Codes (R435) -/

/-- Raise a class 0x08 code: its record, its THM_EVENT entry and LAST_CODE. The coolant's NODE is 0xFF. -/
def State.raiseThermal (s : State) (code node unit action : Nat) (resets : Bool) : State :=
  let s := s.record { code := code, source := nodeSource node, node := node, unit := unit, action := action, resets := resets }
  (s.pushLog THM_EVENT.REG (withField (withField (withField 0 55 48 node) 47 40 unit) 31 16 code)).put THM_STATUS.LAST_CODE code

/-! ## Inputs (Table 11.7) -/

/-- SEG_SUM in W: the budgets of the segments that are ON, over 0.97. -/
def State.segSum (s : State) : Nat :=
  nearest (100 * sumNat (((below 21).filter (fun g => s.get (PWR_SEG.STATE g) == 2)).map (fun g => s.get (PWR_SEG_BUDGET.BUDGET g)))) 97

/-- The inputs in the order of UPD_RATE.LIMITER. -/
def State.rateInputs (s : State) : List Nat := [s.get UPD_CTRL.HOST_CAP, s.inLimitUsed, s.segSum, s.get THM_HEAT.HEAT_CAP]

/-- TARGET and the input that sets it; of equal ones the first. -/
def State.target (s : State) : Nat × Nat :=
  let l := s.rateInputs
  (below 4).foldl (fun (b : Nat × Nat) i => if nth 0 l i < b.1 then (nth 0 l i, i) else b) (nth 0 l 0, 0)

/-- The mean input power of the last second in W. -/
def State.meanPower (s : State) : Nat := if s.updraft.powers.isEmpty then 0 else sumNat s.updraft.powers / s.updraft.powers.length / 1000

/-- CAPACITY in µJ (R427): R in mW times WINDOW in ms. -/
def State.capacity (s : State) : Nat := s.updraft.rate * s.get UPD_CFG.WINDOW

/-! ## Queues (R418, R430, R431) -/

/-- The completion ring of a queue has room for one more record beside those that still wait to be written (R180). -/
def State.ringRoom (s : State) (q : Nat) : Bool :=
  let n := 2 ^ s.get (SQ_CTRL.CQ_LOG2 q)
  !s.ringFull q && decide ((s.get (CQ_PTR.TAIL q) + n - s.get (CQ_PTR.HEAD q)) % n + (s.completions.filter (fun c => c.queue == q)).length + 1 < n)

/-- The hub may take the head entry of a queue (R180, R181): ENABLE is 1, an entry is pending, the completion ring is not full, and no
record waits to be written that may stop the queue. -/
def State.queueOpen (s : State) (q : Nat) : Bool :=
  s.flag (SQ_CTRL.ENABLE q) && s.queued q && s.ringRoom q && !s.completions.any (fun c => c.queue == q && !c.ok)

/-- A queue is eligible (R430). -/
def State.eligibleQueue (s : State) (q : Nat) : Bool := s.queueOpen q && decide (0 < s.get (UPD_SQ.WEIGHT q))

def State.eligible (s : State) : List Nat := (below 4).filter s.eligibleQueue

def State.credit (s : State) (q : Nat) : Int := lookD 0 s.updraft.credits q

/-- CREDIT of a queue, within ±60,000 J; the register shows it in J. -/
def State.setCredit (s : State) (q : Nat) (c : Int) : State :=
  let c := max (-60000000) (min 60000000 c)
  { s with updraft := { s.updraft with credits := putKey s.updraft.credits q c } }.put (UPD_SQ.CREDIT q) (unsigned 32 (c / 1000))

/-- P_want in W (R418). -/
def State.pWant (s : State) : Nat :=
  if s.eligible.isEmpty then s.meanPower else Nat.min (s.get UPD_CTRL.HOST_CAP) (Nat.min s.inLimitUsed s.segSum)

/-! ## Where the scheduler may work (R421, R433, R434) -/

/-- The stacks whose domains are gated for heat (R410). -/
def State.heatGated (s : State) (site : Nat) : Bool := s.flag (THM_STK.GATED site)

def State.stackHeat (s : State) (site : Nat) : StackHeat := lookD {} s.thermal.stackList site
def State.setHeat (s : State) (site : Nat) (x : StackHeat) : State :=
  { s with thermal := { s.thermal with stackList := putKey s.thermal.stackList site x } }

/-- HEAT_STACKS counts the stacks that are heat-gated. -/
def State.gatedShow (s : State) : State := s.putSat UPD_GATED.HEAT_STACKS (stackSites.filter s.heatGated).length

/-- Every domain that a pass needs is ON (R395). -/
def State.domainsReady (s : State) : Bool :=
  s.servingStacks.all (fun x => [0, 1, 2, 3, 4, 5].all (fun d => s.dom x d == 3) && !s.heatGated x)

end Sys2Proof.Machine
end

