-- ==== Sys2Proof/Machine/BoundaryOps.lean ====
section
/-! DEFINITION. What happens at a pass boundary (05_sweeps.md R186 to R190): the retrains, repairs, retirements, gatings and changes that wait for
one, and the end of the pass that has drained. Where no pass runs, the panel is at a boundary. -/

namespace Sys2Proof.Machine

open Sys2Proof

/-! ## What waits for a boundary -/

/-- The address is a SIT_LINK register. -/
def isLinkReg (a : Nat) : Bool := decide (0x1000000 ≤ a) && decide (0x80 ≤ (a - 0x1000000) % 0x10000) && decide ((a - 0x1000000) % 0x10000 < 0xC0)

/-- The links marked RETRAIN, as site and port. -/
def State.retrainLinks (s : State) : List (Nat × Nat) :=
  (s.regs.filter (fun p => isLinkReg p.1 && bit p.2.toNat 17)).map (fun p => (siteOfAddr p.1, (p.1 - 0x1000000) % 0x10000 / 8 - 0x10))

/-- Links that were marked RETRAIN still train (R274). -/
def State.retraining (s : State) : Bool :=
  s.retrainLinks.any (fun p => let st := s.get (SIT_LINK.STATE p.1 p.2); st == 1 || st == 2)

/-- Every link marked RETRAIN that runs trains again (R274): both ends leave UP, and both are marked. -/
def State.linksRetrain (s : State) : State :=
  if !s.flag CLK_STATUS.BILLOW_RUN then s
  else s.retrainLinks.foldl (fun s p =>
    if s.get (SIT_LINK.STATE p.1 p.2) ≠ 3 then s
    else
      let s := s.linkState p.1 p.2 2
      match neighbour p.1 p.2 with
      | some (n, q) => if n < 169 ∧ n ≠ 84 ∧ s.get (SIT_LINK.STATE n q) = 3 then (s.linkState n q 2).put (SIT_LINK.RETRAIN n q) 1 else s
      | none => s) s

/-- HBM stacks whose retirement was decided leave service (R232). -/
def State.hbmsLeave (s : State) : State :=
  (s.hbms.filter (fun p => p.2.leaving)).foldl (fun s p => (s.hbmLeave p.1).raiseDpd 0x0317 p.1 0 false []) s

/-- Verification that waits for the boundary (R262). -/
def State.verifyWaiting (s : State) : State := if s.verifyPending then { s with verifyPending := false }.verifyRoutes else s

/-- The key of a row of a site in the list of rows whose spare rows fail their read-back. -/
def rowKey (site row : Nat) : Nat := site * 2 ^ 22 + row

/-- Every repair that is scheduled runs (R226). -/
def State.repairAll (s : State) (fails : List (Nat × Nat)) : State :=
  (s.gelats.filter (fun p => !p.2.repairW.isEmpty || !p.2.repairA.isEmpty)).foldl (fun s p =>
    if s.gelatUp p.1 then
      s.repairSite p.1 ((fails.filter (fun f => f.1 / 2 ^ 22 == p.1)).map (fun f => (f.1 % 2 ^ 22, f.2)))
    else s) s

/-- The stacks that are to be heat-gated (R409). -/
def State.gateList (s : State) : List Nat := (s.thermal.stackList.filter (fun p => p.2.gateNext)).map (·.1)

/-- A stack's third gating within an hour of Isobar time. -/
def State.chronicHot (s : State) (site : Nat) : Bool :=
  decide (2 ≤ ((s.stackHeat site).gatings.filter (fun t => decide (s.isobar < t + hour))).length)

/-- The retirement of a stack that is hot again and again is decided (R410). -/
def State.chronicRetire (s : State) (site : Nat) : State :=
  if s.chronicHot site then (s.raiseThermal 0x0804 site 0xFF 4 false).decideRetire ⟨site, 0x0804, false, true⟩ else s

/-- A stack is heat-gated (R410), unless it has been retired instead. -/
def State.gateStack (s : State) (site : Nat) : State :=
  let h := s.stackHeat site
  let s := s.setHeat site { h with gateNext := false }
  if s.retired.contains site ∨ s.heatGated site ∨ ¬ s.servingStacks.contains site ∨ s.retire.any (fun r => r.site == site) then s
  else
    let s := s.setHeat site { h with gateNext := false, gatings := h.gatings.filter (fun t => decide (s.isobar < t + hour)) ++ [s.isobar] }
    ((s.raiseThermal 0x0803 site 0xFF 0 false).powerDownAll site [1, 0, 2]).put (THM_STK.GATED site) 1 |>.gatedShow

/-- Settings that take effect at a boundary (R295, R312, R432). -/
def State.settings (s : State) : State :=
  let s := (s.put SDG_STATUS.CHECK_ACTIVE (s.get SDG_CFG.CHECK_EN)).setReg SDG_SEED_CUR.REG (s.reg SDG_SEED.REG)
  { s with updraft := { s.updraft with en := s.flag UPD_CTRL.EN } }

/-- The actions of a boundary (R189, R274): retrains, repairs, retirements and swaps, and then the change that waits to be armed. -/
def State.boundary (s : State) (fails : List (Nat × Nat)) : State :=
  let s := ((s.linksRetrain.hbmsLeave).repairAll fails).retireArrays
  let hot := s.gateList
  let s := (hot.foldl (fun s x => s.chronicRetire x) s).takeRetires
  let s := hot.foldl (fun s x => s.gateStack x) s
  let s := (s.verifyWaiting.settings).quiesceWaiting
  s.armNow.readyRefresh

/-- A hub that lost its redundancy resets the panel at the boundary (R390). -/
def State.hubFailedNow (s : State) : State :=
  if s.power.hubFailed then { s with power := { s.power with hubFailed := false } }.resetBy 10 0x0711 3 else s

/-! ## The end of a pass (R183, R186, R189, R296, R428, R431) -/

/-- SDG_PASS and 0x0409 (R296). -/
def State.passMarked (s : State) : State :=
  let m := s.pass.marked
  let n := s.pass.entries
  let s := (s.put SDG_PASS.MARKED_PM (ceilDiv (m * 1000) n)).putSat SDG_PASS.ENTRIES n
  if s.get SDG_CFG.UNCHECKED_LIMIT * n < m * 1000 then (s.record { code := 0x0409, details := [m, n] }).put SDG_STATUS.LAST_CODE 0x0409 else s

/-- 0x0840 (R428): the metered energy exceeds 1.25 times the estimate. -/
def State.estimateLow (s : State) : State :=
  if 5 * s.pass.estimate < 4 * s.passEnergy then s.raiseThermal 0x0840 0xFF 0xFF 0 false else s

/-- The credits of the queues (R431). -/
def State.creditUpdate (s : State) : State :=
  let e : Int := s.passEnergy
  let q := s.get HUB_PASS.SQ
  let l := s.pass.eligible
  let sum : Int := (sumNat (l.map (fun r => s.get (UPD_SQ.WEIGHT r))) : Nat)
  let s := s.setCredit q (s.credit q - e)
  if sum = 0 then s else l.foldl (fun s r => s.setCredit r (s.credit r + e * (s.get (UPD_SQ.WEIGHT r) : Nat) / sum)) s

/-- The boundary finds every powered die in the empty state (R187): those of no participant too; corrected groups count anew (R269). -/
def State.panelEmpty (s : State) : State :=
  let rest := (stackSites.filter s.powered).filter (fun x => !s.pass.empty.contains x)
  let s := rest.foldl (fun s x => s.emptyDie x) s
  let s := { s with requests := s.requests.filter (fun r => !r.use.ofPass) }
  let errs := (s.regs.map (·.1)).filter (fun a => decide (0x1000000 ≤ a) && decide (0xC0 ≤ (a - 0x1000000) % 0x10000) && decide ((a - 0x1000000) % 0x10000 < 0x100))
  errs.foldl (fun s a => s.put ⟨a, 47, 32⟩ 0) s

/-- The completion records whose rings have room are written at once. -/
def State.writeRecords (s : State) : State :=
  s.completions.foldl (fun s c =>
    if s.ringFull c.queue then s else ({ s with completions := s.completions.erase c }).writeRecord c) s

/-- The boundary of the running pass (step 6 of Table 5.5): what the pass has shown, the actions of R189, and the completion record, which is
made of the pass as it ended. -/
def State.passBoundary (s : State) (fails : List (Nat × Nat)) : State :=
  let s := s.passMarked.estimateLow.creditUpdate
  let q := s.get HUB_PASS.SQ
  let p := s.pass
  let ws := s.passRecord
  let s := (s.panelEmpty).put (SQ_CTRL.ABORT q) 0
  let s := ({ s with pass := { seq := p.seq } }).put HUB_PASS.STATE 0
  let s := (s.boundary fails).complete q ws p.irq (p.status == 0)
  if s.power.hubFailed then s.writeRecords.hubFailedNow else s

/-- Every participant that is waited for has sent EMPTY (Table 5.5), and the drain's host read is complete (R553). -/
def State.drained (s : State) : Bool :=
  s.get HUB_PASS.STATE == 4 && s.pass.running && s.pass.cleared && s.host.drain.isNone && s.waiters.all (fun x => s.pass.taken.contains x)

/-- The drain goes on where a participant that was waited for is so no longer. -/
def State.drainOn (s : State) : State :=
  let s := s.maybeClear
  if s.drained then s.passBoundary [] else s

/-- What the hub does between passes by itself: what waits for a boundary is done. -/
def State.idleBoundary (s : State) : State :=
  if !s.hubRuns || s.doldrums then s
  else if s.pass.running then s.drainOn
  else if s.betweenPasses then (s.swapsAdvance.boundary []).hubFailedNow else s

end Sys2Proof.Machine
end

