-- ==== Sys2Proof/Machine/ImageOps.lean ====
section
/-! DEFINITION. What the hub checks of a staged Overcast image (13_overcast.md R465 to R476): header and section table, authentication, the sections, the
shape and the golden slices. -/

namespace Sys2Proof.Machine

open Sys2Proof

/-- What a check finds wrong: the code, and the section type and the site or unit that OVC_STATUS names (0xFF for none). -/
structure Finding where
  code : Nat
  sec : Nat := 0xFF
  site : Nat := 0xFF
  deriving DecidableEq, Repr

/-- A finding where a condition does not hold. -/
def need (ok : Bool) (f : Finding) : Option Finding := if ok then none else some f

/-- A staged image: where it stands and its LENGTH. -/
structure Staged where
  base : Nat
  len : Nat
  deriving DecidableEq, Repr

/-! ## Header and section table (R465, R466) -/

/-- A section table entry: its type, its place and its digest. -/
structure SecEntry where
  type : Nat
  off : Nat
  size : Nat
  digest : List Nat
  deriving DecidableEq, Repr

/-- Bytes of the header and the section table of ten entries. -/
def headBytes : Nat := 256 + 80 * 10

def State.secEntry (s : State) (base i : Nat) : SecEntry :=
  let o := 256 + 80 * i
  ⟨s.imageNum base o 2, s.imageNum base (o + 8) 8, s.imageNum base (o + 16) 8, s.imageBytes base (o + 24) 48⟩

def State.secEntries (s : State) (base : Nat) : List SecEntry := (below 10).map (s.secEntry base)

/-- The limits of Table 13.3 by type. -/
def secLimit (t : Nat) : Nat :=
  nth 0 [0, 4096, 131072, 131072, 64, 168, 262144, 67108864, 3221225472, 65536, 16384] t

/-- Two sections share a byte. -/
def SecEntry.meets (a b : SecEntry) : Bool := decide (Nat.max a.off b.off < Nat.min (a.off + a.size) (b.off + b.size))

def anyMeet : List SecEntry → Bool
  | [] => false
  | a :: l => l.any a.meets || anyMeet l

def allZero (l : List Nat) : Bool := l.all (· == 0)

/-- Two elements of a list of types are equal. -/
def anyTwice : List Nat → Bool
  | [] => false
  | a :: l => l.contains a || anyTwice l

/-- The checks of R466 on the header and the section table, against a stated length: FORMAT, STEPPING and SIZE. -/
def State.headCheck (s : State) (base ovcLen : Nat) : Option Finding :=
  let h := s.imageBytes base 0 headBytes
  let field := fun o n => ofLe ((h.drop o).take n)
  let es := s.secEntries base
  let length := field 24 8
  let entryOk := fun (i : Nat) (e : SecEntry) =>
    decide (1 ≤ e.type) && decide (e.type ≤ 10) && allZero ((h.drop (256 + 80 * i + 2)).take 6) && allZero ((h.drop (256 + 80 * i + 72)).take 8) &&
    e.off % 64 == 0 && decide (headBytes ≤ e.off) && decide (e.off + e.size ≤ length) && (e.type != 10 || allZero e.digest)
  let bad := (below 10).find? (fun i => !entryOk i (s.secEntry base i))
  need (h.take 4 == asciiBytes "OVCI" && decide (1 ≤ field 4 1) && decide (field 4 1 ≤ s.get HUB_IDENT.IMG_FMT) && field 5 1 == 10 &&
    field 16 8 != 0 && field 6 2 == 0 && allZero ((h.drop 36).take 220)) { code := 0x0101 }
  <|> (bad.map (fun i => let t := (s.secEntry base i).type; { code := 0x0101, sec := if 1 ≤ t ∧ t ≤ 10 then t else 0xFF }))
  <|> need (!anyTwice (es.map (·.type)) && !anyMeet es) { code := 0x0101 }
  <|> need (((h.drop 8).take 4).any (fun x => x != 0 && x == s.get HUB_IDENT.MOD_STEP)) { code := 0x0102 }
  <|> need (length == ovcLen) { code := 0x0103 }
  <|> ((es.find? (fun e => decide (secLimit e.type < e.size))).map (fun e => { code := 0x0103, sec := e.type }))

/-- The section of a type, once the section table has passed R466. -/
def State.sec (s : State) (base t : Nat) : SecEntry := ((s.secEntries base).find? (fun e => e.type == t)).getD ⟨t, 0, 0, []⟩

/-- The bytes of a section. -/
def State.secBytes (s : State) (base t : Nat) : List Nat := let e := s.sec base t; s.imageBytes base e.off e.size

/-- A section holds a poisoned byte. -/
def State.secPoison (s : State) (base t : Nat) : Bool := let e := s.sec base t; (s.readMem (base + e.off) e.size).2

/-! ## Authentication (R475, R476) -/

/-- The items of SIGNATURE: kind and bytes; fuel bounds their number. -/
def sigItems : Nat → List Nat → List (Nat × List Nat)
  | 0, _ => []
  | n + 1, l =>
    let len := ofLe ((l.drop 2).take 2)
    if l.length < 4 ∨ l.length < 4 + len then [] else (ofLe (l.take 2), (l.drop 4).take len) :: sigItems n (l.drop (4 + len))

/-- The bytes of an item, where SIGNATURE holds it. -/
def sigItem (items : List (Nat × List Nat)) (kind : Nat) : Option (List Nat) := (items.find? (fun i => i.1 == kind)).map (·.2)

/-- Order 1 of R476: the root key. -/
def rootOk (items : List (Nat × List Nat)) : Bool :=
  match sigItem items 1 with | some k => sha384 k == Config.rootHash | none => false

/-- A certificate of SIGNATURE that verifies under the root key and is marked for a purpose (orders 2 and 5): its key. -/
def certKey (items : List (Nat × List Nat)) (kind : Nat) (purpose : String) : Option (List Nat) :=
  match sigItem items 1, (sigItem items kind).bind certOf with
  | some root, some x => if x.signedBy p384 sha384 root && x.markedFor (asciiBytes purpose) then some x.key else none
  | _, _ => none

/-- A signature of SIGNATURE verifies over a message under a key. -/
def sigOk (items : List (Nat × List Nat)) (kind : Nat) (key : Option (List Nat)) (msg : List Nat) : Bool :=
  match key, sigItem items kind with
  | some k, some sg => p384.checks k (sha384 msg) sg
  | _, _ => false

/-- Order 6 of R476: the customer's co-signature, where a slot is blown. -/
def State.cosignOk (s : State) (items : List (Nat × List Nat)) (msg : List Nat) : Bool :=
  let slots := setBits 4 (s.get OVC_FUSE.COSIGN)
  slots.isEmpty || (match sigItem items 6 with
    | some k => slots.any (fun n => sha384 k == Config.customerSlot n) && sigOk items 7 (some k) msg
    | none => false)

/-- The checks of R476, orders 1 to 7, order 7 for the sections given: the first order that fails, with what it finds. -/
def State.authCheck (s : State) (base : Nat) (digested : List Nat) : Option (Nat × Finding) :=
  let items := sigItems 4096 (s.secBytes base 10)
  let head := s.imageBytes base 0 headBytes
  let fw := certKey items 2 "Overcast firmware signing"
  let pk := certKey items 4 "Overcast image packaging"
  let step := fun (n code : Nat) (ok : Bool) => (need ok { code := code, sec := 10 }).map (fun f => (n, f))
  step 1 0x0104 (rootOk items)
  <|> step 2 0x0104 fw.isSome
  <|> step 3 0x0104 (sigOk items 3 fw ((s.sec base 6).digest ++ (head.drop 12).take 4))
  <|> step 4 0x0106 (decide (s.get OVC_FUSE.SVN_MIN ≤ ofLe ((head.drop 12).take 4)))
  <|> step 5 0x0104 (sigOk items 5 pk head)
  <|> step 6 0x0105 (s.cosignOk items head)
  <|> ((digested.find? (fun t => sha384 (s.secBytes base t) != (s.sec base t).digest)).map (fun t => (7, { code := 0x0107, sec := t })))

/-! ## The site map (R467, R468) -/

/-- Word i of a list of bytes. -/
def wordAt (l : List Nat) (i : Nat) : Nat := ofLe ((l.drop (8 * i)).take 8)

/-- The SERVING sites of a sector's word. -/
def sectorServing (g w : Nat) : List Nat := ((setBits 10 (bits w 9 0)).map (fun i => nth 0xFF (sectorSites g) i))

/-- The SERVING sites of a site map, rising. -/
def mapServing (b : List Nat) : List Nat :=
  let l := (below 16).flatMap (fun g => sectorServing g (wordAt b (1 + g)))
  stackSites.filter l.contains

/-- The spares of a site map by sector. -/
def mapSpares (b : List Nat) : List Nat := (below 16).map (fun g => bits (wordAt b (1 + g)) 63 56)

def siteMapOk (b : List Nat) : Bool :=
  let w := wordAt b
  let sectorOk := fun g =>
    let x := w (1 + g)
    let serving := sectorServing g x
    let sp := bits x 63 56
    bits x 55 10 == 0 && decide (serving.length ≤ 9) && (sp == 0xFF || ((sectorSites g).contains sp && !serving.contains sp))
  let rowOk := fun p => decide (p ≤ 8) || p == 0xF
  let siteOk := fun x =>
    let v := w (17 + x)
    decide (v < 256) && (!hubSite x || v == 0) && rowOk (bits v 7 4) && rowOk (bits v 3 0)
  b.length == 186 * 8 && bits (w 0) 63 16 == 0 && bits (w 0) 7 1 == 0 && (below 16).all sectorOk && (below 169).all siteOk &&
    decide (bits (w 0) 15 8 ≤ 144) && bits (w 0) 15 8 == (mapServing b).length

/-! ## Routes and multicast entries (R470, R266) -/

/-- Bytes of the route tables in ROUTES. -/
def routeBytes : Nat := 170 * 512

/-- Entry m (1 to 15) of a site's multicast words. -/
def mcastWord (b : List Nat) (site m : Nat) : Nat := ofLe ((b.drop (routeBytes + (site * 15 + (m - 1)) * 8)).take 8)

/-- Walk the copies of a multicast from the routers in a list: the LOCAL deliveries, or none where a router is reached twice, or an OUT leads to a ring
port, to the hub or off the grid. fuel bounds the routers visited. -/
def mcastWalk (out : Nat → Nat) : Nat → List Nat → List Nat → Nat → Option Nat
  | 0, _, _, _ => none
  | _, [], _, got => some got
  | n + 1, r :: todo, seen, got =>
    if seen.contains r then none
    else
      let o := out r
      let next := (setBits 4 o).map (fun d => neighbour r d)
      if next.any (fun x => match x with | some (k, _) => decide (k ≥ 169) || k == 84 | none => true) then none
      else mcastWalk out n (todo ++ next.filterMap (fun x => x.map (·.1))) (r :: seen) (got + bits o 4 4)

def mcastOk (b : List Nat) : Bool :=
  (below 169).all (fun x => (below 15).all (fun m =>
    let w := mcastWord b x (m + 1)
    bits w 63 16 == 0 && bits w 7 5 == 0)) &&
  stackSites.all (fun x => (below 15).all (fun m =>
    mcastWalk (fun r => bits (mcastWord b r (m + 1)) 4 0) 200 [x] [] 0 == some (bits (mcastWord b x (m + 1)) 15 8)))

/-- A route entry keeps Table 7.6, with port codes that Table 7.2 does not call invalid (None is one of them); in the hub's table the codes name H0 to H11. -/
def routeEntryOk (hub : Bool) (e : Nat) : Bool :=
  let portOk := fun p => p == 0xF || (if hub then decide (p < 12) else decide (p ≤ 8))
  bits e 13 12 == 0 && bits e 3 0 == 0 && portOk (bits e 7 4) && portOk (bits e 11 8)

/-- Give every route table and multicast entry the values of ROUTES (R482 step 2). -/
def State.routesWrite (s : State) (b : List Nat) : State :=
  let s := stackSites.foldl (fun s x => (below 64).foldl (fun s i =>
    s.setReg (SIT_RTE.REG x i) (word (ofLe ((b.drop (x * 512 + i * 8)).take 8)))) s) s
  let s := (below 64).foldl (fun s i => s.setReg (MSH_HRTE.REG i) (word (ofLe ((b.drop (169 * 512 + i * 8)).take 8)))) s
  stackSites.foldl (fun s x => (below 15).foldl (fun s m => s.setReg (SIT_MCAST.REG x (m + 1)) (word (mcastWord b x (m + 1)))) s) s

/-- The routes of ROUTES hold for the current shape (R262). -/
def State.routesFit (s : State) (b : List Nat) : Bool := (s.routesWrite b).routesHold

def State.routesOk (s : State) (b : List Nat) : Bool :=
  b.length == routeBytes + 169 * 15 * 8 && ((below 169).filter hubSite).all (fun x => allZero ((b.drop (x * 512)).take 512)) &&
  (below 170).all (fun t => (below 256).all (fun n => routeEntryOk (t == 169) (ofLe ((b.drop (t * 512 + n * 2)).take 2)))) &&
  mcastOk b && s.routesFit b

/-! ## Trees (R470) -/

/-- Word 0 of slot t of a site, and the drain word of a site, in TREES. -/
def treeWord (b : List Nat) (site t : Nat) : Nat := wordAt b (site * 64 + t)
def drainWord (b : List Nat) (site : Nat) : Nat := wordAt b (169 * 64 + site)

def treesOk (b : List Nat) : Bool :=
  b.length == (169 * 64 + 169) * 8 &&
  (below 169).all (fun x =>
    let ws := (below 64).map (fun t => (t, treeWord b x t))
    let d := drainWord b x
    ws.all (fun p => !bit p.2 27) && (badEntries x false ws 0).all (fun p => !p.2) &&
    ws.all (fun p => let e := decodeTree p.2; !e.en || e.root || isEdge e.parent || (decodeTree (treeWord b e.parent p.1)).en) &&
    !(bit d 15 && bit d 7 && bits d 13 8 == bits d 5 0))

/-! ## Operating points and budgets (R470) -/

def State.optabOk (s : State) (b : List Nat) : Bool :=
  b.length == 64 &&
  (below 8).all (fun k =>
    let w := wordAt b k
    bits w 62 48 == 0 && bits w 47 32 == opFreq k && bits w 31 24 == opFreq k / 100 &&
    (!bit w 63 || [0, 8, 16].all (fun o => decide (110 ≤ bits w (o + 7) o) && decide (bits w (o + 7) o ≤ 170)))) &&
  bit (wordAt b 2) 63 && bit (wordAt b (s.get CLK_OP.CUR)) 63

def powerOk (serving : List Nat) (b : List Nat) : Bool :=
  b.length == 168 &&
  (below 21).all (fun g => decide (wordAt b g ≤ segRated g) && (wordAt b g != 0 || !(decide (g < 16) && serving.any (fun x => sectorOf x == g))))

/-! ## Programs and templates (R471, R472) -/

/-- Every word of a microcode block is valid under R98: opcodes, DEST values and LOOPs. -/
def ublockOk (ws : List Nat) : Bool :=
  let op := fun w => bits w 63 60
  decide (ws.length ≤ 512) &&
  (below ws.length).all (fun i =>
    let w := nth 0 ws i
    let t := bits w 40 32
    [0, 1, 3, 4, 5, 6, 7, 0xF].contains (op w) && (op w != 4 || decide (bits w 44 42 < 3)) &&
    (op w != 7 || (decide (t < i) && bits w 15 0 != 0 && (below (i - t)).all (fun j => op (nth 0 ws (t + j)) != 7))))

/-- The microcode block k of a TEMPLATES section, where it lies inside the section. -/
def ublock (b : List Nat) (k : Nat) : Option (List Nat) :=
  match Config.ublockPlace b k with
  | none => none
  | some (o, n) => if o + 8 * n ≤ b.length ∧ n ≤ 512 then some ((below n).map (fun i => ofLe ((b.drop (o + 8 * i)).take 8))) else none

/-- The entries of VECTOR's directory: number, offset and length in words, up to the first program (log entry 6). -/
def vectorEntry (v : List Nat) (i : Nat) : Nat × Nat × Nat :=
  let w := fun o n => ofLe ((v.drop (16 * i + o)).take n)
  (w 0 4, w 4 8, w 12 4)

def vectorEntries (v : List Nat) : List (Nat × Nat × Nat) :=
  if v.isEmpty then []
  else
    let n := Nat.min (v.length / 16) ((vectorEntry v 0).2.1 / 16)
    (below n).map (vectorEntry v)

/-- A vector program keeps R152 and lies inside VECTOR. -/
def vprogOk (v : List Nat) (e : Nat × Nat × Nat) : Bool :=
  let (_, o, n) := e
  decide (1 ≤ n) && decide (n ≤ 4096) && decide (o + 8 * n ≤ v.length) &&
  (below n).all (fun i => (decodeVec (ofLe ((v.drop (o + 8 * i)).take 8))).ok)

def vectorOk (v : List Nat) : Bool :=
  let es := vectorEntries v
  decide (es.length ≤ 4096) && es.all (vprogOk v)

/-- A sweep record keeps R472. -/
def sweepOk (b : List Nat) (progs serving : List Nat) (o : Nat) : Bool :=
  let w := fun i => ofLe ((b.drop (o + 8 * i)).take 8)
  match ublock b (bits (w 0) 63 48) with
  | none => false
  | some ws =>
    let lists := w 4
    let listOk := fun x =>
      let l := ofLe ((b.drop (lists + 8 * x)).take 8)
      let n := bits l 8 0
      decide (n ≤ 256) && (n == 0 || (serving.contains x && decide (bits l 63 32 + 72 * n ≤ b.length)))
    let streams := (below ws.length).filter (fun i => bits (nth 0 ws i) 63 60 == 3)
    let stub := fun i => (ofLe ((b.drop (w 5 + 4 * i)).take 2), ofLe ((b.drop (w 5 + 4 * i + 2)).take 2))
    let stubs := if w 5 = 0 then [] else (below streams.length).map stub
    decide (o + 64 ≤ b.length) && ublockOk ws &&
    (below 4).all (fun j => let p := bits (w 3) (16 * j + 15) (16 * j); p == 0xFFFF || progs.contains p) &&
    decide (lists + 8 * 169 ≤ b.length) && (below 169).all listOk && w 6 == 0 && w 7 == 0 &&
    (w 5 == 0 || decide (w 5 + 4 * streams.length ≤ b.length)) &&
    streams.all (fun a => stubs.any (fun p => p.1 == a && decide (p.2 < ws.length)))

/-- TEMPLATES and VECTOR keep R471 and R472. -/
def templatesOk (b v serving : List Nat) : Bool :=
  let entry := fun k => (ofLe ((b.drop (32 * k)).take 8), ofLe ((b.drop (32 * k + 8)).take 8))
  let n := Nat.min (b.length / 32) ((entry 0).2 / 32)
  let progs := (vectorEntries v).map (·.1)
  decide (32 ≤ b.length) && decide (1 ≤ n) && decide (n ≤ 1024) && vectorOk v &&
  (below n).all (fun k =>
    let (m, o) := entry k
    decide (1 ≤ m) && decide (m ≤ 65535) && decide (o + 64 * m ≤ b.length) && (below m).all (fun i => sweepOk b progs serving (o + 64 * i)))

/-! ## The manifest (R473, R474) -/

def manifestAt (b : List Nat) (i : Nat) : Manifest :=
  let w := fun o n => ofLe ((b.drop (64 * i + o)).take n)
  { site := w 0 1, stack := w 1 1, offset := w 8 8, length := w 16 8, digest := (b.drop (64 * i + 24)).take 40 }

def manifests (b : List Nat) : List Manifest := (below (b.length / 64)).map (manifestAt b)

def Manifest.meets (x y : Manifest) : Bool := x.stack == y.stack && decide (Nat.max x.offset y.offset < Nat.min (x.offset + x.length) (y.offset + y.length))

/-- A manifest entry's own conditions. -/
def State.manifestOk (s : State) (b : List Nat) (i : Nat) : Bool :=
  let m := manifestAt b i
  allZero ((b.drop (64 * i + 2)).take 6) && decide (m.stack < 32) && m.length % 64 == 0 && decide (64 ≤ m.length) && decide (m.length ≤ 0xC000000) &&
  s.goldenHolds m && ((manifests b).take i).all (fun x => !x.meets m)

/-- The placement checks of the manifest: the site named is the entry's. -/
def State.manifestCheck (s : State) (b serving : List Nat) : Option Finding :=
  need (b.length == 64 * serving.length && (manifests b).map (·.site) == serving) { code := 0x010E, sec := 9 }
  <|> (((below (b.length / 64)).find? (fun i => !s.manifestOk b i)).map (fun i => { code := 0x010E, sec := 9, site := (manifestAt b i).site }))

/-- The golden slices, in ascending site order: a mismatch, or a poisoned read, names the site. -/
def State.goldenCheck (s : State) (b : List Nat) : Option Finding :=
  ((manifests b).find? (fun m =>
    let r := s.readMem (mkPpa 1 m.stack m.offset) m.length
    r.2 || (sha384 r.1).take 40 != m.digest)).map (fun m => { code := 0x010F, sec := 9, site := m.site })

/-! ## The shape (R469) -/

/-- A stack counts for the shape: in service, in a segment that is ON. -/
def State.inShape (s : State) (x : Nat) : Bool := s.stackIn x && s.get (PWR_SEG.STATE (sectorOf x)) == 2

/-- A site map matches the shape. -/
def State.shapeFits (s : State) (b : List Nat) : Bool :=
  (below 16).all (fun g =>
    let serving := (mapServing b).filter (fun x => sectorOf x == g)
    let spare := nth 0xFF (mapSpares b) g
    let have_ := serving.filter s.inShape ++ (if spare != 0xFF && s.inShape spare then [spare] else [])
    decide (serving.length ≤ have_.length))

/-- Dark sectors with SERVING bits raise 0x0705 beside 0x0110 (R469). -/
def State.darkServing (s : State) (b : List Nat) : State :=
  (below 16).foldl (fun s g =>
    if s.get (PWR_SEG.STATE g) ≠ 2 ∧ (mapServing b).any (fun x => sectorOf x == g) then s.raiseInput 0x0705 g 0 else s) s

/-! ## CHECK (R480) -/

/-- The section checks in ascending type, the shape, and the golden slices: the first that fails. -/
def State.imageCheck (s : State) (base : Nat) : Option Finding :=
  let b := s.secBytes base
  let lost : Finding := { code := 0x0132 }
  let clean := fun t => need (!s.secPoison base t) lost
  let serving := mapServing (b 1)
  clean 1 <|> need (siteMapOk (b 1)) { code := 0x0108, sec := 1 }
  <|> clean 2 <|> need (s.routesOk (b 2)) { code := 0x0109, sec := 2 }
  <|> clean 3 <|> need (treesOk (b 3)) { code := 0x010A, sec := 3 }
  <|> clean 4 <|> need (s.optabOk (b 4)) { code := 0x010B, sec := 4 }
  <|> clean 5 <|> need (powerOk serving (b 5)) { code := 0x010C, sec := 5 }
  <|> clean 7 <|> clean 8 <|> need (templatesOk (b 8) (b 7) serving) { code := 0x010D, sec := 8 }
  <|> clean 9 <|> s.manifestCheck (b 9) serving
  <|> need (s.shapeFits (b 1)) { code := 0x0110, sec := 1 }
  <|> s.goldenCheck (b 9)

/-- READ: header, authentication and digests, with poison found on the way (R478). -/
def State.imageRead (s : State) (base len : Nat) : Option Finding :=
  let lost : Finding := { code := 0x0132 }
  need (!(s.readMem base headBytes).2) lost
  <|> s.headCheck base len
  <|> need (!s.secPoison base 10) lost
  <|> ((s.authCheck base []).map (·.2))
  <|> ([1, 2, 3, 4, 5, 6, 7, 8, 9].findSome? (fun t => need (!s.secPoison base t) lost <|> need (sha384 (s.secBytes base t) == (s.sec base t).digest) { code := 0x0107, sec := t }))

/-! ## Where an image may be staged (R477) -/

/-- The stacks that hold part of an area. -/
def areaStacks (a : Option (Nat × Nat)) : List Nat := (below 32).filter (areaUses a)

/-- OVC_SRC (or RST_FW_SRC) and the length name a valid staging area now. -/
def State.stagingOk (s : State) (ppa len : Nat) : Bool :=
  let top := if ppaSite ppa = 255 then 32 * hbmSize else hbmSize
  ppaSpace ppa == 1 && ppaOffset ppa % 4096 == 0 && (ppaSite ppa == 255 || decide (ppaSite ppa < 32)) && decide (256 ≤ len) && decide (len ≤ 2 ^ 32) &&
  decide (ppaOffset ppa + len ≤ top) && (areaStacks (some (ppa, len))).all s.hbmUp

/-- The physical bytes of an area in one stack: the offsets [lo, hi) it covers there, by granules of 4 KiB for the interleaved space (R56). -/
def areaSpan (a : Nat × Nat) (stack : Nat) : Nat × Nat :=
  let (p, n) := a
  if ppaSite p = 255 then
    let g0 := ppaOffset p / 4096
    let g1 := (ppaOffset p + n - 1) / 4096
    let lo := g0 + (stack + 32 - g0 % 32) % 32
    let hi := g1 - (g1 + 32 - stack) % 32
    if hi < lo ∨ g1 < lo then (0, 0)
    else (lo / 32 * 4096, hi / 32 * 4096 + (if hi = g1 then (ppaOffset p + n - 1) % 4096 + 1 else 4096))
  else if ppaSite p = stack then (ppaOffset p, ppaOffset p + n) else (0, 0)

/-- Two areas share a physical byte; areas begin at multiples of 4 KiB. -/
def areasMeet (a b : Option (Nat × Nat)) : Bool :=
  match a, b with
  | some a, some b => (below 32).any (fun k =>
      let x := areaSpan a k
      let y := areaSpan b k
      decide (Nat.max x.1 y.1 < Nat.min x.2 y.2))
  | _, _ => false

end Sys2Proof.Machine
end

