-- ==== Sys2Proof/Machine/FirmwareOps.lean ====
section
/-! DEFINITION. Operations of the firmware broadcast (14_bringup.md R518 to R525) and the start of the control cores (04_cores.md R162). -/

namespace Sys2Proof.Machine

open Sys2Proof

/-- The units of a broadcast (R521). -/
def State.fwUnits (s : State) : List Nat := stackSites.filter s.present

/-! ## A unit's loader (R520, R522) -/

/-- Places of the loader area: the header of block n, the status, the data of block n. -/
def loaderHead (site n : Nat) : Nat := mkPpa 0 site (0xEFBE000 + 64 * n)
def loaderStatus (site : Nat) : Nat := mkPpa 0 site 0xEFBF000
def loaderData (site n : Nat) : Nat := mkPpa 0 site (0xEFC0000 + 4096 * n)

/-- A number of n bytes in memory. -/
def State.memNum (s : State) (p n : Nat) : Nat := ofLe (s.readMem p n).1

/-- Store bytes from a place of the loader area on, block by block of 1 KiB. -/
def State.storeArea (s : State) (p : Nat) (data : List Nat) : State :=
  (pieces p data.length).foldl (fun s (x : Nat × Nat) => s.storeKey x.1 ((data.drop (x.1 - p)).take x.2) false) s

/-- What a loader's status says: RECEIVED, the broadcast ID, CRC_FAILS, DIGEST_BAD and COMPLETE. -/
structure Loader where
  received : Nat := 0
  id : Nat := 0
  crcFails : Nat := 0
  digestBad : Bool := false
  complete : Bool := false
  deriving DecidableEq, Repr

def State.loader (s : State) (site : Nat) : Loader :=
  if !s.gelatUp site then {}
  else
    let w := s.memNum (loaderStatus site + 8) 8
    ⟨s.memNum (loaderStatus site) 8, bits w 62 48, bits w 15 8, bit w 1, bit w 0⟩

def State.setLoader (s : State) (site : Nat) (l : Loader) : State :=
  s.storeArea (loaderStatus site) (leBytes 8 l.received ++ leBytes 8 (l.id * 2 ^ 48 + l.crcFails * 256 + b2n l.digestBad * 2 + b2n l.complete))

/-- A unit holds COMPLETE for the current broadcast. -/
def State.fwComplete (s : State) (site : Nat) : Bool := let l := s.loader site; l.complete && l.id == s.fw.id

/-- The firmware of a FIRMWARE section goes into both cores' ITCM and DTCM (R522). -/
def State.loadTcm (s : State) (site : Nat) (fw : List Nat) : State :=
  let itcm := ofLe (fw.take 4)
  let dtcm := ofLe ((fw.drop 4).take 4)
  (below 2).foldl (fun s c =>
    let x := s.control site c
    let m := writeBytes x.tcm 0 ((fw.drop 64).take itcm)
    s.setControl site c { x with tcm := writeBytes m 0x100000 ((fw.drop (64 + itcm)).take dtcm) }) s

/-- With every block received, the loader compares the digest (R522). -/
def State.loaderDigest (s : State) (site : Nat) (l : Loader) (size : Nat) (want : List Nat) : State :=
  let fw := (s.readMem (loaderData site 0) size).1
  if sha384 fw == want then (s.setLoader site { l with complete := true }).loadTcm site fw
  else
    let s := s.setLoader site { l with received := 0, digestBad := true }
    (s.addSat RST_FW_STATUS.DIGEST_BAD 1).raiseReset 0x0A32 site []

/-- A block arrives at a unit's loader: its header as eight words, and its 4,096 bytes (R522). -/
def State.loaderBlock (s : State) (site : Nat) (header data : List Nat) : State :=
  let w := nth 0 header 0
  let n := bits w 47 40
  let total := bits w 39 32
  if !s.gelatUp site || !bit w 63 || decide (total ≤ n) || decide (64 < total) then s
  else
    let l := s.loader site
    let l : Loader := if l.id = bits w 62 48 then l else { l with id := bits w 62 48, received := 0, complete := false, digestBad := false }
    if l.complete then s
    else
      let s := (s.storeArea (loaderData site n) (data.take 4096)).storeArea (loaderHead site n) ((header.take 8).flatMap (leBytes 8))
      if crc32c (data.take 4096) ≠ bits (nth 0 header 1) 31 0 then s.setLoader site { l with crcFails := sat 255 (l.crcFails + 1) }
      else
        let l := { l with received := maskOf (markIn (setBits 64 l.received) n) }
        let s := s.setLoader site l
        if l.received = 2 ^ total - 1 then s.loaderDigest site l (bits w 31 0) ((header.drop 2).take 6 |>.flatMap (leBytes 8)) else s

/-! ## Blocks of a section (R519, R520) -/

/-- The layout of a FIRMWARE section (R519). -/
def fwLayoutOk (fw : List Nat) : Bool :=
  let itcm := ofLe (fw.take 4)
  let dtcm := ofLe ((fw.drop 4).take 4)
  decide (64 ≤ fw.length) && allZero ((fw.drop 8).take 56) && decide (itcm ≤ 0x20000) && decide (dtcm ≤ 0x1FF00) && itcm % 8 == 0 && dtcm % 8 == 0 &&
    fw.length == 64 + itcm + dtcm

/-- Block n of a section, padded with zeros. -/
def fwBlock (fw : List Nat) (n : Nat) : List Nat :=
  let d := (fw.drop (4096 * n)).take 4096
  d ++ List.replicate (4096 - d.length) 0

/-- How many blocks a section has. -/
def fwCount (size : Nat) : Nat := (size + 4095) / 4096

/-- The header of block n (R520). -/
def fwHeader (id size n : Nat) (digest block : List Nat) : List Nat :=
  (2 ^ 63 + id * 2 ^ 48 + n * 2 ^ 40 + fwCount size * 2 ^ 32 + size) :: crc32c block :: (groups 8 digest).map ofLe

/-! ## The tree of a round (R521) -/

/-- The bring-up root (R260). -/
def State.fwRoot (s : State) : Option Nat := s.fwUnits.head?

/-- For every unit that the bring-up routes join to the root: the unit and the port of its first hop toward the root. -/
def State.fwTree (s : State) : List (Nat × Nat) :=
  match s.fwRoot with
  | none => []
  | some root =>
    let ranks := s.ranks
    let order := rankOrder ranks
    let d := s.pathDist ranks order root
    (order.filter (· != root)).filterMap (fun x =>
      let e := s.bringUpEntry ranks d.1 d.2 x
      if e = 0 then none else some (x, bits e 7 4))

/-- The units on the way from one to the root, itself first; fuel bounds the hops. -/
def wayUp (tree : List (Nat × Nat)) : Nat → Nat → List Nat
  | 0, _ => []
  | n + 1, x => x :: (match look tree x with
    | none => []
    | some p => match neighbour x p with | some (y, _) => wayUp tree n y | none => [])

/-- SIT_MCAST15 of every unit forms the tree: LOCAL at every unit but the root, and the ports toward the units that hang below. -/
def State.fwTreeWrite (s : State) : State :=
  let tree := s.fwTree
  let ways := tree.map (fun p => wayUp tree 160 p.1)
  s.fwUnits.foldl (fun s x =>
    let down := tree.filterMap (fun p => match neighbour p.1 p.2 with | some (y, q) => if y = x then some q else none | none => none)
    let out := maskOf down + (if (look tree x).isSome then 16 else 0)
    let n := (ways.filter (fun l => l.contains x)).length
    s.setReg (SIT_MCAST.REG x 15) (withField (withField 0 15 8 n) 4 0 out)) s

/-- Entry 15 after the last round: zero, or the image's. -/
def State.fwTreeRestore (s : State) (image : Option (List Nat)) : State :=
  stackSites.foldl (fun s x => s.setReg (SIT_MCAST.REG x 15) (match image with | some b => word (mcastWord b x 15) | none => 0)) s

/-! ## Authentication (R518) -/

/-- Why the staged firmware is not sent: its code, and D0 where R518 gives one. -/
def State.fwCheck (s : State) : Option (Nat × List Nat) :=
  let base := s.get RST_FW_SRC.PPA
  let len := s.get RST_FW_LEN.LEN
  if !s.stagingOk base len then some (0x0A30, [])
  else if (s.readMem base headBytes).2 then some (0x0A30, [])
  else match s.headCheck base len with
    | some f => some (0x0A30, [f.code])
    | none =>
      if s.secPoison base 10 || s.secPoison base 6 then some (0x0A30, [])
      else match s.authCheck base [6] with
        | some (order, _) => some (0x0A30, [order])
        | none => if fwLayoutOk (s.secBytes base 6) then none else some (0x0A31, [])

/-- The broadcast source is taken: AUTH_OK, a new broadcast ID, and the protection of the range. -/
def State.fwTake (s : State) (base len : Nat) (fresh : Bool) : State :=
  let e := s.sec base 6
  let f := s.fw
  let f : FwState := { f with section_ := some (e.off, e.size), digest := e.digest, id := f.id % 0x7FFF + 1, area := some (base, len) }
  let s := { s with fw := { f with stale := if fresh then false else f.stale } }
  ((s.put RST_FW_STATUS.AUTH_OK 1).put RST_FW_STATUS.N (fwCount e.size)).put RST_FW_STATUS.DIGEST_BAD 0

/-! ## Rounds (R521, R523) -/

/-- The FIRMWARE section being broadcast. -/
def State.fwSection (s : State) : List Nat :=
  match s.fw.area, s.fw.section_ with
  | some (base, _), some (o, n) => s.imageBytes base o n
  | _, _ => []

/-- Send blocks to a node; kind 0x200 is a block: the block number and its header. -/
def State.fwSend (s : State) (node : Nat) (mask : Nat) : State :=
  let fw := s.fwSection
  (setBits (s.get RST_FW_STATUS.N) mask).foldl (fun s n =>
    s.send (.unit 0x200 node (n :: fwHeader s.fw.id fw.length n s.fw.digest (fwBlock fw n)))) s

/-- The hub reads every unit's loader status. -/
def State.fwShow (s : State) : State :=
  let units := s.fwUnits
  let all := 2 ^ s.get RST_FW_STATUS.N - 1
  let miss := fun x =>
    let l := s.loader x
    if l.id = s.fw.id then (if l.complete then 0 else all - maskOf (setBits (s.get RST_FW_STATUS.N) l.received)) else all
  let lost := units.map (fun x => (x, miss x))
  let complete := units.filter s.fwComplete
  let crc := sumNat (units.map (fun x => (s.loader x).crcFails))
  let s := ((s.putSat RST_FW_STATUS.UNITS units.length).putSat RST_FW_STATUS.COMPLETE complete.length).putSat RST_FW_STATUS.CRC_FAILS crc
  let s := (below 169).foldl (fun s x => s.setReg (RST_FW_MISS.REG x) (word ((look lost x).getD 0))) s
  (below 8).foldl (fun s i => s.setReg (RST_FW_MISSCNT.REG i) (word (sumNat ((below 8).map (fun j =>
    sat 255 (lost.filter (fun p => bit p.2 (8 * i + j))).length * 2 ^ (8 * j)))))) s

/-! ## START (R523, R162) -/

/-- The sites that wait as spares, and the dark ones: those of the image in force, or the default spares (R33, R34, R467). -/
def State.idleSites (s : State) : List Nat :=
  if s.image.area.isSome then stackSites.filter (fun x => (s.roleOf x).isNone && s.present x)
  else (below 16).map defaultSpare |>.filter s.present

/-- The stack is its sector's spare. -/
def State.isSpare (s : State) (x : Nat) : Bool :=
  if s.image.area.isSome then nth 0xFF s.image.spares (sectorOf x) == x else defaultSpare (sectorOf x) == x

/-- The boot block of a core (Table 4.9). -/
def State.bootBlock (s : State) (site c image : Nat) : List Nat :=
  let w0 := site + armOf site * 2 ^ 8 + sectorOf site * 2 ^ 16 + s.get (SIT_IDENT.ORI site) * 2 ^ 24 + c * 2 ^ 32 + b2n (s.isSpare site) * 2 ^ 33
  [w0, image, s.isobar, (resetWord (MXA_ROWMAP.REG site)).toNat, s.get CLK_OP.CUR].flatMap (leBytes 8) ++ List.replicate (27 * 8) 0

/-- A stack's control cores start (Table 4.8). -/
def State.startCores (s : State) (site image : Nat) : State :=
  (below 2).foldl (fun s c =>
    let x := s.control site c
    let s := s.setControl site c { x with tcm := writeBytes x.tcm 0x11FF00 (s.bootBlock site c image), kicked := s.isobar }
    let s := (s.put (CCO_FW.READY site c) 0).put (CCO_STATUS.STATE site c) 1
    s.put (CCO_WDOG.REMAIN site c) (s.get (CCO_WDOG.PERIOD site c))) s

/-- START: units with COMPLETE start, the stores of idle spares and dark sites go off again (R34), and the source is protected no longer. -/
def State.startUnits (s : State) (units : List Nat) (image : Nat) : State :=
  let s := units.foldl (fun s x => s.startCores x image) s
  let s := s.idleSites.foldl (fun s x => s.powerDownAll x [4, 5]) s
  let s := { s with fw := { s.fw with area := none } }
  (s.put RST_FW_STATUS.STARTED 1).readyUnits

end Sys2Proof.Machine
end

