-- ==== Sys2Proof/Machine/Progress.lean ====
section
/-! DEFINITION. Power-state transitions (14_bringup.md R507 to R516): the steps of the way up and down, each of which goes on once what it waits
for has come. -/

namespace Sys2Proof.Machine

open Sys2Proof

/-! ## What the steps wait for -/

/-- A domain waits for nothing: neither for approval, nor for its ramp, nor for its retry (R393). -/
def State.settled (s : State) (node d : Nat) : Bool :=
  let st := s.dom node d
  st != 1 && st != 2 && lookD 0 s.power.failedOnce (domKey node d) != 1

def State.allSettled (s : State) (nodes ds : List Nat) : Bool := nodes.all (fun n => ds.all (fun d => s.settled n d))

/-- Ring nodes of edge dies and of DRAM port dies, whose segment is ON. -/
def State.ringFed (s : State) : List Nat :=
  ((below 44).map (· + 169)).filter (fun n => ringKind ((n - 169) % 11) != 5 && s.get (PWR_SEG.STATE (segOf n)) == 2)

/-- Stacks whose segment is ON. -/
def State.stacksFed (s : State) : List Nat := stackSites.filter (fun x => s.get (PWR_SEG.STATE (sectorOf x)) == 2)

/-- Stacks that passed discovery and are not fenced. -/
def State.stacksPresent (s : State) : List Nat := stackSites.filter s.present

/-- The edge dies that feed modules, on even numbers, in service. -/
def State.moduleFeeders (s : State) : List Nat :=
  ((below 24).filter (fun e => e % 2 == 0)).map edgeNode |>.filter (fun n => s.get (PWR_SEG.STATE (segOf n)) == 2 && s.flag (ringOkBit (n - 169)))

/-- What the way into SERVING waits for on the links (R515). -/
def State.linksReady (s : State) : Bool :=
  (below 96).all (fun l => !s.flag (GAL_LCTRL.EN l) || !(s.lenModule (l / 8)).present ||
    (let st := s.linkSt l; st == 6 || st == 8 || st == 1))

/-! ## The transition's own state -/

/-- The transition enters a step. -/
def State.toPhase (s : State) (p : Nat) : State :=
  match s.trans with
  | none => s
  | some t => { s with trans := some { t with phase := p, phaseSince := s.isobar } }

/-- The transition is over. -/
def State.transEnd (s : State) : State := { s.put RST_STATUS.TARGET 0xF with trans := none }

/-- The conditions that R456 puts on leaving RETAINED or WARM upward. -/
def State.refHolds (s : State) : Bool := s.flag CLK_STATUS.REF_OK && !s.flag CLK_STATUS.HOLDOVER_IDLE

/-- The REASON of Table 14.4's conditions that fail now, 0 for none; serving adds those of SERVING. -/
def State.upReason (s : State) (serving : Bool) : Nat :=
  if !s.refHolds then 3
  else if s.flag THM_EMERG.ACTIVE then 4
  else if !s.pwrokLong then 2
  else if s.get THM_HEAT.HEAT_CAP < 3000 then 4
  else if serving && !(s.get OVC_STATUS.STATE == 5 && s.flag RST_FW_STATUS.STARTED) then 5 else 0

/-! ## Steps of the way up (R512 to R515) -/

/-- Step 1 of Table 14.6. -/
def State.segmentsStart (s : State) : State := (below 20).foldl (fun s g => s.startSegment g) s

/-- Step 2 of Table 14.6: the ring core domains and every TR are requested, and the HBM stacks of dies that kept their supply train. -/
def State.ringAndTr (s : State) : State :=
  let s := s.ringFed.foldl (fun s n => s.requestAll n [0, 1]) s
  let s := s.dpdOn.foldl (fun s d => [2 * d, 2 * d + 1].foldl (fun s k =>
    if s.get (hbmStateLoc k) = 0 ∨ s.get (hbmStateLoc k) = 3 then s.put (hbmStateLoc k) 1 else s) s) s
  s.stacksFed.foldl (fun s x => s.requestDomain x 3) s

/-- Step 5 of Table 14.6. -/
def State.routesAndGelat (s : State) : State := s.bringUpRoutes.stacksPresent.foldl (fun s x => s.requestAll x [5, 4]) s.bringUpRoutes

/-- Guests and module supplies come up (step 8 of Table 14.6, step 5 of R514). -/
def State.edgeUp (s : State) : State :=
  let s := s.moduleFeeders.foldl (fun s n => s.requestDomain n 2) s
  (below 4).foldl (fun s g => s.guestStart g) s

/-- The panel is in WARM: modules and links start. -/
def State.enterWarm (s : State) : State :=
  (((s.setPstate 3).put RST_STATUS.COLD 0).modulesStart).galeStart

/-- Stacks that hold a message from the hub: TR ON and not fenced. -/
def State.cc0s (s : State) : List Nat := stackSites.filter (fun x => s.domainOn x 3 && !s.fenced x)

/-- The panel is in SERVING (R515, R426): R starts at the mean input power, the bucket is full, and swaps that stopped start again. -/
def State.enterServing (s : State) : State :=
  let s := (s.setPstate 4).put HUB_PASS.STATE 0
  let s := { s with updraft := { s.updraft with rate := s.meanPower * 1000 } }
  let s := { s with updraft := { s.updraft with level := (s.capacity : Int) } }
  s.transEnd.swapsResume.armNow.readyRefresh

/-- After WARM has been reached (R507): the transition ends there, or goes on to SERVING where its conditions hold. -/
def State.afterWarm (s : State) (t : Transition) : State :=
  if t.target ≤ 3 ∨ s.upReason true ≠ 0 then s.transEnd
  else ({ s with trans := some { t with start := 3, phase := 20, phaseSince := s.isobar } } : State)

/-! ## Steps of the way down (R516, R490) -/

/-- VC, NR and SR of every stack power down, and swaps stop. -/
def State.arraysDown (s : State) : State :=
  let s := s.swapsStop
  let s := stackSites.foldl (fun s x => s.powerDownAll x [1, 0, 2]) s
  let s := (stackSites.filter s.heatGated).foldl (fun s x => s.put (THM_STK.GATED x) 0) s
  ((s.gatedShow).put UPD_GATED.SECTORS 0).put UPD_GATED.UNGATING 0 |>.put HUB_PASS.STATE 6

/-- A domain enters retention where it is supplied, or gives up its request. -/
def State.retainDomain (s : State) (x d : Nat) : State :=
  let st := s.dom x d
  if st = 3 then s.domainDown x d 4 else if st = 1 ∨ st = 2 then s.powerDown x d else s

/-- Step 4 of R516 for a stack: with a cold fabric everything is off, else TR and GA are in retention. -/
def State.stackRetain (s : State) (cold : Bool) (x : Nat) : State :=
  let s := s.powerDownAll x [1, 0, 2, 5]
  if cold then s.powerDownAll x [4, 3] else (s.retainDomain x 4).retainDomain x 3

/-- The DRAM port dies: their stacks enter self-refresh, and DC and DH stay on where they hold data (R491, R516). -/
def State.dpdRetain (s : State) : State :=
  let s := (below 32).foldl (fun s k => if s.get (hbmStateLoc k) = 2 then s.put (hbmStateLoc k) 3 else s) s
  (below 16).foldl (fun s d =>
    if s.get (hbmStateLoc (2 * d)) = 3 ∨ s.get (hbmStateLoc (2 * d + 1)) = 3 then s else s.powerDownAll (dpdNode d) [1, 0]) s

/-- The ring switches off, but for the DRAM port dies. -/
def State.ringDown (s : State) : State :=
  let s := (below 4).foldl (fun s g => s.guestOff g) s.modulesStop
  ((below 44).map (· + 169)).foldl (fun s n => if ringKind ((n - 169) % 11) = 4 then s else s.powerDownAll n (domsOf n)) s

/-- Steps 4 and 5 of R516: the panel is in RETAINED. -/
def State.enterRetained (s : State) : State :=
  let cold := s.flag RST_STATUS.COLD
  let s := stackSites.foldl (fun s x => s.stackRetain cold x) s
  (s.dpdRetain.billowStop.ringDown).setPstate 2

/-- The panel is in STANDBY at a request (R511, R516): the hub core and every converter but the standby converter stop. The start window is as it was
(R501). -/
def State.enterStandby (s : State) : State :=
  let window := s.reg RST_STATUS.REG
  let s := s.applyReset 1
  let s := { s with memory := [], poison := [] }
  let s := (below 32).foldl (fun s k => s.put (hbmStateLoc k) 0) s
  let s := (below 16).foldl (fun s d => (s.put (domLoc (dpdNode d) 0) 0).put (domLoc (dpdNode d) 1) 0) s
  let s := (below 21).foldl (fun s g => if s.segDead g then s else s.put (PWR_SEG.STATE g) 0) s
  let s := (s.put RST_STATUS.WINDOW (fieldOf window 15 15)).put RST_STATUS.WINDOW_S (fieldOf window 47 40)
  let s := ((s.put RST_STATUS.PSTATE 1).put RST_STATUS.COLD 1).dawnTakes
  ({ s with trans := none, rst := { s.rst with standbySince := s.isobar } } : State).srcShow

/-! ## One step of a transition -/

/-- What a transition does next; none while it waits. Up from a cold fabric 1 to 10, from a retained one 11 to 16, to SERVING 20 to 22, down 31 to
34. -/
def State.transNext (s : State) (t : Transition) : Option State :=
  let go (c : Bool) (s : State) (p : Nat) : Option State := if c then some (s.toPhase p) else none
  match t.phase with
  | 0 =>
    if t.down then some (s.toPhase 31)
    else if t.start = 3 then some (s.toPhase 20)
    else if s.flag RST_STATUS.COLD then some ((s.put HUB_DISC_STATUS.DONE 0).segmentsStart.toPhase 1) else some (s.toPhase 11)
  | 1 =>
    let s := s.segmentsStart
    go ((below 20).all (fun g => decide (2 ≤ s.get (PWR_SEG.STATE g)))) s.ringAndTr 2
  | 2 => go (s.allSettled s.ringFed [0, 1] && s.allSettled s.stacksFed [3]) s 3
  | 3 => go (s.flag CLK_STATUS.BILLOW_RUN) s 4
  | 4 => if s.flag HUB_DISC_STATUS.DONE then some (s.routesAndGelat.toPhase 5) else none
  | 5 => go (s.allSettled s.stacksPresent [4, 5]) s 6
  | 6 => go (s.stacksPresent.all (fun x => !s.gelatUp x || s.flag (GLT_STATUS.EXIT_DONE x))) s 7
  | 7 => if (below 32).all (fun k => s.get (hbmStateLoc k) != 1) then some (s.edgeUp.toPhase 8) else none
  | 8 => if s.allSettled s.moduleFeeders [2] && s.refHolds then some (s.enterWarm.afterWarm t) else none
  | 11 =>
    let back := stackSites.filter (fun x => s.dom x 3 == 4)
    some ((back.foldl (fun s x => if s.dom x 4 = 4 then s.requestAll x [3, 5, 4] else s.requestDomain x 3) s).toPhase 12)
  | 12 => go (s.allSettled stackSites [3, 4, 5] && s.flag CLK_STATUS.BILLOW_RUN) s 13
  | 13 =>
    let s := s.dpdOn.foldl (fun s d => [2 * d, 2 * d + 1].foldl (fun s k => if s.get (hbmStateLoc k) = 3 then s.put (hbmStateLoc k) 2 else s) s) s
    some (s.toPhase 14)
  | 14 =>
    if stackSites.all (fun x => !s.flag (GLT_STATUS.EXIT_SCRUB x)) then
      some ((s.ringFed.foldl (fun s n => if s.flag (ringOkBit (n - 169)) then s.requestAll n [0, 1] else s) s).edgeUp.toPhase 15)
    else none
  | 15 =>
    if s.allSettled s.ringFed [0, 1] && s.allSettled s.moduleFeeders [2] && s.refHolds then
      let s := s.cc0s.foldl (fun s x => s.hubMessage x 0 (hubWords 0x31 [])) s
      some (s.enterWarm.afterWarm t)
    else none
  | 20 => some ((s.servingStacks.foldl (fun s x => s.requestAll x [2, 0, 1]) s).toPhase 21)
  | 21 => go (s.servingStacks.all (fun x => [0, 1, 2].all (fun d => s.dom x d == 3))) s 22
  | 22 => if (s.linksReady || decide (t.phaseSince + 3 * second ≤ s.isobar)) && s.refHolds then some s.enterServing else none
  | 31 =>
    if s.pass.running then none
    else
      let s := s.arraysDown
      if t.target = 3 then some ((s.setPstate 3).transEnd.readyRefresh)
      else if s.get RST_STATUS.PSTATE = 3 ∨ s.get RST_STATUS.PSTATE = 4 then
        some ((s.cc0s.foldl (fun s x => s.hubMessage x 0 (hubWords 0x30 [])) s.galeStop).toPhase 32)
      else some (s.toPhase 33)
  | 32 => go (s.cc0s.all (fun x => (s.die x).stopped) || decide (t.phaseSince + second / 100 ≤ s.isobar)) s 33
  | 33 =>
    let s := s.enterRetained.readyRefresh
    if t.target = 1 then some s.enterStandby else some s.transEnd
  | _ => none

/-- A transition goes on as far as it can now; fuel bounds the number of its steps. -/
def State.transRun : Nat → State → State
  | 0, s => s
  | n + 1, s =>
    match s.trans with
    | none => s
    | some t => match s.transNext t with | none => s | some s' => State.transRun n s'

/-- What goes on by itself after an event: the transition in progress and the running swaps. -/
def State.progress (s : State) : State := (State.transRun 40 s).swapsAdvance

/-- The step of Tables 14.6, R514 and R515 that a phase belongs to, as R510 names it. -/
def phaseStep (p : Nat) : Nat :=
  nth 0 [0, 1, 2, 3, 4, 5, 6, 7, 8, 0, 0, 1, 1, 3, 4, 5, 5, 0, 0, 0, 1, 1, 2] p

/-! ## The block left to itself -/

/-- The Isobar count goes on (R439): every tick where the hub keeps it, by 4 where the Dawn island does, and not in OFF. -/
def State.isobarTick (s : State) : State :=
  if s.get RST_STATUS.PSTATE = 0 then s
  else { s with isobar := s.isobar + (if s.hubKeeps then 1 else 4) }

/-- What the panel does when no command waits: time passes, the transition in progress and the swaps go on, and between passes what waits for a
boundary is done. -/
def State.idle (s : State) : State := s.isobarTick.progress.idleBoundary

end Sys2Proof.Machine
end

