-- ==== Sys2Proof/Machine/Bringup.lean ====
section
/-! DEFINITION. The commands of 14_bringup.md beside the resets: leaving STANDBY, power-state requests (R507 to R516) and the firmware broadcast
(R518 to R525). -/

namespace Sys2Proof.Machine

open Sys2Proof

/-! ## Leaving STANDBY (R508) -/

/-- F_ctl has been at least 8.0 L/min for 5 s, in coolant samples. -/
def State.flowLong (s : State) : Bool := match s.thermal.flowAt with | none => false | some t => decide (t + 5000 ≤ s.thermal.coolant)

/-- The start conditions that do not hold, as WAIT names them. -/
def State.startWait (s : State) : Nat :=
  maskOf ((if s.vinOk then [] else [0]) ++ (if s.power.openA && s.power.openB then [1] else []) ++ (if s.flag PWR_STATUS.PWROK then [] else [2]) ++
    (if s.clock.refOk then [] else [3]) ++ (if s.flowLong then [] else [4]) ++ (if s.get (PWR_SEG.STATE 20) = 4 then [5] else []))

/-- Table 14.5: the hub starts, and the panel is in RETAINED with a cold fabric, or in DOLDRUMS (R504). -/
def State.startHub (s : State) : State :=
  let s := s.put (PWR_SEG.STATE 20) 2
  let ms := (s.isobar - s.rst.standbySince) / 100000
  let s := s.putSat DWN_STATUS.WAIT_MS ms
  if s.tooManyFails then s.enterDoldrums
  else
    let s := if s.flag RST_STATUS.WINDOW then s else s.openWindow
    (((s.setPstate 2).put RST_STATUS.COLD 1).bootRecord).srcShow

/-- STANDBY_START (R508). -/
def execStandbyStart (s : State) : Host.Outcome State Fault Refusal :=
  if s.rst.level.isSome ∨ s.get RST_STATUS.PSTATE ≠ 1 ∨ s.flag DWN_STATUS.HOLD then .next s
  else if s.startWait = 0 then .next s.startHub
  else .next (s.put DWN_STATUS.WAIT s.startWait)

/-! ## Power-state requests (R509 to R511) -/

/-- A request is refused: 0x0A40 and REASON. -/
def State.pstateRefused (s : State) (reason : Nat) : State := (s.put RST_PWR_REQ.REASON reason).raiseReset 0x0A40 0xFF [reason]

/-- The REASON for which a request is refused now, 0 for none (R509). -/
def State.pstateReason (s : State) (target : Nat) : Nat :=
  let cur := s.get RST_STATUS.PSTATE
  if cur = 6 then 6
  else if target < 1 ∨ 4 < target then 1
  else
    let busy := match s.trans with
      | none => false
      | some t => if t.down then decide (t.target ≤ target) else decide (cur ≤ target)
    if busy then 7 else if target < cur then 0 else s.upReason (target == 4 && cur == 3)

/-- POWER_STATE_REQUEST (R509, R511): a write of RST_PWR_REQ. -/
def execPowerStateRequest (_who : Requester) (value : Nat) (s : State) : Host.Outcome State Fault Refusal :=
  s.atDawn <|
  let target := bits value 3 0
  let s := s.put RST_PWR_REQ.TARGET target
  if !bit value 8 || !s.hubRuns || target == s.get RST_STATUS.PSTATE then .next s
  else
    let r := s.pstateReason target
    if r ≠ 0 then .next (s.pstateRefused r)
    else
      let s := if target = 1 then s.put DWN_STATUS.HOLD 1 else s
      .next (s.startTransition target)

/-- TRANSITION_TIMEOUT (R510): an upward transition stops, and the panel returns to the state that it started from. -/
def execTransitionTimeout (s : State) : Host.Outcome State Fault Refusal :=
  match s.trans with
  | none => .next s
  | some t =>
    if t.down then .next s
    else .next ((s.raiseReset 0x0A41 0xFF [phaseStep t.phase]).startTransition t.start)

/-- RETAIN (R516): control core 0 of a stack has received RETAIN and stops issuing work. -/
def execRetain (site : Nat) (s : State) : Host.Outcome State Fault Refusal :=
  .next (if s.powered site then s.setDie site { s.die site with stopped := true } else s)

/-- RESUME (R514): control core 0 of a stack has received RESUME. -/
def execResume (site : Nat) (s : State) : Host.Outcome State Fault Refusal :=
  .next (if s.powered site then s.setDie site { s.die site with stopped := false } else s)

/-! ## Firmware broadcast (R518 to R525) -/

/-- 0x0A34 (R523). -/
def State.broadcastRefused (s : State) : State := s.raiseReset 0x0A34 0xFF []

/-- No block below N is set in RST_FW_BLOCKS. -/
def State.noBlocks (s : State) : Bool := (setBits (s.get RST_FW_STATUS.N) (s.get RST_FW_BLOCKS.MASK)).isEmpty

/-- START of a host's broadcast (R523): units without COMPLETE fail as in discovery. -/
def State.fwStart (s : State) : State :=
  let complete := s.fwUnits.filter s.fwComplete
  let lost := s.fwUnits.filter (fun x => !s.fwComplete x)
  let s := lost.foldl (fun s x => (s.raiseReset 0x0A33 x []).discFail x) s
  let s := if lost.isEmpty then s else (if s.flag MSH_STATUS.IMAGE_ROUTES then s else s.bringUpRoutes).verifySoon
  (s.startUnits complete (s.get OVC_IMAGE.ID)).fwTreeRestore none

/-- The command that GO runs (R523). -/
def State.fwGo (s : State) (op site : Nat) : State :=
  if s.flag RST_FW_STATUS.BUSY || s.flag RST_FW_STATUS.STARTED || op == 0 || decide (3 < op) || s.get RST_STATUS.PSTATE != 3 then s.broadcastRefused
  else if op = 1 then
    match (if s.fw.stale || !s.flag RST_FW_STATUS.AUTH_OK then s.fwCheck else none) with
    | some (code, d) => s.raiseReset code 0xFF d
    | none =>
      let s := if s.fw.stale || !s.flag RST_FW_STATUS.AUTH_OK then s.fwTake (s.get RST_FW_SRC.PPA) (s.get RST_FW_LEN.LEN) true else s
      if s.noBlocks then s.broadcastRefused
      else
        let s := s.put RST_FW_STATUS.BUSY 1
        let mask := s.get RST_FW_BLOCKS.MASK
        let s := s.fwTreeWrite
        let tree := s.fwTree
        let off := s.fwUnits.filter (fun x => some x != s.fwRoot && (look tree x).isNone)
        (s.fwRoot.toList ++ off).foldl (fun s x => s.fwSend x mask) s
  else if s.fw.stale || !s.flag RST_FW_STATUS.AUTH_OK || s.noBlocks then s.broadcastRefused
  else if op = 2 then
    if s.fwUnits.contains site then (s.put RST_FW_STATUS.BUSY 1).fwSend site (s.get RST_FW_BLOCKS.MASK) else s.broadcastRefused
  else s.fwStart

/-- A write of RST_FW_CTRL. -/
def State.fwCtrl (s : State) (value : Nat) : State :=
  let s := (s.put RST_FW_CTRL.SITE (bits value 63 56)).put RST_FW_CTRL.OP (bits value 2 0)
  if bit value 8 then s.fwGo (bits value 2 0) (bits value 63 56) else s

/-- FW_BCAST (R523, R518): a write of RST_FW_CTRL with OP 1. ues are the places of HBM that the hub's reading finds uncorrectable. -/
def execFwBcast (who : Requester) (value : Nat) (ues : List Nat) (s : State) : Host.Outcome State Fault Refusal :=
  s.atHub who RST_FW_CTRL.REG <|
  if bits value 2 0 ≠ 1 then .next s
  else .next ((ues.foldl (fun (s : State) k => if ppaSpace k = 1 ∧ s.keyUp k then s.hbmUncorrectable k else s) s).fwCtrl value)

/-- FW_UNICAST (R523): a write of RST_FW_CTRL with OP 2. -/
def execFwUnicast (who : Requester) (value : Nat) (s : State) : Host.Outcome State Fault Refusal :=
  s.atHub who RST_FW_CTRL.REG <| .next (if bits value 2 0 = 2 then s.fwCtrl value else s)

/-- FW_START (R523): a write of RST_FW_CTRL with OP 3. -/
def execFwStart (who : Requester) (value : Nat) (s : State) : Host.Outcome State Fault Refusal :=
  s.atHub who RST_FW_CTRL.REG <| .next (if bits value 2 0 = 3 then s.fwCtrl value else s)

/-- FW_ROUND_DONE (R521): the hub reads the loaders' status and clears BUSY. -/
def execFwRoundDone (s : State) : Host.Outcome State Fault Refusal :=
  .next (if s.flag RST_FW_STATUS.BUSY then (s.fwShow.put RST_FW_STATUS.BUSY 0).hubEvent HUB_EVENT.FW else s)

/-- FW_BLOCK (R522): a block arrives at a unit's loader: the eight words of its header, and its data. -/
def execFwBlock (site : Nat) (header data : List Nat) (s : State) : Host.Outcome State Fault Refusal :=
  .next (if s.powered site then s.loaderBlock site header data else s)

end Sys2Proof.Machine
end

