-- ==== Sys2Proof/Machine/Conduits.lean ====
section
/-! DEFINITION. The conduits and the collective slots as commands (09_gale_links.md R333 to R352): transport packets as they arrive, the
timers, and the writes of the GAL_ registers. -/

namespace Sys2Proof.Machine

open Sys2Proof

/-! ## Opening and closing (R337) -/

/-- OPEN (R337): in OPENING it is answered with OPEN and every PSN starts at 0; in OPEN it fails the conduit. -/
def execOpenMsg (l : Nat) (p : GalePacket) (s : State) : Host.Outcome State Fault Refusal :=
  let r := s.receive l { p with type := 1 }
  match r.2 with
  | none => .next r.1
  | some c =>
    let s := r.1
    if s.cndState c = 1 then
      let s := (s.setConduit c { heard := s.isobar }).put (GAL_CND_STATE.STATE c) 2
      .next (s.cndTransmit c (s.cndPacket c 1 0))
    else if s.cndState c = 2 then .next (s.cndEnd c 4)
    else .next s

/-- CLOSE (R337): acknowledged, and the conduit is CLOSED. -/
def execCloseMsg (l : Nat) (p : GalePacket) (s : State) : Host.Outcome State Fault Refusal :=
  let p : GalePacket := { p with type := 2 }
  let r := s.receive l p
  match r.2 with
  | none => .next r.1
  | some c =>
    if r.1.cndState c = 1 then .next r.1
    else
      let q := r.1.inOrder c p
      if !q.2 then .next q.1
      else .next (((q.1.accept c p).cndAck c 0 0 0).cndEnd c 0)

/-- KEEPALIVE (R337): the conduit has heard of its peer. -/
def execKeepalive (l : Nat) (p : GalePacket) (s : State) : Host.Outcome State Fault Refusal :=
  .next (s.receive l { p with type := 0xA }).1

/-! ## Acknowledgements (R336, R340) -/

/-- What the acknowledgement of a packet completes: a PUT's merged writes, a SEND, the records of a COLL packet, a CLOSE. fail says that it
was refused. -/
def State.cndDone (s : State) (c : Nat) (p : GalePacket) (status : Nat) : State :=
  let x := s.conduit c
  match p.type with
  | 4 =>
    match look x.puts p.psn with
    | none => s
    | some asks =>
      let s := s.setConduit c { x with puts := delKey x.puts p.psn }
      let s := if status = 0 then s else s.remoteRefused c
      asks.foldl (fun s a => s.answerWrite (edgeNode (cndEdge s c)) a (status != 0)) s
  | 5 =>
    -- a GET_REQ that was refused as a packet has no GET_RESP
    if status = 0 then s
    else match look x.gets p.psn with
      | none => s
      | some a =>
        let s := (s.setConduit c { x with gets := delKey x.gets p.psn }).remoteRefused c
        s.tick.answerRead (edgeNode (cndEdge s c)) a (s.freeBytes a.bytes) true
  | 7 =>
    if x.sendPsn = some p.psn then
      ((s.setConduit c { x with sendPsn := none }).put (GAL_CND_SCTL.BUSY c) 0).put (GAL_CND_SCTL.STATUS c) status
    else s
  | 8 => s.collAcked c p.psn
  | 9 => s.collAcked c p.psn
  | 2 => if s.cndState c = 3 then s.cndEnd c 0 else s
  | _ => s

/-- STATUS as the receiver takes it (Table 9.8). -/
def statusOf (n : Nat) : Nat := if [0, 1, 2, 0x10, 0x11, 0x12, 0x13, 0x20].contains n then n else 0x20

/-- ACK (R336): up to APSN is acknowledged; an error STATUS reports the failure of REF_PSN; a NAK resends from APSN + 1; an RNR
waits for RNR_DELAY. -/
def execAckMsg (l : Nat) (p : GalePacket) (s : State) : Host.Outcome State Fault Refusal :=
  let r := s.receive l { p with type := 3 }
  match r.2 with
  | none => .next r.1
  | some c =>
    let s := r.1
    let st := p.stream
    let status := statusOf p.status
    let x := s.conduit c
    let t := x.txs st
    if s.cndState c = 1 then .next s
    else
      -- the packet whose failure is reported counts as delivered
      let err := decide (status ≥ 0x10)
      let failed := t.unacked.filter (fun q => err && q.psn == p.ref)
      let upTo := (indexOf? (fun (q : GalePacket) => q.psn == p.apsn) t.unacked).map (· + 1)
      let done := (t.unacked.take (upTo.getD 0)).filter (fun q => !(err && q.psn == p.ref))
      let rest := (t.unacked.drop (upTo.getD 0)).filter (fun q => !(err && q.psn == p.ref))
      let progress := !done.isEmpty || !failed.isEmpty
      let s := s.setConduit c (x.setTx st { t with unacked := rest, timeouts := if progress || status == 2 then 0 else t.timeouts })
      let s := failed.foldl (fun s q => s.cndDone c q status) s
      let s := done.foldl (fun s q => s.cndDone c q 0) s
      let s := if status = 1 then s.cndResend c st
        else if status = 2 then s.setConduit c { s.conduit c with rnr := some (st, p.ref) } else s
      let s := State.cndAdmit c st 256 s
      .next (s.cndClosing c)

/-! ## Puts and gets of the peer (R341, R342) -/

/-- The window check of R341: 0, or the STATUS that refuses. -/
def State.windowCheck (s : State) (c offset len : Nat) (write : Bool) : Nat :=
  let p := s.get (GAL_CND_WBASE.BASE c) + offset
  if !(if write then s.flag (GAL_CND_WBASE.W c) else s.flag (GAL_CND_WBASE.R c)) then 0x10
  else if offset + len > s.get (GAL_CND_WSIZE.SIZE c) ∨ 1 < ppaSpace p then 0x11 else 0

/-- A sequenced packet that its conduit takes next: the state after its acceptance, and the conduit. -/
def State.takeNext (s : State) (l : Nat) (p : GalePacket) : State × Option Nat :=
  let r := s.receive l p
  match r.2 with
  | none => r
  | some c =>
    if r.1.cndState c = 1 then (r.1, none)
    else
      let q := r.1.inOrder c p
      if q.2 then (q.1, some c) else (q.1, none)

/-- PUT (R341, R342). -/
def execPutMsg (l : Nat) (p : GalePacket) (s : State) : Host.Outcome State Fault Refusal :=
  let p : GalePacket := { p with type := 4 }
  let r := s.takeNext l p
  match r.2 with
  | none => .next r.1
  | some c =>
    let s := r.1.accept c p
    let why := s.windowCheck c p.offset p.len true
    if why ≠ 0 then .next ((s.addSat (GAL_CND_STATE.REFUSED c) 1).cndAck c 0 why p.psn)
    else
      let base := s.get (GAL_CND_WBASE.BASE c) + p.offset
      let key := (s.conduit c).nextKey
      let w := s.edgeWrite (cndEdge s c) (.conduit c key) base (p.data.take p.len) p.poison
      .next (w.1.cndOp c { key := key, kind := 0, psn := p.psn, left := w.2, base := base, len := p.len })

/-- GET_REQ (R341). -/
def execGetReq (l : Nat) (p : GalePacket) (s : State) : Host.Outcome State Fault Refusal :=
  let p : GalePacket := { p with type := 5 }
  let r := s.takeNext l p
  match r.2 with
  | none => .next r.1
  | some c =>
    let s := (r.1.accept c p).cndAckEvery c 0
    let why := s.windowCheck c p.offset p.len false
    if why ≠ 0 then
      let s := s.addSat (GAL_CND_STATE.REFUSED c) 1
      .next (s.cndSend c { s.cndPacket c 6 1 with ref := p.psn, status := why }).1
    else
      let base := s.get (GAL_CND_WBASE.BASE c) + p.offset
      let key := (s.conduit c).nextKey
      let w := s.edgeRead (cndEdge s c) (.conduit c key) base p.len
      .next (w.1.cndOp c { key := key, kind := 1, psn := p.psn, left := w.2, base := base, len := p.len })

/-- GET_RESP (R340): it becomes RDATA, poisoned with POISON or an error STATUS. -/
def execGetResp (l : Nat) (p : GalePacket) (s : State) : Host.Outcome State Fault Refusal :=
  let p : GalePacket := { p with type := 6 }
  let r := s.takeNext l p
  match r.2 with
  | none => .next r.1
  | some c =>
    let s := (r.1.accept c p).cndAckEvery c 1
    let x := s.conduit c
    match look x.gets p.ref with
    | none => .next s
    | some a =>
      let bad := statusOf p.status != 0
      let s := s.setConduit c { x with gets := delKey x.gets p.ref }
      let s := if bad then s.remoteRefused c else s
      let data := if p.data.length = a.bytes then p.data else List.replicate a.bytes 0xFF
      .next (s.answerRead (edgeNode (cndEdge s c)) a data (p.poison || bad || p.data.length != a.bytes))

/-! ## Sends (R343, R344) -/

/-- SEND (R344): stored in the receive ring, or answered RNR where that is full, or NO_RING where there is none. -/
def execSendMsg (l : Nat) (p : GalePacket) (s : State) : Host.Outcome State Fault Refusal :=
  let p : GalePacket := { p with type := 7 }
  let r := s.takeNext l p
  match r.2 with
  | none => .next r.1
  | some c =>
    let s := r.1
    let lg := s.get (GAL_CND_RX.LOG2 c)
    if lg = 0 then .next ((s.accept c p).cndAck c 0 0x13 p.psn)
    else
      -- slots that are being filled count as taken
      let busy := ((s.conduit c).ops.filter (fun o => o.kind == 2 || o.kind == 3)).length
      let tail := (s.get (GAL_CND_RX.TAIL c) + busy) % 2 ^ lg
      if (tail + 1) % 2 ^ lg = s.get (GAL_CND_RX.HEAD c) then .next (s.cndAck c 0 2 p.psn)
      else
        let s := (s.accept c p).cndAckEvery c 0
        let slot := s.get (GAL_CND_RXBASE.BASE c) + 4096 * tail
        let key := (s.conduit c).nextKey
        let w := s.edgeWrite (cndEdge s c) (.conduit c key) slot (p.data.take p.len) p.poison
        .next (w.1.cndOp c { key := key, kind := 2, psn := s.isobar, left := w.2, base := slot, len := p.len })

/-- CONDUIT_SEND_GO (R343): a write of GAL_CND_SCTL. -/
def execConduitSendGo (who : Requester) (c value : Nat) (s : State) : Host.Outcome State Fault Refusal :=
  s.atHub who (GAL_CND_SCTL.REG c) <|
  let s := s.put (GAL_CND_SCTL.LEN c) (bits value 11 0)
  if !bit value 63 then .next s
  else
    let len := bits value 11 0
    let src := s.get (GAL_CND_SEND.SRC c)
    let ok := decide (ppaSpace src ≤ 1) && decide (len ≥ 1) && s.memValid src && s.memValid (src + len - 1)
    if s.flag (GAL_CND_SCTL.BUSY c) ∨ len = 0 ∨ len > 4080 ∨ s.cndState c ≠ 2 ∨ ¬ ok then .next (s.raiseCnd c 0x0613 0)
    else
      let s := s.put (GAL_CND_SCTL.BUSY c) 1
      let key := (s.conduit c).nextKey
      let w := s.edgeRead (cndEdge s c) (.conduit c key) src len
      .next (w.1.cndOp c { key := key, kind := 4, psn := 0, left := w.2, base := src, len := len })

/-- RX_HEAD_WRITE (R344): a write of GAL_CND_RX; a HEAD at or above the ring's size is dropped with 0x0612, a LOG2 above 12 stores 12. -/
def execRxHeadWrite (who : Requester) (c value : Nat) (s : State) : Host.Outcome State Fault Refusal :=
  s.atHub who (GAL_CND_RX.REG c) <|
  let lg := sat 12 (bits value 3 0)
  let s := (s.put (GAL_CND_RX.LOG2 c) lg).put (GAL_CND_RX.IRQ c) (bits value 4 4)
  if lg ≠ 0 ∧ bits value 31 16 ≥ 2 ^ lg then .next (s.raiseCnd c 0x0612 0)
  else .next (s.put (GAL_CND_RX.HEAD c) (bits value 31 16))

/-! ## Timers (R336 to R338) -/

/-- CONDUIT_RTO (R336): no acknowledgement of a stream has advanced for RTO; RETRIES timeouts in a row fail the conduit. -/
def execConduitRto (c st : Nat) (s : State) : Host.Outcome State Fault Refusal :=
  let x := s.conduit c
  let t := x.txs st
  if (s.cndState c ≠ 2 ∧ s.cndState c ≠ 3) ∨ t.unacked.isEmpty ∨ x.rnr.isSome then .next s
  else if t.timeouts + 1 ≥ s.get GAL_TIMERS.RETRIES then .next (s.cndEnd c 4)
  else .next ((s.setConduit c (x.setTx st { t with timeouts := t.timeouts + 1 })).cndResend c st)

/-- CONDUIT_OPEN_TIMER (R337). -/
def execConduitOpenTimer (c : Nat) (s : State) : Host.Outcome State Fault Refusal :=
  .next (if s.cndState c = 1 then s.cndTransmit c (s.cndPacket c 1 0) else s)

/-- CONDUIT_KEEPALIVE_TIMER (R337). -/
def execConduitKeepaliveTimer (c : Nat) (s : State) : Host.Outcome State Fault Refusal :=
  .next (if s.cndState c = 2 then s.cndTransmit c (s.cndPacket c 0xA 0) else s)

/-- CONDUIT_DEAD_LIMIT (R337): silence fails an open conduit, and ends CLOSING. -/
def execConduitDeadLimit (c : Nat) (s : State) : Host.Outcome State Fault Refusal :=
  .next (if s.cndState c = 2 then s.cndEnd c 4 else if s.cndState c = 3 then s.cndEnd c 0 else s)

/-- CONDUIT_NOLINK_LIMIT (R338). -/
def execConduitNolinkLimit (c : Nat) (s : State) : Host.Outcome State Fault Refusal :=
  .next (if (s.cndState c = 2 ∨ s.cndState c = 3) ∧ s.cndLink c = none then s.cndEnd c 4 else s)

/-- CONDUIT_RNR_DELAY (R336): the sender resends REF_PSN and every later packet of its stream. -/
def execConduitRnrDelay (c : Nat) (s : State) : Host.Outcome State Fault Refusal :=
  let x := s.conduit c
  match x.rnr with
  | none => .next s
  | some (st, ref) =>
    let l := (x.txs st).unacked
    let i := (indexOf? (fun (q : GalePacket) => q.psn == ref) l).getD 0
    .next ((l.drop i).foldl (fun s q => (s.addSat (GAL_CND_STATE.RETX c) 1).cndTransmit c q) (s.setConduit c { x with rnr := none }))

/-- CONDUIT_ACK_TIMER (R336): 2 µs after an accepted packet. -/
def execConduitAckTimer (c st : Nat) (s : State) : Host.Outcome State Fault Refusal :=
  .next (if (s.cndState c = 2 ∨ s.cndState c = 3) ∧ 0 < ((s.conduit c).rxs st).since then s.cndAck c st 0 0 else s)

/-- PUT_MERGE_WINDOW (R340): 32 mesh cycles without a WRITE that continues the merged PUT. -/
def execPutMergeWindow (c : Nat) (s : State) : Host.Outcome State Fault Refusal := .next (s.cndFlush c)

/-! ## Configuration (R333, R337) -/

/-- CONDUIT_CFG_WRITE (R333, R337): a write of GAL_CND_CFG (reg 0), WBASE (1), WSIZE (2) or RXBASE (3). OPEN is always taken; the rest is
accepted only while the conduit is CLOSED or FAILED. -/
def execConduitCfgWrite (who : Requester) (c reg value : Nat) (s : State) : Host.Outcome State Fault Refusal :=
  s.atHub who (GAL_CND_CFG.REG c + 8 * reg) <|
  let free := s.cndState c == 0 || s.cndState c == 4
  let s := s.setConduit c (s.conduit c)
  match reg with
  | 0 =>
    let cfg := (withField (withField (withField (withField 0 54 50 (bits value 54 50)) 49 46 (bits value 49 46)) 40 32 (bits value 40 32)) 31 16 (bits value 31 16))
    let old := withField (s.reg (GAL_CND_CFG.REG c)) 63 63 0
    let s := s.put (GAL_CND_CFG.OPEN c) (bits value 63 63)
    let s := if free then (s.setReg (GAL_CND_CFG.REG c) (withField cfg 63 63 (bits value 63 63)))
      else if cfg = old then s else s.raiseCnd c 0x0612 0
    .next (s.cndRequest c)
  | 1 =>
    .next (if free then s.setReg (GAL_CND_WBASE.REG c) (withField (withField (withField 0 63 63 (bits value 63 63)) 62 62 (bits value 62 62)) 55 0 (bits value 55 0))
      else s.raiseCnd c 0x0612 0)
  | 2 => .next (if free then s.put (GAL_CND_WSIZE.SIZE c) (bits value 43 0) else s.raiseCnd c 0x0612 0)
  | 3 => .next (if free then s.put (GAL_CND_RXBASE.BASE c) (bits value 55 0) else s.raiseCnd c 0x0612 0)
  | _ => .next s

/-! ## Collective slots (R345 to R351) -/

/-- The rules of R345 that word 0 does not share with Table 7.8. -/
def State.slotSound (s : State) (e t : Nat) : Bool :=
  let x := s.collTree e t
  let w1 := (s.reg (GAL_COLL_W1.REG e t)).toNat
  let (proot, nch, cbase, up, dlimit) := s.slotPeers e t
  let dest := s.get (GAL_COLL_W2.DEST e t)
  let home := fun (c : Nat) => cndEdge s c == e
  x.sound (edgeNode e) true && x.root && x.rmode == 2 && x.parent == 0 && x.dhandle == 0 && x.mask == 0 && decide (nch ≤ 8) &&
    bits w1 23 0 == 0 && !(proot && up != 0) && decide (cbase + nch ≤ 512) && (below nch).all (fun i => home (cbase + i)) && (proot || home up) &&
    dlimit != 0 && dest % 1024 == 0 && decide (ppaSpace dest ≤ 1)

/-- BAD of the slots of an edge die, in ascending order with the running sum of the windows (R345). -/
def State.slotBad (e : Nat) : List Nat → Nat → State → State
  | [], _, s => s
  | t :: l, sum, s =>
    let x := s.collTree e t
    if !x.en then State.slotBad e l sum (s.put ⟨GAL_COLL_W0.REG e t, 27, 27⟩ 0)
    else if !(s.slotSound e t) || decide (sum + x.window > 32) then State.slotBad e l sum (s.put ⟨GAL_COLL_W0.REG e t, 27, 27⟩ 1)
    else State.slotBad e l (sum + x.window) (s.put ⟨GAL_COLL_W0.REG e t, 27, 27⟩ 0)

/-- A slot with EN = 1 and not BAD is ACTIVE at round 0; any other is DISABLED (R347). -/
def State.slotArm (s : State) (e t : Nat) : State :=
  let x := s.collTree e t
  let s := s.setColl e t {}
  if x.en && !x.bad then ((s.put (GAL_COLL_W3.STATE e t) 1).put (GAL_COLL_W3.ROUND e t) 0).put (GAL_COLL_W3.OUT_SEQ e t) 0
  else s.put (GAL_COLL_W3.STATE e t) 0

/-- COLL_SLOT_WRITE (R345, R347): word k of a slot, between passes only. -/
def execCollSlotWrite (who : Requester) (e t k value : Nat) (s : State) : Host.Outcome State Fault Refusal :=
  s.atHub who (GAL_COLL_W0.REG e t + 8 * k) <|
  if k ≥ 3 then .next s
  else if !s.betweenPasses then .next (s.raiseMesh 0x0517 (edgeNode e) 0xF 0 [])
  else
    let s := match k with
      | 0 => s.setReg (GAL_COLL_W0.REG e t) (withField (word value) 27 27 0)
      | 1 => s.put (GAL_COLL_W1.PEERS e t) (bits value 63 24)
      | _ => s.put (GAL_COLL_W2.DEST e t) (bits value 55 0)
    let s := State.slotBad e (below 64) 0 s
    -- a slot whose entry has become BAD acts as EN = 0
    let s := (s.activeSlots.filter (fun p => p.1 == e && (s.collTree e p.2).bad)).foldl (fun s p => s.slotArm e p.2) s
    .next (if k = 0 then s.slotArm e t else s)

/-- The records that a COLL packet carries. -/
def collRecords (p : GalePacket) : List Partial :=
  let q := bits p.offset 41 25
  (below (bits p.offset 24 23 + 1)).map (fun i =>
    ⟨(q + i) % 2 ^ 17, recordVals ((p.data.drop (1024 * i)).take 1024), nth 0 p.digests i, bit (bits p.offset 22 19) i, 1⟩)

/-- A COLL packet at its conduit (R347, R349). -/
def State.collArrive (s : State) (l : Nat) (p : GalePacket) (up : Bool) : State :=
  let r := s.takeNext l p
  match r.2 with
  | none => r.1
  | some c =>
    let s := r.1
    let e := cndEdge s c
    let t := bits p.offset 47 42
    let recs := collRecords p
    let round := s.get (GAL_COLL_W3.ROUND e t)
    let named := s.collActive e t && s.slotNames e t c && (up == (s.slotChildren e t).contains c)
    let x := s.coll e t
    if named && bits p.offset 63 48 == round then
      if recs.all (fun q => !up || s.collRoom e t q.seq) then
        recs.foldl (fun s q => s.collTake e t c up q) ((s.accept c p).cndAckEvery c 2)
      else s.cndAck c 2 2 p.psn
    else if named && bits p.offset 63 48 == (round + 1) % 2 ^ 16 then
      if x.recs.length + x.early.length + recs.length ≤ (s.collTree e t).window then
        ((s.accept c p).cndAckEvery c 2).setColl e t { x with early := x.early ++ recs.map (fun q => ⟨c, up, q⟩) }
      else s.cndAck c 2 2 p.psn
    else
      let s := (s.accept c p).cndAck c 2 0 0
      (s.addSat (GAL_CND_STATE.DROPS c) 1).raiseCnd c 0x0621 0

/-- COLL_UP (R347 to R349). -/
def execCollUp (l : Nat) (p : GalePacket) (s : State) : Host.Outcome State Fault Refusal := .next (s.collArrive l { p with type := 8 } true)

/-- COLL_DOWN (R347 to R349). -/
def execCollDown (l : Nat) (p : GalePacket) (s : State) : Host.Outcome State Fault Refusal := .next (s.collArrive l { p with type := 9 } false)

/-- COLL_PACK_WINDOW (R348): 64 mesh cycles with no further record ready; what is packed leaves. -/
def execCollPackWindow (e t : Nat) (s : State) : Host.Outcome State Fault Refusal :=
  .next (State.collSend e t true (s.coll e t).ready.length s)

/-- COLL_TIMEOUT (R350): an ACTIVE slot that is not idle for COLL_LIMIT. -/
def execCollTimeout (e t : Nat) (s : State) : Host.Outcome State Fault Refusal :=
  if s.collActive e t && !s.collIdle e t then
    .next ((s.record { code := 0x0620, source := 2, node := edgeNode e, unit := t, action := s.abortBit }).abortPass 0x0620 0xFF)
  else .next s

end Sys2Proof.Machine
end

