-- ==== Sys2Proof/Machine/Gale.lean ====
section
/-! DEFINITION. The Gale links (09_gale_links.md R321 to R332): their control register, training, flits, replay, FEC limits and the panel
ID. -/

namespace Sys2Proof.Machine

open Sys2Proof

/-! ## Control (R322, R327) -/

/-- RETRAIN (R327): FAILED or UP goes to PMA at full rate, the counts anew; in another state the bit stays until PMA is entered. -/
def State.retrain (s : State) (l : Nat) : State :=
  if s.linkSt l = 8 ∨ s.linkSt l = 6 then
    let s := s.leaveUp l 2
    ((s.setLink l { misSecond := (s.link l).misSecond }).put (GAL_LSTATUS.FAILS l) 0).linkPma l
  else s.put (GAL_LCTRL.RETRAIN l) 1

/-- LINK_ENABLE (R327): a write of GAL_LCTRL. EN = 1 starts the link from WAIT_MODULE; EN = 0 takes it to DISABLED from any state
but QUIESCED. -/
def execLinkEnable (who : Requester) (l value : Nat) (s : State) : Host.Outcome State Fault Refusal :=
  s.atHub who (GAL_LCTRL.REG l) <|
  let was := s.flag (GAL_LCTRL.EN l)
  let s := (s.put (GAL_LCTRL.REPLAY_TO l) (Nat.max 1 (bits value 63 48))).put (GAL_LCTRL.FEC_LIMIT l) (Nat.max 1 (bits value 47 32))
  let s := s.setLink l (s.link l)
  let s := ((s.put (GAL_LCTRL.LOOPBACK_OK l) (bits value 3 3)).put (GAL_LCTRL.FALLBACK_EN l) (bits value 2 2)).put (GAL_LCTRL.EN l) (bits value 0 0)
  let s :=
    if bit value 0 then
      if s.linkSt l = 0 then s.linkStart l
      else if s.linkSt l = 8 ∧ ¬ was then (s.setLink l {}).linkPma l else s
    else if s.linkSt l = 9 ∨ s.linkSt l = 0 then s
    else ((s.leaveUp l 0).put (GAL_LSTATUS.RATE l) 0).setLink l { misSecond := (s.link l).misSecond }
  .next (if bit value 1 then s.retrain l else s)

/-- GAL_RETRAIN (R327). -/
def execGalRetrain (who : Requester) (l : Nat) (s : State) : Host.Outcome State Fault Refusal :=
  s.atHub who (GAL_LCTRL.REG l) <| .next (s.retrain l)

/-! ## Training (R327, R328, R331) -/

/-- GALE_PMA_DONE (R327): signal, CDR lock and equalisation on all eight lanes. -/
def execGalePmaDone (l : Nat) (s : State) : Host.Outcome State Fault Refusal :=
  .next (if s.linkSt l = 2 then (s.setLinkSt l 3).put (GAL_LANE.SIGNAL l) 0xFF else s)

/-- GALE_PCS_DONE (R327): every PCS lock on all eight lanes. -/
def execGalePcsDone (l : Nat) (s : State) : Host.Outcome State Fault Refusal :=
  .next (if s.linkSt l = 3 then (s.setLinkSt l 4).put (GAL_LANE.AM_LOCK l) 0xFF else s)

/-- The receive buffers that a link announces (R326). -/
def announced : List Nat := [512, 256, 1024]

/-- The payload of this end's PARAM control flit (Table 9.5). -/
def State.paramPayload (s : State) (l : Nat) : List Nat :=
  [1, (s.link l).rate] ++ leBytes 2 s.panelId ++ [l, 0] ++ announced.flatMap (leBytes 2) ++ leBytes 2 2048

/-- GALE_FLIT_LOCK (R323, R328): the link enters PARAM and sends its control flit. -/
def execGaleFlitLock (l : Nat) (s : State) : Host.Outcome State Fault Refusal :=
  .next (if s.linkSt l = 4 then
    let f : Flit := { vc := 0, sop := false, eop := false, lseq := 0, payload := [] }
    (s.setLinkSt l 5).send (.gale l 2 [] (flitBytes ((s.link l).header 2 f) (s.paramPayload l)))
  else s)

/-- The partner's PARAM flit passes the checks of R328. -/
def State.paramOk (s : State) (l : Nat) (f : ParamFlit) : Bool :=
  f.version == 1 && f.rate == (s.link l).rate && f.credits.length == 3 && f.credits.all (fun c => c != 0) && f.panel != 0 && f.panel != 0xFFFF &&
    (f.panel != s.panelId || s.flag (GAL_LCTRL.LOOPBACK_OK l))

/-- PARAM (R328): the partner's control flit arrives; peer says that the partner has accepted this end's. -/
def execParam (l : Nat) (f : ParamFlit) (peer : Bool) (s : State) : Host.Outcome State Fault Refusal :=
  if s.linkSt l ≠ 5 then .next s
  else if !s.paramOk l f then .next ((s.raiseLink l 0x0606).linkFailed l)
  else
    let s := (s.put (GAL_LSTATUS.PEER_PANEL l) f.panel).put (GAL_LSTATUS.PEER_LINK l) f.link
    .next (if peer then s.linkReady l f else s)

/-- GALE_ATTEMPT_FAIL (R327, R331): PMA, PCS, SYNC or PARAM has not finished within its limit. -/
def execGaleAttemptFail (l : Nat) (s : State) : Host.Outcome State Fault Refusal :=
  .next (if 2 ≤ s.linkSt l ∧ s.linkSt l ≤ 5 then s.linkFailed l else s)

/-- GALE_DOWN_TIMER (R327, R331): 100 ms in DOWN. -/
def execGaleDownTimer (l : Nat) (s : State) : Host.Outcome State Fault Refusal :=
  .next (if s.linkSt l = 7 then s.linkRetry l else s)

/-- GALE_LINK_LOSS (R329): lock or signal lost; the lanes that still have signal and alignment-marker lock. -/
def execGaleLinkLoss (l signal am : Nat) (s : State) : Host.Outcome State Fault Refusal :=
  let s := (s.put (GAL_LANE.SIGNAL l) signal).put (GAL_LANE.AM_LOCK l) am
  .next (s.linkDown l)

/-! ## Flits (R323 to R326) -/

/-- A replay is due: after eight in a row without ACK advancing the link goes DOWN with 0x0604, else every unacknowledged flit is
sent again. -/
def State.replayDue (s : State) (l : Nat) : State :=
  if (s.link l).replays ≥ 8 then (s.raiseLink l 0x0604).linkDown l else s.replayLink l

/-- A data flit is discarded: NAK is set until the expected LSEQ arrives. -/
def State.flitDiscard (s : State) (l : Nat) : State := s.setLink l { s.link l with nak := true }

/-- ACK of a received flit: the flits up to its LSEQ leave the replay buffer. -/
def State.flitAck (s : State) (l ack : Nat) : State :=
  let x := s.link l
  match indexOf? (fun (f : Flit) => f.lseq == ack) x.unacked with
  | none => s
  | some i => s.setLink l { x with unacked := x.unacked.drop (i + 1), replays := 0 }

/-- The credits of a received flit, as far as VC v; the answer says that none exceeds the announced size (R326). -/
def State.flitCredit (s : State) (l : Nat) (seen : List Nat) : State × Bool :=
  (below 3).foldl (fun (acc : State × Bool) v =>
    let x := acc.1.link l
    let d := (nth 0 seen v + 256 - nth 0 x.credSeen v) % 256
    let cr := nth 0 x.credit v + d
    if cr > nth 0 x.credMax v then (acc.1, false)
    else (acc.1.setLink l { x with credit := setNth x.credit v cr, credSeen := setNth x.credSeen v (nth 0 seen v) }, acc.2)) (s, true)

/-- An accepted data flit: its payload joins its packet; a whole packet leaves for its conduit and frees its flits. -/
def State.flitTake (s : State) (l vc : Nat) (sop eop : Bool) (payload : List Nat) : State :=
  let x := s.link l
  let old : List (List Nat) := if sop then [] else nth [] x.building vc
  let b := old ++ [payload]
  let s := s.put (GAL_TRAFFIC.RX l) ((x.rxFlits + 1) / 1024 % 2 ^ 32)
  let x := { x with rxNext := (x.rxNext + 1) % 4096, nak := false, rxFlits := (x.rxFlits + 1) % 2 ^ 42 }
  if eop then
    let p := decodePacket b.flatten
    let s := s.setLink l { x with building := setNth x.building vc [], freed := setNth x.freed vc ((nth 0 x.freed vc + b.length) % 256) }
    s.send (.gale l 3 (packetWords p ++ p.digests) p.data)
  else s.setLink l { x with building := setNth x.building vc b }

/-- GALE_DATA_FLIT (R323 to R326): the 256 bytes of a flit arrive on a link that is UP. -/
def execGaleDataFlit (l : Nat) (bytes : List Nat) (s : State) : Host.Outcome State Fault Refusal :=
  if s.linkSt l ≠ 6 then .next s
  else if ofLe ((bytes.drop 252).take 4) ≠ crc32 crcEthernet (bytes.take 252) then
    let s := (s.addSat (GAL_LLERR.CRC l) 1).flitDiscard l
    let x := s.link l
    let s := s.setLink l { x with crcRun := x.crcRun + 1 }
    .next (if x.crcRun + 1 ≥ 4 then s.linkDown l else s)
  else
    let h := ofLe (bytes.take 8)
    let s := s.setLink l { s.link l with crcRun := 0 }
    let s := s.flitAck l (bits h 49 38)
    let r := s.flitCredit l [bits h 24 17, bits h 16 9, bits h 8 1]
    if !r.2 then .next ((r.1.raiseLink l 0x0606).linkDown l)
    else
      let s := r.1
      let x := s.link l
      let nak := bit h 37
      let s := s.setLink l { x with peerNak := nak }
      let s := if nak && !x.peerNak then s.replayDue l else s
      let s := s.pump l
      if bits h 63 62 ≠ 1 ∨ s.linkSt l ≠ 6 then .next s
      else
        let vc := bits h 36 35
        if vc = 3 ∨ bits h 61 50 ≠ (s.link l).rxNext then .next (s.flitDiscard l)
        else if !bit h 34 && decide ((nth [] (s.link l).building vc).length ≥ nth 0 announced vc) then .next ((s.raiseLink l 0x0606).linkDown l)
        else .next (s.flitTake l vc (bit h 34) (bit h 33) ((bytes.drop 8).take (bits h 32 25)))

/-- GALE_REPLAY_TIMEOUT (R325): ACK has not advanced for REPLAY_TO with flits unacknowledged. -/
def execGaleReplayTimeout (l : Nat) (s : State) : Host.Outcome State Fault Refusal :=
  .next (if s.linkSt l = 6 ∧ ¬ (s.link l).unacked.isEmpty then s.replayDue l else s)

/-- GALE_FEC_SECOND (R330): the codewords of one second. -/
def execGaleFecSecond (l corrected uncorrectable : Nat) (s : State) : Host.Outcome State Fault Refusal :=
  let s := (s.addSat (GAL_FEC.CORRECTED l) corrected).addSat (GAL_FEC.UNCORR l) uncorrectable
  let lim := s.get (GAL_LCTRL.FEC_LIMIT l)
  if s.linkSt l ≠ 6 then .next s
  else if uncorrectable > 16 * lim then .next ((s.raiseLink l 0x0605).linkDown l)
  else .next (if uncorrectable > lim then s.raiseLink l 0x0605 else s)

/-! ## The panel ID (R332) -/

/-- GAL_PANEL_WRITE (R332, R350): ID is accepted only while every link is DISABLED, FAILED or QUIESCED; COLL_LIMIT of 0 stores 1. -/
def execGalPanelWrite (who : Requester) (value : Nat) (s : State) : Host.Outcome State Fault Refusal :=
  s.atHub who GAL_PANEL.REG <|
  let s := s.put GAL_PANEL.COLL_LIMIT (Nat.max 1 (bits value 31 0))
  if (s.gale.map (·.1)).all (fun l => s.linkSt l == 0 || s.linkSt l == 8 || s.linkSt l == 9) then .next (s.put GAL_PANEL.ID (bits value 63 48))
  else .next (s.record { code := 0x0612 })

end Sys2Proof.Machine
end

