-- ==== Sys2Proof/Machine/Guests.lean ====
section
/-! DEFINITION. The guest sites (16_host.md R567 to R572): bring-up, the capability block, traffic, timeouts and loss. Temperature reports
stand with the sensors in Thermal.lean. -/

namespace Sys2Proof.Machine

open Sys2Proof

/-! ## Bring-up (R568, Table 16.8) -/

/-- GU switches off and the guest is in a state. -/
def State.guestDark (s : State) (g st : Nat) : State := (s.guestLeave g st).powerDown (guestNode g) 0

/-- WHY of a capability block (Table 16.7): the first rule broken in the order of the table, 0 for none. -/
def capabilityWhy (b : List Nat) : Nat :=
  let v := fun (i n : Nat) => ofLe ((b.drop i).take n)
  let set := v 6 2
  if v 4 1 ≠ 1 then 1
  else if v 5 1 = 0 ∨ 3 < v 5 1 then 2
  else if set < 650 ∨ 900 < set then 3
  else if set * 20 < 1000 * v 8 2 then 4
  else if ¬ (v 10 1 < v 11 1 ∧ v 11 1 < v 12 1 ∧ v 12 1 ≤ 125) then 5
  else if v 13 1 < 32 ∨ 64 < v 13 1 then 6
  else if v 14 2 < 1 ∨ 256 < v 14 2 then 7
  else if v 16 1 < 8 then 8
  else if v 17 7 ≠ 0 ∨ v 32 32 ≠ 0 then 9
  else 0

/-- GUEST_SIDEBAND_UP (R568 steps 3 to 6): the sideband is up; the hub reads the 64 bytes of the capability block and checks them. GU then
slews to VSUPPLY, and the mainband trains. -/
def execGuestSidebandUp (g : Nat) (block : List Nat) (s : State) : Host.Outcome State Fault Refusal :=
  if 4 ≤ g ∨ s.guestSt g ≠ 2 then .next s
  else
    let b := block.take 64 ++ List.replicate (64 - block.length) 0
    let s := (below 8).foldl (fun s i => s.setReg (GST_CAP.REG g i) (word (ofLe ((b.drop (8 * i)).take 8)))) s
    let s := s.guestState g 3
    let why := capabilityWhy b
    let s := s.put (GST_STATUS.WHY g) why
    .next (if why ≠ 0 then (s.raiseGuest g 0x0B50).guestDark g 7
      else (s.setGuest g { s.guest g with vset := ofLe ((b.drop 6).take 2) }).guestState g 4)

/-- GUEST_SIDEBAND_TIMEOUT (R568 step 3): no sideband by tick 1,000,000; the guest is absent and no code is raised. -/
def execGuestSidebandTimeout (g : Nat) (s : State) : Host.Outcome State Fault Refusal :=
  .next (if 4 ≤ g then s else if s.guestSt g = 1 ∨ s.guestSt g = 2 then s.guestDark g 6 else s)

/-- GUEST_TRAIN_DONE (R568 steps 6 and 7): the mainband has trained at a rate in GT/s and a width, or failed. -/
def execGuestTrainDone (g : Nat) (ok : Bool) (rate width : Nat) (s : State) : Host.Outcome State Fault Refusal :=
  if 4 ≤ g ∨ s.guestSt g ≠ 4 then .next s
  else if ok then
    let s := s.setGuest g { s.guest g with heard := s.thermal.samples, retrainDue := false }
    let s := (s.put (GST_STATUS.RETRAINS g) 0).guestState g 5
    .next ((s.put (GST_STATUS.RATE g) rate).put (GST_STATUS.WIDTH g) width)
  else .next (s.guestLoss g)

/-- GUEST_RETRAIN_TIMER (R572): 100 ms after a loss the link retrains from step 3, up to three times in a row. -/
def execGuestRetrainTimer (g : Nat) (s : State) : Host.Outcome State Fault Refusal :=
  if 4 ≤ g ∨ s.guestSt g ≠ 8 ∨ ¬ (s.guest g).retrainDue then .next s
  else
    let s := s.setGuest g { s.guest g with retrainDue := false }
    .next (if 3 ≤ s.get (GST_STATUS.RETRAINS g) then s
      else (s.put (GST_STATUS.RETRAINS g) (s.get (GST_STATUS.RETRAINS g) + 1)).guestState g 2)

/-- GUEST_LINK_LOSS (R572): the mainband or the sideband is lost while the guest is UP. -/
def execGuestLinkLoss (g : Nat) (s : State) : Host.Outcome State Fault Refusal :=
  .next (if g < 4 ∧ s.guestUp g then s.guestLoss g else s)

/-! ## GST_CTRL (R568, R572) -/

/-- A write of GST_CTRL: EN = 0 acts as a loss without retries and switches GU off; RETRY starts again from step 1 in WARM or SERVING, unless
the guest is UP. -/
def State.guestCtrl (s : State) (g value : Nat) : State :=
  let was := s.flag (GST_CTRL.EN g)
  let s := s.put (GST_CTRL.EN g) (b2n (bit value 0))
  if !bit value 0 then
    if !was then s
    else
      let s := if s.guestUp g then s.raiseGuest g 0x0B51 else s
      (s.guestOff g).powerDown (guestNode g) 0
  else if bit value 1 && !s.guestUp g && (s.get RST_STATUS.PSTATE == 3 || s.get RST_STATUS.PSTATE == 4) then s.guestStart g
  else s

/-- GUEST_RETRY (R568): a write of GST_CTRL with RETRY = 1. -/
def execGuestRetry (who : Requester) (g value : Nat) (s : State) : Host.Outcome State Fault Refusal :=
  s.atHub who (GST_CTRL.REG g) <| .next (if g < 4 && bit value 1 then s.guestCtrl g value else s)

/-- GUEST_ENABLE_WRITE (R572): a write of GST_CTRL with RETRY = 0. -/
def execGuestEnableWrite (who : Requester) (g value : Nat) (s : State) : Host.Outcome State Fault Refusal :=
  s.atHub who (GST_CTRL.REG g) <| .next (if g < 4 && !bit value 1 then s.guestCtrl g value else s)

/-! ## Traffic (R570, R571) -/

/-- TAGS of a guest: requests that it accepts at once. -/
def State.guestTags (s : State) (g : Nat) : Nat := bits (s.reg (GST_CAP.REG g 1)).toNat 63 48

/-- The least tag of a guest that no request holds. -/
def Guest.freeTag (x : Guest) : Nat :=
  let used := x.out.map (·.tag)
  ((below (used.length + 1)).find? (fun t => !used.contains t)).getD used.length

/-- The header of a request frame (Table 16.9). -/
def guestHeader (r : GuestReq) : List Nat :=
  [(if r.write then 2 else 1) * 2 ^ 60 + r.tag * 2 ^ 52 + (r.ask.bytes - 1) * 2 ^ 42, r.addr]

/-- Requests that wait are sent in arrival order, while fewer than TAGS are outstanding. -/
def State.guestSend (g : Nat) : Nat → State → State
  | 0, s => s
  | f + 1, s =>
    let x := s.guest g
    match x.waiting with
    | [] => s
    | r :: l =>
      if s.guestTags g ≤ x.out.length then s
      else
        let r : GuestReq := { r with tag := x.freeTag }
        let s := s.setGuest g { x with waiting := l, out := x.out ++ [r] }
        let s := s.addWrap (if r.write then GST_TRAFFIC.WRITES g else GST_TRAFFIC.READS g) 1
        State.guestSend g f (s.send (.guest g (guestHeader r) r.data))

/-- A READ or WRITE at the guest bridge (R570): translated again from the bridge's own cache, refused or passed on. -/
def State.guestRequest (s : State) (g : Nat) (a : MeshAsk) (write : Bool) (data : List Nat) : State :=
  let refuse := fun (s : State) => (s.addSat (GST_ERR.REFUSED g) 1).guestPoison g { tag := 0, ask := a, write := write, addr := 0 }
  match rwtEntry a.ppa with
  | none => refuse s
  | some e =>
    let r := s.rwtLookup (guestNode g) e
    match r.2.translateWord r.1.toNat (a.ppa % 2 ^ 21) write with
    | .guest t addr =>
      let cap := fun (i : Nat) => (s.reg (GST_CAP.REG g i)).toNat
      if t ≠ g ∨ cap 3 ≤ addr ∨ 2 ^ bits (cap 1) 47 40 ≤ addr ∨ ¬ bit (bits (cap 0) 47 40) (b2n write) then refuse r.2
      else
        let x := r.2.guest g
        let q : GuestReq := { tag := 0, ask := a, write := write, addr := addr, data := data }
        State.guestSend g (x.waiting.length + 1) (r.2.setGuest g { x with waiting := x.waiting ++ [q] })
    | _ => refuse r.2

/-- A frame that the bridge drops (R571): counted, and 0x0B52 at most once per second. -/
def State.guestViolation (s : State) (g : Nat) : State :=
  let s := s.addSat (GST_ERR.VIOLATIONS g) 1
  let now := s.isobar / second
  if (s.guest g).violSecond = some now then s
  else (s.setGuest g { s.guest g with violSecond := some now }).raiseGuest g 0x0B52

/-- A frame of a guest that is UP (R570, R571): it answers the outstanding request of its tag, late or in time, or is dropped. -/
def State.guestFrame (s : State) (g : Nat) (f : GuestFrame) : State :=
  let x := s.guest g
  match x.out.find? (fun r => r.tag == f.tag) with
  | none => s.guestViolation g
  | some r =>
    if f.type ≠ (if r.write then 9 else 8) ∨ (¬ r.write ∧ f.bytes ≠ r.ask.bytes) then s.guestViolation g
    else
      let s := s.setGuest g { x with out := x.out.filter (fun y => y.tag != f.tag) }
      let s :=
        if r.answered then s.addSat (GST_ERR.LATE g) 1
        else if r.write then s.answerWrite (guestNode g) r.ask f.err
        else s.answerRead (guestNode g) r.ask (f.data.take r.ask.bytes ++ List.replicate (r.ask.bytes - f.data.length) 0) f.err
      State.guestSend g (s.guest g).waiting.length s

/-- GUEST_RDATA (R570, R571): a frame other than a WACK arrives from a guest. -/
def execGuestRdata (g : Nat) (f : GuestFrame) (s : State) : Host.Outcome State Fault Refusal :=
  .next (if g < 4 ∧ s.guestUp g then s.guestFrame g f else s)

/-- GUEST_WACK (R570, R571): a frame of TYPE WACK arrives from a guest. -/
def execGuestWack (g tag : Nat) (err : Bool) (s : State) : Host.Outcome State Fault Refusal :=
  .next (if g < 4 ∧ s.guestUp g then s.guestFrame g { type := 9, tag := tag, bytes := 1, err := err } else s)

/-- GUEST_TIMEOUT (R571): a request unanswered for 1 ms is answered on the mesh as poisoned; its tag stays taken. -/
def execGuestTimeout (g tag : Nat) (s : State) : Host.Outcome State Fault Refusal :=
  let x := s.guest g
  match x.out.find? (fun r => r.tag == tag && !r.answered) with
  | none => .next s
  | some r =>
    let s := (s.guestPoison g r).addSat (GST_ERR.TIMEOUTS g) 1
    let s := s.setGuest g { x with out := x.out.map (fun (y : GuestReq) => if y.tag == tag then { y with answered := true } else y) }
    let now := s.isobar / second
    .next (if (s.guest g).timeSecond = some now then s
      else (s.setGuest g { s.guest g with timeSecond := some now }).raiseGuest g 0x0B53)

end Sys2Proof.Machine
end

