-- ==== Sys2Proof/Machine/Host.lean ====
section
/-! DEFINITION. The PCIe endpoint and the module bus (16_host.md R548 to R559, R565, R566): the link and Bus Master Enable, host memory, the
BAR4 apertures, MSI-X, and reads of module memory. -/

namespace Sys2Proof.Machine

open Sys2Proof

/-- Raise a code of class 0x0B of the host or management interface (R574). -/
def State.raiseHost (s : State) (code unit : Nat) : State := s.record { code := code, unit := unit }

/-! ## MSI-X (R557, R558) -/

/-- A 64-bit word of the MSI-X table: word 2v holds the message address of vector v, word 2v + 1 its data and its vector control, which is masked
at reset (PCI Express Base Specification). -/
def State.msixWord (s : State) (i : Nat) : Word := (look s.host.msix i).getD (if i % 2 = 1 then word (2 ^ 32) else 0)

/-- A vector that can be sent now gives its pending message (R558). -/
def State.msixRelease (s : State) (v : Nat) : State :=
  if s.host.pend.contains v && !s.msixMasked v && s.flag HUB_PCIE.MSIX_EN then
    ({ s with host := { s.host with pend := markOut s.host.pend v } } : State).trigger v
  else s

/-- Every pending message that can be sent is sent, by rising vector. -/
def State.msixReleaseAll (s : State) : State := (below 256).foldl (fun s v => s.msixRelease v) s

/-- A word of the MSI-X table is written. -/
def State.msixWrite (s : State) (i : Nat) (w : Word) : State :=
  ({ s with host := { s.host with msix := putKey s.host.msix i w } } : State).msixRelease (i / 2)

/-- MSIX_UNMASK (R558): a vector's mask bit, or MSI-X Enable and Function Mask, change. -/
def execMsixUnmask (w : MsixWrite) (s : State) : Host.Outcome State Fault Refusal :=
  if !s.hubRuns then .next s
  else match w with
  | .vector v masked =>
    if 256 ≤ v then .next s
    else .next (s.msixWrite (2 * v + 1) (withField (s.msixWord (2 * v + 1)) 32 32 (b2n masked)))
  | .control enable mask =>
    .next (({ s with host := { s.host with funcMask := mask } } : State).put HUB_PCIE.MSIX_EN (b2n enable)).msixReleaseAll

/-- IRQ_HOLDOFF_END (R558): the interval after a vector's last message is over; the triggers within it send one message. -/
def execIrqHoldoffEnd (v : Nat) (s : State) : Host.Outcome State Fault Refusal :=
  let h := s.host
  let waits := h.waiting.contains v
  let s := { s with host := { h with holdoff := markOut h.holdoff v, waiting := markOut h.waiting v } }
  .next (if waits then s.trigger v else s)

/-! ## The link and Bus Master Enable (R551, R552) -/

/-- PCIE_LINK_UP (R551): the link has trained at a rate (the SPEED code) and a width. -/
def execPcieLinkUp (speed width : Nat) (flit : Bool) (s : State) : Host.Outcome State Fault Refusal :=
  if !s.hubRuns then .next s
  else
    let bad := decide (speed < 4) || decide (width < 8)
    let s := (((s.put HUB_PCIE.SPEED speed).put HUB_PCIE.WIDTH width).put HUB_PCIE.FLIT (b2n flit)).put HUB_PCIE.DEGRADED (b2n bad)
    .next (if bad then s.raiseHost 0x0B31 0xFF else s)

/-- What is held for Bus Master Enable goes out in order (R552): a message of a masked vector becomes pending, and one of a disabled MSI-X is gone. -/
def State.heldOut (s : State) : State :=
  let l := s.host.held
  let s := { s with host := { s.host with held := [], busOffRaised := false } }
  l.foldl (fun (s : State) m =>
    match m with
    | .msix v =>
      if !s.flag HUB_PCIE.MSIX_EN then s
      else if s.msixMasked v then { s with host := { s.host with pend := markIn s.host.pend v } }
      else s.send m
    | _ => s.send m) s

/-- PCIE_LINK_DOWN (R552): a link-down or a hot reset resets the configuration space (Bus Master Enable, MSI-X Enable and Function Mask are 0
there) and nothing else. -/
def execPcieLinkDown (s : State) : Host.Outcome State Fault Refusal :=
  if !s.hubRuns then .next s
  else
    let s := ((s.addSat HUB_PCIE.LINK_DOWNS 1).put HUB_PCIE.SPEED 0).put HUB_PCIE.WIDTH 0
    let s := (((s.put HUB_PCIE.FLIT 0).put HUB_PCIE.BME 0).put HUB_PCIE.MSIX_EN 0).put HUB_PCIE.DEGRADED 0
    .next { s with host := { s.host with funcMask := false } }

/-- BUS_MASTER_ENABLE_CHANGE (R552): at 0 records, reports and messages are held; at 1 they go out in order. -/
def execBusMasterEnableChange (on : Bool) (s : State) : Host.Outcome State Fault Refusal :=
  if !s.hubRuns then .next s
  else if s.flag HUB_PCIE.BME == on then .next s
  else
    let s := s.put HUB_PCIE.BME (b2n on)
    .next (if on then s.heldOut.writeRecords else s)

/-! ## Host memory (R553) -/

/-- A window request to host memory while Bus Master Enable is 0 (R552): an invalid PPA, and 0x0B32 once for each such period. -/
def State.busOff (s : State) (a : MeshAsk) (write : Bool) : State :=
  let s := if s.host.busOffRaised then s else
    { s.raiseHost 0x0B32 0xFF with host := { (s.raiseHost 0x0B32 0xFF).host with busOffRaised := true } }
  s.ppaInvalid ⟨a.src, 0xFF⟩ a.ppa write

/-- Reads of host memory that wait are issued, while fewer than 256 are outstanding (Table 16.1). -/
def State.hostReadIssue : Nat → State → State
  | 0, s => s
  | f + 1, s =>
    match s.host.readWait with
    | [] => s
    | r :: l =>
      if 256 ≤ s.host.reads.length then s
      else
        let used := s.host.reads.map (·.tag)
        let r : HostRead := { r with tag := ((below (used.length + 1)).find? (fun t => !used.contains t)).getD used.length }
        State.hostReadIssue f (({ s with host := { s.host with readWait := l, reads := s.host.reads ++ [r] } } : State).send (.hostRead r.addr r.n r.tag))

/-- A mesh READ of host memory at a bus address. -/
def State.hostMemRead (s : State) (addr : Nat) (a : MeshAsk) : State :=
  if !s.flag HUB_PCIE.BME then (s.busOff a false).answerRead 84 a (List.replicate a.bytes 0xFF) true
  else
    let r : HostRead := { tag := 0, addr := addr, n := a.bytes, ask := some a }
    State.hostReadIssue (s.host.readWait.length + 1) { s with host := { s.host with readWait := s.host.readWait ++ [r] } }

/-- A mesh WRITE to host memory: posted, and acknowledged once it has been sent. Poisoned data is written as a poisoned TLP. -/
def State.hostMemWrite (s : State) (addr : Nat) (a : MeshAsk) (data : List Nat) : State :=
  if !s.flag HUB_PCIE.BME then (s.busOff a true).answerWrite 84 a true
  else
    let s := (s.send (.hostWrite addr data)).answerWrite 84 a false
    if s.pass.running then { s with host := { s.host with wrote := some addr } } else s

/-- A read of host memory ends: the answer on the mesh, poisoned where it failed, or the end of a drain's read. -/
def State.hostReadEnd (s : State) (tag : Nat) (ok : Bool) (data : List Nat) : State :=
  match s.host.reads.find? (fun r => r.tag == tag) with
  | none => s
  | some r =>
    let s := { s with host := { s.host with reads := s.host.reads.filter (fun x => x.tag != tag) } }
    let s := State.hostReadIssue s.host.readWait.length s
    match r.ask with
    | some a =>
      if ok then s.answerRead 84 a (data.take a.bytes ++ List.replicate (a.bytes - data.length) 0) false
      else s.tick.answerRead 84 a (s.freeBytes a.bytes) true
    | none =>
      if s.host.drain = some tag then (({ s with host := { s.host with drain := none } } : State).drainOn).progress else s

/-- HOST_READ_COMPLETION (R553): ok says that the completion is successful and not poisoned. -/
def execHostReadCompletion (tag : Nat) (ok : Bool) (data : List Nat) (s : State) : Host.Outcome State Fault Refusal :=
  .next (s.hostReadEnd tag ok data)

/-- HOST_READ_TIMEOUT (R553): no completion within 1 ms. -/
def execHostReadTimeout (tag : Nat) (s : State) : Host.Outcome State Fault Refusal := .next (s.hostReadEnd tag false [])

/-! ## BAR4 (R554 to R556) -/

/-- Where the answer of a BAR4 read is noted in State.out: BAR4 offsets stand above those of BAR0 and BAR2. -/
def bar4Base : Nat := 2 ^ 40

/-- A BAR4 read is answered all ones, with EP or without. -/
def State.bar4Ones (s : State) (offset n : Nat) (ep : Bool) : State :=
  s.send (.readData .host (bar4Base + offset) n (2 ^ (8 * n) - 1) ep)

/-- The host and a management port as R59 names a requester that has no node. -/
def hostWho : Who := ⟨0xFF, 0xFF⟩

/-- BAR4 reaches the panel address space (R556). -/
def State.bar4Open (s : State) : Bool := s.rst.level.isNone && (s.get RST_STATUS.PSTATE == 3 || s.get RST_STATUS.PSTATE == 4)

/-- One answer of a BAR4 read has arrived; the last one completes it. -/
def State.bar4Answer (s : State) (key ppa : Nat) (data : List Nat) (poison : Bool) : State :=
  match s.host.bar4.find? (fun r => r.key == key) with
  | none => s
  | some r =>
    let r : Bar4Read := { r with left := r.left - 1, parts := r.parts ++ [(ppa, data)], poison := r.poison || poison }
    if r.left ≠ 0 then
      { s with host := { s.host with bar4 := s.host.bar4.map (fun (x : Bar4Read) => if x.key == key then r else x) } }
    else
      ({ s with host := { s.host with bar4 := s.host.bar4.filter (fun x => x.key != key) } } : State).send
        (.readData .host (bar4Base + r.offset) r.n (ofLe (partBytes r.base r.n r.parts)) r.poison)

/-- A BAR4 access at an aperture that is enabled: the panel address, and whether it is valid. -/
def State.bar4Target (s : State) (offset n : Nat) : Nat × Bool :=
  let base := s.get (HUB_B4AP.BASE (offset / 2 ^ 32))
  let sum := ppaOffset base + offset % 2 ^ 32
  let ppa := mkPpa (ppaSpace base) (ppaSite base) (sum % 2 ^ 44)
  (ppa, decide (sum + n ≤ 2 ^ 44) && s.bar4Open && (pieces ppa n).all (fun q => s.memValid q.1 && s.memValid (q.1 + q.2 - 1)))

/-- BAR4_ACCESS (R554 to R556, R573): a read or a write of n bytes at a BAR4 offset; poison says that a write's TLP is poisoned. -/
def execBar4Access (write : Bool) (offset n : Nat) (data : List Nat) (poison : Bool) (s : State) : Host.Outcome State Fault Refusal :=
  let i := offset / 2 ^ 32
  if 2 ^ 36 < offset + n ∨ 2 ^ 36 ≤ offset then .fault .outsideBar
  else if n = 0 then .next s
  else if s.doldrums || !s.flag (HUB_B4AP.EN i) then
    let s := if s.hubRuns then s.raiseHost 0x0B30 i else s
    .next (if write then s else s.bar4Ones offset n false)
  else
    let t := s.bar4Target offset n
    if !t.2 then
      let s := s.ppaInvalid hostWho t.1 write
      .next (if write then s else s.bar4Ones offset n true)
    else if write then
      let d := data.take n ++ List.replicate (n - data.length) 0
      .next ((pieces t.1 n).foldl (fun s q =>
        (s.issue 84 .none (ppaNode q.1) true q.1 q.2 ((d.drop (q.1 - t.1)).take q.2) poison none none).1) s)
    else
      let used := s.host.bar4.map (·.key)
      let key := ((below (used.length + 1)).find? (fun k => !used.contains k)).getD used.length
      let ps := pieces t.1 n
      let r : Bar4Read := { key := key, offset := offset, base := t.1, n := n, left := ps.length }
      .next (ps.foldl (fun s q => (s.issue 84 (.bar4 key) (ppaNode q.1) false q.1 q.2 [] false none none).1)
        ({ s with host := { s.host with bar4 := s.host.bar4 ++ [r] } } : State))

/-- B4AP_WRITE (R555). -/
def execB4apWrite (who : Requester) (i value : Nat) (s : State) : Host.Outcome State Fault Refusal :=
  s.atHub who (HUB_B4AP.REG i) <|
  let en := bit value 63
  if en ∧ (1 < bits value 55 52 ∨ bits value 11 0 ≠ 0) then .next (s.raiseHost 0x0B30 i)
  else .next ((s.put (HUB_B4AP.EN i) (b2n en)).put (HUB_B4AP.BASE i) (bits value 55 0))

/-! ## Reads of module memory (R565, R566) -/

/-- A write of HUB_SMB_CMD: the fields are stored, and GO starts a read or is refused. -/
def State.smbCmd (s : State) (value : Nat) : State :=
  let s := (((s.put HUB_SMB_CMD.MOD (bits value 59 56)).put HUB_SMB_CMD.BANK (bits value 55 52)).put HUB_SMB_CMD.PAGE (bits value 51 44))
  let s := (s.put HUB_SMB_CMD.OFFSET (bits value 43 36)).put HUB_SMB_CMD.LEN (bits value 35 28)
  if !bit value 63 then s
  else
    let m := bits value 59 56
    let off := bits value 43 36
    let len := bits value 35 28
    if s.flag HUB_SMB_CMD.BUSY || decide (11 < m) || !(s.lenModule m).present || decide (7 < bits value 55 52) || len == 0 || decide (128 < len) ||
        decide (256 < off + len) then s.put HUB_SMB_CMD.STATUS 1
    else
      let s := ({ s with host := { s.host with smb := some (m, len) } } : State).put HUB_SMB_CMD.BUSY 1
      s.send (.module m 0x20 [bits value 55 52, bits value 51 44, off, len])

/-- SMB_READ (R566): a write of HUB_SMB_CMD with GO = 1. -/
def execSmbRead (who : Requester) (value : Nat) (s : State) : Host.Outcome State Fault Refusal :=
  s.atHub who HUB_SMB_CMD.REG <| .next (if bit value 63 then s.smbCmd value else s)

/-- SMB_READ_DONE (R565, R566): the module has given its bytes, or the bus has failed its retries. -/
def execSmbReadDone (ok : Bool) (data : List Nat) (s : State) : Host.Outcome State Fault Refusal :=
  match s.host.smb with
  | none => .next s
  | some (m, len) =>
    let s := ({ s with host := { s.host with smb := none } } : State).put HUB_SMB_CMD.BUSY 0
    if !ok then .next (((s.put HUB_SMB_CMD.STATUS 2).raiseModule m 0x0635).moduleState m 7)
    else
      let d := data.take len
      let s := s.put HUB_SMB_CMD.STATUS 0
      .next (d.zipIdx.foldl (fun s p =>
        s.put ⟨HUB_SMB_DATA.REG (p.2 / 8), 8 * (p.2 % 8) + 7, 8 * (p.2 % 8)⟩ p.1) s)

end Sys2Proof.Machine
end

