-- ==== Sys2Proof/Machine/MgmtOps.lean ====
section
/-! DEFINITION. Operations over the management ports (16_host.md R560 to R564): addresses, the key, tags, and the export of Barograph
records. -/

namespace Sys2Proof.Machine

open Sys2Proof

def State.mgmtPort (s : State) (p : Nat) : MgmtPort := lookD {} s.mgmt.ports p
def State.setMgmtPort (s : State) (p : Nat) (x : MgmtPort) : State := { s with mgmt := { s.mgmt with ports := putKey s.mgmt.ports p x } }

/-- A management port is UP. -/
def State.mgmtUp (s : State) (p : Nat) : Bool := s.get (HUB_MGT.STATE p) == 2

/-- HUB_MGT.STATE takes a value; a change is a hub event. -/
def State.mgmtState (s : State) (p st : Nat) : State :=
  if s.get (HUB_MGT.STATE p) = st then s else (s.put (HUB_MGT.STATE p) st).hubEvent HUB_EVENT.MGT

/-! ## IPv4 addresses (R561) -/

/-- The port holds an address, or none (0). -/
def State.bind (s : State) (p addr prefixLen : Nat) : State :=
  ((s.put (HUB_MGT_IP.ADDR p) addr).put (HUB_MGT_IP.PREFIX p) prefixLen).put (HUB_MGT_IP.BOUND p) (b2n (addr != 0))

/-- DHCPv4 begins with a DISCOVER, on a port that is UP and not static. -/
def State.dhcpStart (s : State) (p : Nat) : State :=
  if s.mgmtUp p && !s.flag (HUB_MGT_IP.STATIC p) then (s.setMgmtPort p { s.mgmtPort p with dhcp := 1 }).send (.mgmt p 67 [1])
  else s

/-- A write of HUB_MGT_IP: a static address, or DHCPv4, whose lease only hardware writes. -/
def State.ipWrite (s : State) (p value : Nat) : State :=
  let was := s.flag (HUB_MGT_IP.STATIC p)
  if bit value 63 then
    ((s.put (HUB_MGT_IP.STATIC p) 1).setMgmtPort p { s.mgmtPort p with dhcp := 0 }).bind p (bits value 31 0) (Nat.min 32 (bits value 55 48))
  else if was then ((s.put (HUB_MGT_IP.STATIC p) 0).bind p 0 (Nat.min 32 (bits value 55 48))).dhcpStart p
  else if s.flag (HUB_MGT_IP.BOUND p) then s
  else s.put (HUB_MGT_IP.PREFIX p) (Nat.min 32 (bits value 55 48))

/-! ## The key (R562) -/

/-- HMAC (RFC 2104) with SHA-256. -/
def hmac256 (key msg : List Nat) : List Nat :=
  let k := key ++ List.replicate (64 - key.length) 0
  sha256 (k.map (fun b => b ^^^ 0x5C) ++ sha256 (k.map (fun b => b ^^^ 0x36) ++ msg))

/-- The 256-bit key as bytes, the least significant first. -/
def State.mgmtKey (s : State) : List Nat := (below 4).flatMap (fun k => leBytes 8 (s.reg (HUB_MGT_KEY.REG k)).toNat)

/-- TAG over the bytes before it: zero while no key is in force. -/
def State.mgmtTag (s : State) (msg : List Nat) : List Nat :=
  if s.flag HUB_MGT_STAT.KEY_SET then (hmac256 s.mgmtKey msg).take 16 else List.replicate 16 0

/-- MGMT_KEY_WRITE (R562): KEY3 puts the key in force and starts the sequence anew, KEY0 to KEY2 clear KEY_SET; only PCIe may write. -/
def execMgmtKeyWrite (who : Requester) (k value : Nat) (s : State) : Host.Outcome State Fault Refusal :=
  s.atHub who (HUB_MGT_KEY.REG k) <|
  if who ≠ .host ∨ 4 ≤ k then .next s
  else
    let s := s.setReg (HUB_MGT_KEY.REG k) (word value)
    if k = 3 then .next (({ s with mgmt := { s.mgmt with last := 0, kept := none } } : State).put HUB_MGT_STAT.KEY_SET 1)
    else .next (s.put HUB_MGT_STAT.KEY_SET 0)

/-! ## Barograph export (R564) -/

/-- A write of HUB_MGT_CPER: records made from the moment EN is set are exported, and none are kept for resending once it is clear. -/
def State.cperWrite (s : State) (value : Nat) : State :=
  let was := s.flag HUB_MGT_CPER.EN
  let s := (s.put HUB_MGT_CPER.EN (bits value 63 63)).put HUB_MGT_CPER.MIN (bits value 55 54)
  let s := (s.put HUB_MGT_CPER.PORT (bits value 47 32)).put HUB_MGT_CPER.ADDR (bits value 31 0)
  if !bit value 63 then { s with mgmt := { s.mgmt with out := [] } }
  else if was then s else { s with mgmt := { s.mgmt with next := s.get BAR_WR_SEQ.SEQ } }

/-- A port can send to the collector: it is UP and has an IPv4 address. -/
def State.canExport (s : State) (p : Nat) : Bool := s.mgmtUp p && s.flag (HUB_MGT_IP.BOUND p)

/-- The datagram of a record on a port. -/
def State.cperDatagram (s : State) (p seq : Nat) (ws : List Word) : List Nat :=
  let m := [0x4C, 0x56, 0x43, 0x50, 1, 0, 0, p] ++ leBytes 8 seq ++ s.cper ws
  m ++ s.mgmtTag m

/-- Send a record for the first time, or again, on a port: kind 47711. -/
def State.cperSend (s : State) (p seq : Nat) : State :=
  match look s.baro seq with
  | none => s
  | some ws => s.send (.mgmt p 47711 (s.cperDatagram p seq ws))

/-- Records go out in SEQ order while fewer than 8 are unacknowledged and a port can send. -/
def State.exportOn : Nat → State → State
  | 0, s => s
  | f + 1, s =>
    let q := s.mgmt.next
    if s.get BAR_WR_SEQ.SEQ ≤ q ∨ 8 ≤ s.mgmt.out.length then s
    else
      let skip : State := { s with mgmt := { s.mgmt with next := q + 1 } }
      match look s.baro q with
      | none => State.exportOn f skip
      | some ws =>
        if !s.exported ws then State.exportOn f skip
        else match (below 2).find? s.canExport with
          | none => s
          | some p =>
            let o : CperOut := { seq := q, sends := 1, port := p }
            State.exportOn f (({ s with mgmt := { s.mgmt with next := q + 1, out := s.mgmt.out ++ [o] } } : State).cperSend p q)

/-- What the management ports do by themselves: a port that is DOWN negotiates anew, and records are exported. -/
def State.mgmtIdle (s : State) : State :=
  if !s.hubRuns then s
  else
    let s := (below 2).foldl (fun s p => if s.get (HUB_MGT.STATE p) = 0 then s.mgmtState p 1 else s) s
    if s.flag HUB_MGT_CPER.EN then State.exportOn 1040 s else s

end Sys2Proof.Machine
end

