-- ==== Sys2Proof/Machine/Clocks.lean ====
section
/-! DEFINITION. The commands of the clocks (12_clocks.md): the reference monitor and holdover, the Billow mesh, the beacons, the steps of an
operating-point change, PTP, and the Dawn clock. -/

namespace Sys2Proof.Machine

open Sys2Proof

/-! ## Reference monitor and holdover (R438, R456, R457) -/

/-- CLK_REF.PPM: the mean of the last 100 windows against 1,000 edges, in ppm, saturating. -/
def ppmOf (edges : List Nat) : Int :=
  if edges.length < 100 then 0 else max (-32767) (min 32767 (((sumNat edges : Nat) : Int) * 10 - 1000000))

/-- The reference is lost (step 1 and 2 of Table 12.4). -/
def State.refLost (s : State) : State :=
  let s := { s with clock := { s.clock with refOk := false, wasLost := true, lostWindows := 0 } }
  let s := ((s.put CLK_STATUS.REF_OK 0).addSat CLK_REF.LOSSES 1).srcShow
  let s := s.raiseClk 0x0901 0xFF 0xFF 0 []
  s.ptpUnlock.commitHazard

/-- The reference is restored (R438, R457). -/
def State.refRestored (s : State) : State :=
  let was := s.clock.wasLost
  let s := { s with clock := { s.clock with refOk := true } }
  let s := (((s.put CLK_STATUS.REF_OK 1).put CLK_STATUS.HOLDOVER_IDLE 0).put CLK_REF.HOLDOVER_US 0).srcShow
  if was then s.raiseClk 0x0902 0xFF 0xFF 0 [] else s

/-- REF_WINDOW (R438, R461): a window of 10 µs and the reference edges it counted. -/
def execRefWindow (edges : Nat) (s : State) : Host.Outcome State Fault Refusal :=
  if s.get RST_STATUS.PSTATE = 0 then .next s
  else
    let c := s.clock
    let ok := decide (999 ≤ edges) && decide (edges ≤ 1001) && !c.backup
    let hist := (edges :: c.edges).take 100
    let lost := if c.refOk then 0 else c.lostWindows + 1
    let s := { s with clock := { c with edges := hist, good := if ok then c.good + 1 else 0, lostWindows := lost } }
    let s := s.put CLK_REF.PPM (unsigned 16 (ppmOf hist))
    let s := if s.clock.wasLost ∧ ¬ s.clock.refOk then s.putSat CLK_REF.HOLDOVER_US (10 * lost) else s
    if s.clock.refOk then .next (if ok then s else s.refLost)
    else .next (if ok ∧ 100 ≤ s.clock.good then s.refRestored else s)

/-- HOLDOVER_EXPIRY (R456): 10 s after the loss. -/
def execHoldoverExpiry (s : State) : Host.Outcome State Fault Refusal :=
  if s.clock.refOk ∨ ¬ s.clock.wasLost ∨ ¬ s.hubKeeps ∨ s.flag CLK_STATUS.HOLDOVER_IDLE then .next s
  else
    let s := (s.put CLK_STATUS.HOLDOVER_IDLE 1).raiseClk 0x0903 0xFF 0xFF s.leaveBit []
    .next (if s.get RST_STATUS.PSTATE = 4 ∨ (s.get RST_STATUS.PSTATE = 3 ∧ s.trans.isSome) then (s.goDown 3).progress else s)

/-! ## The Billow mesh (R445 to R448) -/

/-- The raw latency in mesh cycles of a link end at a frequency in MHz (R446), rounded up. -/
def rawLatency (ps mhz : Nat) : Nat := (ps * mhz + 999999) / 1000000

/-- The calibration of one link end (R446): its paddings, or FAILED with 0x0519 (R270). -/
def State.calibrate (s : State) (d : LinkDelay) : State :=
  let raws := (below 8).map (fun k => rawLatency d.ps (opFreq k))
  if !s.powered d.site && !(stackSite d.site && s.domainOn d.site 3) then s
  else if raws.any (fun r => decide (6 < r)) then s.linkFail d.site d.port 0x0519
  else
    let c := s.clock
    let s := { s with clock := { c with pads := putKey c.pads (d.site * 8 + d.port) (raws.map (fun r => 6 - r)) } }
    s.put (SIT_LINK.PAD d.site d.port) (6 - nth 0 raws (s.get CLK_OP.CUR))

/-- The links of a stack start to train after calibration (step 5 of Table 12.2). -/
def State.linksTrain (s : State) (site : Nat) : State :=
  (below 8).foldl (fun s p =>
    match neighbour site p with
    | none => s
    | some _ => if s.get (SIT_LINK.STATE site p) = 5 ∨ s.get (SIT_LINK.STATE site p) = 6 then s else s.linkState site p 2) s

/-- The nodes are locked, or not, at the start of the mesh (step 2 of Table 12.2). -/
def State.nodesStart (s : State) (unlocked : List Nat) : State :=
  let s := stackSites.foldl (fun s x =>
    if s.nodeRuns x then (s.put (CLK_SITE.LOCK x) (b2n !(unlocked.contains x))).coupleAll x else s) s
  let s := { s with clock := { s.clock with nodes := (stackSites.filter s.nodeRuns).map (fun x => (x, { since := s.isobar })) } }
  (stackSites.foldl (fun s x => if s.nodeRuns x ∧ unlocked.contains x then s.raiseClk 0x0910 x 0xFF 0 [] else s) s).unlockedShow

/-- BILLOW_START (R445): the mesh starts at every reset that resets the fabric, with the calibration, and on leaving RETAINED, without. -/
def execBillowStart (unlocked : List Nat) (delays : List LinkDelay) (s : State) : Host.Outcome State Fault Refusal :=
  if ¬ s.hubKeeps ∨ s.flag CLK_STATUS.BILLOW_RUN then .next s
  else
    let cold := s.flag RST_STATUS.COLD
    let s := s.put CLK_STATUS.BILLOW_RUN 1
    let s : State :=
      if cold then
        let s := (stackSites.filter s.nodeRuns).foldl (fun s x => s.linksTrain x) s
        delays.foldl (fun s d => s.calibrate d) s
      else s
    .next ((s.nodesStart unlocked).mccRestart s.isobar).progress

/-- CLOCK_EDGE_LOSS (R447): the comparator of a node on edge d has seen no edge for 64 cycles; answers tells whether the neighbour answers the
hub's procedure of R282. -/
def execClockEdgeLoss (site d : Nat) (answers : Bool) (s : State) : Host.Outcome State Fault Refusal :=
  if ¬ s.nodeRuns site ∨ s.clock.pause ≠ 0 ∨ 4 ≤ d ∨ s.flag ((CLK_SITE.LOST site).sub d 1) then .next s
  else match clockNeighbour site d with
    | none => .next s
    | some n =>
      let s := s.edgeLost site d
      if n = 84 then .next s
      else if 2 ≤ s.reports n ∨ ¬ answers then .next ((s.fence n 0x0911).verifySoon)
      else .next s

/-- FORWARDED_CLOCK_RETURN (R444): the neighbour's clock is present again; the node couples to it unless it is fenced. -/
def execForwardedClockReturn (site d : Nat) (s : State) : Host.Outcome State Fault Refusal :=
  if ¬ s.nodeRuns site ∨ 4 ≤ d ∨ ¬ s.flag ((CLK_SITE.LOST site).sub d 1) then .next s
  else
    let s := s.put ((CLK_SITE.LOST site).sub d 1) 0
    let s := s.put ((CLK_SITE.COUPLED site).sub d 1) (b2n (s.forwards site d))
    .next (s.put (CLK_SITE.HOLD site) (b2n (s.get (CLK_SITE.COUPLED site) == 0)))

/-- One name for both ends of a link between stacks. -/
def seamName (site port : Nat) : Nat :=
  match neighbour site port with
  | some (n, q) => if n < 169 ∧ n ≠ 84 ∧ n < site then n * 8 + q else site * 8 + port
  | none => site * 8 + port

/-- SEAM_SLIP (R448): the link is marked RETRAIN and the pass aborts; the second slip of a link leaves it FAILED. -/
def execSeamSlip (site port : Nat) (s : State) : Host.Outcome State Fault Refusal :=
  if ¬ s.nodeRuns site ∨ s.clock.pause ≠ 0 ∨ 4 ≤ port ∨ (neighbour site port).isNone ∨ s.get (SIT_LINK.STATE site port) = 5 then .next s
  else
    let again := s.clock.slipped.contains (seamName site port)
    let s := { s with clock := { s.clock with slipped := markIn s.clock.slipped (seamName site port) } }
    let s := (s.addSat CLK_STATUS.SLIPS 1).addSat (CLK_SITE.SLIPS site) 1
    let s := (s.raiseClk 0x0912 site port s.abortBit []).abortPass 0x0912 site
    if again then .next (((s.bothEnds site port 5).addSat MSH_STATUS.FAILED_LINKS 1).verifySoon)
    else .next (s.put (SIT_LINK.RETRAIN site port) 1)

/-! ## Beacons (R451) -/

/-- BEACON_SEND (R451): at a multiple of 1,024 ticks, on each hub port, with the hub node's counter and h = 0; beacons pause during an
operating-point change (R453). -/
def execBeaconSend (s : State) : Host.Outcome State Fault Refusal :=
  if ¬ s.flag CLK_STATUS.BILLOW_RUN ∨ s.clock.pause ≠ 0 ∨ s.isobar % 1024 ≠ 0 then .next s
  else
    let s := { s with clock := { s.clock with beacon := s.isobar / 1024 } }
    .next ((below 12).foldl (fun s h => s.send (.unit 0x2000 84 [h, s.hubMcc, 0])) s)

/-- BEACON (R451): a beacon reaches a node by edge d when its own counter reads own. -/
def execBeacon (site d launch hops own : Nat) (crcOk : Bool) (s : State) : Host.Outcome State Fault Refusal :=
  let n := lookD {} s.clock.nodes site
  if ¬ s.nodeRuns site ∨ ¬ crcOk ∨ n.period = some s.clock.beacon then .next s
  else
    let want := (launch + 8 * hops) % 2 ^ 48
    let diff := signed 48 ((own + (2 ^ 48 - want)) % 2 ^ 48)
    let n := { n with mcc := want, since := s.isobar, period := some s.clock.beacon, lostRaised := false }
    let s := { s with clock := { s.clock with nodes := putKey s.clock.nodes site n } }.put (CLK_SITE.BEACON_OK site) 1
    let s := (below 4).foldl (fun s e =>
      if e = d ∨ (clockNeighbour site e).isNone then s else s.send (.unit 0x2000 site [e, launch, hops + 1])) s
    if -1 ≤ diff ∧ diff ≤ 1 then .next s
    else .next (((s.addSat (CLK_SITE.STEPS site) 1).addSat ISB_STATUS.STEPS 1).raiseClk 0x0920 site d 0 [])

/-- BEACON_LOSS (R451): no valid beacon for 4 periods. -/
def execBeaconLoss (site : Nat) (s : State) : Host.Outcome State Fault Refusal :=
  let n := lookD {} s.clock.nodes site
  if ¬ s.nodeRuns site ∨ n.lostRaised then .next s
  else
    let s := { s with clock := { s.clock with nodes := putKey s.clock.nodes site { n with lostRaised := true } } }
    .next (((s.put (CLK_SITE.BEACON_OK site) 0).addSat ISB_STATUS.BEACON_LOSS 1).raiseClk 0x0921 site 0xFF 0 [])

/-! ## Changing the operating point (R452 to R455) -/

/-- The conditions of R452 on a target, but for a pending change. -/
def State.opAllowed (s : State) (target : Nat) : Bool :=
  s.flag (CLK_OPTAB.EN target) && (s.get RST_STATUS.PSTATE == 3 || s.get RST_STATUS.PSTATE == 4) && s.flag CLK_STATUS.REF_OK &&
    !s.flag THM_EMERG.ACTIVE

/-- OP_CHANGE_REQUEST (R452): a write of CLK_OP_REQ. -/
def execOpChangeRequest (who : Requester) (value : Nat) (s : State) : Host.Outcome State Fault Refusal :=
  s.atHub who CLK_OP_REQ.REG <|
  let t := bits value 2 0
  let s := s.put CLK_OP_REQ.TARGET t
  if ¬ bit value 3 ∨ t = s.get CLK_OP.CUR then .next s
  else if s.changePending ∨ ¬ s.opAllowed t then .next ((s.raiseClk 0x0904 0xFF 0xFF 0 []).hubEvent HUB_EVENT.OP)
  else .next ({ s with commit := { s.commit with op := some t } }).armNow

/-- An operating-point change is confirmed: its target. -/
def State.opConfirmed (s : State) : Option Nat := if s.commit.armed = 2 ∧ s.get OVC_ARM.STATE = 2 then s.commit.op else none

/-- OP_SLEW_START (R453 step 2): on an increase every NR, SR and VC domain starts slewing to its new setpoint. -/
def execOpSlewStart (s : State) : Host.Outcome State Fault Refusal :=
  match s.opConfirmed with
  | none => .next s
  | some t => .next (if s.get CLK_OP.CUR < t then { s with clock := { s.clock with setOp := t } } else s)

/-- The first of the domains not settled: by node, then in the order NR, SR, VC. -/
def firstDomain (l : List (Nat × Nat)) : Option (Nat × Nat) :=
  l.foldl (fun m p => match m with | none => some p | some q => if domKey p.1 p.2 < domKey q.1 q.2 then some p else some q) none

/-- OP_SETTLE_CHECK (R454): unsettled lists the domains not within 5 mV, by node and domain. -/
def execOpSettleCheck (unsettled : List (Nat × Nat)) (s : State) : Host.Outcome State Fault Refusal :=
  match s.opConfirmed with
  | none => .next s
  | some t =>
    let l := unsettled.filter (fun p => stackSite p.1 && decide (p.2 ≤ 2) && s.domainOn p.1 p.2)
    match firstDomain l with
    | none => .next s
    | some p => .next (if s.get CLK_OP.CUR < t then (s.raiseClk 0x0905 0xFF 0xFF 0 [p.1, p.2]).commitAbort 0 0xFF else s)

/-- OP_LINK_PAUSE (R453 step 4). -/
def execOpLinkPause (s : State) : Host.Outcome State Fault Refusal :=
  .next (if s.opConfirmed.isSome then { s with clock := { s.clock with pause := 1 } } else s)

/-- OP_RELOCK (R453 step 7): paddings apply and idle flits resume; a node not locked is a lost clock under R447. -/
def execOpRelock (unlocked : List Nat) (s : State) : Host.Outcome State Fault Refusal :=
  if s.clock.pause ≠ 1 ∨ s.commit.armed = 2 then .next s
  else
    let s := { s with clock := { s.clock with pause := 2 } }.padsApply
    let bad := unlocked.filter s.nodeRuns
    let s := bad.foldl (fun s n => s.put (CLK_SITE.LOCK n) 0) s
    let s := bad.foldl (fun s n =>
      let s := (below 4).foldl (fun s d => match clockNeighbour n d with
        | some m => if s.nodeRuns m then s.edgeLost m ((d + 2) % 4) else s
        | none => s) s
      (s.fence n 0x0911).verifySoon) s
    .next s.unlockedShow

/-- OP_DETECT_RESUME (R453 step 8). -/
def execOpDetectResume (s : State) : Host.Outcome State Fault Refusal :=
  .next (if s.clock.pause = 2 then { s with clock := { s.clock with pause := 0 } } else s)

/-! ## PTP (R458 to R460) -/

def State.setPtp (s : State) (p : PtpState) : State := { s with clock := { s.clock with ptp := p } }

/-- PTP runs: enabled, above STANDBY, and with a reference to steer. -/
def State.ptpRuns (s : State) : Bool := s.flag ISB_PTP_CFG.EN && s.hubKeeps && s.clock.refOk

/-- The message is of the configured domain and transport. -/
def State.ptpTakes (s : State) (m : PtpMsg) : Bool :=
  s.ptpRuns && m.domain == s.get ISB_PTP_CFG.DOMAIN && m.ipv6 == s.flag ISB_PTP_CFG.IPV6

/-- The message comes from the selected master. -/
def State.ptpFrom (s : State) (port : Nat) (m : PtpMsg) : Bool := s.ptpTakes m && s.clock.ptp.selected == some (port, m.source)

/-- OFFSET: signed 32 bits, saturating. -/
def offsetBits (o : Int) : Nat := unsigned 32 (max (-0x80000000) (min 0x7FFFFFFF o))

/-- ISB_EPOCH takes a value. -/
def State.setEpoch (s : State) (e : Int) : State := s.put ISB_EPOCH.EPOCH (unsigned 64 e)

/-- The servo takes the offset of a Sync (R459): t1 of the master and rx of the local clock, without the epoch. -/
def State.ptpMeasure (s : State) (t1 rx : Int) : State :=
  let p := s.clock.ptp
  let s := if p.first then s.setEpoch (t1 + p.delay - rx) else s
  let off : Int := if p.first then 0 else (s.get ISB_EPOCH.EPOCH : Int) + rx - t1 - p.delay
  let s := (s.put ISB_PTP_STAT.OFFSET (offsetBits off)).put ISB_PTP_STAT.STEERING 1
  let near := decide (-1000 < off) && decide (off < 1000)
  let isFar := decide (off < -1000000) || decide (1000000 < off)
  let good := if near then p.good + 1 else 0
  let locked := s.flag ISB_PTP_STAT.LOCKED
  let since : Option Int := if locked && isFar then some (p.farSince.getD rx) else none
  let s := s.setPtp { p with first := false, sync := some (t1, rx), waiting := none, good := good, farSince := since }
  let s := if !locked && decide (16 ≤ good) then ((s.put ISB_PTP_STAT.LOCKED 1).put ISB_STATUS.PTP_LOCKED 1).raiseClk 0x0930 0xFF 0xFF 0 [] else s
  match since with
  | none => s
  | some t =>
    if t + 10000000000 ≤ rx then
      let s := s.setPtp { s.clock.ptp with farSince := none }
      (s.setEpoch ((s.get ISB_EPOCH.EPOCH : Int) - off)).raiseClk 0x0932 0xFF 0xFF 0 []
    else s

/-- PTP_SYNC (R458, R459). -/
def execPtpSync (port : Nat) (m : PtpMsg) (s : State) : Host.Outcome State Fault Refusal :=
  if ¬ s.ptpFrom port m then .next s
  else if m.twoStep then
    .next (s.setPtp { s.clock.ptp with waiting := some (m.seq, m.rx - m.corr) })
  else .next (s.ptpMeasure (m.ts + m.corr) m.rx)

/-- PTP_FOLLOW_UP (R458): the timestamp of a two-step Sync. -/
def execPtpFollowUp (port : Nat) (m : PtpMsg) (s : State) : Host.Outcome State Fault Refusal :=
  match s.clock.ptp.waiting with
  | none => .next s
  | some (seq, rx) => .next (if s.ptpFrom port m ∧ m.seq = seq then s.ptpMeasure (m.ts + m.corr) rx else s)

/-- The order of datasets of the best master clock algorithm: the first field that differs decides, and with equal datasets the port. -/
def betterDataset : List Nat → List Nat → Option Bool
  | a :: as, b :: bs => if a < b then some true else if b < a then some false else betterDataset as bs
  | _, _ => none

def PtpMaster.better (a b : PtpMaster) : Bool := (betterDataset a.dataset b.dataset).getD (decide (a.port ≤ b.port))

/-- PTP_ANNOUNCE (R458, R460): the masters seen on both ports, the best of them, and the UTC offset. -/
def execPtpAnnounce (port : Nat) (m : PtpMsg) (dataset : List Nat) (utc : Int) (s : State) : Host.Outcome State Fault Refusal :=
  if ¬ s.ptpTakes m then .next s
  else
    let p := s.clock.ptp
    let x : PtpMaster := { port := port, source := m.source, dataset := dataset, utc := utc }
    let masters := x :: p.masters.filter (fun y => y.port != port || y.source != m.source)
    let best := masters.foldl (fun b y => if y.better b then y else b) x
    let same := p.selected == some (best.port, best.source)
    let p := { p with masters := masters, selected := some (best.port, best.source) }
    let s := s.setPtp (if same then p else { p with waiting := none, sync := none, req := none })
    .next ((s.put ISB_PTP_STAT.UTC_OFFSET (unsigned 16 best.utc)).put ISB_PTP_STAT.PORT best.port)

/-- PTP_DELAY_REQ_TIMER (R458): a Delay_Req on the port of the selected master, with its sequence number. -/
def execPtpDelayReqTimer (s : State) : Host.Outcome State Fault Refusal :=
  let p := s.clock.ptp
  match p.selected with
  | none => .next s
  | some (port, _) =>
    if ¬ s.ptpRuns then .next s
    else
      let s := s.setPtp { p with req := some (p.nextSeq, 10 * (s.isobar : Int)), nextSeq := (p.nextSeq + 1) % 65536 }
      .next (s.send (.mgmt port 3 [1, s.get ISB_PTP_CFG.DOMAIN, p.nextSeq]))

/-- PTP_DELAY_RESP (R458): the path delay is half of (t2 − t1) + (t4 − t3). -/
def execPtpDelayResp (port : Nat) (m : PtpMsg) (s : State) : Host.Outcome State Fault Refusal :=
  let p := s.clock.ptp
  match p.req, p.sync with
  | some (seq, t3), some (t1, t2) =>
    .next (if s.ptpFrom port m ∧ m.seq = seq then
      s.setPtp { p with req := none, delay := ((t2 - t1) + (m.ts - m.corr - t3)) / 2 } else s)
  | _, _ => .next s

/-- PTP_LOSS (R459): no valid Sync on either port for 10 s. -/
def execPtpLoss (s : State) : Host.Outcome State Fault Refusal :=
  if ¬ s.flag ISB_PTP_CFG.EN ∨ ¬ s.hubKeeps then .next s
  else
    let s := s.ptpUnlock
    .next ((s.setPtp { s.clock.ptp with masters := [], selected := none, sync := none, req := none }).put ISB_PTP_STAT.PORT 0xF)

/-- PTP_ENABLE (R459): a write of ISB_PTP_CFG; EN starts or stops steering. -/
def execPtpEnable (_who : Requester) (value : Nat) (s : State) : Host.Outcome State Fault Refusal :=
  s.atDawn <|
  let was := s.flag ISB_PTP_CFG.EN
  let moved := s.get ISB_PTP_CFG.DOMAIN ≠ bits value 63 56 ∨ s.get ISB_PTP_CFG.IPV6 ≠ bits value 1 1
  let s := ((s.put ISB_PTP_CFG.DOMAIN (bits value 63 56)).put ISB_PTP_CFG.IPV6 (bits value 1 1)).put ISB_PTP_CFG.EN (bits value 0 0)
  if bit value 0 ∧ was ∧ ¬ moved then .next s
  else
    let s := s.setPtp { nextSeq := s.clock.ptp.nextSeq }
    let s := (s.put ISB_PTP_STAT.PORT 0xF).put ISB_PTP_STAT.STEERING 0
    .next ((s.put ISB_PTP_STAT.LOCKED 0).put ISB_STATUS.PTP_LOCKED 0)

/-! ## The Dawn clock and reads (R440, R461, R464) -/

/-- DAWN_CRYSTAL_LOSS (R461, R500): the backup oscillator takes over. -/
def execDawnCrystalLoss (s : State) : Host.Outcome State Fault Refusal :=
  if s.get RST_STATUS.PSTATE = 0 ∨ s.clock.backup then .next s
  else
    let s := { s with clock := { s.clock with backup := true } }.put CLK_STATUS.DAWN_BACKUP 1
    let s := ((s.put DWN_CAUSE0.CODE 0x0940).put DWN_CAUSE0.RESET 0).put DWN_CAUSE0.PSTATE (s.get RST_STATUS.PSTATE)
    .next ((s.put DWN_CAUSE1.TIME s.isobar).raiseClk 0x0940 0xFF 0xFF 0 [])

/-- ISB_COUNT_READ (R440). -/
def execIsbCountRead (who : Requester) (bytes half : Nat) (s : State) : Host.Outcome State Fault Refusal :=
  s.atDawn <|
  let n := s.isobar % 2 ^ 64
  let hi := n / 2 ^ 32
  let latch := if bytes ≠ 8 ∧ half = 0 then some hi else none
  let v := if bytes = 8 then n else if half = 0 then n % 2 ^ 32 else s.clock.latch.getD hi
  let s := { s with clock := { s.clock with latch := latch } }
  .next (s.send (.readData who (ISB_COUNT.REG + 4 * half) bytes v false))

/-- CLK_EVENT_READ (R464, R51). -/
def execClkEventRead (who : Requester) (bytes half : Nat) (s : State) : Host.Outcome State Fault Refusal :=
  s.readAtHub who (CLK_EVENT.REG + 4 * half) bytes <|
  let r := s.readLog CLK_EVENT.REG bytes half
  .next (r.2.send (.readData who (CLK_EVENT.REG + 4 * half) bytes r.1.toNat false))

end Sys2Proof.Machine
end

