-- ==== Sys2Proof/Machine/Overcast.lean ====
section
/-! DEFINITION. The commands of 13_overcast.md: loading an image (R477 to R481), arm and commit (R483 to R487), and putting an image in force
(R482). -/

namespace Sys2Proof.Machine

open Sys2Proof

/-! ## Loading (R477 to R480) -/

/-- Places of an area that the hub's reading finds uncorrectable (R232). -/
def State.stageErrors (s : State) (a : Option (Nat × Nat)) (ues : List Nat) : State :=
  ues.foldl (fun (s : State) k => if ppaSpace k = 1 ∧ meetsArea a k 1 ∧ s.keyUp k then s.hbmUncorrectable k else s) s

/-- LOAD (R477): accepted, or refused with 0x0130. -/
def State.imageLoad (s : State) : State :=
  let p := s.get RST_STATUS.PSTATE
  let st := s.get OVC_STATUS.STATE
  let a := (s.get OVC_SRC.PPA, s.get OVC_LEN.LEN)
  if (p = 3 ∨ p = 4) ∧ (st = 0 ∨ st = 5 ∨ st = 6) ∧ s.stagingOk a.1 a.2 ∧ ¬ areasMeet (some a) s.image.area then
    { s with image := { s.image with staging := some a, stagingLost := false } }.ovcState 1
  else s.record { code := 0x0130, unit := 0xFF }

/-- IMAGE_LOAD (R477): a write of OVC_CTRL with LOAD. -/
def execImageLoad (who : Requester) (s : State) : Host.Outcome State Fault Refusal :=
  s.atHub who OVC_CTRL.REG <| .next s.imageLoad

/-- IMAGE_READ_DONE (R480): READ ends, in CHECK or in FAILED. -/
def execImageReadDone (ues : List Nat) (s : State) : Host.Outcome State Fault Refusal :=
  match s.image.staging with
  | none => .next s
  | some (base, len) =>
    if s.get OVC_STATUS.STATE ≠ 1 then .next s
    else
      let s := s.stageErrors s.image.staging ues
      match s.imageRead base len with
      | some f => .next (s.loadFail f.code f.sec f.site)
      | none => .next ((s.put OVC_STAGED.ID (s.imageNum base 16 8)).ovcState 2)

/-- IMAGE_CHECK_DONE (R480, R481): CHECK ends, in ARMED with the commit requested, or in FAILED. ues are places of the staging area or of golden
slices that the reading finds uncorrectable. -/
def execImageCheckDone (ues : List Nat) (s : State) : Host.Outcome State Fault Refusal :=
  match s.image.staging with
  | none => .next s
  | some (base, _) =>
    if s.get OVC_STATUS.STATE ≠ 2 then .next s
    else
      let golden := fun k => (manifests (s.secBytes base 9)).any (fun m =>
        ppaSite k == m.stack && decide (m.offset ≤ ppaOffset k) && decide (ppaOffset k < m.offset + m.length))
      let s := s.stageErrors s.image.staging ues
      let s := ues.foldl (fun (s : State) k => if ppaSpace k = 1 ∧ golden k ∧ s.keyUp k then s.hbmUncorrectable k else s) s
      match s.imageCheck base with
      | some f =>
        let s := if f.code = 0x0110 then s.darkServing (s.secBytes base 1) else s
        .next (s.loadFail f.code f.sec f.site)
      | none =>
        let s := s.ovcState 3
        .next ({ s with commit := { s.commit with image := true } }).armNow

/-- ABANDON (R480): before the confirmation it ends the load in FAILED with no code. -/
def State.imageAbandon (s : State) : State :=
  let st := s.get OVC_STATUS.STATE
  if st = 1 ∨ st = 2 then s.loadFail 0 0xFF 0xFF
  else if st = 3 then
    if s.commit.armed = 1 then (if s.get OVC_ARM.STATE = 1 then s.commitAbort 0 0xFF else s)
    else ({ s with commit := { s.commit with image := false } }.loadEnd 0 0xFF 0xFF).endHold
  else s

/-- IMAGE_ABANDON (R480): a write of OVC_CTRL with ABANDON. -/
def execImageAbandon (who : Requester) (s : State) : Host.Outcome State Fault Refusal :=
  s.atHub who OVC_CTRL.REG <| .next s.imageAbandon

/-! ## Arming (R483 to R485) -/

/-- A unit takes part in the change that is armed. -/
def State.armedUnit (s : State) (node : Nat) : Bool := s.commit.armed != 0 && s.commit.units.contains node

/-- ARM (R483 step 2): a unit checks and prepares the change. Its answer is an ACK (code 0) or a NAK with a code. -/
def execArm (node nak : Nat) (s : State) : Host.Outcome State Fault Refusal :=
  if !s.armedUnit node || s.get OVC_ARM.STATE != 1 then .next s
  else if nak ≠ 0 then .next (s.send (.unit 0x85 84 [node, s.get OVC_ARM.ID, nak]))
  else .next ({ s with commit := { s.commit with prepared := markIn s.commit.prepared node } }.send (.unit 0x84 84 [node, s.get OVC_ARM.ID]))

/-- ARM_ACK (R483): the hub counts an ACK. -/
def execArmAck (node : Nat) (s : State) : Host.Outcome State Fault Refusal :=
  if !s.armedUnit node || s.get OVC_ARM.STATE != 1 || s.commit.acks.contains node then .next s
  else .next (({ s with commit := { s.commit with acks := markIn s.commit.acks node } }).addSat OVC_ARM.ACKS 1)

/-- NAK (R485): a unit refuses, and the change is aborted. -/
def execNak (node code : Nat) (s : State) : Host.Outcome State Fault Refusal :=
  if !s.armedUnit node || s.get OVC_ARM.STATE != 1 then .next s
  else .next ((s.raiseUnit 0x0121 node 0 [code]).commitAbort 0x0121 node)

/-- The check of R484 for an image: the code, or none. -/
def State.imageRecheck (s : State) : Option Finding :=
  match s.image.staging with
  | none => some { code := 0x0110, sec := 1 }
  | some (base, _) =>
    need (s.shapeFits (s.secBytes base 1)) { code := 0x0110, sec := 1 } <|> need (s.routesFit (s.secBytes base 2)) { code := 0x0109, sec := 2 }

/-- CONFIRM to every unit; the hub holds its own at once. -/
def State.confirmAll (s : State) : State :=
  let s := s.put OVC_ARM.STATE 2
  let s := { s with commit := { s.commit with confirmed := [84] } }
  s.commit.units.foldl (fun s n => s.unitMessage 0x21 n [s.get OVC_ARM.ID]) s

/-- ARM_DECIDE (R484, R485): at T − 100,000 the hub confirms the change or aborts it. -/
def execArmDecide (s : State) : Host.Outcome State Fault Refusal :=
  if s.commit.armed = 0 ∨ s.get OVC_ARM.STATE ≠ 1 then .next s
  else
    match s.commit.units.filter (fun n => !s.commit.acks.contains n) with
    | n :: l =>
      let s := (n :: l).foldl (fun s x => s.raiseUnit 0x0120 x 0 []) s
      .next (s.commitAbort 0x0120 n)
    | [] =>
      if !s.flag CLK_STATUS.REF_OK || s.flag THM_EMERG.ACTIVE then .next (s.commitAbort 0 0xFF)
      else if s.commit.armed = 2 then
        if s.opAllowed (s.commit.op.getD 0) then .next s.confirmAll
        else .next ((s.raiseClk 0x0904 0xFF 0xFF 0 []).commitAbort 0 0xFF)
      else
        match s.imageRecheck with
        | none => .next s.confirmAll
        | some f =>
          let s := match s.image.staging with
            | some (base, _) => if f.code = 0x0110 then s.darkServing (s.secBytes base 1) else s
            | none => s
          .next (((s.record { code := f.code, unit := f.sec }).commitAbort f.code 0xFF).put OVC_STATUS.SECTION f.sec)

/-- CONFIRM (R483 step 4): a unit that has prepared the change receives CONFIRM. -/
def execConfirm (node : Nat) (s : State) : Host.Outcome State Fault Refusal :=
  .next (if s.commit.prepared.contains node then { s with commit := { s.commit with confirmed := markIn s.commit.confirmed node } } else s)

/-- ABORT (R485): a unit receives ABORT and discards what it prepared. -/
def execAbort (node : Nat) (s : State) : Host.Outcome State Fault Refusal :=
  .next { s with commit := { s.commit with prepared := markOut s.commit.prepared node, confirmed := markOut s.commit.confirmed node } }

/-! ## An image in force (R482) -/

/-- A site's row spares of the image go into MXA_ROWMAP (R88, R541); a refusal follows R90. -/
def State.rowSpares (s : State) (w site : Nat) : State :=
  let m := (s.reg (MXA_ROWMAP.REG site)).toNat
  let v := withField (word m) 3 0 (if bits w 7 4 = 0xF then bits m 3 0 else bits w 7 4)
  let v := withField v 19 16 (if bits w 3 0 = 0xF then bits m 19 16 else bits w 3 0)
  if v.toNat = m then s else s.writeRowMap site v.toNat

/-- A spare replaces the SERVING site of its sector that is out of service (R469, R542). -/
def State.substitute (s : State) (g : Nat) : State :=
  let out := s.image.serving.filter (fun x => sectorOf x == g && !s.stackIn (s.standIn x))
  match out, s.sectorSpare g with
  | x :: _, some p => ((s.put (HUB_SUBST.VALID g) 1).put (HUB_SUBST.FROM g) x).put (HUB_SUBST.TO g) p
  | _, _ => s

/-- Step 1: the site roles, the vector mode, the row spares, and deferred retirements of stacks whose sites no longer serve (R532). -/
def State.rolesApply (s : State) (map : List Nat) : State :=
  let serving := mapServing map
  let stood := s.spares.deferred.filter (fun r => match s.roleOf r.site with | some x => !serving.contains x | none => true)
  let s := { s with image := { s.image with serving := serving, spares := mapSpares map, paired := bit (wordAt map 0) 0 } }
  let s := stood.foldl (fun (s : State) r => s.retireStack r none) s
  let s := (below 16).foldl (fun s g => s.substitute g) s
  let s := (stackSites.filter s.powered).foldl (fun s x => s.put (VCO_MODE.PAIRED x) (b2n s.image.paired)) s
  (stackSites.filter (fun x => s.powered x && s.stackIn x)).foldl (fun s x => s.rowSpares (wordAt map (17 + x)) x) s

/-- The Gelat of a stack that the image brings into service comes up empty (R34, R467). -/
def State.bringGelat (s : State) (x : Nat) : State :=
  let s := [5, 4].foldl (fun (s : State) d => if s.dom x d = 3 ∨ s.refusedUp x d then s else s.domainUp x d) s
  if s.gelatUp x ∧ ¬ s.flag (GLT_STATUS.EXIT_DONE x) then ((s.clearGelat x).put (GLT_STATUS.EXIT_SCRUB x) 0).put (GLT_STATUS.EXIT_DONE x) 1 else s

/-- Domains follow the roles: serving stacks have their stores (and in SERVING their arrays and vector cores), all others keep TR alone. -/
def State.roleDomains (s : State) : State :=
  let idle := s.idleSites
  let s := s.servingStacks.foldl (fun s x => s.bringGelat x) s
  let s := idle.foldl (fun s x => s.powerDownAll x [1, 0, 2]) s
  if s.get RST_STATUS.PSTATE = 4 then s.servingStacks.foldl (fun s x => s.requestAll x [2, 0, 1]) s else s

/-- The tree words and the drain word that a stack has under TREES: those of the site it serves. -/
def State.treesApply (s : State) (b : List Nat) : State :=
  stackSites.foldl (fun s x =>
    let from_ := (s.servesSite x).getD x
    let s := (below 64).foldl (fun s t => s.setReg (SIT_TREE_W0.REG x t) (word (treeWord b from_ t))) s
    (s.setReg (SIT_RED_DRAIN.REG x) (word (drainWord b from_))).treeBad x) s

/-- Steps 2 and 3: routes, multicast entries, trees, operating points and budgets. -/
def State.tablesApply (s : State) (base : Nat) : State :=
  let s := ((s.routesWrite (s.secBytes base 2)).treesApply (s.secBytes base 3)).put MSH_STATUS.IMAGE_ROUTES 1
  let s := { s with spares := { s.spares with mcastBroken := false } }
  let ops := s.secBytes base 4
  let s := (below 8).foldl (fun s k => s.setReg (CLK_OPTAB.REG k) (word (wordAt ops k))) s
  let s := s.put CLK_OP.MAX (maxNat ((below 8).filter (fun k => bit (wordAt ops k) 63)))
  let map := s.secBytes base 5
  (below 21).foldl (fun s g => s.put (PWR_SEG_BUDGET.BUDGET g) (Nat.min (wordAt map g) (s.get (PWR_SEG_BUDGET.RATED g)))) s

/-- Every block of a broadcast reaches a unit's loader; an idle spare's stores go off again after START, so only its TCMs keep anything. -/
def State.fwDeliver (s : State) (fw digest : List Nat) (x : Nat) : State :=
  if s.gelatUp x then
    (below (fwCount fw.length)).foldl (fun s n => s.loaderBlock x (fwHeader s.fw.id fw.length n digest (fwBlock fw n)) (fwBlock fw n)) s
  else s.loadTcm x fw

/-- Step 4 (R525): the firmware is broadcast and every core restarts; units that blocks did not reach are fenced and retired. -/
def State.firmwareApply (s : State) (base len id : Nat) (lost : List Nat) : State :=
  let e := s.sec base 6
  if e.digest = s.image.firmware then s
  else
    let fw := s.secBytes base 6
    let layout := fwLayoutOk fw
    let s := if layout then s.fwTake base len false else s.raiseReset 0x0A31 0xFF []
    let out := s.fwUnits.filter (fun x => !layout || lost.contains x)
    let good := s.fwUnits.filter (fun x => !out.contains x)
    let s := good.foldl (fun s x => s.fwDeliver fw e.digest x) s
    let s := out.foldl (fun s x => (s.raiseReset 0x0A33 x []).fence x 0x0A33) s
    let s := (s.startUnits good id).fwTreeRestore (some (s.secBytes base 2))
    ({ s with image := { s.image with firmware := e.digest } }).fwShow.hubEvent HUB_EVENT.FW

/-- A slice is copied from its golden copy into the weight store of the stack that serves its site (R482 step 5); rows that read poisoned are stored
poisoned and held (R228). -/
def State.sliceApply (s : State) (m : Manifest) : State :=
  let x := s.standIn m.site
  if !s.stackIn x || !s.gelatUp x then s
  else
    let lo := mkPpa 0 x 0
    let s := (s.put (GLT_CTRL.WLOCK x) 0).copyBytes (mkPpa 1 m.stack m.offset) lo m.length
    let bad := (s.poison.filter (fun k => decide (lo ≤ k) && decide (k < lo + m.length))).map (fun k => (k - lo) / 64)
    let g := s.gelat x
    let s := s.setGelat x { g with held := bad.foldl (fun l r => markIn l r) (g.held.filter (fun r => decide (m.length ≤ 64 * r))) }
    let s := s.put (GLT_STATUS.POISON_W x) (b2n (!(s.gelat x).held.isEmpty))
    let s := if bad.isEmpty then s else s.raiseGelat 0x0307 x 0 false [bad.length]
    s.put (GLT_CTRL.WLOCK x) 1

/-- Step 5: the slices whose manifest entries differ from the loaded image's. -/
def State.weightsApply (s : State) (base : Nat) (ues : List Nat) : State :=
  let ms := manifests (s.secBytes base 9)
  let old := s.image.manifest
  let new := ms.filter (fun m => !old.contains m)
  let golden := fun k => new.any (fun m => ppaSite k == m.stack && decide (m.offset ≤ ppaOffset k) && decide (ppaOffset k < m.offset + m.length))
  let s := ues.foldl (fun (s : State) k => if ppaSpace k = 1 ∧ golden k ∧ s.keyUp k then s.hbmUncorrectable k else s) s
  let s := new.foldl (fun s m => s.sliceApply m) s
  { s with image := { s.image with manifest := ms } }

/-- Step 6: routes are verified, and the image is in force. A part of its area that was lost while it was armed is raised now (R478). -/
def State.imageLoaded (s : State) (base len id : Nat) : State :=
  let lost := s.image.stagingLost
  let s := s.verifyRoutes
  let s := { s with image := { s.image with area := some (base, len), areaLost := lost, staging := none, stagingLost := false } }
  let s := if lost then s.record { code := 0x0132 } else s
  let s := ((s.put OVC_STATUS.LAST_CODE 0).put OVC_STATUS.SECTION 0xFF).put OVC_STATUS.SITE 0xFF
  (((s.put OVC_IMAGE.ID id).put OVC_STAGED.ID 0).ovcState 5).sparesShow

/-- APPLY (R482): the steps in their order. lost are the units that the broadcast does not reach, ues the golden codewords that read
uncorrectable. -/
def State.imageApply (s : State) (lost ues : List Nat) : State :=
  match s.image.staging with
  | none => s
  | some (base, len) =>
    let id := s.imageNum base 16 8
    let first := s.image.area.isNone
    let s := s.ovcState 4
    let s := if first then { s with image := { s.image with manifest := [], firmware := [] } } else s
    let s := (s.rolesApply (s.secBytes base 1)).roleDomains
    let s := s.tablesApply base
    let s := ({ s with image := { s.image with area := some (base, len) } }).firmwareApply base len id lost
    let s := s.idleSites.foldl (fun s x => s.powerDownAll x [4, 5]) s
    (s.weightsApply base ues).imageLoaded base len id

/-! ## The commit and its reports (R483, R486) -/

/-- COMMIT (R483 step 5): at T the change that is confirmed is applied; every unit that holds CONFIRM and no ABORT applies it. lost and ues are
as APPLY has them. -/
def execCommit (lost ues : List Nat) (s : State) : Host.Outcome State Fault Refusal :=
  let c := s.commit
  if c.armed = 0 ∨ s.get OVC_ARM.STATE ≠ 2 then
    -- after an abort, units that ABORT has not reached apply the change all the same
    .next { s with commit := { c with applied := c.confirmed.filter (· != 84), prepared := [], confirmed := [] } }
  else
    let t := s.get OVC_ARM_T.T
    let due := c.units.filter (fun n => n != 84 && !s.fenced n)
    let s := s.put OVC_ARM.STATE 4
    let c := { c with armed := 0, units := [], acks := [], prepared := [], confirmed := [], applied := c.confirmed, due := due }
    let s : State :=
      if s.commit.armed = 2 then { s with commit := { c with op := none } }.opSwitch (s.commit.op.getD 0) t
      else { s with commit := { c with image := false } }.imageApply lost ues
    .next (s.armNow.endHold).readyRefresh

/-- A unit contradicts the outcome of a commit (R486): it is fenced with 0x0122. -/
def State.commitMissed (s : State) (node : Nat) : State :=
  if s.fenced node then s
  else ((s.raiseUnit 0x0122 node (s.abortBit + 8 + (if node < 169 then 4 else 0)) []).fence node 0x0122).verifySoon

/-- REPORT (R486): a unit says whether it applied the change. -/
def execReport (node : Nat) (applied : Bool) (s : State) : Host.Outcome State Fault Refusal :=
  let committed := s.get OVC_ARM.STATE == 4
  if s.commit.due.contains node then
    let s := { s with commit := { s.commit with due := markOut s.commit.due node } }
    .next (if applied then s else s.commitMissed node)
  else if applied ∧ ¬ committed ∧ s.commit.applied.contains node then
    .next ({ s with commit := { s.commit with applied := markOut s.commit.applied node } }.commitMissed node)
  else .next s

/-- REPORT_DEADLINE (R486): at T + 100,000 the units that have not reported are fenced. -/
def execReportDeadline (s : State) : Host.Outcome State Fault Refusal :=
  let due := s.commit.due
  .next (due.foldl (fun (s : State) n => s.commitMissed n) { s with commit := { s.commit with due := [], applied := [] } })

end Sys2Proof.Machine
end

