-- ==== Sys2Proof/Machine/Panel.lean ====
section
/-! DEFINITION. The commands of 01_panel.md: discovery and link-up (R43 to R53). -/

namespace Sys2Proof.Machine

open Sys2Proof

/-- DISCOVERY (R43 step 1): a probe leaves on each hub port. It starts where seam calibration has finished and discovery is due. -/
def execDiscovery (s : State) : Host.Outcome State Fault Refusal :=
  if !s.hubRuns || !s.flag CLK_STATUS.BILLOW_RUN || s.flag HUB_DISC_STATUS.RUNNING || s.flag HUB_DISC_STATUS.DONE then .next s
  else
    let s := (s.setReg HUB_DISC_STATUS.REG 0).put HUB_DISC_STATUS.RUNNING 1
    let s := { s with disc := { since := s.isobar }, logs := delKey s.logs HUB_DISC_LOG.REG }
    -- kind 0x100: a probe to a stack
    .next ((below 12).foldl (fun s h => s.send (.unit 0x100 (hubPortSite h) [h])) s)

/-- A stack receives its first probe (R43 steps 3 and 4): it answers, and unless its straps are invalid it forwards copies and probes its ring slots. -/
def State.probed (s : State) (site : Nat) (p : Probe) (place : Nat × Nat) : State :=
  let s := { s with disc := { s.disc with reached := putKey s.disc.reached site place } }
  -- kind 0x101: the answer to the hub
  let s := s.send (.unit 0x101 84 [site, (s.reg (SIT_IDENT.REG site)).toNat, b2n (s.strapsOk site)])
  if !s.strapsOk site then s
  else
    let ori := s.get (SIT_IDENT.ORI site)
    let entry := (p.entry + ori) % 4
    let s := (below 4).foldl (fun s d =>
      match neighbour site d with
      | some (n, _) => if n < 169 ∧ n ≠ 84 ∧ d ≠ entry then s.send (.unit 0x100 n [p.hport, p.entry, (d + 4 - ori) % 4]) else s
      | none => s) s
    p.ring.foldl (fun s a =>
      match (sidesOf site).find? (fun x => x.1 == a.side) with
      | some (side, j) => s.ringAnswer (169 + 11 * side + ringPos (2 * j + a.slot % 2)) a.kind a.step
      | none => s) s

/-- DISCOVERY_PROBE (R43 steps 3 and 4): the first probe of a stack whose node is locked; later ones are discarded. -/
def execDiscoveryProbe (site : Nat) (p : Probe) (s : State) : Host.Outcome State Fault Refusal :=
  match probePlace p with
  | none => .next s
  | some place =>
    if !s.flag HUB_DISC_STATUS.RUNNING || !stackSite site || !s.domainOn site 3 || !s.flag (CLK_SITE.LOCK site) ||
        (look s.disc.reached site).isSome then .next s
    else .next (s.probed site p place)

/-- Steps 5 and 6 of Table 1.6: what has not answered, then the checks of the answers. -/
def State.discChecks (s : State) : State :=
  let silent := stackSites.filter (fun x => (look s.disc.reached x).isNone)
  let s1 := silent.foldl (fun s x => (s.raiseDisc 0x0A12 x).discFail x) s
  let rings := (below 44).map (· + 169)
  let quiet := rings.filter (fun n => (look s.disc.rings n).isNone)
  let s2 := quiet.foldl (fun s n => if s.ringCode n = 0 then s else s.ringFail n (s.ringCode n)) s1
  let s3 := s.disc.reached.foldl (fun s r =>
    let c := s.answerCode r.1 r.2
    if c = 0 then s.put (siteOkBit r.1) 1 else (s.raiseDisc c r.1).discFail r.1) s2
  (rings.filter (fun n => (look s.disc.rings n).isSome)).foldl (fun s n =>
    let c := s.ringCode n
    if c ≠ 0 then s.ringFail n c else if ringKind ((n - 169) % 11) = 5 then s else s.put (ringOkBit (n - 169)) 1) s3

/-- DISCOVERY_COLLECT_CLOSE (R43 steps 5 to 8): endTick is the tick, counted from step 1, at which step 8 has finished. -/
def execDiscoveryCollectClose (endTick : Nat) (s : State) : Host.Outcome State Fault Refusal :=
  if !s.flag HUB_DISC_STATUS.RUNNING then .next s
  else
    let s := s.discChecks.hportShow
    let s := (s.putSat HUB_DISC_STATUS.DURATION (endTick / 100)).put HUB_DISC_STATUS.RUNNING 0
    .next ((s.put HUB_DISC_STATUS.DONE 1).hubEvent HUB_EVENT.DISC)

/-- KIND of a node (R52). -/
def nodeKind (n : Nat) : Nat := if n = 84 then 2 else if n < 169 then 1 else ringKind ((n - 169) % 11)

/-- The panel direction of a port code of a router. -/
def portDirection (site port : Nat) : Nat := if port < 4 then port else (((sidesOf site)[(port - 4) / 2]?).map (·.1)).getD 0

/-- What a stack router's SIT_PORTMAP shows of a port at link-up (R52). -/
def State.portShow (s : State) (x : PortRef) (partner : Nat) (v3 : Bool) : State :=
  if x.node = 84 ∨ x.node ≥ 169 then s
  else
    let edge := (portDirection x.node x.port + 4 - s.get (SIT_IDENT.ORI x.node)) % 4
    s.put (portMapField x.node x.port) (nodeKind partner * 16 + b2n v3 * 8 + b2n (s.portUp x.node x.port) * 4 + edge)

/-- The two ends of a link, a stack router's first. -/
def linkEnds (a b : PortRef) : Bool := decide (a.node < 169) && a.node != 84 && neighbour a.node a.port == some (b.node, b.port)

/-- MESH_LINK_UP (R53): the ends exchange versions; the link runs the lower one, or fails on an unknown one. -/
def execMeshLinkUp (a b : PortRef) (verA verB : Nat) (s : State) : Host.Outcome State Fault Refusal :=
  let known := fun v => v == 2 || v == 3
  if !linkEnds a b && !linkEnds b a then .next s
  else
    let r := if linkEnds a b then a else b
    if !s.portUp r.node r.port then .next s
    else if known verA && known verB then
      let v3 := verA == 3 && verB == 3
      .next ((s.portShow a b.node v3).portShow b a.node v3)
    else
      -- the end that hears the unknown version, where that is a stack router's
      let hears := if known verA then a else b
      let e := if hears.node < 169 ∧ hears.node ≠ 84 then hears else r
      .next ((s.linkFail e.node e.port 0x0511).verifySoon)

/-- DISC_LOG_READ (R51). -/
def execDiscLogRead (who : Requester) (bytes half : Nat) (s : State) : Host.Outcome State Fault Refusal :=
  s.readAtHub who (HUB_DISC_LOG.REG + 4 * half) bytes <|
  let r := s.readLog HUB_DISC_LOG.REG bytes half
  .next (r.2.send (.readData who (HUB_DISC_LOG.REG + 4 * half) bytes r.1.toNat false))

end Sys2Proof.Machine
end

