-- ==== Sys2Proof/Machine/Power.lean ====
section
/-! DEFINITION. The commands of power delivery (10_power.md): the input, the Downdraft segments, the last-stage regulators, the domain
power-ups and the meters. -/

namespace Sys2Proof.Machine

open Sys2Proof

/-! ## Input (R362 to R368) -/

/-- INPUT_TURN_ON (R362): OFF to STANDBY. -/
def execInputTurnOn (s : State) : Host.Outcome State Fault Refusal :=
  .next (if s.get RST_STATUS.PSTATE = 0 then (s.put RST_STATUS.PSTATE 1).barShow else s)

/-- INPUT_TURN_OFF (R362, R1): every converter stops, and what needs standby power is lost, the cause record included. -/
def execInputTurnOff (s : State) : Host.Outcome State Fault Refusal :=
  if s.get RST_STATUS.PSTATE = 0 then .next s
  else
    let s := (s.applyReset 0).put RST_STATUS.PSTATE 0
    let s := (s.setReg DWN_CAUSE0.REG 0).setReg DWN_CAUSE1.REG 0
    .next { s with rst := { perst := s.rst.perst } }

/-- LOW_INPUT_WARNING (R362): once on each entry. -/
def execLowInputWarning (s : State) : Host.Outcome State Fault Refusal :=
  .next (if s.get RST_STATUS.PSTATE = 0 ∨ s.flag PWR_STATUS.INPUT_LOW then s else (s.put PWR_STATUS.INPUT_LOW 1).raiseInput 0x0701 0xFF 0)

/-- HIGH_INPUT_WARNING (R362): once on each entry. -/
def execHighInputWarning (s : State) : Host.Outcome State Fault Refusal :=
  .next (if s.get RST_STATUS.PSTATE = 0 ∨ s.power.high then s
    else ({ s with power := { s.power with high := true } }).raiseInput 0x0702 0xFF 0)

/-- OVERVOLTAGE_TRIP (R362, R493): both bar eFuses open, and the trip is reset source 0x09. -/
def execOvervoltageTrip (s : State) : Host.Outcome State Fault Refusal :=
  if s.get RST_STATUS.PSTATE = 0 then .next s
  else
    let s := ({ s with power := { s.power with openA := true, openB := true, lostA := true, lostB := true } }).barShow
    let s := s.raisePower { code := 0x070A, resets := true, action := s.leaveBit } 0xFF
    .next (s.resetBy 9 0x070A 3)

/-- PWROK_RELEASE (R368): above STANDBY no pass is admitted any more, and at the boundary the panel enters RETAINED. -/
def execPwrokRelease (s : State) : Host.Outcome State Fault Refusal :=
  let s := { s with power := { s.power with pwrokSince := none } }.put PWR_STATUS.PWROK 0
  .next (if s.get RST_STATUS.PSTATE < 2 then s else ((s.raiseInput 0x0703 0xFF s.leaveBit).goDown 2).progress)

/-- BAR_LOSS (R364): bar b (0 A, 1 B) is lost, by its eFuse, which stays open until L0, or by its low current. -/
def execBarLoss (b : Nat) (tripped : Bool) (s : State) : Host.Outcome State Fault Refusal :=
  let p := s.power
  let was := if b = 0 then p.lostA else p.lostB
  let p := if b = 0 then { p with lostA := true, openA := p.openA || tripped } else { p with lostB := true, openB := p.openB || tripped }
  if s.get RST_STATUS.PSTATE = 0 ∨ 1 < b then .next s
  else
    let s := { s with power := p }.barShow
    .next (if was then s else s.raiseInput 0x0704 b 0)

/-- BAR_RESTORE (R364): a bar lost by low current counts as present again. -/
def execBarRestore (b : Nat) (s : State) : Host.Outcome State Fault Refusal :=
  let p := s.power
  .next (if b = 0 ∧ ¬ p.openA then { s with power := { p with lostA := false } }.barShow
    else if b = 1 ∧ ¬ p.openB then { s with power := { p with lostB := false } }.barShow else s)

/-- BAR_IMBALANCE_CHECK (R365): the imbalance has lasted for 1 s; 0x0720 at most once per hour. -/
def execBarImbalanceCheck (s : State) : Host.Outcome State Fault Refusal :=
  let due : Bool := match s.power.imbalance with | none => true | some t => decide (t + 360000000000 ≤ s.isobar)
  .next (if s.get RST_STATUS.PSTATE ≠ 0 ∧ ¬ s.power.lostA ∧ ¬ s.power.lostB ∧ due then
    ({ s with power := { s.power with imbalance := some s.isobar } }).raiseInput 0x0720 0xFF 0 else s)

/-- INPUT_BACKSTOP (R366): BLOCK is 12 on every serving die. -/
def execInputBackstop (s : State) : Host.Outcome State Fault Refusal :=
  if s.get RST_STATUS.PSTATE = 0 ∨ s.power.inForced then .next s
  else
    let s := s.setForced s.servingStacks true s.power.segForced
    .next ((s.raiseInput 0x0709 0xFF 0).put PWR_STATUS.OVERLOAD 1)

/-- BACKSTOP_RELEASE (R366). -/
def execBackstopRelease (s : State) : Host.Outcome State Fault Refusal :=
  .next (if s.power.inForced then (s.setForced s.servingStacks false s.power.segForced).put PWR_STATUS.OVERLOAD 0 else s)

/-! ## Segments (R372 to R378) -/

/-- The serving stacks that a segment feeds. -/
def State.segServing (s : State) (g : Nat) : List Nat := s.servingStacks.filter (fun x => sectorOf x == g)

/-- SEGMENT_OVERLOAD (R372): 0x0708; for a sector, BLOCK is 12 on its serving dies. -/
def execSegmentOverload (g : Nat) (s : State) : Host.Outcome State Fault Refusal :=
  if s.get (PWR_SEG.STATE g) ≠ 2 ∨ 20 < g then .next s
  else if 16 ≤ g then .next (s.raiseInput 0x0708 g 0)
  else if s.power.segForced.contains g then .next s
  else .next ((s.setForced (s.segServing g) s.power.inForced (markIn s.power.segForced g)).raiseInput 0x0708 g 0)

/-- SEGMENT_OVERLOAD_RELEASE (R372). -/
def execSegmentOverloadRelease (g : Nat) (s : State) : Host.Outcome State Fault Refusal :=
  .next (if s.power.segForced.contains g then s.setForced (s.segServing g) s.power.inForced (markOut s.power.segForced g) else s)

/-- SEGMENT_ON (R373): precharge and ramp are over. -/
def execSegmentOn (g : Nat) (s : State) : Host.Outcome State Fault Refusal :=
  .next (if s.get (PWR_SEG.STATE g) = 1 ∧ g ≤ 20 then (s.put (PWR_SEG.STATE g) 2).progress else s)

/-- SEGMENT_SOFTSTART_TIMEOUT (R373): 0x0717, and a trip with cause 0x4. -/
def execSegmentSoftstartTimeout (g : Nat) (s : State) : Host.Outcome State Fault Refusal :=
  .next (if s.get (PWR_SEG.STATE g) = 1 ∧ g ≤ 20 then (s.raiseInput 0x0717 g 0).segTrip g 4 else s)

/-- SEGMENT_TRIP (R374, R375, R377, R378). -/
def execSegmentTrip (g cause : Nat) (s : State) : Host.Outcome State Fault Refusal :=
  .next (if (s.get (PWR_SEG.STATE g) = 1 ∨ s.get (PWR_SEG.STATE g) = 2) ∧ g ≤ 20 then s.segTrip g cause else s)

/-! ## Last-stage regulators (R382 to R391) -/

/-- LSR_INPUT_SWITCH_OPEN (R382): the stack or ring position is isolated, loses every domain and is fenced. -/
def execLsrInputSwitchOpen (node : Nat) (s : State) : Host.Outcome State Fault Refusal :=
  if node = 84 ∨ ¬ validNode node ∨ s.flag (isolatedLoc node) then .next s
  else
    let p := s.power
    let s := { s with power := { p with isolations := modKey 0 p.isolations node (· + 1) } }
    let s := (s.put (isolatedLoc node) 1).raiseDomain 0x0716 node 0xFF (s.fenceBits node)
    .next ((s.supplyLost node).fence node 0x0716)

/-- SENSE_FAULT (R384): once for each domain. -/
def execSenseFault (node d : Nat) (s : State) : Host.Outcome State Fault Refusal :=
  if ¬ validNode node then .next s
  else if node < 169 ∧ node ≠ 84 then
    let l := (PWR_STK_W1.SENSE_FAULT node).sub d 1
    .next (if s.flag l ∨ 5 < d then s else (s.put l 1).raiseDomain 0x0715 node d 0)
  else
    let k := domKey node d
    .next (if s.power.senses.contains k then s
      else ({ s with power := { s.power with senses := markIn s.power.senses k } }).raiseDomain 0x0715 node d 0)

/-- DOMAIN_UNDERVOLTAGE (R385): the pass is discarded; the second of a domain since the last fabric reset takes the unit out. -/
def execDomainUndervoltage (node d : Nat) (s : State) : Host.Outcome State Fault Refusal :=
  if ¬ validNode node ∨ s.dom node d ≠ 3 then .next s
  else
    let n := lookD 0 s.power.uvs (domKey node d) + 1
    let s := { s with power := { s.power with uvs := putKey s.power.uvs (domKey node d) n } }
    let s := (s.raiseDomain 0x0713 node d (s.discardBit + (if 2 ≤ n ∧ node < 169 then 4 else 0))).discardPass 0x0713
    .next (if 2 ≤ n then s.unitLeaves node 0x0713 false else s)

/-- A domain is switched off for good (R385): the unit is fenced. -/
def State.domainLost (s : State) (node d trigger : Nat) : State := if node = 84 then s else (s.domainDown node d 5).fence node trigger

/-- DOMAIN_OVERVOLTAGE (R385). -/
def execDomainOvervoltage (node d : Nat) (s : State) : Host.Outcome State Fault Refusal :=
  if ¬ validNode node ∨ s.dom node d ≠ 3 then .next s
  else .next ((s.raiseDomain 0x0714 node d (if node = 84 then 0 else s.fenceBits node)).domainLost node d 0x0714)

/-- Record failed phases of a domain. -/
def State.setFailed (s : State) (node d rail mask : Nat) : State :=
  if node < 169 ∧ node ≠ 84 then s.put (failLoc node d) mask
  else
    let s := { s with power := { s.power with fails := putKey s.power.fails (failKey node d rail) mask } }
    if ringNode node then
      s.putSat (PWR_RING.FAILS (node - 169))
        (sumNat ((s.power.fails.filter (fun p => p.1 / 8000 == node)).map (fun p => popCount 16 p.2)))
    else s

/-- The hub lost its redundancy (R390): no further pass is admitted, and at the boundary, or now when no pass runs, source 0x0A resets
the panel. -/
def State.hubDegraded (s : State) : State :=
  if s.pass.running then { s with power := { s.power with hubFailed := true } } else s.resetBy 10 0x0711 3

/-- PHASE_FAILURE (R386 to R390): the phases of a domain (of a rail, for DH) that fail in one cycle. -/
def execPhaseFailure (node d rail : Nat) (phases : List Nat) (s : State) : Host.Outcome State Fault Refusal :=
  let n := domPhases node d rail
  let was := s.failedPhases node d rail
  let new := phases.filter (fun p => decide (p < n) && !bit was p)
  if ¬ validNode node ∨ new.isEmpty then .next s
  else
    let now := new.foldl (fun m p => withBit m p true) was
    let last := new.getLastD 0
    let before := popCount n was
    let after := popCount n now
    let s := s.setFailed node d rail now
    let r : Raise := { code := 0x0711, node := node, unit := d }
    let s :=
      if after = 1 then s.raisePower { r with code := 0x0710, details := [last] } last
      else if before ≤ 1 then
        let s := s.raisePower { r with action := if node < 169 ∧ node ≠ 84 then 4 else 0, resets := node == 84 } last
        if node = 84 then s.hubDegraded else s.unitLeaves node 0x0711 true
      else s
    .next (if after = n then s.domainLost node d 0x0711 else s)

/-- DOMAIN_OVER_CAP (R389). -/
def execDomainOverCap (node d : Nat) (s : State) : Host.Outcome State Fault Refusal :=
  if ¬ validNode node ∨ s.dom node d ≠ 3 then .next s
  else
    let s := (s.raiseDomain 0x0712 node d (s.abortBit + (if node < 169 ∧ node ≠ 84 then 4 else 0))).abortPass 0x0712 (if node < 169 then node else 0xFF)
    .next (s.unitLeaves node 0x0712 false)

/-- LSR_HOT (R391): 0x071A, and the power caps of the LSR's domains fall by 25 %. -/
def execLsrHot (node : Nat) (s : State) : Host.Outcome State Fault Refusal :=
  .next (if ¬ validNode node then s
    else ({ s with power := { s.power with hot := markIn s.power.hot node } }).raiseDomain 0x071A node 0xFF 0)

/-! ## Domain power-ups (R393, R394) -/

/-- A request that must wait for an earlier domain of its stack (R394): one that is queued or waits for its retry. -/
def State.upBlocked (s : State) (r : PowerReq) : Bool :=
  decide (r.node < 169) && upOrder.any (fun d => decide (upRank r.node d < upRank r.node r.dom) &&
    (s.power.reqs.any (fun x => x.node == r.node && x.dom == d) || lookD 0 s.power.failedOnce (domKey r.node d) == 1))

/-- A domain of the segment ramps. -/
def State.segRamps (s : State) (g : Nat) : Bool := (segNodes g).any (fun n => (domsOf n).any (fun d => s.dom n d == 2))

/-- The scheduler may approve a power-up in a segment now (R393). -/
def State.mayApprove (s : State) (g : Nat) : Bool :=
  s.get (PWR_SEG.STATE g) == 2 && decide (s.get (PWR_SEG_BUDGET.LOAD g) * 100 ≤ 85 * s.get (PWR_SEG_BUDGET.BUDGET g)) && !s.segRamps g

/-- POWERUP_APPROVAL (R393, R394): the oldest request of a segment that may come up now starts its ramp, or is refused. -/
def execPowerupApproval (g : Nat) (s : State) : Host.Outcome State Fault Refusal :=
  if !s.mayApprove g then .next s
  else match s.power.reqs.find? (fun r => segOf r.node == g && !s.upBlocked r) with
    | none => .next s
    | some r =>
      if s.refusedUp r.node r.dom then .next (((s.dropReq r.node r.dom).put (domLoc r.node r.dom) 0).raiseDomain 0x0719 r.node r.dom 0)
      else .next ((s.dropReq r.node r.dom).put (domLoc r.node r.dom) 2)

/-- RAMP_END_CHECK (R393): 50 µs after the ramp the domain is ON, or off with 0x0717; a second failure takes the stack out. -/
def execRampEndCheck (node d : Nat) (ok : Bool) (s : State) : Host.Outcome State Fault Refusal :=
  if ¬ validNode node ∨ node = 84 ∨ s.get (domLoc node d) ≠ 2 then .next s
  else if ok then .next (s.domainUp node d).progress
  else
    let retry := lookD 0 s.power.failedOnce (domKey node d)
    let last := retry == 2
    let s := (s.domainDown node d 0).raiseDomain 0x0717 node d (if last && decide (node < 169) then 4 else 0)
    if last then .next (s.unitLeaves node 0x0717 false)
    else .next { s with power := { s.power with failedOnce := putKey s.power.failedOnce (domKey node d) 1 } }

/-- SOFTSTART_RETRY (R393): 1 ms after the first failure. -/
def execSoftstartRetry (node d : Nat) (s : State) : Host.Outcome State Fault Refusal :=
  if lookD 0 s.power.failedOnce (domKey node d) ≠ 1 then .next s
  else .next (({ s with power := { s.power with failedOnce := putKey s.power.failedOnce (domKey node d) 2 } }).requestDomain node d)

/-- POWERUP_DEFERRED_TIMEOUT (R394): a request has waited for more than 1 s; it stays queued. -/
def execPowerupDeferredTimeout (node d : Nat) (s : State) : Host.Outcome State Fault Refusal :=
  if s.power.reqs.any (fun r => r.node == node && r.dom == d && !r.raised) then
    let l := s.power.reqs.map (fun (r : PowerReq) => if r.node = node ∧ r.dom = d then { r with raised := true } else r)
    .next ((s.setReqs l).raiseDomain 0x0718 node d 0)
  else .next s

/-! ## Metering (R398 to R405) -/

/-- The mean of a list, rounded down. -/
def meanOf (l : List Nat) : Nat := if l.isEmpty then 0 else sumNat l / l.length

/-- The input part of a sample (R398, R401, R362). -/
def State.meterInput (s : State) (m : MeterSample) : State :=
  let vin := Nat.min m.vinA m.vinB
  let p := s.power
  let hist := ((vin, m.ia, m.ib) :: p.inHist).take 100
  let mv := meanOf (hist.map (·.1))
  let ia := meanOf (hist.map (·.2.1))
  let ib := meanOf (hist.map (·.2.2))
  let watts := meanOf (hist.map (fun h => h.1 * (h.2.1 + h.2.2))) / 1000000
  let p := { p with samples := p.samples + 1, inHist := hist, eIn := p.eIn + vin * (m.ia + m.ib) }
  let p := { p with eA := p.eA + vin * m.ia, eB := p.eB + vin * m.ib, high := p.high && decide (44500 < mv) }
  let p := { p with pwrokSince := if m.pwrok then (match p.pwrokSince with | none => some p.samples | some t => some t) else none }
  let p := { p with meterAt := if m.disagree then (match p.meterAt with | none => some p.samples | some t => some t) else none }
  let s := { s with power := p }
  let s := ((s.put PWR_INPUT.VIN (mv / 10)).put PWR_INPUT.IA (ia / 100)).put PWR_INPUT.IB (ib / 100)
  let s := (s.putSat PWR_INPUT.PIN watts).put PWR_STATUS.PWROK (b2n m.pwrok)
  let s := s.putSat PWR_INPUT_MAX.PIN_MAX (Nat.max (s.get PWR_INPUT_MAX.PIN_MAX) (vin * (m.ia + m.ib) / 1000000))
  let s := s.putSat PWR_INPUT_MAX.I_MAX (Nat.max (s.get PWR_INPUT_MAX.I_MAX) ((m.ia + m.ib) / 100))
  let s := if 37000 ≤ mv then s.put PWR_STATUS.INPUT_LOW 0 else s
  let s : State := if s.power.samples % 100 = 1 then s.barShow.put PWR_LIMIT.IN_LIMIT (s.inLimit mv) else s
  let late : Bool := match s.power.meterAt with | none => false | some t => decide (t + 100000 ≤ s.power.samples)
  if late && !s.power.meterRaised then
    (({ s with power := { s.power with meterRaised := true } }).put PWR_STATUS.METER_OK 0).raiseInput 0x0721 0xFF 0
  else s

/-- A segment's part of a sample. -/
def State.meterSegment (s : State) (r : SegReading) : State :=
  if 20 < r.g then s
  else
    let p := s.power
    let h := ((r.mv, r.ma) :: lookD [] p.segHist r.g).take 100
    let s := { s with power := { p with segHist := putKey p.segHist r.g h, eSeg := modKey 0 p.eSeg r.g (· + r.mv * r.ma) } }
    let w := meanOf (h.map (fun x => x.1 * x.2)) / 1000000
    let s := (s.put (PWR_SEG.VOUT r.g) (meanOf (h.map (·.1)) / 10)).putSat (PWR_SEG.IOUT r.g) (meanOf (h.map (·.2)) / 100)
    (s.putSat (PWR_SEG.POUT r.g) w).putSat (PWR_SEG_BUDGET.LOAD r.g) w

/-- A ring position's part of a sample. -/
def State.meterRing (s : State) (p mw : Nat) : State :=
  if 43 < p then s
  else
    let x := s.power
    let h := (mw :: lookD [] x.ringHist p).take 100
    let s := { s with power := { x with ringHist := putKey x.ringHist p h, eRing := modKey 0 x.eRing p (· + mw * 1000) } }
    s.putSat (PWR_RING.PIN p) (meanOf h / 1000)

/-- The domain that PWR_TEL_SEL selects, where it selects one that can be read (R405). -/
def State.telSel (s : State) : Option (Nat × Nat) :=
  let site := s.get PWR_TEL_SEL.SITE
  let d := s.get PWR_TEL_SEL.DOM
  if stackSite site ∧ d ≤ 5 ∧ s.powered site ∧ ¬ s.flag (PWR_STK_W0.ISOLATED site) then some (site, d) else none

/-- PWR_TEL and PWR_TEL_PH of a sample (R405). -/
def State.telShow (s : State) (t : Option Telemetry) : State :=
  match s.telSel, t with
  | some (site, d), some t =>
    let s := ((s.put PWR_TEL.VSET (s.setpoint site d)).put PWR_TEL.VSENSE t.vsense).put PWR_TEL.IDOM t.idom
    let s := (s.put PWR_TEL.CAP (s.domCap site d)).put PWR_TEL_PH.TEMP (unsigned 8 t.temp)
    let failed := s.failedPhases site d 0
    s.put PWR_TEL_PH.I_PH (sumNat ((below (domPhases site d 0)).map (fun i => if bit failed i then 0 else sat 255 (nth 0 t.phases i) * 256 ^ i)))
  | _, _ => (s.setReg PWR_TEL.REG 0).setReg PWR_TEL_PH.REG 0

/-- METER_SAMPLE (R398, R401, R405): every 10 µs, in every state but OFF. -/
def execMeterSample (m : MeterSample) (s : State) : Host.Outcome State Fault Refusal :=
  if s.get RST_STATUS.PSTATE = 0 then .next s
  else
    let s := s.meterInput m
    let s := m.segs.foldl (fun s r => s.meterSegment r) s
    let s := m.stackList.foldl (fun s (r : Nat × Nat) =>
      if stackSite r.1 then { s with power := { s.power with eStk := modKey 0 s.power.eStk r.1 (· + r.2 * 1000) } } else s) s
    let s := m.rings.foldl (fun s (r : Nat × Nat) => s.meterRing r.1 r.2) s
    .next (s.telShow m.tel).progress

/-- SNAPSHOT_TIMER (R399): every second of Isobar time. -/
def execSnapshotTimer (s : State) : Host.Outcome State Fault Refusal := .next (if s.get RST_STATUS.PSTATE = 0 then s else s.snapshot)

/-- PWR_SNAP (R399): SNAP takes a snapshot and clears. -/
def execPwrSnap (_who : Requester) (value : Nat) (s : State) : Host.Outcome State Fault Refusal :=
  s.atDawn <| .next (if bit value 0 then s.snapshot else s)

/-- PWR_EVENT_READ (R404, R51). -/
def execPwrEventRead (who : Requester) (bytes half : Nat) (s : State) : Host.Outcome State Fault Refusal :=
  s.atDawn <|
  let r := s.readLog PWR_EVENT.REG bytes half
  .next (r.2.send (.readData who (PWR_EVENT.REG + 4 * half) bytes r.1.toNat false))

/-- PWR_INPUT_MAX_READ (R14, R18): the peaks stand in the upper half and clear when it is read. -/
def execPwrInputMaxRead (who : Requester) (bytes half : Nat) (s : State) : Host.Outcome State Fault Refusal :=
  s.atDawn <|
  let w := (s.reg PWR_INPUT_MAX.REG).toNat
  let v := if bytes = 8 then w else bits w (32 * half + 31) (32 * half)
  let s := s.send (.readData who (PWR_INPUT_MAX.REG + 4 * half) bytes v false)
  .next (if bytes = 8 ∨ half = 1 then s.setReg PWR_INPUT_MAX.REG 0 else s)

end Sys2Proof.Machine
end

