-- ==== Sys2Proof/Machine/Spares.lean ====
section
/-! DEFINITION. The commands of a spare swap (15_spares.md R533 to R541). -/

namespace Sys2Proof.Machine

open Sys2Proof

/-! ## Verification and RESTORE (R538, R541, R542) -/

/-- The slice in the weight store of a swap's spare is accepted: no byte of it is poisoned and its digest is the manifest's. -/
def State.sliceOk (s : State) (w : Swap) : Bool :=
  match s.swapManifest w with
  | none => false
  | some m =>
    let lo := mkPpa 0 w.spare 0
    !s.poison.any (fun k => decide (lo ≤ k) && decide (k < lo + m.length)) && (sha384 (readBytes s.memory lo m.length)).take 40 == m.digest

/-- The tree words and the drain word of the site, from TREES (R541). -/
def State.swapTrees (s : State) (w : Swap) : State :=
  match s.image.area with
  | none => s
  | some (base, _) =>
    match s.imageSection base 3 with
    | none => s
    | some (o, _) =>
      let s := (below 64).foldl (fun s t =>
        s.setReg (SIT_TREE_W0.REG w.spare t) (withField (word (s.imageNum base (o + (w.site * 64 + t) * 8) 8)) 27 27 0)) s
      let s := s.setReg (SIT_RED_DRAIN.REG w.spare) (word (s.imageNum base (o + 169 * 64 * 8 + w.site * 8) 8))
      s.treeBad w.spare

/-- The address lies in a stack's handle table. -/
def isHandleReg (site a : Nat) : Bool := decide (BHT_ENTRY.REG site 0 0 ≤ a) && decide (a < BHT_ENTRY.REG site 256 0)

/-- A handle word of the site is written into the spare, and its entry judged. -/
def State.swapHandle (s : State) (w : Swap) (a : Nat) (v : Word) : State :=
  let i := (a - BHT_ENTRY.REG w.site 0 0) / 8
  let s := s.setReg (BHT_ENTRY.REG w.spare (i / 4) (i % 4)) (if i % 4 = 3 then withField v 63 60 0 else v)
  s.handleJudge w.spare (i / 4)

/-- Every handle entry that host software had written to the site (R541). -/
def State.swapHandles (s : State) (w : Swap) : State :=
  (s.spares.handles.filter (fun p => isHandleReg w.site p.1)).foldl (fun s p => s.swapHandle w p.1 p.2) s

/-- Step 6 of Table 15.3: RESTORE. -/
def State.restore (s : State) (w : Swap) : State :=
  let g := sectorOf w.site
  let s := (s.releaseOld w).put (GLT_CTRL.WLOCK w.spare) 1
  let s := ((s.put (HUB_SUBST.VALID g) 1).put (HUB_SUBST.FROM g) w.site).put (HUB_SUBST.TO g) w.spare
  let s := (s.swapTrees w).swapHandles w
  let s := s.setSwap { w with phase := 6, since := s.isobar }
  ((s.hubMessage w.spare 0 (hubWords 0x23 [w.site])).hubMessage w.spare 1 (hubWords 0x23 [w.site])).sparesShow

/-! ## The commands -/

/-- SPARE_INIT_DONE (R533 step 4, R535): the spare's stores are initialised, and the copy starts from the first usable source. -/
def execSpareInitDone (spare : Nat) (s : State) : Host.Outcome State Fault Refusal :=
  match s.swapOf spare with
  | none => .next s
  | some w =>
    if w.phase ≠ 2 then .next s
    else
      let s := ((s.clearGelat spare).put (GLT_STATUS.EXIT_SCRUB spare) 0).put (GLT_STATUS.EXIT_DONE spare) 1
      .next ((s.copyFrom w (s.copySource w 0)).sparesShow)

/-- A row of the slice that reads poisoned at the stack that served the site comes from the golden copy, where that is usable (R536). -/
def State.goldenRows (s : State) (w : Swap) (n : Nat) : State :=
  let lo := mkPpa 0 w.spare 0
  let rows := (s.poison.filter (fun k => decide (lo ≤ k) && decide (k < lo + n))).map (fun k => (k - lo) / 64)
  rows.foldl (fun s r =>
    match s.swapManifest w with
    | none => s
    | some m =>
      let off := m.offset + 64 * r
      let key := mkPpa 1 m.stack off
      if s.copyFromGolden w ∧ s.inGolden m.stack off ∧ ¬ s.poisoned key 64 then s.storeKey (lo + 64 * r) (s.readMem key 64).1 false else s) s

/-- The copy of a slice, with the rows (or, in HBM, the accesses) that read uncorrectable on the way. -/
def State.copySlice (s : State) (w : Swap) (m : Manifest) (ues : List Nat) : State :=
  let src := if w.source = 0 then mkPpa 0 w.old 0 else mkPpa 1 m.stack m.offset
  let s := ues.foldl (fun s r =>
    if w.source = 0 then s.eccUncorrectable (src + 64 * r) false else s.hbmUncorrectable (src + 64 * r)) s
  let s := s.copyBytes src (mkPpa 0 w.spare 0) m.length
  if w.source = 0 then s.goldenRows w m.length else s

/-- SPARE_COPY_DONE (R536, R538): the last row of the slice is written; ues lists the rows whose source read uncorrectable. -/
def execSpareCopyDone (spare : Nat) (ues : List Nat) (s : State) : Host.Outcome State Fault Refusal :=
  match s.swapOf spare with
  | none => .next s
  | some w =>
    match s.swapManifest w with
    | none => .next s
    | some m =>
      if w.phase ≠ 3 then .next s
      else
        let ues := ues.filter (fun r => decide (64 * r < m.length))
        let s := s.copySlice w m ues
        if w.source = 1 ∧ 16 ≤ ues.length then .next ((s.copyAgain w 0x0320).sparesShow)
        else
          let s := s.copyShow w (m.length / 64)
          if s.sliceOk w then .next (s.restore w) else .next ((s.copyAgain w 0x0322).sparesShow)

/-- SPARE_IN (R533, R541): the spare's control cores run as the site they replace; its firmware writes the handle entries that firmware wrote
itself. -/
def execSpareIn (spare : Nat) (s : State) : Host.Outcome State Fault Refusal :=
  match s.swapOf spare with
  | none => .next s
  | some w =>
    if w.phase ≠ 6 then .next s
    else
      let own := s.regs.filter (fun p => isHandleReg w.site p.1 && (look s.spares.handles p.1).isNone)
      .next (own.foldl (fun s p => s.swapHandle w p.1 p.2) s)

/-- SPARE_READY (R533 step 7): the spare serves. Routes are verified where a die was fenced, and further retirements of the boundary are taken. -/
def execSpareReady (spare : Nat) (s : State) : Host.Outcome State Fault Refusal :=
  match s.swapOf spare with
  | none => .next s
  | some w =>
    if w.phase ≠ 6 then .next s
    else
      let s := (s.dropSwap w).addSat HUB_SPARE_STATUS.SWAPS 1
      let s := if s.fenced w.old then s.verifyRoutes else s
      let s := s.raiseSpare 0x0140 w.spare w.old w.spare
      .next (((s.sparesShow.takeRetires).armNow).readyRefresh)

/-- A swap that ends without its spare (R539), and what comes after it. -/
def State.swapEnds (s : State) (w : Swap) : State := ((s.swapFail w).sparesShow.takeRetires.armNow).readyRefresh

/-- SPARE_READY_TIMEOUT (R534): no SPARE_READY within 5,000,000 ticks of SPARE_IN. -/
def execSpareReadyTimeout (spare : Nat) (s : State) : Host.Outcome State Fault Refusal :=
  match s.swapOf spare with
  | none => .next s
  | some w => .next (if w.phase = 6 then s.swapEnds w else s)

/-- A write of HOST_DONE for the spare that HUB_SPARE_CTRL names (R537, R538): the read-back of the slice. -/
def State.hostDone (s : State) : State :=
  match s.swapOf (s.get HUB_SPARE_CTRL.SPARE) with
  | none => s
  | some w =>
    if w.phase ≠ 5 then s
    else
      let s := s.copyShow w (s.swapLength w / 64)
      if s.sliceOk w then s.restore w else s.raiseSpare 0x0322 w.spare w.old w.spare

/-- A write of ABANDON for that spare (R539). -/
def State.spareAbandon (s : State) : State :=
  match s.swapOf (s.get HUB_SPARE_CTRL.SPARE) with
  | none => s
  | some w => s.swapEnds w

/-- A write of HUB_SPARE_CTRL: SPARE is stored, then ABANDON and HOST_DONE act on it. -/
def State.writeSpareCtrl (s : State) (value : Nat) : State :=
  let s := s.put HUB_SPARE_CTRL.SPARE (bits value 15 8)
  let s := if bit value 1 then s.spareAbandon else s
  if bit value 0 then s.hostDone else s

/-- HOST_DONE (R537): a write of HUB_SPARE_CTRL with HOST_DONE. -/
def execHostDone (who : Requester) (spare : Nat) (s : State) : Host.Outcome State Fault Refusal :=
  s.atHub who HUB_SPARE_CTRL.REG <| .next (s.put HUB_SPARE_CTRL.SPARE spare).hostDone

/-- SPARE_ABANDON (R539): a write of HUB_SPARE_CTRL with ABANDON. -/
def execSpareAbandon (who : Requester) (spare : Nat) (s : State) : Host.Outcome State Fault Refusal :=
  s.atHub who HUB_SPARE_CTRL.REG <| .next (s.put HUB_SPARE_CTRL.SPARE spare).spareAbandon

/-- HOST_LIMIT_EXPIRY (R537, R539): HOST_LIMIT seconds in HOST_WAIT. -/
def execHostLimitExpiry (spare : Nat) (s : State) : Host.Outcome State Fault Refusal :=
  match s.swapOf spare with
  | none => .next s
  | some w => .next (if w.phase = 5 then s.swapEnds w else s)

/-- SPARE_LOG_READ (R546, R547, R51). -/
def execSpareLogRead (who : Requester) (bytes half : Nat) (s : State) : Host.Outcome State Fault Refusal :=
  s.readAtHub who (HUB_SPARE_LOG.REG + 4 * half) bytes <|
  let r := s.readLog HUB_SPARE_LOG.REG bytes half
  .next (r.2.send (.readData who (HUB_SPARE_LOG.REG + 4 * half) bytes r.1.toNat false))

end Sys2Proof.Machine
end

