-- ==== Sys2Proof/Machine/Streams.lean ====
section
/-! DEFINITION. The meanings of the engines' commands (05_sweeps.md R191 to R205): admission of descriptor lists, the starts and the
completion of their sides, the runs, and the limits that end a pass. -/

namespace Sys2Proof.Machine

open Sys2Proof

/-! ## Admission (R200) -/

/-- The nine words of descriptor i of a list in a core's DTCM. -/
def State.listDesc (s : State) (site c addr i : Nat) : Desc :=
  decodeDesc ((below 9).map (fun k => ofLe (readBytes (s.control site c).tcm (addr + 72 * i + 8 * k) 8)))

/-- Check the descriptors of a list in order: the streams that it admits, or the first code and its index. -/
def State.checkList (s : State) (site c addr sweep base : Nat) : Nat → Nat → List Stream → List Stream ⊕ (Nat × Nat)
  | 0, _, acc => .inl acc
  | n + 1, i, acc =>
    let d := s.listDesc site c addr i
    match s.descCode site sweep d ((s.die site).streams ++ acc) with
    | some code => .inr (code, i)
    | none => State.checkList s site c addr sweep base n (i + 1)
        (acc ++ [{ desc := d, sweep := sweep, index := base + i, sbase := d.saddr + s.argOf site d.sarg, dbase := d.daddr + s.argOf site d.darg }])

/-- A list is rejected: STR_ERR, a record, and the pass aborts (R200). -/
def State.rejectList (s : State) (site code index : Nat) : State :=
  ((s.strErr site code index).record { code := code, source := 1, node := site, action := s.abortBit, details := [index] }).abortPass code site

/-- The list can be admitted as a whole (R200): inside DTCM, aligned, at most 256 admitted, of the current or the next sweep. -/
def State.listOk (s : State) (site addr count sweep : Nat) : Bool :=
  decide (0x100000 ≤ addr) && decide (addr + 72 * count ≤ 0x120000) && addr % 8 == 0 &&
    decide ((s.die site).streams.length + count ≤ 256) &&
    (sweep == s.get (STR_STATUS.SWEEP site) || sweep == s.get (STR_STATUS.SWEEP site) + 1)

/-- DESCRIPTOR_LIST_ADMIT (R195 to R200): a write of STR_LIST by a control core of the site; any other requester is refused. -/
def execDescriptorListAdmit (who : Requester) (site value : Nat) (s : State) : Host.Outcome State Fault Refusal :=
  s.atSite who (STR_LIST.REG site) site <|
  match who with
  | .core n c =>
    let addr := bits value 31 0
    let count := bits value 40 32
    let sweep := bits value 63 48
    if n ≠ site then .next (s.fwRefused site)
    else if count = 0 then .next (s.rejectList site 0x0201 0)
    else if !(s.listOk site addr count sweep) then .next (s.rejectList site 0x0205 0)
    else
      match s.checkList site c addr sweep (s.die site).admitted count 0 [] with
      | .inr (code, i) => .next (s.rejectList site code i)
      | .inl l =>
        let d := s.die site
        .next ((s.setDie site { d with streams := d.streams ++ l, admitted := d.admitted + count }).admittedBits site)
  | _ => .next (s.fwRefused site)

/-! ## Starts and completion (R191, R192, R198) -/

/-- The descriptors of the same channel that were admitted before this one. -/
def DieState.before (d : DieState) (x : Stream) : List Stream :=
  d.streams.filter (fun y => y.desc.ch == x.desc.ch && decide (y.index < x.index))

/-- A sweep of the die runs, and it is sweep n. -/
def State.inSweep (s : State) (site n : Nat) : Bool := (s.die site).sweepRunning && s.get (STR_STATUS.SWEEP site) == n

/-- The source side may start (R191, R192, R193): the sweep, or with EARLY the sweep before it; the earlier descriptors of the channel
at their sink sides, or with AFTER complete; and the SWAIT tokens. -/
def State.sourceMay (s : State) (site : Nat) (x : Stream) : Bool :=
  let d := s.die site
  !d.stopped && !x.srcStarted &&
    (s.inSweep site x.sweep || (x.desc.early && x.sweep == s.get (STR_STATUS.SWEEP site) + 1)) &&
    (if x.desc.after then (d.before x).isEmpty else (d.before x).all (fun y => y.srcStarted && y.srcPos == y.desc.total)) &&
    decide (x.desc.swait ≤ s.get (STR_TOKEN.FETCH site))

/-- DESCRIPTOR_SOURCE_START (R192). -/
def execDescriptorSourceStart (site d : Nat) (s : State) : Host.Outcome State Fault Refusal :=
  match (s.die site).stream d with
  | none => .next s
  | some x =>
    if s.sourceMay site x then
      .next ((s.put (STR_TOKEN.FETCH site) (s.get (STR_TOKEN.FETCH site) - x.desc.swait)).setStream site { x with srcStarted := true })
    else .next s

/-- The sink side may start (R191, R192): its own sweep, the earlier descriptors of the channel complete, and the DWAIT tokens. -/
def State.sinkMay (s : State) (site : Nat) (x : Stream) : Bool :=
  let d := s.die site
  !d.stopped && !x.snkStarted && s.inSweep site x.sweep && (d.before x).isEmpty && decide (x.desc.dwait ≤ s.get (STR_TOKEN.EXEC site))

/-- DESCRIPTOR_SINK_START (R192). -/
def execDescriptorSinkStart (site d : Nat) (s : State) : Host.Outcome State Fault Refusal :=
  match (s.die site).stream d with
  | none => .next s
  | some x =>
    if s.sinkMay site x then
      .next ((s.put (STR_TOKEN.EXEC site) (s.get (STR_TOKEN.EXEC site) - x.desc.dwait)).setStream site { x with snkStarted := true })
    else .next s

/-- Send the SIGNAL token of a completed sink side (R198, Table 5.8). -/
def State.signal (s : State) (site : Nat) (d : Desc) : State :=
  let n := bits d.signal 7 0
  match bits d.signal 15 13 with
  | 1 => s.signalVector site (bits d.signal 12 11) (bits d.signal 10 9) n
  | 2 => s.engineEvent site 0
  | 3 => s.engineEvent site 1
  | 4 => s.addEngineToken site n false
  | 5 => s.addEngineToken site n true
  | _ => s

/-- Every byte has left the sink side, and every write of it is acknowledged (R173). -/
def State.sinkDone (s : State) (site : Nat) (x : Stream) : Bool :=
  x.snkStarted && x.snkPos == x.desc.total &&
    !s.requests.any (fun r => r.node == site && r.use == .engine x.index true)

/-- DESCRIPTOR_SINK_COMPLETE (R198). -/
def execDescriptorSinkComplete (site d : Nat) (s : State) : Host.Outcome State Fault Refusal :=
  match (s.die site).stream d with
  | none => .next s
  | some x =>
    if s.sinkDone site x && !(s.die site).stopped then
      let y := s.die site
      .next (((s.setDie site { y with streams := y.streams.filter (fun z => z.index != x.index) }).admittedBits site).signal site x.desc)
    else .next s

/-! ## The pieces of a run (R194, R213, R235, R248) -/

/-- One request-sized piece of a run: its PPA, its length, and the view it goes through. -/
structure Piece where
  ppa : Nat
  n : Nat
  view : Option (Nat × Nat × Nat) := none
  deriving DecidableEq, Repr

/-- Split n bytes at logical offset o of a view: one aligned 1 KiB block each, and for a gather view one gather block. -/
def viewPieces (site hn : Nat) (h : Handle) : Nat → Nat → Nat → List Piece
  | 0, _, _ => []
  | f + 1, o, n =>
    if n = 0 then []
    else
      let k := Nat.min n (1024 - (h.base + o) % 1024)
      let k := if h.kind = 3 then Nat.min k (2 ^ h.blockLog - o % 2 ^ h.blockLog) else k
      ⟨h.base + o, k, some (site, hn, o)⟩ :: viewPieces site hn h f (o + k) (n - k)

/-- The pieces of n bytes from position pos of a handle or PPA side. -/
def State.runPieces (s : State) (site : Nat) (x : Stream) (sink : Bool) (pos n : Nat) : List Piece :=
  let a := x.place sink pos
  if x.endpoint sink = 0 then
    let hn := if sink then x.desc.dhandle else x.desc.shandle
    match s.handle site hn with
    | none => []
    | some h =>
      if h.view = 0 ∧ h.kind ≠ 3 then (pieces (h.base + a) n).map (fun q => ⟨q.1, q.2, none⟩) else viewPieces site hn h (n + 1) a n
  else (pieces a n).map (fun q => ⟨q.1, q.2, none⟩)

/-- The bytes of a piece of this site's own Gelat: their PPAs, through the view if it has one (R213). -/
def State.pieceBytes (s : State) (p : Piece) : List Nat :=
  match p.view with
  | none => (below p.n).map (fun i => p.ppa + i)
  | some (site, hn, o) => match s.handle site hn with | some h => (below p.n).map (fun i => h.byte (o + i)) | none => []

/-- Count a run that joins the one before it in a memory request (R203). -/
def State.mergeRun (s : State) (site : Nat) (x : Stream) (sink : Bool) (pos : Nat) : State :=
  let d := s.die site
  let k := (if sink then 4 else 0) + x.desc.ch
  let linear : Option Nat :=
    if x.endpoint sink = 1 then some (x.place sink pos)
    else if x.endpoint sink = 0 then
      (s.handle site (if sink then x.desc.dhandle else x.desc.shandle)).bind (fun h =>
        if h.view = 0 ∧ h.kind ≠ 3 then some (h.base + x.place sink pos) else none)
    else none
  let n := x.desc.count 0
  if pos % n ≠ 0 then s
  else match linear with
    | none => s.setDie site { d with lastRuns := delKey d.lastRuns k }
    | some a =>
      let joins : Bool := match look d.lastRuns k with
        | none => false
        | some (b, m, i) =>
          decide (n < 4096) && decide (m < 4096) && a == b + m && decide (b / 4096 = (a + n - 1) / 4096) &&
            (i == x.index || (!x.desc.after && x.desc.swait == 0 && x.desc.dwait == 0))
      let s := s.setDie site { d with lastRuns := putKey d.lastRuns k (a, n, x.index) }
      if joins then s.addSat (STR_COUNT.MERGED site) 1 else s

/-! ## Window misses (R204) -/

/-- A run meets an entry without a translation: the channel halts, the cursor is saved, 0x0207 is raised, and the hub posts a
WINDOW_MISS record for the running pass. -/
def State.missHalt (s : State) (site : Nat) (x : Stream) (sink : Bool) (e ppa : Nat) : State :=
  let s := s.setStream site { x with halted := true, haltSink := sink, haltEntry := e }
  let s := (s.put (STR_FAULT.PPA site) ppa).haltedBits site
  let s := s.record { code := 0x0207, source := 1, node := site, unit := x.desc.ch, details := [ppa] }
  if !s.pass.running then s
  else
    let w0 := withField (withField (withField 0 62 56 2) 47 32 0x0207) 31 0 s.pass.tag
    let w2 := withField (withField (withField 0 63 56 site) 55 52 x.desc.ch) 11 0 e
    let c : Completion := { queue := s.get HUB_PASS.SQ, words := [w0, word s.isobar, w2, 0, 0, 0, 0, 0], irq := true, ok := true }
    { s with completions := s.completions ++ [c] }

/-! ## The source side of a run -/

/-- The code under which data marked poisoned discards a pass (R184): that of the store it came from. -/
def poisonCode (p : Nat) : Nat :=
  match ppaSpace p with
  | 0 => ueCode (storeOf (ppaOffset p))
  | 1 => 0x0305
  | _ => 0x0310

/-- Data that the engine has consumed: the pass is discarded where it is poisoned (R184). -/
def State.consumed (s : State) (p : Nat) (poison : Bool) : State := if poison then s.discardPass (poisonCode p) else s

/-- Fetch the pieces of a run in order; a window miss ends it (R204). The error code of a local word falls on the first piece. -/
def State.fetchPieces (site : Nat) : List Piece → Ecc → Stream → State → State
  | [], _, x, s => s.setStream site x
  | p :: ps, e, x, s =>
    if ppaSpace p.ppa = 0 ∧ ppaSite p.ppa = site then
      let r : State × List Nat × Bool :=
        match p.view with
        | none => s.readFor ⟨site, x.desc.ch⟩ p.ppa p.n e
        | some _ =>
          if s.gelatUp site then
            let ks := s.pieceBytes p
            (s.eccOn (ks.headD 0) e, ks.map s.byteAt, ks.any s.poisonAt)
          else s.readFor ⟨site, x.desc.ch⟩ p.ppa p.n e
      State.fetchPieces site ps .clean { x with queue := x.queue ++ [.data r.2.1 r.2.2], srcPos := x.srcPos + p.n } (r.1.consumed p.ppa r.2.2)
    else if ppaSpace p.ppa = 3 then
      match rwtEntry p.ppa with
      | none => State.fetchPieces site ps e { x with queue := x.queue ++ [.data (List.replicate p.n 0xFF) true], srcPos := x.srcPos + p.n }
          ((s.ppaInvalid ⟨site, x.desc.ch⟩ p.ppa false).discardPass 0x0310)
      | some en =>
        let r := s.rwtLookup site en
        match r.2.translateWord r.1.toNat (p.ppa % 2 ^ 21) false with
        | .miss => r.2.missHalt site x false en p.ppa
        | t =>
          let q := r.2.issue site (.engine x.index false) (t.node r.2) false p.ppa p.n [] false (some en) none
          State.fetchPieces site ps e { x with queue := x.queue ++ [.wait q.2 p.n], srcPos := x.srcPos + p.n } q.1
    else
      let q := s.issue site (.engine x.index false) (ppaNode p.ppa) false p.ppa p.n [] false none p.view
      State.fetchPieces site ps e { x with queue := x.queue ++ [.wait q.2 p.n], srcPos := x.srcPos + p.n } q.1

/-- One run of a source side, as far as queue room allows. -/
def State.sourceRun (s : State) (site : Nat) (x : Stream) (e : Ecc) : State :=
  let d := s.die site
  let n := Nat.min (x.desc.runLeft x.srcPos) (runAhead - d.queued x.desc.ch)
  if n = 0 ∨ x.srcPos ≥ x.desc.total then s
  else if x.desc.srcT = 6 then
    s.setStream site { x with queue := x.queue ++ [.data ((s.vector site x.desc.sv).read (x.place false x.srcPos) n) false], srcPos := x.srcPos + n }
  else if x.desc.srcT = 0 ∨ x.desc.srcT = 1 then
    State.fetchPieces site ((s.mergeRun site x false x.srcPos).runPieces site x false x.srcPos n) e x (s.mergeRun site x false x.srcPos)
  else s

/-! ## The sink side of a run -/

/-- The sink side has delivered n more bytes: the descriptor and STR_COUNT.KIB. -/
def State.delivered (s : State) (site : Nat) (x : Stream) (q : List Segment) (n : Nat) : State :=
  let d := (s.die site).setStream { x with queue := q, snkPos := x.snkPos + n }
  let d := { d with sunk := d.sunk + n }
  (s.setDie site d).put (STR_COUNT.KIB site) (d.sunk / 1024 % 2 ^ 32)

/-- Write a piece of this site's own Gelat, byte by byte through a view (R213). -/
def State.storePiece (s : State) (site : Nat) (x : Stream) (p : Piece) (data : List Nat) (poison : Bool) : State :=
  match p.view with
  | none => (s.writeMem ⟨site, x.desc.ch⟩ p.ppa data poison).1
  | some _ => ((s.pieceBytes p).zip data).foldl (fun s b => (s.writeMem ⟨site, x.desc.ch⟩ b.1 [b.2] poison).1) s

/-- Write the pieces of a run in order from the front of the queue; a window miss ends it. -/
def State.storePieces (site : Nat) : List Piece → Stream → State → State
  | [], _, s => s
  | p :: ps, x, s =>
    match takeBytes x.queue p.n with
    | none => s
    | some (data, poison, q) =>
      let go := fun (s : State) => s.delivered site x q p.n
      let x' : Stream := { x with queue := q, snkPos := x.snkPos + p.n }
      if ppaSpace p.ppa = 0 ∧ ppaSite p.ppa = site then State.storePieces site ps x' (go (s.storePiece site x p data poison))
      else if ppaSpace p.ppa = 3 then
        match rwtEntry p.ppa with
        | none => State.storePieces site ps x' (go (s.ppaInvalid ⟨site, x.desc.ch⟩ p.ppa true))
        | some en =>
          let r := s.rwtLookup site en
          match r.2.translateWord r.1.toNat (p.ppa % 2 ^ 21) true with
          | .miss => r.2.missHalt site x true en p.ppa
          | t => State.storePieces site ps x'
              (go (r.2.issue site (.engine x.index true) (t.node r.2) true p.ppa p.n data poison (some en) none).1)
      else State.storePieces site ps x' (go (s.issue site (.engine x.index true) (ppaNode p.ppa) true p.ppa p.n data poison none p.view).1)

/-- One run of a sink side, as far as data has arrived. -/
def State.sinkRun (s : State) (site : Nat) (x : Stream) : State :=
  if x.desc.dstT = 6 then
    match takeBytes x.queue 1024 with
    | none => s
    | some (b, p, q) => (s.delivered site x q 1024).localRecord site x.dbase (recordVals b) p
  else
    let n := Nat.min (x.desc.runLeft x.snkPos) (arrived x.queue)
    if n = 0 ∨ x.snkPos ≥ x.desc.total then s
    else if x.desc.dstT = 5 then
      match takeBytes x.queue n with
      | none => s
      | some (b, _, q) => (s.scratchWrite site x.desc.sv (x.place true x.snkPos) b).delivered site x q n
    else if x.desc.dstT = 0 ∨ x.desc.dstT = 1 then
      State.storePieces site ((s.mergeRun site x true x.snkPos).runPieces site x true x.snkPos n) x (s.mergeRun site x true x.snkPos)
    else s

/-- ENGINE_RUN (R194, R203, R204): one run of one side of a descriptor. The sides of plain streams move with ARRAY_ENTRY and
OUTPUT_RECORD_HANDOFF. -/
def execEngineRun (site d : Nat) (sink : Bool) (ecc : Ecc) (s : State) : Host.Outcome State Fault Refusal :=
  match (s.die site).stream d with
  | none => .next s
  | some x =>
    if (s.die site).stopped || (x.halted && x.haltSink == sink) then .next s
    else if sink then (if x.snkStarted then .next (s.sinkRun site x) else .next s)
    else if x.srcStarted then .next (s.sourceRun site x ecc) else .next s

/-! ## Limits -/

/-- DSC_MISS_TIMEOUT (R205): a channel that stays halted for MISS_TIMEOUT aborts the pass. -/
def execDscMissTimeout (site ch : Nat) (s : State) : Host.Outcome State Fault Refusal :=
  if (s.die site).streams.any (fun x => x.halted && x.desc.ch == ch) then
    .next (((s.strErr site 0x0208 0).record { code := 0x0208, source := 1, node := site, unit := ch, action := s.abortBit }).abortPass 0x0208 site)
  else .next s

/-- DSC_STALL (R201): a die that makes no progress for STALL_LIMIT cycles of a sweep, with no window miss outstanding. -/
def execDscStall (site : Nat) (s : State) : Host.Outcome State Fault Refusal :=
  if (s.die site).sweepRunning && !(s.die site).stopped && !(s.die site).streams.any (fun x => x.halted) then
    .next (((s.strErr site 0x0209 0).record { code := 0x0209, source := 1, node := site, action := s.abortBit }).abortPass 0x0209 site)
  else .next s

end Sys2Proof.Machine
end

