-- ==== Sys2Proof/Machine/Thermal.lean ====
section
/-! DEFINITION. Hot spots, die limits and coolant (11_heat_and_budget.md R406 to R424): the sensor samples and what follows from them. -/

namespace Sys2Proof.Machine

open Sys2Proof

/-! ## Hot spots (Table 11.1) -/

def spotKey (node spot : Nat) : Nat := node * 16 + spot
def State.spot (s : State) (node spot : Nat) : Spot := lookD {} s.thermal.spots (spotKey node spot)
def State.setSpot (s : State) (node spot : Nat) (x : Spot) : State :=
  { s with thermal := { s.thermal with spots := putKey s.thermal.spots (spotKey node spot) x } }

/-- How many spots a node has. -/
def spotCount (node : Nat) : Nat :=
  if node = 84 then 3 else if stackSite node then 8
  else if ringNode node then (match ringKind ((node - 169) % 11) with | 3 => 2 | 4 => 3 | _ => 1) else 0

/-- A spot with one sensor only: an HBM stack's or a guest's. -/
def singleSpot (node spot : Nat) : Bool :=
  ringNode node && (ringKind ((node - 169) % 11) == 5 || (ringKind ((node - 169) % 11) == 4 && decide (1 ≤ spot)))

/-- Byte i of a guest's capability block. -/
def State.guestByte (s : State) (g i : Nat) : Nat := bits (s.reg (GST_CAP.REG g (i / 8))).toNat (8 * (i % 8) + 7) (8 * (i % 8))

/-- T_TARGET, T_HOT and T_CRIT of a spot in 0.1 °C. -/
def State.spotLimits (s : State) (node spot : Nat) : Int × Int × Int :=
  if node = 84 then (950, 1050, 1150)
  else if node < 169 then (if spot < 6 then (900, 1000, 1100) else (850, 950, 1050))
  else if ringKind ((node - 169) % 11) = 5 then
    let g := (node - 169) / 11
    (10 * (s.guestByte g 10 : Int), 10 * (s.guestByte g 11 : Int), 10 * (s.guestByte g 12 : Int))
  else if singleSpot node spot then (850, 950, 1050) else (950, 1050, 1150)

/-! ## The model estimate (R408) -/

/-- The energy that a die's LSR has taken, in units of 10 pJ; the hub's is its segment's. -/
def State.lsrEnergy (s : State) (node : Nat) : Nat :=
  if node = 84 then lookD 0 s.power.eSeg 20 else if node < 169 then lookD 0 s.power.eStk node else lookD 0 s.power.eRing (node - 169)

/-- The energies of a die at the last 101 sensor samples, newest first. -/
def State.noteEnergy (s : State) (node : Nat) : State :=
  let l := (s.lsrEnergy node :: lookD [] s.thermal.energy node).take 101
  { s with thermal := { s.thermal with energy := putKey s.thermal.energy node l } }

/-- The 10 ms mean LSR input power of a die in mW. -/
def State.lsrPower (s : State) (node : Nat) : Nat :=
  let l := lookD [] s.thermal.energy node
  if l.length < 2 then 0 else (l.headD 0 - l.getLastD 0) / (10000 * (l.length - 1))

/-- T_in and T_out as every calculation uses them (R413), in 0.1 °C. -/
def State.tInUsed (s : State) : Int :=
  let t := s.thermal
  if !t.tInBad then t.tIn else if !t.tOutBad then t.tOut else 400

def State.tOutUsed (s : State) : Int :=
  let t := s.thermal
  if !t.tOutBad then t.tOut else if !t.tInBad then t.tIn else 650

/-- T_model of a spot in 0.1 °C. -/
def State.model (s : State) (node spot : Nat) : Int := s.tInUsed + (Config.theta node spot * s.lsrPower node / 100000 : Nat)

/-! ## Readings of one spot (R407, R408) -/

/-- A sensor reads outside −20 to 150 °C. -/
def outOfRange (x : Int) : Bool := decide (x < -200) || decide (1500 < x)

/-- Since which sample a condition has held. -/
def since (was : Option Nat) (now : Nat) (holds : Bool) : Option Nat := if holds then some (was.getD now) else none

/-- A condition has held for n samples. -/
def lasted (was : Option Nat) (now n : Nat) : Bool := match was with | none => false | some t => decide (t + n ≤ now)

/-- The distance of a reading from another. -/
def apart (x y : Int) : Nat := (x - y).natAbs

/-- FAILED marks of a sample, each with 0x0812. -/
def State.spotFail (s : State) (r : SpotReading) : State :=
  let x := s.spot r.node r.spot
  let a := !x.failA && outOfRange r.a
  let b := match r.b with | some v => !x.failB && outOfRange v | none => false
  let s := s.setSpot r.node r.spot { x with a := r.a, b := r.b.getD 0, failA := x.failA || a, failB := x.failB || b }
  let s := if a then s.raiseThermal 0x0812 r.node r.spot 0 false else s
  if b then s.raiseThermal 0x0812 r.node r.spot 0 false else s

/-- The control reading of a spot: the higher of two good sensors, the other of a bad one, the model plus 10 K where none is good. -/
def State.control408 (s : State) (r : SpotReading) (x : Spot) : Int × Bool :=
  let okA := !x.failA && !x.suspA
  let okB := r.b.isSome && !x.failB && !x.suspB
  if okA && okB then (max r.a (r.b.getD 0), false)
  else if okA then (r.a, false)
  else if okB then (r.b.getD 0, false)
  else (s.model r.node r.spot + 100, true)

/-- The pair rules of R408 for a spot with two sensors that are not FAILED. -/
def State.spotPair (s : State) (r : SpotReading) (now : Nat) : State :=
  let x := s.spot r.node r.spot
  match r.b with
  | none => s
  | some b =>
    if x.failA || x.failB then s
    else
      let d := apart r.a b
      let above4 := since x.above4 now (decide (40 < d))
      let below2 := since x.below2 now (decide (d ≤ 20))
      let good := !x.suspA && !x.suspB
      let above10 := since x.above10 now (good && decide (100 < d))
      let flag := lasted above4 now 100 && !x.flagged && good
      let s := s.setSpot r.node r.spot { x with above4 := above4, below2 := below2, above10 := above10, flagged := (x.flagged || flag) && !(lasted below2 now 10000) }
      let s := if flag then s.raiseThermal 0x0810 r.node r.spot 0 false else s
      if lasted above10 now 100 then
        let m := s.model r.node r.spot
        let markA := decide (apart r.a m > apart b m) || (apart r.a m == apart b m && decide (r.a ≤ b))
        let y := s.spot r.node r.spot
        let s := s.setSpot r.node r.spot { y with suspA := markA, suspB := !markA, above10 := none }
        s.raiseThermal 0x0811 r.node r.spot 0 false
      else s

/-- A reading above T_CRIT counts where the other sensor agrees or there is none (R409). -/
def critNow (x : Spot) (r : SpotReading) (now : Nat) (hot crit : Int) : Bool :=
  let okA := !x.failA && !x.suspA
  let okB := r.b.isSome && !x.failB && !x.suspB
  let a := okA && decide (crit < r.a) && lasted x.critA now 1 && (decide (hot < r.b.getD 0) && !x.failB || !okB)
  let b := okB && decide (crit < r.b.getD 0) && lasted x.critB now 1 && (decide (hot < r.a) && !x.failA || !okA)
  a || b

/-! ## Responses of the dies (R409 to R411) -/

/-- A stack's spot has reached T_CRIT (Table 11.2). -/
def State.stackCrit (s : State) (site spot : Nat) : State :=
  let whole := spot == 5 || spot == 7
  if s.flag (THM_STK.CRIT site) && (!whole || s.fenced site) then s
  else
    let s := s.put (THM_STK.CRIT site) 1
    if whole then
      let s := s.raiseThermal 0x0801 site spot (s.fenceBits site) false
      (s.powerDownAll site upOrder.reverse).fence site 0x0801
    else
      let s := (s.raiseThermal 0x0801 site spot (s.abortBit + 4) false).abortPass 0x0801 site
      (s.powerDownAll site [1, 0, 2]).unitLeaves site 0x0801 false

/-- A ring die's, HBM stack's, guest's or hub's spot has reached T_CRIT (Table 11.3). -/
def State.ringCrit (s : State) (node spot : Nat) : State :=
  if node = 84 then (s.raiseThermal 0x0806 84 spot s.leaveBit true).resetBy 11 0x0806 3
  else
    let crit := THM_RING.CRIT (node - 169)
    let kind := ringKind ((node - 169) % 11)
    if kind = 4 ∧ 1 ≤ spot then
      let k := 2 * ((indexOf? (fun d => dpdNode d == node) (below 16)).getD 0) + (spot - 1)
      if s.get (hbmStateLoc k) = 4 then s else ((s.put crit 1).raiseThermal 0x0806 node spot 0 false).hbmLeave k
    else if s.flag crit then s
    else if kind = 5 then ((s.put crit 1).raiseThermal 0x0806 node spot 0 false).guestLeave ((node - 169) / 11) 6
    else ((s.put crit 1).raiseThermal 0x0806 node spot (s.fenceBits node) false).fence node 0x0806

/-- What a control reading above T_HOT for 1 ms does, once per entry. -/
def State.hotEntry (s : State) (node spot : Nat) : State :=
  if node < 169 ∧ node ≠ 84 then (s.raiseThermal 0x0802 node spot 0 false).setDemand node { s.demand node with thermal := 12 }
  else s.raiseThermal 0x0805 node spot 0 false

/-- One spot of a sample. -/
def State.spotStep (s : State) (r : SpotReading) : State :=
  if spotCount r.node ≤ r.spot then s
  else
    let now := s.thermal.samples
    let r : SpotReading := if singleSpot r.node r.spot then { r with b := none } else r
    let s := s.spotFail r
    let x0 := s.spot r.node r.spot
    let c := s.control408 r x0
    let s := s.spotPair r now
    let lim := s.spotLimits r.node r.spot
    let x := s.spot r.node r.spot
    let hotAt := since x.hotAt now (decide (lim.2.1 < c.1))
    let entry := lasted hotAt now 10 && !x.hotDone
    let critA := since x.critA now (decide (lim.2.2 < r.a))
    let critB := since x.critB now (decide (lim.2.2 < r.b.getD 0))
    let x := { x with ctrl := c.1, blind := c.2, hotAt := hotAt, hotDone := (x.hotDone || entry) && hotAt.isSome }
    let x := { x with critA := critA, critB := critB }
    let s := s.setSpot r.node r.spot x
    let s := if c.2 && !x0.blind then s.raiseThermal 0x0813 r.node r.spot 0 false else s
    let s := if entry then s.hotEntry r.node r.spot else s
    if critNow x r now lim.2.1 lim.2.2 then (if r.node < 169 ∧ r.node ≠ 84 then s.stackCrit r.node r.spot else s.ringCrit r.node r.spot) else s

/-! ## What the registers show -/

/-- The spots of a node that have been sampled. -/
def State.knownSpots (s : State) (node : Nat) : List Nat := (below (spotCount node)).filter (fun i => (look s.thermal.spots (spotKey node i)).isSome)

def Spot.bad (x : Spot) : Nat := b2n (x.failA || x.suspA) + 2 * b2n (x.failB || x.suspB)

/-- A control reading of the node is above its T_HOT. -/
def State.nodeHot (s : State) (node : Nat) : Bool :=
  (s.knownSpots node).any (fun i => decide ((s.spotLimits node i).2.1 < (s.spot node i).ctrl))

/-- The hottest spot of a node. -/
def State.hottest (s : State) (node : Nat) : Nat × Int :=
  match s.knownSpots node with
  | [] => (0, 0)
  | i :: l => l.foldl (fun (b : Nat × Int) j => if b.2 < (s.spot node j).ctrl then (j, (s.spot node j).ctrl) else b) (i, (s.spot node i).ctrl)

/-- THM_STK, THM_RING or THM_HUB of a node follows its spots. -/
def State.thermShow (s : State) (node : Nat) : State :=
  let ks := s.knownSpots node
  let h := s.hottest node
  let tmax := unsigned 8 (h.2 / 10)
  let susp := sumNat (ks.map (fun i => (s.spot node i).bad * 4 ^ i))
  let hot := b2n (s.nodeHot node)
  if node = 84 then
    let w : Word := withField (withField (withField (withField (s.reg THM_HUB.REG) 63 56 tmax) 55 52 h.1) 39 32 susp) 0 0 hot
    s.setReg THM_HUB.REG w
  else if node < 169 then
    let s := ((s.put (THM_STK.TMAX node) tmax).put (THM_STK.SPOT node) h.1).put (THM_STK.SUSPECT node) susp
    let s := s.put (THM_STK.FLAGGED node) (maskOf (ks.filter (fun i => (s.spot node i).flagged)))
    (s.put (THM_STK.BLIND node) (maskOf (ks.filter (fun i => (s.spot node i).blind)))).put (THM_STK.HOT node) hot
  else
    let p := node - 169
    ((s.put (THM_RING.TMAX p) tmax).put (THM_RING.SPOT p) h.1).put (THM_RING.SUSPECT p) susp |>.put (THM_RING.HOT p) hot

/-- THM_PAIR for THM_SEL. -/
def State.pairShow (s : State) : State :=
  let node := s.get THM_SEL.NODE
  let i := s.get THM_SEL.SPOT
  if spotCount node ≤ i ∨ (look s.thermal.spots (spotKey node i)).isNone then s.setReg THM_PAIR.REG 0
  else
    let x := s.spot node i
    let s := s.put THM_PAIR.A (if x.failA then 0x8000 else unsigned 16 x.a)
    let s := s.put THM_PAIR.B (if x.failB || singleSpot node i then 0x8000 else unsigned 16 x.b)
    (s.put THM_PAIR.MODEL (unsigned 16 (s.model node i))).put THM_PAIR.CTRL (unsigned 16 x.ctrl)

/-- THERM_N (R412) with the counts of THM_STATUS. -/
def State.thermStatus (s : State) : State :=
  let sp := s.thermal.spots
  let hot := (sp.filter (fun p => decide ((s.spotLimits (p.1 / 16) (p.1 % 16)).2.1 < p.2.ctrl))).length
  let bad := sumNat (sp.map (fun p => popCount 2 p.2.bad))
  let s := (s.putSat THM_STATUS.HOT_SPOTS hot).putSat THM_STATUS.SUSPECT bad
  let on := decide (0 < hot) || s.flag THM_EMERG.ACTIVE
  let s := s.put THM_STATUS.EMERG (s.get THM_EMERG.ACTIVE)
  if s.flag THM_STATUS.THERM_N = on then s else (s.put THM_STATUS.THERM_N (b2n on)).send (.pin "THERM_N" (!on))

/-! ## Stacks (R409, R410, R429) -/

/-- The gating of a stack ends (R410): its domains are requested and its thermal demand is 6. -/
def State.gatingEnd (s : State) (site : Nat) : State :=
  let s := ((s.put (THM_STK.GATED site) 0).gatedShow).requestAll site [2, 0, 1]
  s.setDemand site { s.demand site with thermal := 6 }

/-- What a sample says about a whole stack. -/
def State.stackStep (s : State) (site : Nat) : State :=
  let now := s.thermal.samples
  let ks := s.knownSpots site
  let cool := fun (by_ : Int) => ks.all (fun i => decide ((s.spot site i).ctrl ≤ (s.spotLimits site i).1 - by_))
  let h := s.stackHeat site
  let hot12 := since h.hot12 now (s.nodeHot site && (s.demand site).thermal == 12)
  let h := { h with cool3 := since h.cool3 now (cool 30), cool10 := since h.cool10 now (cool 100), hot12 := hot12 }
  let gate := lasted hot12 now 1000 && !s.heatGated site
  let s := s.setHeat site { h with gateNext := h.gateNext || gate }
  if s.heatGated site && lasted h.cool10 now 1000 then s.gatingEnd site else s

/-- The domain demand of a die (Table 11.8): powers are those of its NR, SR and VC over the last 100 µs. -/
def State.domainDemand (s : State) (site : Nat) (ps : List DomainPower) : State :=
  let now := s.thermal.samples
  let mine := ps.filter (fun p => p.site == site && decide (p.dom ≤ 2))
  let d := s.demand site
  let u := s.updraft
  if mine.isEmpty then s
  else if mine.any (fun p => decide (s.domPowerCap site p.dom < p.mw)) then
    ({ s with updraft := { u with coolDomain := delKey u.coolDomain site } }).setDemand site { d with domain := sat 12 (d.domain + 1) }
  else if mine.all (fun p => decide (p.mw * 10 < 9 * s.domPowerCap site p.dom)) then
    let t := lookD now u.coolDomain site
    if t + 100 ≤ now then ({ s with updraft := { u with coolDomain := putKey u.coolDomain site now } }).setDemand site { d with domain := d.domain - 1 }
    else { s with updraft := { u with coolDomain := putKey u.coolDomain site t } }
  else { s with updraft := { u with coolDomain := delKey u.coolDomain site } }

/-- The nodes of a list of readings, once each. -/
def readNodes (l : List SpotReading) : List Nat := l.foldl (fun m r => markIn m r.node) []

/-- The spots of the guests that are UP (R569): one with no report for 1 ms is FAILED, and a FAILED one goes on as a blind spot (R407, R408). -/
def State.guestSpots (s : State) : State :=
  (below 4).foldl (fun s g =>
    let n := guestNode g
    if !s.guestUp g then s
    else
      let s := s.noteEnergy n
      let x := s.spot n 0
      if !x.failA && decide (s.thermal.samples < (s.guest g).heard + 10) then s
      else
        let s := if x.failA then s else (s.setSpot n 0 { x with failA := true }).raiseThermal 0x0812 n 0 0 false
        (s.spotStep { node := n, spot := 0, a := 0 }).thermShow n) s

/-- GUEST_TEMP_REPORT (R569): the temperature of a guest that is UP, in 0.1 °C. -/
def execGuestTempReport (g : Nat) (temp : Int) (s : State) : Host.Outcome State Fault Refusal :=
  if 4 ≤ g ∨ ¬ s.guestUp g then .next s
  else
    let s := s.setGuest g { s.guest g with heard := s.thermal.samples }
    .next ((s.spotStep { node := guestNode g, spot := 0, a := temp }).thermShow (guestNode g)).thermStatus

/-- SENSOR_SAMPLE (R407 to R411, R429): every 100 µs the sensors of the dies that have power. -/
def execSensorSample (readings : List SpotReading) (powers : List DomainPower) (s : State) : Host.Outcome State Fault Refusal :=
  if !s.hubRuns then .next s
  else
    let s := { s with thermal := { s.thermal with samples := s.thermal.samples + 1 } }
    let nodes := (readNodes readings).filter (fun n => decide (0 < spotCount n) && (n == 84 || (decide (169 ≤ n) && !singleSpot n 0) || s.powered n))
    let s := nodes.foldl (fun s n => s.noteEnergy n) s
    let s := (readings.filter (fun r => nodes.contains r.node)).foldl (fun s r => s.spotStep r) s
    let s := nodes.foldl (fun s n => s.thermShow n) s
    let s := (nodes.filter (fun n => decide (n < 169) && n != 84)).foldl (fun s n => s.stackStep n) s
    let s := s.servingStacks.foldl (fun s n => s.domainDemand n powers) s
    .next s.guestSpots.pairShow.thermStatus

/-- THERMAL_DEMAND_STEP (R409): the 1 ms step of a stack, which raises its demand, or its 10 ms step (fall), which lowers it. -/
def execThermalDemandStep (site : Nat) (fall : Bool) (s : State) : Host.Outcome State Fault Refusal :=
  if !s.powered site then .next s
  else
    let d := s.demand site
    if fall then
      .next (if lasted (s.stackHeat site).cool3 s.thermal.samples 100 then s.setDemand site { d with thermal := d.thermal - 1 } else s)
    else
      .next (if (s.knownSpots site).any (fun i => decide ((s.spotLimits site i).1 < (s.spot site i).ctrl)) then
        s.setDemand site { d with thermal := sat 12 (d.thermal + 1) } else s)

/-! ## Coolant (R413 to R418) -/

/-- F_DP in 0.1 L/min for ΔP in 0.1 kPa (R415). -/
def flowFromDp (dp : Nat) : Nat := isqrt (Config.kDp * Config.kDp * dp / 100000)

/-- A flow sensor counts: neither failed nor suspect. -/
def ThermalState.okA (t : ThermalState) : Bool := !t.failA && !t.suspA
def ThermalState.okB (t : ThermalState) : Bool := !t.failB && !t.suspB

/-- Sensors outside their valid range fail (R413). -/
def ThermalState.markRange (t : ThermalState) (r : CoolantReading) : ThermalState :=
  let out (x lo hi : Int) : Bool := decide (x < lo) || decide (hi < x)
  let t := { t with tIn := r.tIn, tOut := r.tOut, tInBad := t.tInBad || out r.tIn (-100) 900, tOutBad := t.tOutBad || out r.tOut (-100) 900 }
  { t with failA := t.failA || out r.flowA 0 800, failB := t.failB || out r.flowB 0 800, dpBad := t.dpBad || out r.dp 0 2500 }

/-- F_ctl in 0.1 L/min (R415). -/
def ThermalState.flow (t : ThermalState) (a b fdp : Nat) : Nat :=
  if t.okA && t.okB then Nat.min a b else if t.okA then a else if t.okB then b else if t.dpBad then 0 else fdp

/-- HEAT_CAP in W for F_ctl in 0.1 L/min and T_in in 0.1 °C (R416). -/
def heatCapOf (f : Nat) (tIn : Int) : Nat :=
  if 450 ≤ tIn then 0
  else if 400 < tIn then nearest (f * 31768 * (450 - tIn).toNat) (600 * 50)
  else nearest (f * 31768) 600

/-- The disagreement of the flow sensors (R415). -/
def State.flowPair (s : State) (a b fdp : Nat) : State :=
  let t := s.thermal
  let now := t.coolant
  if !(t.okA && t.okB) then
    ({ s with thermal := { t with apart4 := none, close2 := none, apart8 := none } }).put THM_STATUS.FLOW_FLAG 0
  else
    let d := apart a b
    let t := { t with apart4 := since t.apart4 now (decide (40 < d)), close2 := since t.close2 now (decide (d ≤ 20)), apart8 := since t.apart8 now (decide (80 < d)) }
    let flag := s.flag THM_STATUS.FLOW_FLAG
    let s := { s with thermal := t }
    let s :=
      if lasted t.apart4 now 1000 && !flag then (s.put THM_STATUS.FLOW_FLAG 1).raiseThermal 0x0820 0xFF 0xFF 0 false
      else if flag && lasted t.close2 now 10000 then s.put THM_STATUS.FLOW_FLAG 0 else s
    if lasted t.apart8 now 1000 && !t.dpBad then
      let markA := decide (apart a fdp > apart b fdp) || (apart a fdp == apart b fdp && decide (b ≤ a))
      let s := { s with thermal := { s.thermal with suspA := markA, suspB := !markA, apart4 := none, close2 := none, apart8 := none } }
      (s.put THM_STATUS.FLOW_FLAG 0).raiseThermal 0x0821 0xFF 0xFF 0 false
    else s

/-- The emergency is armed (R420): WARM, SERVING, and every transition to or from either. -/
def State.armed (s : State) : Bool :=
  let p := s.get RST_STATUS.PSTATE
  p == 3 || p == 4 || (match s.trans with | some t => decide (3 ≤ t.target ∧ t.target ≤ 4) || decide (3 ≤ t.start ∧ t.start ≤ 4) | none => false)

/-- The emergency conditions of a sample (R420): bit 0 flow low, bit 1 flow collapse, bit 2 outlet hot. t holds the marks made before
the sample. -/
def emergencyCond (t : ThermalState) (a b fdp : Nat) (tOut : Int) : Nat :=
  let ws : List (Nat × Nat) := (if t.okA then [(a, maxNat (t.hist.map (·.1)))] else []) ++ (if t.okB then [(b, maxNat (t.hist.map (·.2.1)))] else []) ++
    (if t.dpBad then [] else [(fdp, maxNat (t.hist.map (·.2.2)))])
  let need := Nat.min 2 ws.length
  let low := decide (need ≤ (ws.filter (fun w => decide (w.1 < 80))).length)
  let collapse := !ws.isEmpty && decide (need ≤ (ws.filter (fun w => decide (160 ≤ w.2) && decide (2 * w.1 < w.2))).length)
  b2n low + 2 * b2n collapse + 4 * b2n (decide (650 < tOut))

/-- Every Gale link goes to DISABLED at once, and no conduit is closed first (Table 11.6 step 4): a conduit stands as it is, with nothing
to send on. -/
def State.galeDrop (s : State) : State :=
  let s := (s.gale.map (·.1)).foldl (fun s l => if s.linkSt l = 9 ∨ s.linkSt l = 0 then s else (s.leaveUp l 0).put (GAL_LSTATUS.RATE l) 0) s
  (s.conduits.map (·.1)).foldl (fun s c => if s.cndState c = 0 then s else s.cndEnd c 0) s

/-- Edge dies, guest sites and module supplies switch off. -/
def State.ringOff (s : State) : State :=
  let s := s.modulesStop
  let s := (below 24).foldl (fun s e => s.powerDownAll (edgeNode e) (domsOf (edgeNode e))) s
  (below 4).foldl (fun s g => (s.guestOff g).powerDown (guestNode g) 0) s

/-- Steps 2 to 4 of Table 11.6, and the way down to RETAINED that steps 5 to 7 are. -/
def State.emergencyStop (s : State) : State :=
  let run := s.pass.running
  let s := s.abortPass 0x0830 0xFF
  let s := if run && s.get HUB_PASS.STATE != 4 then s.startDrain 0x13 else s
  let s := if run then s.collSuspend else s
  let s := (stackSites.filter s.powered).foldl (fun s x => if run then s.stopDie x else s) s
  let queued := s.power.reqs
  let s := queued.foldl (fun s r => ((s.dropReq r.node r.dom).put (domLoc r.node r.dom) 0).raiseDomain 0x0719 r.node r.dom 0) s
  let s := stackSites.foldl (fun s x => s.powerDownAll x [1, 0, 2]) s
  (s.galeDrop.ringOff).goDown 2

/-- A coolant emergency is detected (R420, R421). -/
def State.emergency (s : State) (cond : Nat) : State :=
  if s.flag THM_EMERG.ACTIVE then s.put THM_EMERG.CAUSE (s.get THM_EMERG.CAUSE ||| cond)
  else
    let s := ((s.put THM_EMERG.ACTIVE 1).put THM_EMERG.CAUSE cond).put THM_EMERG_TIME.TIME s.isobar
    let s := (s.addSat THM_EMERG.COUNT 1).hubEvent HUB_EVENT.EMERG
    let s := { s with thermal := { s.thermal with recoverAt := none } }
    let s := (s.raiseThermal 0x0830 0xFF 0xFF (s.abortBit + s.leaveBit) false).put THM_COOLANT2.FLOWREQ 1000
    s.thermStatus.commitHazard.emergencyStop

/-- A warning flag of THM_STATUS with its code, once per entry (R417). -/
def State.warn (s : State) (l : Loc) (on : Bool) (code : Nat) : State :=
  let was := s.flag l
  let s := s.put l (b2n on)
  if on && !was then s.raiseThermal code 0xFF 0xFF 0 false else s

/-- Heat limited (R417), while the hub core runs. -/
def State.heatLimited (s : State) : State :=
  let now := s.thermal.coolant
  let l := s.rateInputs
  let cap := nth 0 l 3
  let least := decide (cap ≤ s.target.1)
  let t := s.thermal
  let limitedAt := since t.limitedAt now least
  let otherAt := since t.otherAt now (!least)
  let raise := lasted limitedAt now 10000 && !t.limitedRaised
  let s := { s with thermal := { t with limitedAt := limitedAt, otherAt := otherAt, limitedRaised := (t.limitedRaised || raise) && !(lasted otherAt now 10000) } }
  let s := s.put THM_STATUS.HEAT_LIMITED (b2n least)
  if raise then s.raiseThermal 0x0822 0xFF 0xFF 0 false else s

/-- Heat cap low (R417): after 10 s in WARM or SERVING the panel goes to RETAINED. -/
def State.heatCapLow (s : State) : State :=
  let now := s.thermal.coolant
  let low := decide (s.get THM_HEAT.HEAT_CAP < 3000)
  let s := s.put THM_STATUS.HEAT_CAP_LOW (b2n low)
  let t := s.thermal
  let at_ := since t.capLowAt now (low && s.linksRun)
  let raise := lasted at_ now 10000 && !t.capLow
  let s := { s with thermal := { t with capLowAt := at_, capLow := (t.capLow || raise) && at_.isSome } }
  if raise then (s.raiseThermal 0x0826 0xFF 0xFF s.leaveBit false).goDown 2 else s

/-- The flow asked for in 0.001 L/min (Table 11.5). -/
def State.flowWanted (s : State) : Nat :=
  let p := s.get RST_STATUS.PSTATE
  if s.flag THM_STATUS.THERM_N then 40000
  else
    let base := if p = 2 ∨ p = 3 ∨ p = 4 then 10000 else 8000
    let run := if s.linksRun then Nat.min s.pWant (s.updraft.rate / 1000 + 4000) * 60000 / 27797 else 0
    Nat.min 40000 (maxNat [base, run, 40 * s.get THM_CTRL.FLOW_FLOOR])

/-- FLOWREQ (R418): an increase at once, a decrease by at most 0.1 % in 10 ms. -/
def State.flowRequest (s : State) : State :=
  let w := s.flowWanted
  let want := nearest w 40
  let duty := s.get THM_COOLANT2.FLOWREQ
  let s := s.put THM_HEAT.F_REQ (nearest w 100)
  let n := s.thermal.slew + 1
  if duty ≤ want then ({ s with thermal := { s.thermal with slew := 0 } }).put THM_COOLANT2.FLOWREQ want
  else if 10 ≤ n then ({ s with thermal := { s.thermal with slew := 0 } }).put THM_COOLANT2.FLOWREQ (duty - 1)
  else { s with thermal := { s.thermal with slew := n } }

/-- Recovery (R423) and stagnant coolant (R424). -/
def State.recovery (s : State) (f : Nat) : State :=
  let t := s.thermal
  let now := t.coolant
  let at_ := since t.recoverAt now (s.flag THM_EMERG.ACTIVE && decide (200 ≤ f) && decide (s.tOutUsed < 600))
  let s := { s with thermal := { t with recoverAt := at_, flowAt := since t.flowAt now (decide (80 ≤ f)) } }
  let ready := lasted at_ now 10000
  let s := if ready && !s.flag THM_EMERG.READY then s.hubEvent HUB_EVENT.EMERG else s
  let s := s.put THM_EMERG.READY (b2n ready)
  let p := s.get RST_STATUS.PSTATE
  let st := since s.thermal.stagnantAt now ((p == 2 || p == 6) && !s.armed && decide (f < 80))
  let s := { s with thermal := { s.thermal with stagnantAt := st } }
  if lasted st now 5000 then
    let s := (s.put THM_EMERG.CAUSE (s.get THM_EMERG.CAUSE ||| 8)).put THM_EMERG_TIME.TIME s.isobar
    (({ s with thermal := { s.thermal with stagnantAt := none } }).raiseThermal 0x0831 0xFF 0xFF 0 true).resetBy 12 0x0831 3
  else s

/-- COOLANT_SAMPLE (R413 to R424): every 1 ms, in every state but OFF. -/
def execCoolantSample (r : CoolantReading) (s : State) : Host.Outcome State Fault Refusal :=
  if s.get RST_STATUS.PSTATE = 0 then .next s
  else
    let t0 := s.thermal
    let a := r.flowA.toNat
    let b := r.flowB.toNat
    let fdp := flowFromDp r.dp.toNat
    let t := t0.markRange r
    let s := { s with thermal := { t with coolant := t.coolant + 1 } }
    let s := s.flowPair a b fdp
    let t := s.thermal
    let f : Nat := t.flow a b fdp
    let product := (f : Int) * (s.tOutUsed - s.tInUsed) * 3971
    let heat : List Int := (product :: t.heat).take 1000
    let cond := if s.armed then emergencyCond t0 a b fdp s.tOutUsed else 0
    let found := cond != 0 && t0.cond != 0
    let s := { s with thermal := { t with heat := heat, cond := cond, hist := ((a, b, fdp) :: t.hist).take 500 } }
    let s := ((s.put THM_COOLANT.T_IN (unsigned 16 r.tIn)).put THM_COOLANT.T_OUT (unsigned 16 r.tOut)).put THM_COOLANT.FLOW_A (unsigned 16 r.flowA)
    let s := ((s.put THM_COOLANT.FLOW_B (unsigned 16 r.flowB)).put THM_COOLANT2.DP (unsigned 16 r.dp)).putSat THM_COOLANT2.F_DP fdp
    let s := (s.put THM_COOLANT2.F_CTL f).putSat THM_HEAT.HEAT_CAP (heatCapOf f s.tInUsed)
    let s := s.putSat THM_HEAT.HEAT_W ((heat.foldl (· + ·) (0 : Int)) / ((6000 * heat.length : Nat) : Int)).toNat
    let s := (s.put THM_STATUS.DP_BAD (b2n t.dpBad)).put THM_STATUS.FLOW_A_BAD (b2n !t.okA)
    let s := s.put THM_STATUS.FLOW_B_BAD (b2n !t.okB)
    let s := s.warn THM_STATUS.INLET_LOW (decide (s.tInUsed < 170)) 0x0824
    let s := s.warn THM_STATUS.INLET_HIGH (decide (400 < s.tInUsed)) 0x0823
    let s := s.warn THM_STATUS.OUTLET_HIGH (decide (600 < s.tOutUsed)) 0x0825
    let s := if found then s.emergency cond else s
    let s := if s.hubRuns ∧ s.get RST_STATUS.PSTATE ≠ 6 then s.heatLimited else s
    .next ((s.heatCapLow.flowRequest).recovery f).progress

/-- EMERGENCY_EFUSE_CHECK (R422): 100 ms after the detection. -/
def execEmergencyEfuseCheck (s : State) : Host.Outcome State Fault Refusal :=
  if s.flag THM_EMERG.ACTIVE ∧ 600 < s.get PWR_INPUT.PIN then
    let s := ({ s with power := { s.power with openA := true, openB := true, lostA := true, lostB := true } }).barShow
    .next (s.resetBy 12 0x0830 3)
  else .next s

/-- THM_EMERG_CLEAR (R423): ignored while READY is 0. -/
def execThmEmergClear (_who : Requester) (value : Nat) (s : State) : Host.Outcome State Fault Refusal :=
  s.atDawn <|
  if bit value 10 && s.flag THM_EMERG.READY then
    let s := (s.put THM_EMERG.ACTIVE 0).put THM_EMERG.READY 0
    .next ({ s with thermal := { s.thermal with recoverAt := none } }).thermStatus
  else .next s

/-- CLEAR_SUSPECT (R415): a write of THM_CTRL, with its floor. -/
def execClearSuspect (_who : Requester) (value : Nat) (s : State) : Host.Outcome State Fault Refusal :=
  s.atDawn <|
  let s := s.put THM_CTRL.FLOW_FLOOR (Nat.min 1000 (Nat.max 200 (bits value 9 0)))
  if bit value 16 then
    let t := s.thermal
    let t := { t with tInBad := false, tOutBad := false, failA := false, failB := false, suspA := false, suspB := false, dpBad := false }
    let s := { s with thermal := { t with apart4 := none, close2 := none, apart8 := none } }
    .next (((s.put THM_STATUS.DP_BAD 0).put THM_STATUS.FLOW_A_BAD 0).put THM_STATUS.FLOW_B_BAD 0)
  else .next s

/-- THM_EVENT_READ (R437, R51). -/
def execThmEventRead (who : Requester) (bytes half : Nat) (s : State) : Host.Outcome State Fault Refusal :=
  s.atDawn <|
  let r := s.readLog THM_EVENT.REG bytes half
  .next (r.2.send (.readData who (THM_EVENT.REG + 4 * half) bytes r.1.toNat false))

end Sys2Proof.Machine
end

