-- ==== Sys2Proof/Machine/Access.lean ====
section
/-! DEFINITION. Reads and writes of the registers (R10 to R18, R49, R505, R549, R550, R591): which accesses are accepted, what each field does
by its type, and the registers whose writes and reads have a behaviour of their own. BAR2 stands from address 0x4000000 on. -/

namespace Sys2Proof.Machine

open Sys2Proof

/-- The indices of a register's copy, one for each of its dimensions. -/
def dimsIndex : List RegDim → Nat → List Nat
  | [], _ => []
  | d :: ds, off => off / d.stride :: dimsIndex ds (off % d.stride)

/-- Index k of the copy of a register at an address. -/
def RegDesc.index (d : RegDesc) (addr k : Nat) : Nat := nth 0 (dimsIndex d.dims (addr - d.base)) k

/-! ## Fields by type (Table 0.8) -/

/-- A register's word after a write of a value: each field as its type says. -/
def writeFields (d : RegDesc) (old value : Word) : Word :=
  d.fields.foldl (fun w f =>
    let o := fieldOf old f.hi f.lo
    let v := fieldOf value f.hi f.lo
    match f.type with
    | .rw => withField w f.hi f.lo v
    | .w1c => withField w f.hi f.lo (o ^^^ (o &&& v))
    | .w1s => withField w f.hi f.lo (o ||| v)
    | _ => w) old

/-- What a read returns of a register's word: a write-only or reserved field reads 0. -/
def readFields (d : RegDesc) (w : Word) : Word :=
  d.fields.foldl (fun r f => if f.type = .wo then r else withField r f.hi f.lo (fieldOf w f.hi f.lo)) 0

/-- A field that stores at least n, and one that stores at most n. -/
def Loc.least (l : Loc) (n : Nat) (w : Word) : Word := withField w l.hi l.lo (Nat.max n (fieldOf w l.hi l.lo))
def Loc.most (l : Loc) (n : Nat) (w : Word) : Word := withField w l.hi l.lo (Nat.min n (fieldOf w l.hi l.lo))

/-- The limits that the register tables give for values written. -/
def storeLimits (base : Nat) (w : Word) : Word :=
  if base = SDG_CFG.REG then SDG_CFG.SUSPECT_LIMIT.least 1 (SDG_CFG.VOTE_LIMIT.least 1 w)
  else if base = GAL_TIMERS.REG then GAL_TIMERS.RTO.least 1 (GAL_TIMERS.RETRIES.least 1 (GAL_TIMERS.DEAD_LIMIT.least 1 w))
  else if base = STR_CFG.REG 0 then (STR_CFG.MISS_TIMEOUT 0).least 1 ((STR_CFG.STALL_LIMIT 0).least 0x10000 w)
  else if base = GLT_SCRUB.REG 0 then (GLT_SCRUB.INTERVAL 0).least 0x40 w
  else if base = MSH_CFG.REG then MSH_CFG.DL_LIMIT.least 0x10000 w
  else if base = MSH_TIMER.REG then MSH_TIMER.RED_LIMIT.least 0x10000 (MSH_TIMER.RSP_LIMIT.least 0x10000 w)
  else if base = UPD_CTRL.REG then UPD_CTRL.HOST_CAP.most 18000 (UPD_CTRL.HOST_CAP.least 3000 w)
  else if base = UPD_CFG.REG then
    UPD_CFG.RAMP_UP.most 2000 (UPD_CFG.RAMP_UP.least 1 (UPD_CFG.WINDOW.most 10000 (UPD_CFG.WINDOW.least 10 w)))
  else if base = OVC_ARM_CFG.REG then OVC_ARM_CFG.LEAD.most 100000000 (OVC_ARM_CFG.LEAD.least 150000 w)
  else if base = HUB_SPARE_CFG.REG then HUB_SPARE_CFG.HOST_LIMIT.least 1 w
  else w

/-- A write to a register without a behaviour of its own. -/
def State.plainWrite (s : State) (d : RegDesc) (addr value : Nat) : State :=
  s.setReg addr (storeLimits d.base (writeFields d (s.reg addr) (word value)))

/-! ## Registers whose writes act -/

/-- CCO_WDOG (R168, R170): the owning core changes PERIOD, at least 100. -/
def State.wdogWrite (s : State) (who : Requester) (site c value : Nat) : State :=
  if who = .core site c then s.put (CCO_WDOG.PERIOD site c) (Nat.max 100 (bits value 31 0)) else s

/-- LEN_CTRL (R355, R358): ALLOW_UNAUTH is stored and lets the links of an untrusted module start; QUIESCE and RESUME act. -/
def lenCtrlWrite (who : Requester) (k value : Nat) (s : State) : Host.Outcome State Fault Refusal :=
  s.atHub who (LEN_CTRL.REG k) <|
  let s := (s.put (LEN_CTRL.ALLOW_UNAUTH k) (bits value 2 2)).moduleLinks k
  match (if bit value 1 then execLenQuiesce who k s else .next s) with
  | .next t => if bit value 0 then execLenResume who k t else .next t
  | o => o

/-- OVC_CTRL (R477, R480): ABANDON, then LOAD. -/
def ovcCtrlWrite (who : Requester) (value : Nat) (s : State) : Host.Outcome State Fault Refusal :=
  s.atHub who OVC_CTRL.REG <|
  let s := if bit value 1 then s.imageAbandon else s
  .next (if bit value 0 then s.imageLoad else s)

/-- RST_FW_SRC and RST_FW_LEN: ignored while BUSY; a write makes the authenticated source stale (R518). -/
def State.fwSourceWrite (s : State) (d : RegDesc) (addr value : Nat) : State :=
  if s.flag RST_FW_STATUS.BUSY then s
  else ({ s.plainWrite d addr value with fw := { s.fw with stale := true } } : State).put RST_FW_STATUS.AUTH_OK 0

/-- The writes that act, of the registers of a site's window; b is the register's base, site and i its first two indices. -/
def siteWrite (who : Requester) (b site i j value : Nat) (s : State) : Option (Host.Outcome State Fault Refusal) :=
  if b = MXA_CTRL.REG 0 0 then some (execRerunGo who site i value s)
  else if b = MXA_ROWCTL.REG 0 then some (execRowGo who site value s)
  else if b = MXA_ROWMAP.REG 0 then some (execMxaRowmapWrite who site value s)
  else if b = MXA_THROTTLE.REG 0 then some (execMxaThrottleWrite who site value s)
  else if b = MXA_UCODE.REG 0 0 then some (execUcodeWrite who site i value s)
  else if b = VCO_CTRL.REG 0 0 then some (execVcoGo who site i value s)
  else if b = VCO_MODE.REG 0 then some (execVcoModeWrite who site value s)
  else if b = CCO_FW.REG 0 0 then some (execCcoFwWrite who site i value s)
  else if b = CCO_WDOG.REG 0 0 then some (s.atSite who (CCO_WDOG.REG site i) site (.next (s.wdogWrite who site i value)))
  else if b = CCO_WDOG_KICK.REG 0 0 then some (execCcoWdogKick who site i s)
  else if b = CCO_FATAL.REG 0 0 then some (execCcoFatalWrite who site i value s)
  else if b = CCO_MBX_IN_PUSH.REG 0 0 then some (execCcoMbxInPush who site i value s)
  else if b = CCO_MBX_OUT_POP.REG 0 0 then some (execCcoMbxOutPop who site i value s)
  else if b = STR_LIST.REG 0 then some (execDescriptorListAdmit who site value s)
  else if b = BHT_ENTRY.REG 0 0 0 then some (execBhtWrite who site i j value s)
  else if b = GLT_REPAIR.REG 0 ∧ bit value 0 then some (execGltRepairRetry who site s)
  else if b = GLT_CTRL.REG 0 ∧ s.fwOwned who site then some (s.atSite who (GLT_CTRL.REG site) site (.next (s.fwRefused site)))
  else if b = SIT_RTE.REG 0 0 then some (execRouteTableWrite who site i value false s)
  else if b = SIT_MCAST.REG 0 0 then some (execRouteTableWrite who site i value true s)
  else if b = SIT_TREE_W0.REG 0 0 then some (execTreeEntryWrite who site i value s)
  else if b = SIT_RED_DRAIN.REG 0 then some (execRedDrainWrite who site value s)
  else none

/-- The writes that act, of the hub's queues, mesh, Sundog, stores and clocks. -/
def hubWrite (who : Requester) (b i j value : Nat) (s : State) : Option (Host.Outcome State Fault Refusal) :=
  if b = SQ_CTRL.REG 0 then some (execSqEnable who i value s)
  else if b = SQ_DB.REG 0 then some (execSqDoorbell who i value s)
  else if b = CQ_BASE.REG 0 then some (execSqCqConfig who i true value s)
  else if b = CQ_PTR.REG 0 then some (execCqHeadWrite who i value s)
  else if b = DPD_GOLD.REG 0 0 then some (execDpdGoldWrite who (2 * i + j) value s)
  else if b = HUB_RWT.REG 0 then some (execHubRwtWrite who i value s)
  else if b = HUB_RWT_SYNC.REG then some (execHubRwtSync who value s)
  else if b = MSH_STATUS.REG then some (execMshVerify who value s)
  else if b = MSH_HRTE.REG 0 then some (execRouteTableWrite who 84 i value false s)
  else if b = BAR_RD_SEQ.REG then some (execBarRdSeqWrite who value s)
  else if b = PWR_SNAP.REG then some (execPwrSnap who value s)
  else if b = THM_EMERG.REG then some (execThmEmergClear who value s)
  else if b = THM_CTRL.REG then some (execClearSuspect who value s)
  else if b = CLK_OP_REQ.REG then some (execOpChangeRequest who value s)
  else if b = ISB_PTP_CFG.REG then some (execPtpEnable who value s)
  else none

/-- The writes that act, of the Gale blocks. -/
def galeWrite (who : Requester) (b i j value : Nat) (s : State) : Option (Host.Outcome State Fault Refusal) :=
  if b = GAL_LCTRL.REG 0 then some (execLinkEnable who i value s)
  else if b = GAL_PANEL.REG then some (execGalPanelWrite who value s)
  else if b = GAL_CND_CFG.REG 0 then some (execConduitCfgWrite who (8 * i + j) 0 value s)
  else if b = GAL_CND_WBASE.REG 0 then some (execConduitCfgWrite who (8 * i + j) 1 value s)
  else if b = GAL_CND_WSIZE.REG 0 then some (execConduitCfgWrite who (8 * i + j) 2 value s)
  else if b = GAL_CND_RXBASE.REG 0 then some (execConduitCfgWrite who (8 * i + j) 3 value s)
  else if b = GAL_CND_RX.REG 0 then some (execRxHeadWrite who (8 * i + j) value s)
  else if b = GAL_CND_SCTL.REG 0 then some (execConduitSendGo who (8 * i + j) value s)
  else if b = GAL_COLL_W0.REG 0 0 then some (execCollSlotWrite who i j 0 value s)
  else if b = GAL_COLL_W1.REG 0 0 then some (execCollSlotWrite who i j 1 value s)
  else if b = GAL_COLL_W2.REG 0 0 then some (execCollSlotWrite who i j 2 value s)
  else if b = LEN_CTRL.REG 0 then some (lenCtrlWrite who i value s)
  else none

/-- The writes that act, of images, reset, spares, the host interface and guests. -/
def panelWrite (who : Requester) (b i value : Nat) (s : State) : Option (Host.Outcome State Fault Refusal) :=
  if b = OVC_CTRL.REG then some (ovcCtrlWrite who value s)
  else if b = RST_CTRL.REG then some (execResetRequest who value s)
  else if b = RST_PWR_REQ.REG then some (execPowerStateRequest who value s)
  else if b = RST_PARK.REG then some (execRstPark who value s)
  else if b = RST_FW_CTRL.REG then some (s.atHub who RST_FW_CTRL.REG (.next (s.fwCtrl value)))
  else if b = DWN_DOLD.REG then some (execDoldrumsExit who value s)
  else if b = HUB_SPARE_CTRL.REG then some (s.atHub who HUB_SPARE_CTRL.REG (.next (s.writeSpareCtrl value)))
  else if b = HUB_B4AP.REG 0 then some (execB4apWrite who i value s)
  else if b = GST_CTRL.REG 0 then some (s.atHub who (GST_CTRL.REG i) (.next (s.guestCtrl i value)))
  else if b = HUB_SMB_CMD.REG then some (s.atHub who HUB_SMB_CMD.REG (.next (s.smbCmd value)))
  else if b = HUB_MGT_KEY.REG 0 then some (execMgmtKeyWrite who i value s)
  else if b = HUB_MGT_IP.REG 0 then some (s.atHub who (HUB_MGT_IP.REG i) (.next (s.ipWrite i value)))
  else if b = HUB_MGT_CPER.REG then some (s.atHub who HUB_MGT_CPER.REG (.next (s.cperWrite value)))
  else none

/-- The write of a register that acts, where it has one. -/
def ownWrite (who : Requester) (d : RegDesc) (addr value : Nat) (s : State) : Option (Host.Outcome State Fault Refusal) :=
  let i := d.index addr 0
  let j := d.index addr 1
  if 0x1000000 ≤ addr ∧ addr < 0x4000000 then siteWrite who d.base i j (d.index addr 2) value s
  else (hubWrite who d.base i j value s).or ((galeWrite who d.base i j value s).or (panelWrite who d.base i value s))

/-! ## Where an access lands -/

/-- The MSI-X table and the pending-bit array (R549, R550). -/
def msixArea (addr : Nat) : Bool := (decide (0x1000 ≤ addr) && decide (addr < 0x2000)) || (decide (0x2000 ≤ addr) && decide (addr < 0x2020))

/-- The submission slots of a queue in BAR2 (Table 5.1): the key of a byte in State.slots. -/
def slotKey (addr : Nat) : Option Nat := if 0x4010000 ≤ addr ∧ addr < 0x4050000 then some (addr - 0x4010000) else none

/-- The last address of the BARs. -/
def barEnd : Nat := 0x4100000

/-- A register of the hub that answers in DOLDRUMS (R505). -/
def answersInDoldrums (addr : Nat) : Bool :=
  decide (addr < 0x10) || (decide (0x10000 ≤ addr) && decide (addr < 0x30000)) || (decide (0x90000 ≤ addr) && decide (addr < 0xA0000)) ||
    addr == CLK_STATUS.REG || addr == CLK_REF.REG || (decide (0x40100 ≤ addr) && decide (addr < 0x40128)) ||
    (decide (0x50000 ≤ addr) && decide (addr < 0x503A8)) || (decide (0x60000 ≤ addr) && decide (addr < 0x60040)) || addr == OVC_FUSE.REG

/-- An address of the window of a site that carries a stack. -/
def siteWindow (addr : Nat) : Bool := decide (0x1000000 ≤ addr) && decide (addr < 0x4000000)

/-- The register at an address (R12): none in the windows of hub-occupied sites. -/
def regOf (addr : Nat) : Option RegDesc := if siteWindow addr && !stackSite (siteOfAddr addr) then none else regAt addr

/-! ## Writes -/

/-- The identity registers of a site, which the hub serves where the stack is unpowered (R13). -/
def identityReg (d : RegDesc) : Bool := d.base == SIT_IDENT.REG 0 || d.base == SIT_SERIAL.REG 0

/-- The write of a register without a behaviour of its own, where it stands. -/
def genericWrite (who : Requester) (d : RegDesc) (addr value : Nat) (s : State) : Host.Outcome State Fault Refusal :=
  let t := if d.base = RST_FW_SRC.REG ∨ d.base = RST_FW_LEN.REG then s.fwSourceWrite d addr value
    else if (d.base = OVC_SRC.REG ∨ d.base = OVC_LEN.REG) ∧ ¬ (s.get OVC_STATUS.STATE = 0 ∨ 5 ≤ s.get OVC_STATUS.STATE) then s
    else s.plainWrite d addr value
  if siteWindow addr then
    if identityReg d && s.flag HUB_DISC_STATUS.DONE then .next t
    else s.atSite who addr (siteOfAddr addr) (.next t)
  else if answersInDoldrums addr then .next t
  else s.atHub who addr (.next t)

/-- A write of ISB_COUNT changes nothing but that it clears the latch of its upper half (R440). -/
def State.unlatch (s : State) (addr : Nat) : State :=
  if addr / 8 * 8 = ISB_COUNT.REG then { s with clock := { s.clock with latch := none } } else s

/-- An aligned 64-bit write of a register address. -/
def writeReg (who : Requester) (addr value : Nat) (s : State) : Host.Outcome State Fault Refusal :=
  match regOf addr with
  | none => .next (s.hostErr 0x0B02 who true 8 addr)
  | some d =>
    match ownWrite who d addr value s with
    | some o => o
    | none => genericWrite who d addr value (s.unlatch addr)

/-- A write of the MSI-X table or of the pending-bit array, aligned, of 32 or 64 bits; pending bits are read-only. -/
def State.msixStore (s : State) (addr bytes value : Nat) : State :=
  if 0x2000 ≤ addr then s
  else
    let i := (addr - 0x1000) / 8
    let lo := 8 * (addr % 8)
    s.msixWrite i (withField (s.msixWord i) (lo + 8 * bytes - 1) lo value)

/-- A write into a submission slot. -/
def State.slotStore (s : State) (key bytes value : Nat) : State :=
  { s with slots := (leBytes bytes value).zipIdx.foldl (fun m p => putKey m (key + p.2) (BitVec.ofNat 8 p.1)) s.slots }

/-- REGISTER_WRITE (R10 to R17, R49, R505, R549, R550). -/
def execRegisterWrite (who : Requester) (addr bytes value : Nat) (s : State) : Host.Outcome State Fault Refusal :=
  if barEnd < addr + bytes ∨ barEnd ≤ addr then .fault .outsideBar
  else if !s.hubRuns then .next s
  else if msixArea addr then
    if s.doldrums then .next (s.hostErr 0x0B02 who true bytes addr)
    else if (bytes = 4 ∨ bytes = 8) ∧ addr % bytes = 0 then .next (s.msixStore addr bytes value)
    else .next (s.hostErr 0x0B01 who true bytes addr)
  else match slotKey addr with
  | some k =>
    if s.doldrums then .next (s.hostErr 0x0B02 who true bytes addr)
    else if k % 64 + bytes ≤ 64 then .next (s.slotStore k bytes value)
    else .next (s.hostErr 0x0B01 who true bytes addr)
  | none =>
    if bytes ≠ 8 ∨ addr % 8 ≠ 0 then .next (s.hostErr 0x0B01 who true bytes addr)
    else writeReg who addr value s

/-! ## Reads -/

/-- The queue registers and the other registers whose reads act. -/
def ownRead (who : Requester) (d : RegDesc) (addr bytes : Nat) (s : State) : Option (Host.Outcome State Fault Refusal) :=
  let b := d.base
  let half := addr % 8 / 4
  if b = HUB_DISC_LOG.REG then some (execDiscLogRead who bytes half s)
  else if b = GLT_ERR_LOG.REG 0 then some (execGltErrLogRead who (siteOfAddr addr) bytes half s)
  else if b = MSH_EVENT.REG then some (execMshEventRead who bytes half s)
  else if b = SDG_VOTE_LOG.REG then some (execSdgVoteLogRead who bytes half s)
  else if b = PWR_EVENT.REG then some (execPwrEventRead who bytes half s)
  else if b = PWR_INPUT_MAX.REG then some (execPwrInputMaxRead who bytes half s)
  else if b = THM_EVENT.REG then some (execThmEventRead who bytes half s)
  else if b = CLK_EVENT.REG then some (execClkEventRead who bytes half s)
  else if b = ISB_COUNT.REG then some (execIsbCountRead who bytes half s)
  else if b = HUB_SPARE_LOG.REG then some (execSpareLogRead who bytes half s)
  else none

/-- SDG_SITE of a site (R298): zero with no partner where the stack is not powered. -/
def State.sdgSiteWord (s : State) (site : Nat) : Word :=
  if stackSite site && s.powered site then withField (s.reg (SDG_SITE.REG site)) 55 48 ((s.partner site).getD 0xFF)
  else withField 0 55 48 0xFF

/-- UPD_DEMAND of the site that UPD_DEM_SEL names (R429). -/
def State.demandWord (s : State) : Word :=
  let x := s.get UPD_DEM_SEL.SITE
  if !s.servingStacks.contains x then 0
  else
    let d := s.demand x
    let w := withField (withField (withField 0 3 0 d.thermal) 7 4 d.domain) 11 8 d.sector
    withField (withField (withField (withField w 15 12 d.debt) 19 16 d.host) 23 20 (s.backstopOf x)) 27 24 (s.get (MXA_THROTTLE.BLOCK x))

/-- Seconds left in the start window (R501). -/
def State.windowLeft (s : State) : Nat := if s.flag RST_STATUS.WINDOW then 120 - (s.isobar - s.rst.windowAt) / second else 0

/-- What a register shows when it is read: its word, with the fields that follow the rest of the state. -/
def State.shownWord (s : State) (d : RegDesc) (addr : Nat) : Word :=
  let b := d.base
  let i := d.index addr 0
  if (b = HUB_SITE_OK0.REG ∨ b = HUB_SITE_OK1.REG ∨ b = HUB_SITE_OK2.REG ∨ b = HUB_RING_OK.REG ∨ b = HUB_HPORT.REG) ∧ ¬ s.flag HUB_DISC_STATUS.DONE then 0
  else if b = RST_STATUS.REG then withField (s.reg addr) 47 40 s.windowLeft
  else if b = SDG_SITE.REG 0 then s.sdgSiteWord i
  else if b = UPD_DEMAND.REG then s.demandWord
  else if b = HUB_SPARE_STATUS.REG ∨ b = HUB_SECTOR.REG 0 then s.sparesShow.reg addr
  else if b = GLT_STATUS.REG 0 then withField (s.reg addr) 4 4 (b2n (s.domain i 4 == 4))
  else if b = CCO_WDOG.REG 0 0 then withField (s.reg addr) 63 32 (s.wdogLeft i (d.index addr 1))
  else if b = THM_STK.REG 0 then
    let h := (lookD {} s.thermal.stackList i).gatings
    withField (s.reg addr) 15 12 (sat 15 (h.filter (fun t => decide (s.isobar < t + hour))).length)
  else s.reg addr

/-- A value that a read takes from a 64-bit register: all of it, or the half that the address names. -/
def readPart (w : Word) (addr bytes : Nat) : Nat := if bytes = 8 then w.toNat else bits w.toNat (8 * (addr % 8) + 31) (8 * (addr % 8))

/-- The answer of a read of a register that does nothing but show its fields. -/
def State.plainRead (s : State) (who : Requester) (d : RegDesc) (addr bytes : Nat) : State :=
  s.send (.readData who addr bytes (readPart (readFields d (s.shownWord d (addr / 8 * 8))) addr bytes) false)

/-- An accepted read of a register address, of 64 bits or of an aligned half: the register is the one that holds the bytes (R11). -/
def readReg (who : Requester) (addr bytes : Nat) (s : State) : Host.Outcome State Fault Refusal :=
  match regOf (addr / 8 * 8) with
  | none => .next ((s.hostErr 0x0B02 who false bytes addr).send (.readData who addr bytes 0 false))
  | some d =>
    match ownRead who d addr bytes s with
    | some o => o
    | none =>
      if siteWindow addr then
        if identityReg d && s.flag HUB_DISC_STATUS.DONE then .next (s.plainRead who d addr bytes)
        else s.readAtSite who addr bytes (siteOfAddr addr) (.next (s.plainRead who d addr bytes))
      else if answersInDoldrums (addr / 8 * 8) then .next (s.plainRead who d addr bytes)
      else s.readAtHub who addr bytes (.next (s.plainRead who d addr bytes))

/-- A read of a refused size or alignment: all ones, with 0x0B01. -/
def State.sizeRead (s : State) (who : Requester) (addr bytes : Nat) : State :=
  (s.hostErr 0x0B01 who false bytes addr).send (.readData who addr bytes (2 ^ (8 * bytes) - 1) false)

/-- The bytes of the MSI-X table and of the pending-bit array. -/
def State.msixRead (s : State) (addr bytes : Nat) : Nat :=
  if 0x2000 ≤ addr then sumNat ((below (8 * bytes)).map (fun i => if s.host.pend.contains (8 * (addr - 0x2000) + i) then 2 ^ i else 0))
  else readPart (s.msixWord ((addr - 0x1000) / 8)) addr bytes

/-- REGISTER_READ (R10 to R18, R49, R505, R549, R550): the answer is noted as readData. -/
def execRegisterRead (who : Requester) (addr bytes : Nat) (s : State) : Host.Outcome State Fault Refusal :=
  let sized := (bytes = 4 ∨ bytes = 8) ∧ addr % bytes = 0
  if barEnd < addr + bytes ∨ barEnd ≤ addr then .fault .outsideBar
  else if !s.hubRuns then .next s
  else if ¬ sized then .next (s.sizeRead who addr bytes)
  else if s.doldrums ∧ (msixArea addr ∨ (slotKey addr).isSome) then
    .next ((s.hostErr 0x0B02 who false bytes addr).send (.readData who addr bytes 0 false))
  else if msixArea addr then .next (s.send (.readData who addr bytes (s.msixRead addr bytes) false))
  else match slotKey addr with
  | some k => .next (s.send (.readData who addr bytes (ofLe ((below bytes).map (fun i => (lookD 0 s.slots (k + i)).toNat))) false))
  | none => readReg who addr bytes s

/-! ## Register accesses on behalf of another command -/

/-- The state after a register access, which never stops for an address inside the BARs. -/
def stateAfter (o : Host.Outcome State Fault Refusal) (s : State) : State := match o with | .next t => t | _ => s

/-- A register write on behalf of a datagram, a packet or a core. -/
def State.regWrite (s : State) (who : Requester) (addr bytes value : Nat) : State := stateAfter (execRegisterWrite who addr bytes value s) s

/-- The newest answer of a read in the record of what leaves, and the record without it. -/
def takeRead (who : Requester) : List Sent → Option (Nat × List Sent)
  | [] => none
  | m :: l =>
    match m with
    | .readData w _ _ v _ => if w = who then some (v, l) else (takeRead who l).map (fun r => (r.1, m :: r.2))
    | _ => (takeRead who l).map (fun r => (r.1, m :: r.2))

/-- A register read on behalf of a datagram, a packet or a core: its value, not noted as an answer of its own. -/
def State.regRead (s : State) (who : Requester) (addr bytes : Nat) : Nat × State :=
  let t := stateAfter (execRegisterRead who addr bytes s) s
  if t.out.length = s.out.length then (0, t)
  else match takeRead who t.out with
    | none => (0, t)
    | some (v, l) => (v, { t with out := l })

end Sys2Proof.Machine
end

