-- ==== Sys2Proof/Machine/Boundary.lean ====
section
/-! DEFINITION. The end of the drain (05_sweeps.md R186, R188): EMPTY and a drain that is stuck. -/

namespace Sys2Proof.Machine

open Sys2Proof

/-- EMPTY (Table 5.5 steps 5 and 6): a die that has cleared its state says so; after the last EMPTY the boundary is reached. fails lists the rows under
repair whose spare rows fail their read-back (R226), keyed by rowKey, and how many of them. -/
def execEmpty (site : Nat) (fails : List (Nat × Nat)) (s : State) : Host.Outcome State Fault Refusal :=
  if s.get HUB_PASS.STATE ≠ 4 ∨ ¬ s.pass.empty.contains site ∨ s.pass.taken.contains site then .next s
  else
    let s := { s with pass := { s.pass with taken := s.pass.taken ++ [site] } }
    .next (if s.drained then (s.passBoundary fails).progress else s)

/-- DRAIN_STUCK_TIMEOUT (R188): a site has sent no QUIET in 100,000 ticks of the drain's start, or no EMPTY in 100,000 ticks of CLEAR. The pass is ABORTED,
the site is fenced and retired, and the hub goes on without it. -/
def execDrainStuckTimeout (site : Nat) (s : State) : Host.Outcome State Fault Refusal :=
  let stuck := if s.pass.cleared then !s.pass.taken.contains site else !s.pass.quiet.contains site
  if s.get HUB_PASS.STATE ≠ 4 ∨ ¬ s.pass.running ∨ ¬ s.waiters.contains site ∨ ¬ stuck then .next s
  else
    let s := s.record { code := 0x020A, source := 1, node := site, action := s.abortBit + 12 }
    let s := (s.abortPass 0x020A site).fence site 0x020A
    .next ((s.verifySoon.drainOn).progress)

end Sys2Proof.Machine
end

