-- ==== Sys2Proof/Machine/Packets.lean ====
section
/-! DEFINITION. The packets that an endpoint serves (07_mesh.md R247 to R251, R266, R267, R278; R57 to R60, R213, R235, R249, R543): reads and writes at
stacks, DRAM port dies, edge dies, guests and the hub, messages, responses, and contributions to a tree. -/

namespace Sys2Proof.Machine

open Sys2Proof

/-! ## Who asks (R59) -/

/-- The requester of a packet as a record names it: the channel of an engine, a control core, or the node alone; 0xFF for the host. -/
def State.asker (s : State) (src tag : Nat) : Who :=
  if src = 84 then hostWho
  else match s.requests.find? (fun r => r.node == src && r.tag == tag) with
    | none => ⟨src, 0xFF⟩
    | some r => match r.use with
      | .engine d _ => ⟨src, match (s.die src).stream d with | some x => x.desc.ch | none => 0xFF⟩
      | .core c => ⟨src, 0x10 + c⟩
      | _ => ⟨src, 0xFF⟩

/-- What the answer of a packet copies from it (R249). -/
def askOf (p : Packet) : MeshAsk := ⟨p.src, p.tag, p.bytes, p.ppa⟩

/-! ## The bytes that a packet names -/

/-- The PPAs of the bytes of a packet: through a transposed view, its mapping (R213). -/
def State.packetBytes (s : State) (p : Packet) : List Nat :=
  match p.view with
  | none => (below p.bytes).map (fun i => p.ppa + i)
  | some (site, hn, o) => match s.handle site hn with | some h => (below p.bytes).map (fun i => h.byte (o + i)) | none => []

/-- Which 128-byte flits of data hold a poisoned byte (R251). -/
def flitMask (l : List Bool) : Nat := maskOf ((groups 128 l).zipIdx.filterMap (fun g => if g.1.any id then some g.2 else none))

/-- Answer a READ with data and the flits that carry POISON. -/
def State.answerFlits (s : State) (node : Nat) (a : MeshAsk) (data : List Nat) (mask : Nat) : State :=
  s.inject { dst := a.src, src := node, type := 8, len := (a.bytes + 127) / 128, bytes := a.bytes, tag := a.tag, ppa := a.ppa, data := data, poison := mask }

/-- A READ that R59 answers: all ones, poisoned, with 0x0310. -/
def State.readInvalid (s : State) (node : Nat) (p : Packet) : State :=
  (s.ppaInvalid (s.asker p.src p.tag) p.ppa false).answerRead node (askOf p) (List.replicate p.bytes 0xFF) true

/-- A WRITE that R59 drops: its WACK carries POISON. -/
def State.writeInvalid (s : State) (node : Nat) (p : Packet) : State :=
  (s.ppaInvalid (s.asker p.src p.tag) p.ppa true).answerWrite node (askOf p) true

/-- A READ of memory that a node holds. The error code falls on the first codeword. -/
def State.serveRead (s : State) (node : Nat) (p : Packet) (e : Ecc) : State :=
  let ps := s.packetBytes p
  if ps.isEmpty || !ps.all s.memValid then s.readInvalid node p
  else
    let ks := ps.filterMap physKey
    let s := s.eccOn (ks.headD 0) e
    s.answerFlits node (askOf p) (ks.map s.byteAt) (flitMask (ks.map s.poisonAt))

/-- The data of a WRITE by flit: its offset, its bytes and whether the flit carries POISON. -/
def flitsOf (p : Packet) : List (Nat × List Nat × Bool) :=
  (groups 128 (p.data.take p.bytes)).zipIdx.map (fun g => (128 * g.2, g.1, bit p.poison g.2))

/-- A WRITE of memory that a node holds (R218, R219, R229). -/
def State.serveWrite (s : State) (node : Nat) (p : Packet) : State :=
  let w := s.asker p.src p.tag
  let ps := s.packetBytes p
  let r : State × Bool :=
    if p.view.isSome then
      (ps.zip p.data).zipIdx.foldl (fun (r : State × Bool) b =>
        let x := r.1.writeMem w b.1.1 [b.1.2] (bit p.poison (b.2 / 128))
        (x.1, r.2 && x.2)) (s, true)
    else if p.poison = 0 then s.writeMem w p.ppa (p.data.take p.bytes) false
    else (flitsOf p).foldl (fun (r : State × Bool) f =>
        let x := r.1.writeMem w (p.ppa + f.1) f.2.1 f.2.2
        (x.1, r.2 && x.2)) (s, true)
  r.1.answerWrite node (askOf p) (!r.2)

/-! ## Registers through space 0x2 (R57) -/

/-- The BAR0 address of a register that a PPA names. -/
def ppaReg (p : Nat) : Nat := 0x1000000 + ppaSite p * 0x10000 + ppaOffset p

/-- A read of registers: whole registers in ascending order, or an aligned half; any other size reads all ones with 0x0B01. -/
def State.spaceRead (s : State) (who : Requester) (ppa n : Nat) : List Nat × State :=
  let a := ppaReg ppa
  if a % 8 = 0 ∧ n % 8 = 0 then
    (below (n / 8)).foldl (fun (r : List Nat × State) i =>
      let x := r.2.regRead who (a + 8 * i) 8
      (r.1 ++ leBytes 8 x.1, x.2)) ([], s)
  else if n = 4 ∧ a % 4 = 0 then
    let x := s.regRead who a 4
    (leBytes 4 x.1, x.2)
  else (List.replicate n 0xFF, s.hostErr 0x0B01 who false n a)

/-- A write of whole registers in ascending order; any other size is dropped with 0x0B01. -/
def State.spaceWrite (s : State) (who : Requester) (ppa : Nat) (data : List Nat) : State :=
  let a := ppaReg ppa
  if a % 8 = 0 ∧ data.length % 8 = 0 then
    (groups 8 data).zipIdx.foldl (fun s g => s.regWrite who (a + 8 * g.2) 8 (ofLe g.1)) s
  else s.hostErr 0x0B01 who true data.length a

/-- The register window of a stack site, inside its 64 KiB. -/
def spaceOk (p : Nat) : Bool := stackSite (ppaSite p) && decide (ppaOffset p < 0x10000)

/-! ## READ and WRITE at an endpoint -/

/-- The number of the edge die, the DRAM port die or the guest at a ring node. -/
def ringIndex (n : Nat) : Nat :=
  let i := (n - 169) % 11
  let side := (n - 169) / 11
  match ringKind i with
  | 3 => 6 * side + (indexOf? (fun k => k == i) [0, 2, 3, 7, 8, 10]).getD 0
  | 4 => 4 * side + (indexOf? (fun k => k == i) [1, 4, 6, 9]).getD 0
  | _ => side

/-- A window request at the hub or at an edge die: the translation of its own copy of the table (R238, R239). -/
def State.windowTarget (s : State) (node ppa : Nat) (write : Bool) : Target × State :=
  match rwtEntry ppa with
  | none => (.miss, s)
  | some e =>
    if node = 84 then (s.translateWord (s.reg (HUB_RWT.REG e)).toNat (ppa % 2 ^ 21) write, s)
    else
      let r := s.rwtLookup node e
      (r.2.translateWord r.1.toNat (ppa % 2 ^ 21) write, r.2)

/-- A packet reaches an endpoint that answers: a stack whose TR is on, a ring die in service, or the hub. -/
def State.answers (s : State) (node : Nat) : Bool :=
  if node = 84 then s.hubRuns else if node < 169 then s.powered node else !s.fenced node && s.flag (ringOkBit (node - 169))

/-- A version 3 feature at the hub (R54), or a packet that R250 calls invalid, at an endpoint; none where the packet is taken. -/
def State.endpointDrop (s : State) (node : Nat) (p : Packet) : Option State :=
  if !s.answers node then some s
  else if node = 84 ∧ (p.type = 3 ∨ p.type = 12) then some (s.raiseMesh 0x0510 84 0xF 0 [p.type])
  else if s.packetInvalid node p then some (s.raiseMesh 0x051B node 0xF 0 [p.type, p.dst, p.src])
  else none

/-- READ (R247): an endpoint answers with RDATA. A read through a gather view waits for GATHER_BLOCK_READ, one of host memory, a peer or a guest for
theirs. -/
def execRead (p : Packet) (e : Ecc) (s : State) : Host.Outcome State Fault Refusal :=
  let n := p.dst
  match s.endpointDrop n p with
  | some t => .next t
  | none =>
    if n = 84 then
      match s.windowTarget n p.ppa false with
      | (.host a, t) => .next (t.hostMemRead a (askOf p))
      | (_, t) => .next (t.readInvalid n p)
    else if n < 169 then
      if ppaSpace p.ppa = 0 ∧ ppaSite p.ppa = n then .next (s.serveRead n p e)
      else if ppaSpace p.ppa = 2 ∧ ppaSite p.ppa = n ∧ spaceOk p.ppa then
        let r := s.spaceRead (.mesh p.src) p.ppa p.bytes
        .next (r.2.answerRead n (askOf p) r.1 false)
      else .next (s.readInvalid n p)
    else match ringKind ((n - 169) % 11) with
    | 3 =>
      match s.windowTarget n p.ppa false with
      | (.conduit c a, t) => .next (if cndEdge t c = ringIndex n then t.cndGet c a (askOf p) else t.readInvalid n p)
      | (_, t) => .next (t.readInvalid n p)
    | 4 =>
      if ppaSpace p.ppa = 1 ∧ ppaNode p.ppa = n then
        let gather : Bool := match p.view with
          | some (site, hn, _) => (match s.handle site hn with | some h => h.kind == 3 | none => false)
          | none => false
        .next (if gather then s else s.serveRead n p e)
      else .next (s.readInvalid n p)
    | _ => .next (s.guestRequest (ringIndex n) (askOf p) false [])

/-- WRITE (R247): an endpoint performs it and answers with WACK. -/
def execWrite (p : Packet) (s : State) : Host.Outcome State Fault Refusal :=
  let n := p.dst
  match s.endpointDrop n p with
  | some t => .next t
  | none =>
    let data := p.data.take p.bytes
    if n = 84 then
      match s.windowTarget n p.ppa true with
      | (.host a, t) => .next (t.hostMemWrite a (askOf p) data)
      | (_, t) => .next (t.writeInvalid n p)
    else if n < 169 then
      if ppaSpace p.ppa = 0 ∧ ppaSite p.ppa = n then .next (s.serveWrite n p)
      else if ppaSpace p.ppa = 2 ∧ ppaSite p.ppa = n ∧ spaceOk p.ppa then
        .next ((s.spaceWrite (.mesh p.src) p.ppa data).answerWrite n (askOf p) false)
      else .next (s.writeInvalid n p)
    else match ringKind ((n - 169) % 11) with
    | 3 =>
      match s.windowTarget n p.ppa true with
      | (.conduit c a, t) => .next (if cndEdge t c = ringIndex n then t.cndPut c a (askOf p) data (p.poison != 0) else t.writeInvalid n p)
      | (_, t) => .next (t.writeInvalid n p)
    | 4 => .next (if ppaSpace p.ppa = 1 ∧ ppaNode p.ppa = n then s.serveWrite n p else s.writeInvalid n p)
    | _ => .next (s.guestRequest (ringIndex n) (askOf p) true data)

/-- MWRITE (R266, R543): the LOCAL copy at a stack. A stack that has left service, with a spare in its place, sends its copy on to the spare. -/
def execMwrite (node : Nat) (p : Packet) (s : State) : Host.Outcome State Fault Refusal :=
  if node = 84 then .next (if s.hubRuns then s.raiseMesh 0x0510 84 0xF 0 [p.type] else s)
  else if 169 ≤ node ∨ ¬ s.powered node then .next s
  else
    let local_ : Packet := { p with dst := node, type := 2, mask := 0, ppa := mkPpa 0 node (ppaOffset p.ppa) }
    if ppaSpace p.ppa ≠ 0 then .next (s.answerWrite node (askOf p) true)
    else if s.retired.contains node ∧ s.substSite node ≠ node then
      let on : Packet := { local_ with dst := s.substSite node, ppa := mkPpa 0 (s.substSite node) (ppaOffset p.ppa) }
      .next (s.send (.packet on))
    else .next (s.serveWrite node local_)

/-- MSG (R164, R247): a mailbox message for a control core. -/
def execMsg (p : Packet) (s : State) : Host.Outcome State Fault Refusal :=
  match s.endpointDrop p.dst p with
  | some t => .next t
  | none =>
    if 169 ≤ p.dst ∨ p.dst = 84 then .next s
    else
      let m : Message := (below 8).map (fun i => word (ofLe ((p.data.drop (8 * i)).take 8)))
      .next (s.mbxPush p.dst (p.ppa % 2) m (pushSource (.mesh p.src)))

/-! ## Responses (R249, R267) -/

/-- The place that a stream keeps for a read takes its data, flit by flit. -/
def fillSegments (tag : Nat) (data : List Nat) (mask : Nat) : List Segment → List Segment
  | [] => []
  | .wait t n :: l =>
    if t = tag then (groups 128 data).zipIdx.map (fun g => Segment.data g.1 (bit mask g.2)) ++ l else .wait t n :: fillSegments tag data mask l
  | x :: l => x :: fillSegments tag data mask l

/-- A response that no request waits for is counted (R267). -/
def State.lateResponse (s : State) (node : Nat) : State :=
  if stackSite node then s.addSat (SIT_RTR_ERR.LATE_RSP node) 1 else s

/-- A request is closed. -/
def State.closeRequest (s : State) (r : Request) : State :=
  { s with requests := s.requests.filter (fun x => !(x.node == r.node && x.tag == r.tag)) }

/-- Where the answers of a control core's loads from the panel address space are noted. -/
def ppaBase : Nat := 2 ^ 56

/-- A control core takes an access fault (R161): its RISC-V cause. -/
def State.coreFault (s : State) (site c cause : Nat) : State := s.setControl site c { s.control site c with accessFault := cause }

/-- The data of a read reaches its requester. -/
def State.readEnds (s : State) (r : Request) (data : List Nat) (mask : Nat) : State :=
  let s := s.closeRequest r
  match r.use with
  | .engine d _ =>
    match (s.die r.node).stream d with
    | none => s
    | some x => (s.setStream r.node { x with queue := fillSegments r.tag data mask x.queue }).consumed r.ppa (mask != 0)
  | .core c =>
    if mask ≠ 0 then (s.coreFault r.node c 5).consumed r.ppa true
    else s.send (.readData (.core r.node c) (ppaBase + r.ppa) r.bytes (ofLe data) false)
  | .conduit c key => s.cndAnswer c key r.ppa data (mask != 0)
  | .bar4 key => s.bar4Answer key r.ppa data (mask != 0)
  | _ => s

/-- A write, or the last of its copies, is answered; bad says that it was not performed. -/
def State.writeEnds (s : State) (r : Request) (bad : Bool) : State :=
  let s := s.closeRequest r
  match r.use with
  | .core c =>
    let x := s.control r.node c
    s.setControl r.node c { x with posted := x.posted - 1, fencing := x.fencing && decide (1 < x.posted) }
  | .conduit c key => s.cndAnswer c key r.ppa [] bad
  | .coll t q =>
    if s.requests.any (fun y => y.node == r.node && y.use == r.use) then (if bad then s.discardPass 0x0310 else s)
    else s.collWack (ringIndex r.node) t q bad
  | _ => s

/-- RDATA (R249): the response of a READ arrives at its requester. -/
def execRdata (p : Packet) (s : State) : Host.Outcome State Fault Refusal :=
  if !s.answers p.dst then .next s
  else match s.requests.find? (fun r => r.node == p.dst && r.tag == p.tag && !r.write) with
    | none => .next (s.lateResponse p.dst)
    | some r => .next (s.readEnds r (p.data.take r.bytes) p.poison)

/-- WACK (R249, R266): a write, or one copy of a multicast, is committed; POISON says that it was not. -/
def execWack (p : Packet) (s : State) : Host.Outcome State Fault Refusal :=
  if !s.answers p.dst then .next s
  else match s.requests.find? (fun r => r.node == p.dst && r.tag == p.tag && r.write) with
    | none => .next (s.lateResponse p.dst)
    | some r =>
      let r' : Request := { r with left := r.left - 1, poison := r.poison || p.poison != 0 }
      if r'.left = 0 then .next (s.writeEnds r' r'.poison)
      else .next { s with requests := s.requests.map (fun (x : Request) => if x.node == r.node && x.tag == r.tag then r' else x) }

/-- MSH_RSP_TIMEOUT (R267): not every response has come within RSP_LIMIT; the request is closed, and the pass aborts. -/
def execMshRspTimeout (node tag : Nat) (s : State) : Host.Outcome State Fault Refusal :=
  match s.requests.find? (fun r => r.node == node && r.tag == tag) with
  | none => .next s
  | some r =>
    let t := if r.write then s.writeEnds r true else s.tick.readEnds r (s.freeBytes r.bytes) (2 ^ ((r.bytes + 127) / 128) - 1)
    .next (t.raiseMesh 0x051F node 0xF 0 [r.dst, r.ppa])

/-! ## CONTRIB (R278, R281, R346) -/

/-- CONTRIB: a record arrives at a member of a tree. -/
def execContrib (p : Packet) (s : State) : Host.Outcome State Fault Refusal :=
  let n := p.dst
  match s.endpointDrop n p with
  | some t => .next t
  | none =>
    let c : Partial := ⟨p.seq, recordVals p.data, p.digest, p.poison != 0, 1⟩
    let fromRoot : Bool := stackSite p.src && (match s.tree p.src p.tree with | some e => e.root | none => false)
    if n < 169 then .next (if fromRoot then s.redUnexpected n p.tree p.seq else s.contribute n p.tree c)
    else if isEdge n then
      .next (if fromRoot then s.raiseMesh 0x0514 n 0xF 0 [p.tree, p.seq] else s.collContrib (ringIndex n) p.tree c)
    else .next (s.raiseMesh 0x051B n 0xF 0 [p.type, p.dst, p.src])

end Sys2Proof.Machine
end

