-- ==== Sys2Proof/Machine/LocalMap.lean ====
section
/-! DEFINITION. The control cores' local map (04_cores.md R160, R161, R165, Table 4.7): loads, stores, atomics and FENCE of a core, and its timer
interrupt. The answer of a load or an atomic is noted as readData with the local address. Access faults carry RISC-V's causes: 5 load, 7
store, 4 and 6 for an address that is not a multiple of the size (PRESUMED, log entry 16). -/

namespace Sys2Proof.Machine

open Sys2Proof

/-- The kinds of address of Table 4.7. -/
inductive LocalPlace where
  /-- ITCM or DTCM. -/
  | tcm (itcm : Bool)
  /-- Word i of the program memory of a vector core. -/
  | prog (v i : Nat)
  /-- Offset a of the scratch of a vector core. -/
  | scratch (v a : Nat)
  | mailbox (off : Nat)
  | timer (off : Nat)
  | window (off : Nat)
  | panel (ppa : Nat)
  | outside
  deriving DecidableEq, Repr

/-- Where n bytes at a local address lie. -/
def localPlace (a n : Nat) : LocalPlace :=
  if a + n ≤ 0x20000 then .tcm true
  else if 0x100000 ≤ a ∧ a + n ≤ 0x120000 then .tcm false
  else if 0x180000 ≤ a ∧ a + n ≤ 0x1A0000 then .prog ((a - 0x180000) / 0x8000) ((a - 0x180000) % 0x8000 / 8)
  else if 0x200000 ≤ a ∧ a + n ≤ 0x300000 then .scratch ((a - 0x200000) / 0x40000) ((a - 0x200000) % 0x40000)
  else if 0x300000 ≤ a ∧ a + n ≤ 0x300100 then .mailbox (a - 0x300000)
  else if 0x310000 ≤ a ∧ a + n ≤ 0x310020 then .timer (a - 0x310000)
  else if 0x400000 ≤ a ∧ a + n ≤ 0x410000 then .window (a - 0x400000)
  else if ppaBase ≤ a ∧ a + n ≤ 2 * ppaBase then .panel (a - ppaBase)
  else .outside

/-- The answer of a load. -/
def State.loaded (s : State) (site c a n v : Nat) : State := s.send (.readData (.core site c) a n v false)

/-- A part of a 64-bit word: n bytes at a local address. -/
def partOf (w a n : Nat) : Nat := w / 2 ^ (8 * (a % 8)) % 2 ^ (8 * n)

/-- A 64-bit word with n bytes at a local address replaced. -/
def withPart (w a n v : Nat) : Nat := (withField (word w) (8 * (a % 8) + 8 * n - 1) (8 * (a % 8)) v).toNat

/-- The error code of ITCM or DTCM on a word read: a corrected word is counted; an uncorrectable one makes the core FATAL (R169) where it is met. -/
def State.tcmEcc (s : State) (site c : Nat) (itcm : Bool) (e : Ecc) : State :=
  if e = .corrected then s.addSat (if itcm then CCO_TCM_ERR.ITCM_CE site c else CCO_TCM_ERR.DTCM_CE site c) 1 else s

/-! ## The mailbox port and the timer (R161, R165) -/

/-- A word of the mailbox port as a load sees it. -/
def ControlState.mailbox (x : ControlState) (off : Nat) : Nat :=
  if off < 0x40 then (nth 0 (match x.inq with | m :: _ => m | [] => []) (off / 8)).toNat
  else if off = 0x48 then x.inq.length
  else if 0x80 ≤ off ∧ off < 0xC0 then (lookD 0 x.outStage ((off - 0x80) / 8)).toNat
  else 0

/-- A store to the mailbox port. -/
def State.mailboxStore (s : State) (site c off v : Nat) : State :=
  let x := s.control site c
  if off = 0x40 then stateAfter (execMbxHeadRemove site c s) s
  else if 0x80 ≤ off ∧ off < 0xC0 then s.setControl site c { x with outStage := putKey x.outStage ((off - 0x80) / 8) (word v) }
  else if off = 0xC0 then stateAfter (execMbxSend site c v s) s
  else s

/-- A word of the timer and interrupt registers. -/
def State.timerWord (s : State) (x : ControlState) (off : Nat) : Nat :=
  match off / 8 with | 0 => s.isobar % 2 ^ 64 | 1 => x.mtimecmp | 2 => x.irqPend | _ => x.irqEn

/-- A store to them: mtime is read-only, IRQ_PEND clears by ones, and a new mtimecmp above mtime ends the timer interrupt. -/
def State.timerStore (s : State) (site c off v : Nat) : State :=
  let x := s.control site c
  match off / 8 with
  | 0 => s
  | 1 => s.setControl site c { x with mtimecmp := v, timerIrq := x.timerIrq && decide (v ≤ s.isobar) }
  | 2 => s.setControl site c { x with irqPend := x.irqPend ^^^ (x.irqPend &&& v) }
  | _ => s.setControl site c { x with irqEn := v % 1024 }

/-! ## The panel address space -/

/-- A PPA that some endpoint serves (R55 to R58). -/
def ppaServed (p : Nat) : Bool :=
  match ppaSpace p with
  | 0 => (physKey p).isSome
  | 1 => (physKey p).isSome
  | 2 => spaceOk p
  | 3 => (rwtEntry p).isSome
  | _ => false

/-- The node that a core's access goes to, with the entry it was translated by; none for an invalid PPA or a window miss (R239). -/
def State.coreTarget (s : State) (site p : Nat) (write : Bool) : Option (Nat × Option Nat) × State :=
  if !ppaServed p then (none, s)
  else if ppaSpace p = 3 then
    match rwtEntry p with
    | none => (none, s)
    | some e =>
      let r := s.rwtLookup site e
      match r.2.translateWord r.1.toNat (p % 2 ^ 21) write with
      | .miss => (none, r.2)
      | t => (some (t.node r.2, some e), r.2)
  else (some (ppaNode p, none), s)

/-- A load from the panel address space: of this site's own Gelat at once, of anything else by a READ. Poisoned data is a load access
fault, and it is consumed (R161, R184). -/
def State.panelLoad (s : State) (site c p n : Nat) (e : Ecc) : State :=
  let w : Who := ⟨site, 0x10 + c⟩
  if ppaSpace p = 0 ∧ ppaSite p = site then
    let r := s.readFor w p n e
    if r.2.2 then (r.1.coreFault site c 5).consumed p true else r.1.loaded site c (ppaBase + p) n (ofLe r.2.1)
  else match s.coreTarget site p false with
  | (none, t) => ((t.ppaInvalid w p false).coreFault site c 5).consumed p true
  | (some (node, en), t) => (t.issue site (.core c) node false p n [] false en none).1

/-- A store to the panel address space is posted. -/
def State.panelStore (s : State) (site c p n v : Nat) : State :=
  let w : Who := ⟨site, 0x10 + c⟩
  if ppaSpace p = 0 ∧ ppaSite p = site then (s.writeMem w p (leBytes n v) false).1
  else match s.coreTarget site p true with
  | (none, t) => t.ppaInvalid w p true
  | (some (node, en), t) =>
    let x := t.control site c
    ((t.setControl site c { x with posted := x.posted + 1 }).issue site (.core c) node true p n (leBytes n v) false en none).1

/-! ## Loads, stores, atomics and FENCE -/

/-- A load of 1, 2, 4 or 8 bytes. -/
def State.coreLoad (s : State) (site c a n : Nat) (e : Ecc) : State :=
  let x := s.control site c
  if a % n ≠ 0 then s.coreFault site c 4
  else match localPlace a n with
  | .tcm itcm =>
    if e = .uncorrectable then stateAfter (execTcmUncorrectable site c itcm s) s
    else (s.tcmEcc site c itcm e).loaded site c a n (ofLe (readBytes x.tcm a n))
  | .prog v i =>
    if s.vcOn site then s.loaded site c a n (partOf (lookD 0 (s.vector site v).prog i).toNat a n)
    else s.tick.loaded site c a n (ofLe (s.freeBytes n))
  | .scratch v o =>
    if s.vcOn site then s.loaded site c a n (ofLe ((s.vector site v).read o n)) else s.tick.loaded site c a n (ofLe (s.freeBytes n))
  | .mailbox o => s.loaded site c a n (partOf (x.mailbox (o / 8 * 8)) a n)
  | .timer o => s.loaded site c a n (partOf (s.timerWord x o) a n)
  | .window o =>
    let r := s.regRead (.core site c) (0x1000000 + site * 0x10000 + o) n
    r.2.loaded site c a n r.1
  | .panel p => s.panelLoad site c p n e
  | .outside => s.coreFault site c 5

/-- A store of 1, 2, 4 or 8 bytes. -/
def State.coreStore (s : State) (site c a n v : Nat) : State :=
  let x := s.control site c
  if a % n ≠ 0 then s.coreFault site c 6
  else match localPlace a n with
  | .tcm _ => s.setControl site c { x with tcm := writeBytes x.tcm a (leBytes n v) }
  | .prog w i =>
    if s.vcOn site then stateAfter (execVcoProgWrite site w i (withPart (lookD 0 (s.vector site w).prog i).toNat a n v) s) s else s
  | .scratch w o => if s.vcOn site then s.scratchWrite site w o (leBytes n v) else s
  | .mailbox o => s.mailboxStore site c (o / 8 * 8) (withPart (x.mailbox (o / 8 * 8)) a n v)
  | .timer o => s.timerStore site c o (withPart (if o / 8 = 2 then 0 else s.timerWord x o) a n v)
  | .window o => s.regWrite (.core site c) (0x1000000 + site * 0x10000 + o) n v
  | .panel p => s.panelStore site c p n v
  | .outside => s.coreFault site c 7

/-- What an atomic operation of RV64A writes: the old value and the operand, n bytes wide. -/
def amoResult (op n old v : Nat) : Nat :=
  let w := 8 * n
  let u := v % 2 ^ w
  match op with
  | 0 => (old + u) % 2 ^ w
  | 1 => u
  | 4 => old ^^^ u
  | 8 => old ||| u
  | 12 => old &&& u
  | 16 => if signed w old ≤ signed w u then old else u
  | 20 => if signed w u ≤ signed w old then old else u
  | 24 => if old ≤ u then old else u
  | _ => if u ≤ old then old else u

/-- A value of n bytes as an RV64 register receives it: sign-extended from a word. -/
def rvExtend (n v : Nat) : Nat := unsigned 64 (signed (8 * n) v)

/-- An atomic instruction: on ITCM and DTCM only; to any other address it is a store access fault (R160). op is RISC-V's funct5. -/
def State.coreAtomic (s : State) (site c op a n v : Nat) (e : Ecc) : State :=
  let x := s.control site c
  if a % n ≠ 0 then s.coreFault site c 6
  else match localPlace a n with
  | .tcm itcm =>
    if e = .uncorrectable then stateAfter (execTcmUncorrectable site c itcm s) s else
    let s := s.tcmEcc site c itcm e
    let old := ofLe (readBytes x.tcm a n)
    if op = 2 then (s.setControl site c { x with resv := some a }).loaded site c a n (rvExtend n old)
    else if op = 3 then
      if x.resv = some a then
        (s.setControl site c { x with resv := none, tcm := writeBytes x.tcm a (leBytes n v) }).loaded site c a n 0
      else (s.setControl site c { x with resv := none }).loaded site c a n 1
    else (s.setControl site c { x with tcm := writeBytes x.tcm a (leBytes n (amoResult op n old v)) }).loaded site c a n (rvExtend n old)
  | _ => s.coreFault site c 7

/-- The core waits: for a FENCE, or for the data of a load. -/
def State.coreWaits (s : State) (site c : Nat) : Bool :=
  (s.control site c).fencing || s.requests.any (fun r => r.node == site && r.use == .core c && !r.write)

/-- CCO_LOCAL_ACCESS (R160, R161, R165): an access of a running control core that waits for nothing. e is the outcome of the error code
on the first word read. -/
def execCcoLocalAccess (site c : Nat) (a : CoreAccess) (e : Ecc) (s : State) : Host.Outcome State Fault Refusal :=
  if 2 ≤ c ∨ ¬ s.coreRuns site c ∨ s.coreWaits site c then .next s
  else match a with
  | .load a n => .next (if n = 1 ∨ n = 2 ∨ n = 4 ∨ n = 8 then s.coreLoad site c a n e else s)
  | .store a n v => .next (if n = 1 ∨ n = 2 ∨ n = 4 ∨ n = 8 then s.coreStore site c a n v else s)
  | .atomic op a n v => .next (if n = 4 ∨ n = 8 then s.coreAtomic site c op a n v e else s)
  | .fence =>
    let x := s.control site c
    .next (s.setControl site c { x with fencing := decide (0 < x.posted) })

/-- MTIMECMP_INTERRUPT (R160, R161): mtime has reached mtimecmp. -/
def execMtimecmpInterrupt (site c : Nat) (s : State) : Host.Outcome State Fault Refusal :=
  let x := s.control site c
  .next (if c < 2 ∧ s.coreRuns site c ∧ x.mtimecmp ≤ s.isobar then s.setControl site c { x with timerIrq := true } else s)

end Sys2Proof.Machine
end

