-- ==== Sys2Proof/Machine/Mgmt.lean ====
section
/-! DEFINITION. The management ports (16_host.md R560 to R564): register access by datagram, the ports' addresses, and the export of
Barograph records. Frames that a port sends are noted with the UDP port, the IP protocol (1 ICMP, 58 ICMPv6) or the EtherType (0x0806 ARP). -/

namespace Sys2Proof.Machine

open Sys2Proof

/-! ## Register access (R562, R563) -/

/-- A request fits Table 16.5: OP 1 is READ, 2 is WRITE. -/
def mgmtForm (op : Nat) (data : List Nat) : Bool :=
  let count := nth 0 data 6
  data.take 4 == [0x4C, 0x56, 0x52, 0x41] && nth 0 data 4 == 1 && nth 0 data 5 == op && decide (1 ≤ count) && decide (count ≤ 32) &&
    data.length == 16 + count * 8 * op + 16

/-- The addresses that R563 lets an unauthenticated READ name. -/
def openAddrs : List Nat := [HUB_IDENT.REG, HUB_SERIAL.REG, RST_STATUS.REG, DWN_CAUSE0.REG, DWN_CAUSE1.REG, PWR_STATUS.REG, THM_STATUS.REG, CLK_STATUS.REG]

/-- The addresses of a request, and the value after each where it is a WRITE. -/
def mgmtPairs (op : Nat) (data : List Nat) : List (Nat × Nat) :=
  (below (nth 0 data 6)).map (fun i =>
    let w := fun (k : Nat) => ofLe ((data.drop (16 + 8 * k)).take 8)
    if op = 1 then (w i, 0) else (w (2 * i), w (2 * i + 1)))

/-- A reply of Table 16.5. -/
def State.mgmtReply (s : State) (op count status seq : Nat) (values : List Nat) : List Nat :=
  let m := [0x4C, 0x56, 0x52, 0x41, 1, op + 0x80, count, status] ++ leBytes 8 seq ++ values.flatMap (leBytes 8)
  m ++ s.mgmtTag m

/-- A request dropped at authentication: counted, and 0x0B41 at most once per second. -/
def State.mgmtAuthFail (s : State) (port : Nat) : State :=
  let s := s.addSat HUB_MGT_STAT.AUTH_FAILS 1
  let now := s.isobar / second
  if s.mgmt.authSecond = some now then s
  else
    let s := { s with mgmt := { s.mgmt with authSecond := some now } }
    s.raiseHost 0x0B41 port

/-- The accesses of a request, in order, and the values read. -/
def State.mgmtAccesses (s : State) (port op : Nat) (ps : List (Nat × Nat)) : State × List Nat :=
  ps.foldl (fun (r : State × List Nat) p =>
    if op = 1 then
      let x := r.1.regRead (.mgmt port) p.1 8
      (x.2, r.2 ++ [x.1])
    else (r.1.regWrite (.mgmt port) p.1 8 p.2, r.2)) (s, [])

/-- A request is performed: its accesses, its count, and its reply, which is noted where the hub still runs. -/
def State.mgmtPerform (s : State) (port op seq : Nat) (ps : List (Nat × Nat)) : State × List Nat :=
  let r := s.mgmtAccesses port op ps
  let s := r.1.addWrap HUB_MGT_STAT.REQUESTS 1
  (s, s.mgmtReply op ps.length 0 seq r.2)

/-- A register-access datagram that has arrived on a port (R562, R563). -/
def State.mgmtRequest (s : State) (port op : Nat) (data : List Nat) : State :=
  if !s.hubRuns || !s.mgmtUp port || decide (2 ≤ port) || !mgmtForm op data then s
  else
    let body := data.take (data.length - 16)
    let tag := data.drop (data.length - 16)
    let seq := ofLe ((data.drop 8).take 8)
    let ps := mgmtPairs op data
    let keyed := s.flag HUB_MGT_STAT.KEY_SET
    if !keyed && op == 1 && tag == List.replicate 16 0 && ps.all (fun p => openAddrs.contains p.1) then
      let r := s.mgmtPerform port op seq ps
      if r.1.hubRuns then r.1.send (.mgmt port 47710 r.2) else r.1
    else if !keyed || tag != s.mgmtTag body then s.mgmtAuthFail port
    else if seq < s.mgmt.last then s.send (.mgmt port 47710 (s.mgmtReply op ps.length 1 seq []))
    else if seq = s.mgmt.last then
      match s.mgmt.kept with
      | none => s
      | some m => s.send (.mgmt port 47710 m)
    else
      let s := { s with mgmt := { s.mgmt with last := seq, kept := none } }
      let r := if ps.any (fun p => p.1 % 8 != 0 || decide (0x4000000 ≤ p.1)) then (s, s.mgmtReply op ps.length 2 seq [])
        else s.mgmtPerform port op seq ps
      if r.1.hubRuns then ({ r.1 with mgmt := { r.1.mgmt with kept := some r.2 } } : State).send (.mgmt port 47710 r.2) else r.1

/-- MGMT_READ (R562, R563). -/
def execMgmtRead (port : Nat) (data : List Nat) (s : State) : Host.Outcome State Fault Refusal := .next (s.mgmtRequest port 1 data)

/-- MGMT_WRITE (R562). -/
def execMgmtWrite (port : Nat) (data : List Nat) (s : State) : Host.Outcome State Fault Refusal := .next (s.mgmtRequest port 2 data)

/-! ## Barograph export (R564) -/

/-- The SEQ that an acknowledgement names, where its form and, with a key in force, its TAG hold. -/
def State.ackSeq (s : State) (data : List Nat) : Option Nat :=
  let tagOk := !s.flag HUB_MGT_STAT.KEY_SET || data.drop 19 == s.mgmtTag (data.take 19)
  if data.length == 35 && data.take 11 == [0x4C, 0x56, 0x43, 0x41, 1, 0, 0, 0, 0, 0, 0] && tagOk then some (ofLe ((data.drop 11).take 8))
  else none

/-- CPER_ACK (R564): the record is acknowledged, and further ones may go out. -/
def execCperAck (port : Nat) (data : List Nat) (s : State) : Host.Outcome State Fault Refusal :=
  if !s.hubRuns || !s.mgmtUp port then .next s
  else match s.ackSeq data with
    | none => .next s
    | some q => .next { s with mgmt := { s.mgmt with out := s.mgmt.out.filter (fun o => o.seq != q) } }

/-- CPER_RESEND (R564): one second after the last sending of a record, it is sent again on the other port where that can send, else on the same
one; after 10 sends it is given up. -/
def execCperResend (seq : Nat) (s : State) : Host.Outcome State Fault Refusal :=
  if !s.hubRuns then .next s
  else match s.mgmt.out.find? (fun o => o.seq == seq) with
    | none => .next s
    | some o =>
      if 10 ≤ o.sends then
        let s := { s with mgmt := { s.mgmt with out := s.mgmt.out.filter (fun x => x.seq != seq) } }
        .next ((s.addSat HUB_MGT_STAT.CPER_LOST 1).raiseHost 0x0B42 o.port)
      else match [1 - o.port, o.port].find? s.canExport with
        | none => .next s
        | some p =>
          let o' : CperOut := { seq := seq, sends := o.sends + 1, port := p }
          let s := { s with mgmt := { s.mgmt with out := s.mgmt.out.map (fun (x : CperOut) => if x.seq = seq then o' else x) } }
          .next (s.cperSend p seq)

/-! ## Ports and addresses (R560, R561) -/

/-- The bytes of an address or a MAC, the most significant first. -/
def netBytes (n v : Nat) : List Nat := (leBytes n v).reverse

/-- The interface identifier of a port's MAC address (RFC 4291: modified EUI-64). -/
def State.interfaceId (s : State) (p : Nat) : Nat :=
  let m := s.get (HUB_MGT.MAC p)
  ((m / 2 ^ 24) ^^^ 0x020000) * 2 ^ 40 + 0xFFFE * 2 ^ 24 + m % 2 ^ 24

/-- A port gains an IPv6 address. -/
def State.addV6 (s : State) (p a : Nat) : State :=
  let x := s.mgmtPort p
  if x.v6.contains a then s else s.setMgmtPort p { x with v6 := x.v6 ++ [a] }

/-- MGMT_PORT_DOWN (R561): lost block lock for 10 ms. -/
def execMgmtPortDown (port : Nat) (s : State) : Host.Outcome State Fault Refusal :=
  if !s.hubRuns || !s.mgmtUp port || decide (2 ≤ port) then .next s
  else
    let s := (s.mgmtState port 0).put (HUB_MGT.FEC port) 0
    .next ((s.setMgmtPort port { s.mgmtPort port with dhcp := 0 }).raiseHost 0x0B40 port)

/-- MGMT_PORT_UP (R560, R561): auto-negotiation completes with an FEC; the port has its link-local address and begins DHCPv4. -/
def execMgmtPortUp (port fec : Nat) (s : State) : Host.Outcome State Fault Refusal :=
  if !s.hubRuns || s.mgmtUp port || decide (2 ≤ port) then .next s
  else
    let s := (s.mgmtState port 2).put (HUB_MGT.FEC port) fec
    .next ((s.addV6 port (0xFE80 * 2 ^ 112 + s.interfaceId port)).dhcpStart port)

/-- The port holds an IPv4 address. -/
def State.hasV4 (s : State) (p a : Nat) : Bool := s.flag (HUB_MGT_IP.BOUND p) && s.get (HUB_MGT_IP.ADDR p) == a

/-- ECHO_REQUEST (R560): a request to one of the port's addresses is answered with its identifier, sequence number and data. -/
def execEchoRequest (port : Nat) (v6 : Bool) (dst : Nat) (data : List Nat) (s : State) : Host.Outcome State Fault Refusal :=
  let mine := if v6 then (s.mgmtPort port).v6.contains dst else s.hasV4 port dst
  .next (if s.hubRuns && s.mgmtUp port && mine then s.send (.mgmt port (if v6 then 58 else 1) ((if v6 then 129 else 0) :: 0 :: data)) else s)

/-- ARP_REQUEST (R560): the reply gives the port's address and its MAC address. -/
def execArpRequest (port target : Nat) (s : State) : Host.Outcome State Fault Refusal :=
  .next (if s.hubRuns && s.mgmtUp port && s.hasV4 port target then
    s.send (.mgmt port 0x0806 (netBytes 4 target ++ netBytes 6 (s.get (HUB_MGT.MAC port)))) else s)

/-- NEIGHBOR_DISCOVERY (R560): a solicitation of an address of the port is answered; an advertisement of one by another host takes it away as
duplicate (RFC 4862); a router's prefix gives an address. -/
def execNeighborDiscovery (port : Nat) (m : NdMessage) (s : State) : Host.Outcome State Fault Refusal :=
  if !s.hubRuns || !s.mgmtUp port then .next s
  else
    let x := s.mgmtPort port
    match m with
    | .solicitation a =>
      .next (if x.v6.contains a then s.send (.mgmt port 58 ([136, 0] ++ netBytes 16 a ++ netBytes 6 (s.get (HUB_MGT.MAC port)))) else s)
    | .advertisement a => .next (s.setMgmtPort port { x with v6 := x.v6.filter (fun b => b != a) })
    | .router p used => .next (if used then s.addV6 port (p * 2 ^ 64 + s.interfaceId port) else s)

/-- DHCPv4 asks for an address: a REQUEST (3) of an address and a server. -/
def State.dhcpRequest (s : State) (p addr server : Nat) : State := s.send (.mgmt p 67 (3 :: (netBytes 4 addr ++ netBytes 4 server)))

/-- DHCP_REPLY (R561, RFC 2131): an OFFER is requested, an ACK binds, a NAK begins anew without an address. -/
def execDhcpReply (port : Nat) (m : DhcpMsg) (s : State) : Host.Outcome State Fault Refusal :=
  let x := s.mgmtPort port
  if !s.hubRuns || !s.mgmtUp port || s.flag (HUB_MGT_IP.STATIC port) || decide (2 ≤ port) then .next s
  else if m.kind = 2 ∧ x.dhcp = 1 then
    .next ((s.setMgmtPort port { x with dhcp := 2, server := m.server, offer := (m.addr, m.prefixLen) }).dhcpRequest port m.addr m.server)
  else if m.kind = 5 ∧ (x.dhcp = 2 ∨ x.dhcp = 4 ∨ x.dhcp = 5) then
    .next ((s.setMgmtPort port { x with dhcp := 3, server := m.server, offer := (m.addr, m.prefixLen) }).bind port m.addr m.prefixLen)
  else if m.kind = 6 ∧ (x.dhcp = 2 ∨ x.dhcp = 4 ∨ x.dhcp = 5) then .next ((s.bind port 0 0).dhcpStart port)
  else .next s

/-- DHCP_LEASE_TIMER (R561, RFC 2131): T1 renews with the server, T2 with any server, and at the expiry the address is given up. -/
def execDhcpLeaseTimer (port : Nat) (s : State) : Host.Outcome State Fault Refusal :=
  let x := s.mgmtPort port
  if !s.hubRuns || !s.mgmtUp port || s.flag (HUB_MGT_IP.STATIC port) || decide (2 ≤ port) then .next s
  else if x.dhcp = 3 then .next ((s.setMgmtPort port { x with dhcp := 4 }).dhcpRequest port x.offer.1 x.server)
  else if x.dhcp = 4 then .next ((s.setMgmtPort port { x with dhcp := 5 }).dhcpRequest port x.offer.1 0)
  else if x.dhcp = 5 then .next ((s.bind port 0 0).dhcpStart port)
  else .next s

end Sys2Proof.Machine
end

