-- ==== Sys2Proof/Machine/Updraft.lean ====
section
/-! DEFINITION. The Updraft scheduler (11_heat_and_budget.md R425 to R434): the millisecond tick, the choice and the admission of the next
pass (R176, R177, R182), and sector gating. -/

namespace Sys2Proof.Machine

open Sys2Proof

/-! ## The rate and the bucket (R425 to R427) -/

/-- R after one millisecond, and the LIMITER code, in SERVING (R426). -/
def rateStep (r target lim up inLimit : Nat) : Nat × Nat :=
  if r < target then
    let n := Nat.min target (r + up)
    (n, if n = target then lim else 4)
  else if target < r then
    let n := Nat.max target (r - 8000)
    let n := if inLimit < n then inLimit else n
    (n, if n = target then lim else 5)
  else (r, lim)

/-- The registers of the rate and the bucket follow them. -/
def State.rateShow (s : State) (target lim : Nat) : State :=
  let l := s.rateInputs
  let s := ((s.putSat UPD_RATE.RATE (s.updraft.rate / 1000)).putSat UPD_RATE.TARGET target).put UPD_RATE.LIMITER lim
  let s := ((s.putSat UPD_INPUTS.HOST_CAP (nth 0 l 0)).putSat UPD_INPUTS.IN_LIMIT (nth 0 l 1)).putSat UPD_INPUTS.SEG_SUM (nth 0 l 2)
  let s := (s.putSat UPD_INPUTS.HEAT_CAP (nth 0 l 3)).put UPD_BUCKET.LEVEL (unsigned 32 (s.updraft.level / 1000000))
  s.putSat UPD_BUCKET.CAPACITY (s.capacity / 1000000)

/-- The rate and the bucket of one tick. de is the input energy of the millisecond in µJ; the first tick only marks where the energy stands. -/
def State.rateTick (s : State) (de : Nat) : State :=
  let u := s.updraft
  let u := { u with powers := if u.ticks = 0 then [] else (de :: u.powers).take 1000, ticks := u.ticks + 1, energyAt := s.power.eIn / 100000 }
  let s := { s with updraft := u }
  let t := s.target
  if s.get RST_STATUS.PSTATE = 4 then
    let n := rateStep u.rate (t.1 * 1000) t.2 (s.get UPD_CFG.RAMP_UP) (s.inLimitUsed * 1000)
    let s := { s with updraft := { u with rate := n.1 } }
    let level : Int := min (s.updraft.level + (n.1 : Int) - (de : Int)) (s.capacity : Int)
    { s with updraft := { s.updraft with level := level } }.rateShow t.1 n.2
  else
    let s := { s with updraft := { u with rate := s.meanPower * 1000 } }
    { s with updraft := { s.updraft with level := (s.capacity : Int) } }.rateShow t.1 t.2

/-! ## Throttle demands of the tick (Table 11.8) -/

/-- The debt demand of every serving die. -/
def State.debtTick (s : State) : State :=
  let u := s.updraft
  let all (s : State) (f : Nat → Nat) : State := s.servingStacks.foldl (fun s x => s.setDemand x { s.demand x with debt := f (s.demand x).debt }) s
  if u.level < -(s.capacity : Int) then
    all { s with updraft := { u with coolDebt := none } } (fun n => sat 12 (n + 1))
  else if 0 ≤ u.level then
    let t := u.coolDebt.getD u.ticks
    if t + 10 ≤ u.ticks then all { s with updraft := { u with coolDebt := some u.ticks } } (fun n => n - 1)
    else { s with updraft := { u with coolDebt := some t } }
  else { s with updraft := { u with coolDebt := none } }

/-- The sector demand of the dies of a sector. -/
def State.sectorTick (s : State) (g : Nat) : State :=
  let u := s.updraft
  let load := s.get (PWR_SEG_BUDGET.LOAD g)
  let budget := s.get (PWR_SEG_BUDGET.BUDGET g)
  let dies := s.servingStacks.filter (fun x => sectorOf x == g)
  let all (s : State) (f : Nat → Nat) : State := dies.foldl (fun s x => s.setDemand x { s.demand x with sector := f (s.demand x).sector }) s
  if 95 * budget < 100 * load then
    all { s with updraft := { u with coolSector := delKey u.coolSector g } } (fun n => sat 12 (n + 1))
  else if load * 100 < 80 * budget then
    let t := lookD u.ticks u.coolSector g
    if t + 10 ≤ u.ticks then all { s with updraft := { u with coolSector := putKey u.coolSector g u.ticks } } (fun n => n - 1)
    else { s with updraft := { u with coolSector := putKey u.coolSector g t } }
  else { s with updraft := { u with coolSector := delKey u.coolSector g } }

/-! ## Sector gating (R433, R434) -/

/-- The serving stacks of a sector. -/
def State.sectorServing (s : State) (g : Nat) : List Nat := s.servingStacks.filter (fun x => sectorOf x == g)

/-- Sectors that are idle-gated. -/
def State.gatedSectors (s : State) : List Nat := setBits 16 (s.get UPD_GATED.SECTORS)

/-- A gated sector whose domains are all ON again is gated no more. -/
def State.ungateShow (s : State) : State :=
  if !s.flag UPD_GATED.UNGATING then s
  else
    let left := s.gatedSectors.filter (fun g => !(s.sectorServing g).all (fun x => [0, 1, 2].all (fun d => s.dom x d == 3)))
    (s.put UPD_GATED.SECTORS (maskOf left)).put UPD_GATED.UNGATING (b2n !left.isEmpty)

/-- A queue is eligible: the domains of every gated sector are requested (R434). -/
def State.ungate (s : State) : State :=
  if s.gatedSectors.isEmpty || s.flag UPD_GATED.UNGATING then s
  else
    let s := s.put UPD_GATED.UNGATING 1
    (s.gatedSectors.flatMap s.sectorServing).foldl (fun s x => s.requestAll x [2, 0, 1]) s

/-- UPDRAFT_TICK (R425 to R429): every 1 ms while the hub core runs, DOLDRUMS apart. -/
def execUpdraftTick (s : State) : Host.Outcome State Fault Refusal :=
  if !s.hubRuns || s.doldrums then .next s
  else
    let e := s.power.eIn / 100000
    let s := s.rateTick (if s.updraft.ticks = 0 then 0 else e - s.updraft.energyAt)
    let s := (below 16).foldl (fun s g => s.sectorTick g) s.debtTick
    .next s.ungateShow.progress

/-- SECTOR_IDLE_GATE (R433): no queue has been eligible for IDLE_GATE ms, with the panel idle. -/
def execSectorIdleGate (s : State) : Host.Outcome State Fault Refusal :=
  if s.get RST_STATUS.PSTATE ≠ 4 ∨ s.trans.isSome ∨ s.get UPD_CFG.IDLE_GATE = 0 ∨ ¬ s.updraft.en ∨ ¬ s.eligible.isEmpty ∨ s.get HUB_PASS.STATE ≠ 0 ∨ s.pass.running then .next s
  else
    let gs := (below 16).filter (fun g => !(s.sectorServing g).isEmpty)
    let s := gs.foldl (fun s g => (s.sectorServing g).foldl (fun s x => s.powerDownAll x [1, 0, 2]) s) s
    .next ((s.put UPD_GATED.SECTORS (maskOf gs)).put UPD_GATED.UNGATING 0)

/-! ## The choice (R430 to R432) -/

/-- The better of two eligible queues: PRIO, then CREDIT, then the lower number. -/
def State.better (s : State) (a b : Nat) : Nat :=
  let pa := s.get (UPD_SQ.PRIO a)
  let pb := s.get (UPD_SQ.PRIO b)
  if pa < pb ∨ (pa = pb ∧ s.credit a < s.credit b) then b else a

/-- The queue chosen among the eligible ones. -/
def State.chooseQueue (s : State) : List Nat → Option Nat
  | [] => none
  | q :: l =>
    if s.updraft.en then some (l.foldl s.better q)
    else ((below 4).map (fun i => (s.updraft.lastSq + 1 + i) % 4)).find? (fun x => (q :: l).contains x)

/-- Every SERVING site of the image in force is served (R469, R532), its staging area can be read (R478), and no broken multicast stops admission
(R543). -/
def State.shapeServed (s : State) : Bool :=
  s.image.area.isSome && !s.image.areaLost && !s.image.serving.isEmpty && s.image.serving.all (fun x => s.stackIn (s.standIn x)) && !s.spares.mcastBroken

/-- What holds an admission back, as UPD_DECISION.WAIT names it; 0 for nothing. The bucket is apart. -/
def State.admissionWait (s : State) : Nat :=
  if s.get RST_STATUS.PSTATE ≠ 4 ∨ s.trans.isSome ∨ s.flag THM_EMERG.ACTIVE ∨ s.flag CLK_STATUS.HOLDOVER_IDLE ∨ s.power.hubFailed then 7
  else if s.get HUB_PASS.STATE = 1 then 4
  else if !s.shapeServed || !s.flag MSH_STATUS.ROUTES_OK || s.retraining then 5
  else if s.thermal.capLow then 6
  else if !s.spares.swaps.isEmpty || !s.domainsReady then 3 else 0

/-- The head entry of a queue is one that R176 rejects. -/
def State.badEntry (s : State) (q : Nat) : Bool :=
  let w := s.headWord q 0
  let opc := bits w 63 56
  bits w 55 49 != 0 || s.headWord q 1 % 32 != 0 || (opc != 1 && opc != 2) || (opc == 1 && (s.template (bits w 47 32)).isNone)

/-- Take the head entry without running it: a MARKER completes with OK, a bad entry is REJECTED with 0x020B (R176). -/
def State.takeUnrun (s : State) (q : Nat) : State :=
  let w := s.headWord q 0
  let bad := s.badEntry q
  (s.takeHead q).complete q (s.plainRecord (if bad then 4 else 0) (if bad then 0x020B else 0) (bits w 31 0)) (bit w 48) (!bad)

/-- Complete the MARKERs at the head of a queue. -/
def State.markersOf (q : Nat) : Nat → State → State
  | 0, s => s
  | n + 1, s => if s.queueOpen q ∧ bits (s.headWord q 0) 63 56 = 2 then State.markersOf q n (s.takeUnrun q) else s

/-- Complete the MARKERs at the heads of the queues. -/
def State.markers (s : State) : State := (below 4).foldl (fun s q => State.markersOf q 1024 s) s

/-- UPD_DECISION after a choice. -/
def State.decided (s : State) (q wait : Nat) : State :=
  let t := bits (s.headWord q 0) 47 32
  let e := s.templateEnergy t
  ((s.put UPD_DECISION.TEMPLATE t).putSat UPD_DECISION.ESTIMATE e).put UPD_DECISION.SQ q |>.put UPD_DECISION.WAIT wait

/-- PASS_ADMIT (R182 steps 1 and 2): the head entry of a queue becomes the running pass. -/
def State.admitPass (s : State) (q : Nat) (eligible : List Nat) : State :=
  let w := s.headWord q 0
  let t := bits w 47 32
  let args := (below 6).map (fun i => s.headWord q (2 + i))
  let p : PassState := { running := true, irq := bit w 48, tag := bits w 31 0, reportAddr := s.headWord q 1, args := args }
  let p := { p with admitTime := s.isobar, energyAt := s.energyIn, seq := s.pass.seq + 1, eligible := eligible, estimate := s.templateEnergy t }
  let s := { s.takeHead q with pass := { p with parts := s.servingStacks }, updraft := { s.updraft with lastSq := q } }
  let s := (((s.put HUB_PASS.STATE 2).put HUB_PASS.TEMPLATE t).put HUB_PASS.SWEEP 0).put HUB_PASS.SQ q
  let s := s.pass.parts.foldl (fun s x =>
    let s := (below 6).foldl (fun s i => s.setReg (STR_ARG.REG x i) (word (nth 0 args i))) s
    s.setReg (MXA_SLOT.REG x) 0) s
  s.toAll 0x10 [t, s.pass.seq]

/-- The choice is made, and made again at once after an entry that is rejected (R430). -/
def decideLoop (wait : Nat) : Nat → State → State
  | 0, s => s
  | n + 1, s =>
    let el := s.eligible
    match s.chooseQueue el with
    | none => s.put UPD_DECISION.WAIT 1
    | some q =>
      let s := s.ungate
      let wait := if wait = 0 ∧ ¬ s.gatedSectors.isEmpty then 3 else wait
      if wait ≠ 0 then s.decided q wait
      else if s.badEntry q then decideLoop wait n (s.takeUnrun q)
      else
        let e := s.templateEnergy (bits (s.headWord q 0) 47 32)
        if s.updraft.en && decide (s.updraft.level < (Nat.min (e * 1000) s.capacity : Nat)) then s.decided q 2
        else (s.decided q 0).admitPass q el

/-- UPDRAFT_DECISION (R430): at a boundary, and every 1 ms until a pass is admitted. -/
def execUpdraftDecision (s : State) : Host.Outcome State Fault Refusal :=
  if !s.hubRuns || s.doldrums || s.pass.running then .next s
  else
    let s := s.ungateShow
    let wait := s.admissionWait
    if wait = 7 then .next (s.put UPD_DECISION.WAIT 7) else .next (decideLoop wait 4096 s.markers)

end Sys2Proof.Machine
end

