-- ==== Sys2Proof/Machine/Dispatch.lean ====
section
/-! DEFINITION. The dispatch: each command to its meaning. -/

namespace Sys2Proof.Machine

open Sys2Proof

/-- The effect of a command on everything but the queue of waiting commands. -/
def exec (i : Instr) (s : State) : Host.Outcome State Fault Refusal :=
  match i with
  | .registerWrite who addr bytes value => Sys2Proof.Machine.execRegisterWrite who addr bytes value s
  | .discovery => Sys2Proof.Machine.execDiscovery s
  | .discoveryProbe site p => Sys2Proof.Machine.execDiscoveryProbe site p s
  | .discoveryCollectClose endTick => Sys2Proof.Machine.execDiscoveryCollectClose endTick s
  | .meshLinkUp a b verA verB => Sys2Proof.Machine.execMeshLinkUp a b verA verB s
  | .discLogRead who bytes half => Sys2Proof.Machine.execDiscLogRead who bytes half s
  | .arrayNop site a => Sys2Proof.Machine.execArrayNop site a s
  | .loadw site a found => Sys2Proof.Machine.execLoadw site a found s
  | .stream site a => Sys2Proof.Machine.execStream site a s
  | .drain site a => Sys2Proof.Machine.execDrain site a s
  | .zero site a => Sys2Proof.Machine.execZero site a s
  | .setfmt site a => Sys2Proof.Machine.execSetfmt site a s
  | .loop site a => Sys2Proof.Machine.execLoop site a s
  | .arrayEnd site a => Sys2Proof.Machine.execArrayEnd site a s
  | .ucodeInvalidOpcode site a => Sys2Proof.Machine.execUcodeInvalidOpcode site a s
  | .arrayEntry site feed slot faults => Sys2Proof.Machine.execArrayEntry site feed slot faults s
  | .bankLoadDone site a => Sys2Proof.Machine.execBankLoadDone site a s
  | .drainRowRead site a => Sys2Proof.Machine.execDrainRowRead site a s
  | .accRowZero site a => Sys2Proof.Machine.execAccRowZero site a s
  | .outputRecordHandoff site row => Sys2Proof.Machine.execOutputRecordHandoff site row s
  | .mxaThrottleWrite who site value => Sys2Proof.Machine.execMxaThrottleWrite who site value s
  | .mxaRowmapWrite who site value => Sys2Proof.Machine.execMxaRowmapWrite who site value s
  | .rerunGo who site a value => Sys2Proof.Machine.execRerunGo who site a value s
  | .rowGo who site value => Sys2Proof.Machine.execRowGo who site value s
  | .ucodeWrite who site j value => Sys2Proof.Machine.execUcodeWrite who site j value s
  | .vecNop site v f => Sys2Proof.Machine.execVecNop site v f s
  | .vecEnd site v f => Sys2Proof.Machine.execVecEnd site v f s
  | .fadd site v f => Sys2Proof.Machine.execFadd site v f s
  | .fsub site v f => Sys2Proof.Machine.execFsub site v f s
  | .fmul site v f => Sys2Proof.Machine.execFmul site v f s
  | .fma site v f => Sys2Proof.Machine.execFma site v f s
  | .fmin site v f => Sys2Proof.Machine.execFmin site v f s
  | .fmax site v f => Sys2Proof.Machine.execFmax site v f s
  | .funOp site v f => Sys2Proof.Machine.execFunOp site v f s
  | .ftr site v f => Sys2Proof.Machine.execFtr site v f s
  | .iadd site v f => Sys2Proof.Machine.execIadd site v f s
  | .isub site v f => Sys2Proof.Machine.execIsub site v f s
  | .imul site v f => Sys2Proof.Machine.execImul site v f s
  | .ilog site v f => Sys2Proof.Machine.execIlog site v f s
  | .cvt site v f => Sys2Proof.Machine.execCvt site v f s
  | .fcmp site v f => Sys2Proof.Machine.execFcmp site v f s
  | .icmp site v f => Sys2Proof.Machine.execIcmp site v f s
  | .sel site v f => Sys2Proof.Machine.execSel site v f s
  | .bcast site v f => Sys2Proof.Machine.execBcast site v f s
  | .perm site v f => Sys2Proof.Machine.execPerm site v f s
  | .lshift site v f => Sys2Proof.Machine.execLshift site v f s
  | .rsum site v f => Sys2Proof.Machine.execRsum site v f s
  | .rmax site v f => Sys2Proof.Machine.execRmax site v f s
  | .vld site v f => Sys2Proof.Machine.execVld site v f s
  | .vldsc site v f => Sys2Proof.Machine.execVldsc site v f s
  | .vst site v f => Sys2Proof.Machine.execVst site v f s
  | .exld site v f => Sys2Proof.Machine.execExld site v f s
  | .sli site v f => Sys2Proof.Machine.execSli site v f s
  | .sadd site v f => Sys2Proof.Machine.execSadd site v f s
  | .bnz site v f => Sys2Proof.Machine.execBnz site v f s
  | .jmp site v f => Sys2Proof.Machine.execJmp site v f s
  | .twait site v f => Sys2Proof.Machine.execTwait site v f s
  | .tsig site v f => Sys2Proof.Machine.execTsig site v f s
  | .vecInvalidOpcode site v f => Sys2Proof.Machine.execVecInvalidOpcode site v f s
  | .vcoGo who site v value => Sys2Proof.Machine.execVcoGo who site v value s
  | .vcoProgWrite site v j value => Sys2Proof.Machine.execVcoProgWrite site v j value s
  | .vcoModeWrite who site value => Sys2Proof.Machine.execVcoModeWrite who site value s
  | .ccoFwWrite who site c value => Sys2Proof.Machine.execCcoFwWrite who site c value s
  | .ccoBootTimeout site c => Sys2Proof.Machine.execCcoBootTimeout site c s
  | .ccoWdogKick who site c => Sys2Proof.Machine.execCcoWdogKick who site c s
  | .ccoWatchdogExpiry site c => Sys2Proof.Machine.execCcoWatchdogExpiry site c s
  | .ccoFatalWrite who site c value => Sys2Proof.Machine.execCcoFatalWrite who site c value s
  | .tcmUncorrectable site c itcm => Sys2Proof.Machine.execTcmUncorrectable site c itcm s
  | .ccoMbxInPush who site c value => Sys2Proof.Machine.execCcoMbxInPush who site c value s
  | .hubMessageEnqueue site c => Sys2Proof.Machine.execHubMessageEnqueue site c s
  | .mbxHeadRemove site c => Sys2Proof.Machine.execMbxHeadRemove site c s
  | .mbxSend site c dest => Sys2Proof.Machine.execMbxSend site c dest s
  | .ccoMbxOutPop who site c value => Sys2Proof.Machine.execCcoMbxOutPop who site c value s
  | .sweepFaultReport site unit => Sys2Proof.Machine.execSweepFaultReport site unit s
  | .sqDoorbell who q value => Sys2Proof.Machine.execSqDoorbell who q value s
  | .updraftDecision => Sys2Proof.Machine.execUpdraftDecision s
  | .passBegin site => Sys2Proof.Machine.execPassBegin site s
  | .sweepStart site => Sys2Proof.Machine.execSweepStart site s
  | .sweepDone site => Sys2Proof.Machine.execSweepDone site s
  | .passEnd => Sys2Proof.Machine.execPassEnd s
  | .passAbort site => Sys2Proof.Machine.execPassAbort site s
  | .quiet site => Sys2Proof.Machine.execQuiet site s
  | .clear site => Sys2Proof.Machine.execClear site s
  | .empty site fails => Sys2Proof.Machine.execEmpty site fails s
  | .drainStuckTimeout site => Sys2Proof.Machine.execDrainStuckTimeout site s
  | .completionWrite q => Sys2Proof.Machine.execCompletionWrite q s
  | .sqEnable who q value => Sys2Proof.Machine.execSqEnable who q value s
  | .sqAbort who q => Sys2Proof.Machine.execSqAbort who q s
  | .sqFlush who q => Sys2Proof.Machine.execSqFlush who q s
  | .sqCqConfig who q base value => Sys2Proof.Machine.execSqCqConfig who q base value s
  | .cqHeadWrite who q value => Sys2Proof.Machine.execCqHeadWrite who q value s
  | .descriptorListAdmit who site value => Sys2Proof.Machine.execDescriptorListAdmit who site value s
  | .descriptorSourceStart site d => Sys2Proof.Machine.execDescriptorSourceStart site d s
  | .descriptorSinkStart site d => Sys2Proof.Machine.execDescriptorSinkStart site d s
  | .descriptorSinkComplete site d => Sys2Proof.Machine.execDescriptorSinkComplete site d s
  | .engineRun site d sink ecc => Sys2Proof.Machine.execEngineRun site d sink ecc s
  | .dscMissTimeout site ch => Sys2Proof.Machine.execDscMissTimeout site ch s
  | .dscStall site => Sys2Proof.Machine.execDscStall site s
  | .gelatWriteCommit site writes => Sys2Proof.Machine.execGelatWriteCommit site writes s
  | .scrubRead site w a => Sys2Proof.Machine.execScrubRead site w a s
  | .gltErrLogRead who site bytes half => Sys2Proof.Machine.execGltErrLogRead who site bytes half s
  | .gltRepairRetry who site => Sys2Proof.Machine.execGltRepairRetry who site s
  | .exitScrubDone site found fails => Sys2Proof.Machine.execExitScrubDone site found fails s
  | .gelatInitDone site => Sys2Proof.Machine.execGelatInitDone site s
  | .bhtWrite who site h k value => Sys2Proof.Machine.execBhtWrite who site h k value s
  | .hbmTrain stack r => Sys2Proof.Machine.execHbmTrain stack r s
  | .goldenPatrolRead stack e => Sys2Proof.Machine.execGoldenPatrolRead stack e s
  | .dpdGoldWrite who stack value => Sys2Proof.Machine.execDpdGoldWrite who stack value s
  | .gatherBlockRead node tag ei eb => Sys2Proof.Machine.execGatherBlockRead node tag ei eb s
  | .hubRwtWrite who e value => Sys2Proof.Machine.execHubRwtWrite who e value s
  | .hubRwtSync who value => Sys2Proof.Machine.execHubRwtSync who value s
  | .rwtSyncDone => Sys2Proof.Machine.execRwtSyncDone s
  | .routerHeadFlit node port p ce ue => Sys2Proof.Machine.execRouterHeadFlit node port p ce ue s
  | .read p ecc => Sys2Proof.Machine.execRead p ecc s
  | .write p => Sys2Proof.Machine.execWrite p s
  | .mwrite node p => Sys2Proof.Machine.execMwrite node p s
  | .msg p => Sys2Proof.Machine.execMsg p s
  | .rdata p => Sys2Proof.Machine.execRdata p s
  | .wack p => Sys2Proof.Machine.execWack p s
  | .contrib p => Sys2Proof.Machine.execContrib p s
  | .mshDeadlock node port channel lane => Sys2Proof.Machine.execMshDeadlock node port channel lane s
  | .mshRspTimeout node tag => Sys2Proof.Machine.execMshRspTimeout node tag s
  | .mshRedTimeout site t seq => Sys2Proof.Machine.execMshRedTimeout site t seq s
  | .linkLossDetect site port answers => Sys2Proof.Machine.execLinkLossDetect site port answers s
  | .mshVerify who value => Sys2Proof.Machine.execMshVerify who value s
  | .widthToken site port good spares token => Sys2Proof.Machine.execWidthToken site port good spares token s
  | .widthTokenTimeout site port => Sys2Proof.Machine.execWidthTokenTimeout site port s
  | .routeTableWrite who node j value mcast => Sys2Proof.Machine.execRouteTableWrite who node j value mcast s
  | .treeEntryWrite who site t value => Sys2Proof.Machine.execTreeEntryWrite who site t value s
  | .redDrainWrite who site value => Sys2Proof.Machine.execRedDrainWrite who site value s
  | .mshEventRead who bytes half => Sys2Proof.Machine.execMshEventRead who bytes half s
  | .tileCompare site a => Sys2Proof.Machine.execTileCompare site a s
  | .voteCprimeDone site => Sys2Proof.Machine.execVoteCprimeDone site s
  | .voteDecide site => Sys2Proof.Machine.execVoteDecide site s
  | .voteTimeout site => Sys2Proof.Machine.execVoteTimeout site s
  | .sdgVoteLogRead who bytes half => Sys2Proof.Machine.execSdgVoteLogRead who bytes half s
  | .barRdSeqWrite who value => Sys2Proof.Machine.execBarRdSeqWrite who value s
  | .linkEnable who l value => Sys2Proof.Machine.execLinkEnable who l value s
  | .galRetrain who l => Sys2Proof.Machine.execGalRetrain who l s
  | .galePmaDone l => Sys2Proof.Machine.execGalePmaDone l s
  | .galePcsDone l => Sys2Proof.Machine.execGalePcsDone l s
  | .galeFlitLock l => Sys2Proof.Machine.execGaleFlitLock l s
  | .param l f peer => Sys2Proof.Machine.execParam l f peer s
  | .galeAttemptFail l => Sys2Proof.Machine.execGaleAttemptFail l s
  | .galeDownTimer l => Sys2Proof.Machine.execGaleDownTimer l s
  | .galeLinkLoss l signal am => Sys2Proof.Machine.execGaleLinkLoss l signal am s
  | .galeDataFlit l bytes => Sys2Proof.Machine.execGaleDataFlit l bytes s
  | .galeReplayTimeout l => Sys2Proof.Machine.execGaleReplayTimeout l s
  | .galeFecSecond l corrected uncorrectable => Sys2Proof.Machine.execGaleFecSecond l corrected uncorrectable s
  | .openMsg l p => Sys2Proof.Machine.execOpenMsg l p s
  | .closeMsg l p => Sys2Proof.Machine.execCloseMsg l p s
  | .ackMsg l p => Sys2Proof.Machine.execAckMsg l p s
  | .putMsg l p => Sys2Proof.Machine.execPutMsg l p s
  | .getReq l p => Sys2Proof.Machine.execGetReq l p s
  | .getResp l p => Sys2Proof.Machine.execGetResp l p s
  | .sendMsg l p => Sys2Proof.Machine.execSendMsg l p s
  | .collUp l p => Sys2Proof.Machine.execCollUp l p s
  | .collDown l p => Sys2Proof.Machine.execCollDown l p s
  | .keepalive l p => Sys2Proof.Machine.execKeepalive l p s
  | .conduitRto c st => Sys2Proof.Machine.execConduitRto c st s
  | .conduitOpenTimer c => Sys2Proof.Machine.execConduitOpenTimer c s
  | .conduitKeepaliveTimer c => Sys2Proof.Machine.execConduitKeepaliveTimer c s
  | .conduitDeadLimit c => Sys2Proof.Machine.execConduitDeadLimit c s
  | .conduitNolinkLimit c => Sys2Proof.Machine.execConduitNolinkLimit c s
  | .conduitRnrDelay c => Sys2Proof.Machine.execConduitRnrDelay c s
  | .conduitAckTimer c st => Sys2Proof.Machine.execConduitAckTimer c st s
  | .conduitCfgWrite who c reg value => Sys2Proof.Machine.execConduitCfgWrite who c reg value s
  | .conduitSendGo who c value => Sys2Proof.Machine.execConduitSendGo who c value s
  | .rxHeadWrite who c value => Sys2Proof.Machine.execRxHeadWrite who c value s
  | .galPanelWrite who value => Sys2Proof.Machine.execGalPanelWrite who value s
  | .collSlotWrite who e t k value => Sys2Proof.Machine.execCollSlotWrite who e t k value s
  | .collTimeout e t => Sys2Proof.Machine.execCollTimeout e t s
  | .moduleInsert k m => Sys2Proof.Machine.execModuleInsert k m s
  | .moduleRemove k => Sys2Proof.Machine.execModuleRemove k s
  | .moduleInterrupt k f => Sys2Proof.Machine.execModuleInterrupt k f s
  | .moduleAuthAnswer k cert sig page => Sys2Proof.Machine.execModuleAuthAnswer k cert sig page s
  | .moduleAuthTimeout k => Sys2Proof.Machine.execModuleAuthTimeout k s
  | .moduleReauthTimer k => Sys2Proof.Machine.execModuleReauthTimer k s
  | .moduleLifeRead k page => Sys2Proof.Machine.execModuleLifeRead k page s
  | .lenQuiesce who k => Sys2Proof.Machine.execLenQuiesce who k s
  | .lenResume who k => Sys2Proof.Machine.execLenResume who k s
  | .inputTurnOn => Sys2Proof.Machine.execInputTurnOn s
  | .inputTurnOff => Sys2Proof.Machine.execInputTurnOff s
  | .lowInputWarning => Sys2Proof.Machine.execLowInputWarning s
  | .highInputWarning => Sys2Proof.Machine.execHighInputWarning s
  | .overvoltageTrip => Sys2Proof.Machine.execOvervoltageTrip s
  | .pwrokRelease => Sys2Proof.Machine.execPwrokRelease s
  | .barLoss b tripped => Sys2Proof.Machine.execBarLoss b tripped s
  | .barRestore b => Sys2Proof.Machine.execBarRestore b s
  | .barImbalanceCheck => Sys2Proof.Machine.execBarImbalanceCheck s
  | .inputBackstop => Sys2Proof.Machine.execInputBackstop s
  | .backstopRelease => Sys2Proof.Machine.execBackstopRelease s
  | .segmentOverload g => Sys2Proof.Machine.execSegmentOverload g s
  | .segmentOverloadRelease g => Sys2Proof.Machine.execSegmentOverloadRelease g s
  | .segmentOn g => Sys2Proof.Machine.execSegmentOn g s
  | .segmentSoftstartTimeout g => Sys2Proof.Machine.execSegmentSoftstartTimeout g s
  | .segmentTrip g cause => Sys2Proof.Machine.execSegmentTrip g cause s
  | .lsrInputSwitchOpen node => Sys2Proof.Machine.execLsrInputSwitchOpen node s
  | .senseFault node d => Sys2Proof.Machine.execSenseFault node d s
  | .domainUndervoltage node d => Sys2Proof.Machine.execDomainUndervoltage node d s
  | .domainOvervoltage node d => Sys2Proof.Machine.execDomainOvervoltage node d s
  | .phaseFailure node d rail phases => Sys2Proof.Machine.execPhaseFailure node d rail phases s
  | .domainOverCap node d => Sys2Proof.Machine.execDomainOverCap node d s
  | .lsrHot node => Sys2Proof.Machine.execLsrHot node s
  | .powerupApproval g => Sys2Proof.Machine.execPowerupApproval g s
  | .rampEndCheck node d ok => Sys2Proof.Machine.execRampEndCheck node d ok s
  | .softstartRetry node d => Sys2Proof.Machine.execSoftstartRetry node d s
  | .powerupDeferredTimeout node d => Sys2Proof.Machine.execPowerupDeferredTimeout node d s
  | .meterSample m => Sys2Proof.Machine.execMeterSample m s
  | .snapshotTimer => Sys2Proof.Machine.execSnapshotTimer s
  | .pwrSnap who value => Sys2Proof.Machine.execPwrSnap who value s
  | .pwrEventRead who bytes half => Sys2Proof.Machine.execPwrEventRead who bytes half s
  | .pwrInputMaxRead who bytes half => Sys2Proof.Machine.execPwrInputMaxRead who bytes half s
  | .sensorSample readings powers => Sys2Proof.Machine.execSensorSample readings powers s
  | .thermalDemandStep site fall => Sys2Proof.Machine.execThermalDemandStep site fall s
  | .coolantSample r => Sys2Proof.Machine.execCoolantSample r s
  | .emergencyEfuseCheck => Sys2Proof.Machine.execEmergencyEfuseCheck s
  | .thmEmergClear who value => Sys2Proof.Machine.execThmEmergClear who value s
  | .clearSuspect who value => Sys2Proof.Machine.execClearSuspect who value s
  | .thmEventRead who bytes half => Sys2Proof.Machine.execThmEventRead who bytes half s
  | .updraftTick => Sys2Proof.Machine.execUpdraftTick s
  | .sectorIdleGate => Sys2Proof.Machine.execSectorIdleGate s
  | .refWindow edges => Sys2Proof.Machine.execRefWindow edges s
  | .holdoverExpiry => Sys2Proof.Machine.execHoldoverExpiry s
  | .billowStart unlocked delays => Sys2Proof.Machine.execBillowStart unlocked delays s
  | .clockEdgeLoss site d answers => Sys2Proof.Machine.execClockEdgeLoss site d answers s
  | .seamSlip site port => Sys2Proof.Machine.execSeamSlip site port s
  | .beaconSend => Sys2Proof.Machine.execBeaconSend s
  | .beacon site d launch hops own crcOk => Sys2Proof.Machine.execBeacon site d launch hops own crcOk s
  | .beaconLoss site => Sys2Proof.Machine.execBeaconLoss site s
  | .opChangeRequest who value => Sys2Proof.Machine.execOpChangeRequest who value s
  | .opSlewStart => Sys2Proof.Machine.execOpSlewStart s
  | .opSettleCheck unsettled => Sys2Proof.Machine.execOpSettleCheck unsettled s
  | .opLinkPause => Sys2Proof.Machine.execOpLinkPause s
  | .opRelock unlocked => Sys2Proof.Machine.execOpRelock unlocked s
  | .opDetectResume => Sys2Proof.Machine.execOpDetectResume s
  | .ptpSync port m => Sys2Proof.Machine.execPtpSync port m s
  | .ptpAnnounce port m dataset utc => Sys2Proof.Machine.execPtpAnnounce port m dataset utc s
  | .ptpDelayResp port m => Sys2Proof.Machine.execPtpDelayResp port m s
  | .ptpLoss => Sys2Proof.Machine.execPtpLoss s
  | .ptpEnable who value => Sys2Proof.Machine.execPtpEnable who value s
  | .dawnCrystalLoss => Sys2Proof.Machine.execDawnCrystalLoss s
  | .isbCountRead who bytes half => Sys2Proof.Machine.execIsbCountRead who bytes half s
  | .clkEventRead who bytes half => Sys2Proof.Machine.execClkEventRead who bytes half s
  | .imageLoad who => Sys2Proof.Machine.execImageLoad who s
  | .imageReadDone ues => Sys2Proof.Machine.execImageReadDone ues s
  | .imageCheckDone ues => Sys2Proof.Machine.execImageCheckDone ues s
  | .imageAbandon who => Sys2Proof.Machine.execImageAbandon who s
  | .arm node nak => Sys2Proof.Machine.execArm node nak s
  | .armAck node => Sys2Proof.Machine.execArmAck node s
  | .nak node code => Sys2Proof.Machine.execNak node code s
  | .armDecide => Sys2Proof.Machine.execArmDecide s
  | .confirm node => Sys2Proof.Machine.execConfirm node s
  | .abort node => Sys2Proof.Machine.execAbort node s
  | .commit lost ues => Sys2Proof.Machine.execCommit lost ues s
  | .report node applied => Sys2Proof.Machine.execReport node applied s
  | .reportDeadline => Sys2Proof.Machine.execReportDeadline s
  | .powerOn => Sys2Proof.Machine.execPowerOn s
  | .perstAssert => Sys2Proof.Machine.execPerstAssert s
  | .perstLong => Sys2Proof.Machine.execPerstLong s
  | .perstRelease => Sys2Proof.Machine.execPerstRelease s
  | .resetRequest who value => Sys2Proof.Machine.execResetRequest who value s
  | .hubWatchdogExpiry => Sys2Proof.Machine.execHubWatchdogExpiry s
  | .hubFatal => Sys2Proof.Machine.execHubFatal s
  | .startWindowExpiry => Sys2Proof.Machine.execStartWindowExpiry s
  | .doldrumsExit who value => Sys2Proof.Machine.execDoldrumsExit who value s
  | .resetStretchEnd => Sys2Proof.Machine.execResetStretchEnd s
  | .rstoRelease => Sys2Proof.Machine.execRstoRelease s
  | .standbyStart => Sys2Proof.Machine.execStandbyStart s
  | .powerStateRequest who value => Sys2Proof.Machine.execPowerStateRequest who value s
  | .transitionTimeout => Sys2Proof.Machine.execTransitionTimeout s
  | .retain site => Sys2Proof.Machine.execRetain site s
  | .resume site => Sys2Proof.Machine.execResume site s
  | .rstPark who value => Sys2Proof.Machine.execRstPark who value s
  | .fwBcast who value ues => Sys2Proof.Machine.execFwBcast who value ues s
  | .fwUnicast who value => Sys2Proof.Machine.execFwUnicast who value s
  | .fwStart who value => Sys2Proof.Machine.execFwStart who value s
  | .fwRoundDone => Sys2Proof.Machine.execFwRoundDone s
  | .fwBlock site header data => Sys2Proof.Machine.execFwBlock site header data s
  | .spareInitDone spare => Sys2Proof.Machine.execSpareInitDone spare s
  | .spareCopyDone spare ues => Sys2Proof.Machine.execSpareCopyDone spare ues s
  | .spareIn spare => Sys2Proof.Machine.execSpareIn spare s
  | .spareReady spare => Sys2Proof.Machine.execSpareReady spare s
  | .spareReadyTimeout spare => Sys2Proof.Machine.execSpareReadyTimeout spare s
  | .hostDone who spare => Sys2Proof.Machine.execHostDone who spare s
  | .spareAbandon who spare => Sys2Proof.Machine.execSpareAbandon who spare s
  | .hostLimitExpiry spare => Sys2Proof.Machine.execHostLimitExpiry spare s
  | .spareLogRead who bytes half => Sys2Proof.Machine.execSpareLogRead who bytes half s
  | .pcieLinkUp speed width flit => Sys2Proof.Machine.execPcieLinkUp speed width flit s
  | .pcieLinkDown => Sys2Proof.Machine.execPcieLinkDown s
  | .busMasterEnableChange on => Sys2Proof.Machine.execBusMasterEnableChange on s
  | .hostReadCompletion tag ok data => Sys2Proof.Machine.execHostReadCompletion tag ok data s
  | .hostReadTimeout tag => Sys2Proof.Machine.execHostReadTimeout tag s
  | .bar4Access write offset n data poison => Sys2Proof.Machine.execBar4Access write offset n data poison s
  | .b4apWrite who j value => Sys2Proof.Machine.execB4apWrite who j value s
  | .irqHoldoffEnd v => Sys2Proof.Machine.execIrqHoldoffEnd v s
  | .msixUnmask w => Sys2Proof.Machine.execMsixUnmask w s
  | .mgmtRead port data => Sys2Proof.Machine.execMgmtRead port data s
  | .mgmtWrite port data => Sys2Proof.Machine.execMgmtWrite port data s
  | .mgmtKeyWrite who k value => Sys2Proof.Machine.execMgmtKeyWrite who k value s
  | .cperAck port data => Sys2Proof.Machine.execCperAck port data s
  | .cperResend seq => Sys2Proof.Machine.execCperResend seq s
  | .mgmtPortDown port => Sys2Proof.Machine.execMgmtPortDown port s
  | .mgmtPortUp port fec => Sys2Proof.Machine.execMgmtPortUp port fec s
  | .echoRequest port v6 dst data => Sys2Proof.Machine.execEchoRequest port v6 dst data s
  | .smbRead who value => Sys2Proof.Machine.execSmbRead who value s
  | .smbReadDone ok data => Sys2Proof.Machine.execSmbReadDone ok data s
  | .guestSidebandUp g block => Sys2Proof.Machine.execGuestSidebandUp g block s
  | .guestSidebandTimeout g => Sys2Proof.Machine.execGuestSidebandTimeout g s
  | .guestTrainDone g ok rate width => Sys2Proof.Machine.execGuestTrainDone g ok rate width s
  | .guestRetry who g value => Sys2Proof.Machine.execGuestRetry who g value s
  | .guestEnableWrite who g value => Sys2Proof.Machine.execGuestEnableWrite who g value s
  | .guestRdata g f => Sys2Proof.Machine.execGuestRdata g f s
  | .guestWack g tag err => Sys2Proof.Machine.execGuestWack g tag err s
  | .guestTempReport g temp => Sys2Proof.Machine.execGuestTempReport g temp s
  | .guestTimeout g tag => Sys2Proof.Machine.execGuestTimeout g tag s
  | .guestLinkLoss g => Sys2Proof.Machine.execGuestLinkLoss g s
  | .guestRetrainTimer g => Sys2Proof.Machine.execGuestRetrainTimer g s
  | .registerRead who addr bytes => Sys2Proof.Machine.execRegisterRead who addr bytes s
  | .ccoLocalAccess site c a ecc => Sys2Proof.Machine.execCcoLocalAccess site c a ecc s
  | .mtimecmpInterrupt site c => Sys2Proof.Machine.execMtimecmpInterrupt site c s
  | .ptpFollowUp port m => Sys2Proof.Machine.execPtpFollowUp port m s
  | .ptpDelayReqTimer => Sys2Proof.Machine.execPtpDelayReqTimer s
  | .dhcpReply port m => Sys2Proof.Machine.execDhcpReply port m s
  | .dhcpLeaseTimer port => Sys2Proof.Machine.execDhcpLeaseTimer port s
  | .arpRequest port target => Sys2Proof.Machine.execArpRequest port target s
  | .neighborDiscovery port m => Sys2Proof.Machine.execNeighborDiscovery port m s
  | .putMergeWindow c => Sys2Proof.Machine.execPutMergeWindow c s
  | .collPackWindow e t => Sys2Proof.Machine.execCollPackWindow e t s
  | .forwardedClockReturn site d => Sys2Proof.Machine.execForwardedClockReturn site d s

end Sys2Proof.Machine
end

