-- ==== Sys2Proof/Machine/Step.lean ====
section
/-! DEFINITION. One step of the panel: the command at the front of the queue, or what the panel does by itself. -/

namespace Sys2Proof.Machine

open Sys2Proof

/-- What the panel does when no command waits (DESIGN CHOICE, log entry 1): Isobar time advances by one tick, and what its conditions allow
proceeds. -/
def State.rest (s : State) : State := s.idle.mgmtIdle

/-- One step: the command that has waited longest is taken from the queue and run on the state with the queue's rest. -/
def step (s : State) : Host.Outcome State Fault Refusal :=
  match s.pending with
  | [] => .next s.rest
  | c :: rest => exec c { s with pending := rest }

/-- The state with the command that a word spells at the front of its queue; no word spells one. -/
def State.withFetchWord (s : State) (nbits w : Nat) : State :=
  match decodeTableWord nbits w with
  | none => s
  | some c => { s with pending := c :: s.pending }

end Sys2Proof.Machine
end

