-- ==== Sys2Proof/Safety.lean ====
section
/-! DEFINITION. What a safe run of the panel is, in the terms the statements use: the canonical form of a state's data, runs of several steps, and a run
that no fault or refusal stops. -/

namespace Sys2Proof.Machine

open Sys2Proof

/-- The keys of a sparse map rise strictly: its canonical form. -/
def Rising {α : Type} (m : List (Nat × α)) : Prop := m.Pairwise (fun a b => a.1 < b.1)

/-- The data of a state are in canonical form: memory is sorted by address and lists no byte that an unlisted address reads as, and the register file is
sorted by address and lists no register twice. Equal panels are then equal data. -/
def State.Canonical (s : State) : Prop := Memory.wf s.memory = true ∧ Rising s.regs

/-- The outcome of n steps one after the other; a fault or a refusal ends the run with it. -/
def runSteps : Nat → State → Host.Outcome State Fault Refusal
  | 0, s => .next s
  | n + 1, s =>
    match step s with
    | .next t => runSteps n t
    | o => o

/-- A run of n steps that nothing stops. -/
def SafeRun (n : Nat) (s : State) : Prop := ∃ t, runSteps n s = .next t

/-- A command that a panel can be asked for without leaving its address space: every command, and an access by the host or a management port only inside
BAR0 and BAR2, or inside BAR4. -/
def InSpace : Instr → Bool
  | .registerWrite _ addr bytes _ => !(decide (barEnd < addr + bytes) || decide (barEnd ≤ addr))
  | .registerRead _ addr bytes => !(decide (barEnd < addr + bytes) || decide (barEnd ≤ addr))
  | .bar4Access _ offset n _ _ => !(decide (2 ^ 36 < offset + n) || decide (2 ^ 36 ≤ offset))
  | _ => true

/-- The commands that may store bytes in memory, clear it, or move the Isobar count; every other command leaves both as they are. -/
def mayStore : Instr → Bool
  | .registerWrite .. => true
  | .discoveryCollectClose .. => true
  | .outputRecordHandoff .. => true
  | .passAbort .. => true
  | .empty .. => true
  | .drainStuckTimeout .. => true
  | .engineRun .. => true
  | .gelatWriteCommit .. => true
  | .exitScrubDone .. => true
  | .gelatInitDone .. => true
  | .write .. => true
  | .mwrite .. => true
  | .contrib .. => true
  | .tileCompare .. => true
  | .voteCprimeDone .. => true
  | .voteDecide .. => true
  | .voteTimeout .. => true
  | .inputTurnOff => true
  | .overvoltageTrip => true
  | .pwrokRelease => true
  | .segmentOn .. => true
  | .segmentSoftstartTimeout .. => true
  | .segmentTrip .. => true
  | .lsrInputSwitchOpen .. => true
  | .domainOvervoltage .. => true
  | .phaseFailure .. => true
  | .rampEndCheck .. => true
  | .meterSample .. => true
  | .sensorSample .. => true
  | .coolantSample .. => true
  | .emergencyEfuseCheck => true
  | .updraftTick => true
  | .sectorIdleGate => true
  | .holdoverExpiry => true
  | .billowStart .. => true
  | .commit .. => true
  | .powerOn => true
  | .perstAssert => true
  | .perstLong => true
  | .perstRelease => true
  | .resetRequest .. => true
  | .hubWatchdogExpiry => true
  | .hubFatal => true
  | .startWindowExpiry => true
  | .doldrumsExit .. => true
  | .resetStretchEnd => true
  | .standbyStart => true
  | .fwBcast .. => true
  | .fwUnicast .. => true
  | .fwStart .. => true
  | .fwBlock .. => true
  | .spareInitDone .. => true
  | .spareCopyDone .. => true
  | .spareReady .. => true
  | .spareReadyTimeout .. => true
  | .hostDone .. => true
  | .spareAbandon .. => true
  | .hostLimitExpiry .. => true
  | .hostReadCompletion .. => true
  | .hostReadTimeout .. => true
  | .mgmtRead .. => true
  | .mgmtWrite .. => true
  | .guestSidebandUp .. => true
  | .guestSidebandTimeout .. => true
  | .guestRetry .. => true
  | .guestEnableWrite .. => true
  | .guestTempReport .. => true
  | .ccoLocalAccess .. => true
  | _ => false

/-- The hub runs and is not in DOLDRUMS: its registers answer (R505, R529). -/
def State.hubOpen (s : State) : Bool := s.hubRuns && s.get RST_STATUS.PSTATE != 6

/-- A register of a site that is not dark answers a requester (R13, R34). -/
def State.siteOpen (s : State) (who : Requester) (addr site : Nat) : Bool := !s.siteDark who addr site

/-- An array may issue the instruction word at its PC, and that word has the opcode op. -/
def State.arrayAt (s : State) (site a op : Nat) : Bool := s.canIssue site a && bits (s.ucodeWord site a) 63 60 == op

/-- A vector core that runs alone stands at a valid word of opcode op. -/
def State.vectorAt (s : State) (site v op : Nat) : Bool :=
  s.vecRuns site v && !(s.vector site v).pcPast && !s.paired site && (decodeVec (s.vecWord site v)).op == op && (decodeVec (s.vecWord site v)).ok

end Sys2Proof.Machine
end

