-- ==== Sys2Proof/WellFormed.lean ====
section
/-! DEFINITION. Well-formed commands: each operand lies in the range that the spec gives the thing it names. The meanings are total and do not
rest on it. -/

namespace Sys2Proof

/-- A site that carries a stack: 0 to 168 but for the nine that the hub takes (R32). -/
def validStack (site : Nat) : Bool := decide (site < 169) && !(decide (5 ≤ site / 13) && decide (site / 13 ≤ 7) && decide (5 ≤ site % 13) && decide (site % 13 ≤ 7))

/-- A node of the mesh: a site, the hub (84), or a ring node 169 to 212 (R38, R242). -/
def validNodeNo (node : Nat) : Bool := decide (node < 213)

/-- An array of a die (R66). -/
def validArray (a : Nat) : Bool := decide (a < 18)

/-- A vector core of a die (R136). -/
def validVector (v : Nat) : Bool := decide (v < 4)

/-- A control core of a die (R160). -/
def validCore (c : Nat) : Bool := decide (c < 2)

/-- A conduit (R333, nine bits of DCND). -/
def validConduit (c : Nat) : Bool := decide (c < 512)

/-- A submission queue (05_sweeps.md). -/
def validQueue (q : Nat) : Bool := decide (q < 4)

/-- A Gale link (09_gale_links.md). -/
def validLink (l : Nat) : Bool := decide (l < 96)

/-- A stream of a conduit: 0 request, 1 response, 2 collective (Table 9.6). -/
def validStream (st : Nat) : Bool := decide (st < 3)

/-- A reduction tree or a collective slot (R276, R345). -/
def validTree (t : Nat) : Bool := decide (t < 64)

/-- A remote window entry (R238). -/
def validWindow (e : Nat) : Bool := decide (e < 4096)

/-- An edge die (R38). -/
def validEdge (e : Nat) : Bool := decide (e < 24)

/-- An HBM stack (R56). -/
def validHbm (stack : Nat) : Bool := decide (stack < 32)

/-- A buffer handle (R209). -/
def validHandle (h : Nat) : Bool := decide (h < 256)

/-- An array row: 0 north, 1 south (R66). -/
def validRow (row : Nat) : Bool := decide (row < 2)

/-- The size of a register access in bytes; sizes other than 4 and 8 are answered as R11 says. -/
def validSize (bytes : Nat) : Bool := decide (1 ≤ bytes) && decide (bytes ≤ 8)

/-- The half of a register that a read begins at: the upper one only with 4 bytes (R11). -/
def validHalf (bytes half : Nat) : Bool := half == 0 || (half == 1 && bytes == 4)

/-- A value of at most 64 bits. -/
def validValue (value : Nat) : Bool := decide (value < 2 ^ 64)

/-- A channel of a die's engines (R191). -/
def validChannel (ch : Nat) : Bool := decide (ch < 4)

/-- A mailbox destination byte (R165). -/
def validDest (dest : Nat) : Bool := decide (dest < 256)

/-- A Downdraft segment (R370). -/
def validSegment (g : Nat) : Bool := decide (g < 21)

/-- A guest site (Table 1.5). -/
def validGuest (g : Nat) : Bool := decide (g < 4)

/-- A port of a router; the hub has the most, twelve (R36). -/
def validRouterPort (port : Nat) : Bool := decide (port < 12)

/-- A management port (R560). -/
def validMgmtPort (port : Nat) : Bool := decide (port < 2)

/-- A Lenticular module (R39). -/
def validModule (k : Nat) : Bool := decide (k < 12)

/-- A word of a handle table entry (Table 6.2). -/
def validBhtWord (k : Nat) : Bool := decide (k < 4)

/-- A word of a collective slot (R345). -/
def validCollWord (k : Nat) : Bool := decide (k < 4)

/-- A word of the management key (R562). -/
def validKeyWord (k : Nat) : Bool := decide (k < 4)

/-- A panel direction (R28). -/
def validDirection (d : Nat) : Bool := decide (d < 4)

/-- A supply domain of a node (Tables 10.4 and 10.5). -/
def validDomain (d : Nat) : Bool := decide (d < 6)

/-- A lane of a mesh channel (R254). -/
def validLane (lane : Nat) : Bool := decide (lane < 2)

/-- An input bar: 0 A, 1 B (R364). -/
def validBar (b : Nat) : Bool := decide (b < 2)

/-- A microcode word (R93). -/
def validUcode (j : Nat) : Bool := decide (j < 512)

/-- A word of vector program memory (R137). -/
def validProg (j : Nat) : Bool := decide (j < 4096)

/-- A route register, or a multicast entry 1 to 15 (R258, R266). -/
def validRoute (mcast : Bool) (j : Nat) : Bool := if mcast then decide (1 ≤ j) && decide (j < 16) else decide (j < 64)

/-- A BAR4 aperture (R554). -/
def validAperture (j : Nat) : Bool := decide (j < 16)

/-- A configuration register of a conduit: CFG, WBASE, WSIZE or RXBASE (R333). -/
def validCndReg (reg : Nat) : Bool := decide (reg < 4)

/-- A code of 16 bits. -/
def validCode (code : Nat) : Bool := decide (code < 2 ^ 16)

/-- A trip cause of 4 bits (R374). -/
def validCause (cause : Nat) : Bool := decide (cause < 16)

/-- A vector of MSI-X (Table 16.1). -/
def validIrq (v : Nat) : Bool := decide (v < 256)

/-- A string of bytes. -/
def validBytes (l : List Nat) : Bool := l.all (fun b => decide (b < 256))

/-- A string of 64-bit words. -/
def validWords (l : List Nat) : Bool := l.all (fun w => decide (w < 2 ^ 64))

/-- A port of a node. -/
def validPort (x : PortRef) : Bool := validNodeNo x.node && validRouterPort x.port

/-- A requester: the host, a management port, a control core of a stack, the hub, or a mesh node (R57, R163, R494). -/
def validWho : Requester → Bool
  | .host => true
  | .mgmt port => validMgmtPort port
  | .core site c => validStack site && validCore c
  | .hub => true
  | .mesh node => validNodeNo node

/-- A mesh packet (R247, Table 7.4): its nodes, each field within its bits, and data bytes. -/
def validPacket (p : Packet) : Bool :=
  validNodeNo p.src && decide (p.dst < 256) && decide (p.type < 16) && decide (p.mask < 16) && decide (p.len ≤ 8) && decide (p.tag < 4096) &&
  decide (p.tree < 64) && decide (p.seq < 2 ^ 17) && decide (p.digest < 2 ^ 61) && decide (p.ppa < 2 ^ 56) && validBytes p.data

/-- A Gale transport packet (Table 9.6): each field within its bits, and data bytes. -/
def validGale (p : GalePacket) : Bool :=
  decide (p.psn < 2 ^ 24) && decide (p.apsn < 2 ^ 24) && decide (p.status < 256) && decide (p.offset < 2 ^ 64) && decide (p.ref < 2 ^ 24) &&
  decide (p.dpanel < 2 ^ 16) && decide (p.spanel < 2 ^ 16) &&
   decide (p.dcnd < 512) && decide (p.type < 16) && decide (p.len < 2 ^ 13) && validStream p.stream && validBytes p.data

/-- The feed of an entry: a row, or the re-run feed of an array (R70, R92). -/
def validFeed : EntryFeed → Bool
  | .row r => validRow r
  | .rerun a => validArray a

/-- A halted unit (R166). -/
def validUnit : FaultUnit → Bool
  | .array a => validArray a
  | .vector v => validVector v

/-- An access of a control core: 1, 2, 4 or 8 bytes, an atomic 4 or 8 (R161). -/
def validAccess : CoreAccess → Bool
  | .load _ bytes => bytes == 1 || bytes == 2 || bytes == 4 || bytes == 8
  | .store _ bytes value => (bytes == 1 || bytes == 2 || bytes == 4 || bytes == 8) && decide (value < 256 ^ bytes)
  | .atomic op _ bytes value => decide (op < 32) && (bytes == 4 || bytes == 8) && decide (value < 256 ^ bytes)
  | .fence => true

/-- A discovery probe (R43): a hub port, and edges of stacks. -/
def validProbe (p : Probe) : Bool := validRouterPort p.hport && validDirection p.entry && p.hops.all (fun h => validDirection h.1 && validDirection h.2)

/-- One sample of the meters (R398): segments, stacks and ring positions that exist. -/
def validMeter (m : MeterSample) : Bool :=
  m.segs.all (fun r => validSegment r.g) && m.stackList.all (fun r => validStack r.1) && m.rings.all (fun r => decide (r.1 < 44))

/-- A command is well formed: every operand names a thing that the panel has, or is a value of the width that the spec gives it. -/
def wellFormed : Instr → Bool
  | .registerWrite who _ bytes value => validWho who && validSize bytes && validValue value
  | .discovery => true
  | .discoveryProbe site p => validStack site && validProbe p
  | .discoveryCollectClose _ => true
  | .meshLinkUp a b _ _ => validPort a && validPort b
  | .discLogRead who bytes half => validWho who && validSize bytes && validHalf bytes half
  | .arrayNop site a => validStack site && validArray a
  | .loadw site a _ => validStack site && validArray a
  | .stream site a => validStack site && validArray a
  | .drain site a => validStack site && validArray a
  | .zero site a => validStack site && validArray a
  | .setfmt site a => validStack site && validArray a
  | .loop site a => validStack site && validArray a
  | .arrayEnd site a => validStack site && validArray a
  | .ucodeInvalidOpcode site a => validStack site && validArray a
  | .arrayEntry site feed _ _ => validStack site && validFeed feed
  | .bankLoadDone site a => validStack site && validArray a
  | .drainRowRead site a => validStack site && validArray a
  | .accRowZero site a => validStack site && validArray a
  | .outputRecordHandoff site row => validStack site && validRow row
  | .mxaThrottleWrite who site value => validWho who && validStack site && validValue value
  | .mxaRowmapWrite who site value => validWho who && validStack site && validValue value
  | .rerunGo who site a value => validWho who && validStack site && validArray a && validValue value
  | .rowGo who site value => validWho who && validStack site && validValue value
  | .ucodeWrite who site i value => validWho who && validStack site && validUcode i && validValue value
  | .vecNop site v _ => validStack site && validVector v
  | .vecEnd site v _ => validStack site && validVector v
  | .fadd site v _ => validStack site && validVector v
  | .fsub site v _ => validStack site && validVector v
  | .fmul site v _ => validStack site && validVector v
  | .fma site v _ => validStack site && validVector v
  | .fmin site v _ => validStack site && validVector v
  | .fmax site v _ => validStack site && validVector v
  | .funOp site v _ => validStack site && validVector v
  | .ftr site v _ => validStack site && validVector v
  | .iadd site v _ => validStack site && validVector v
  | .isub site v _ => validStack site && validVector v
  | .imul site v _ => validStack site && validVector v
  | .ilog site v _ => validStack site && validVector v
  | .cvt site v _ => validStack site && validVector v
  | .fcmp site v _ => validStack site && validVector v
  | .icmp site v _ => validStack site && validVector v
  | .sel site v _ => validStack site && validVector v
  | .bcast site v _ => validStack site && validVector v
  | .perm site v _ => validStack site && validVector v
  | .lshift site v _ => validStack site && validVector v
  | .rsum site v _ => validStack site && validVector v
  | .rmax site v _ => validStack site && validVector v
  | .vld site v _ => validStack site && validVector v
  | .vldsc site v _ => validStack site && validVector v
  | .vst site v _ => validStack site && validVector v
  | .exld site v _ => validStack site && validVector v
  | .sli site v _ => validStack site && validVector v
  | .sadd site v _ => validStack site && validVector v
  | .bnz site v _ => validStack site && validVector v
  | .jmp site v _ => validStack site && validVector v
  | .twait site v _ => validStack site && validVector v
  | .tsig site v _ => validStack site && validVector v
  | .vecInvalidOpcode site v _ => validStack site && validVector v
  | .vcoGo who site v value => validWho who && validStack site && validVector v && validValue value
  | .vcoProgWrite site v i value => validStack site && validVector v && validProg i && validValue value
  | .vcoModeWrite who site value => validWho who && validStack site && validValue value
  | .ccoFwWrite who site c value => validWho who && validStack site && validCore c && validValue value
  | .ccoBootTimeout site c => validStack site && validCore c
  | .ccoWdogKick who site c => validWho who && validStack site && validCore c
  | .ccoWatchdogExpiry site c => validStack site && validCore c
  | .ccoFatalWrite who site c value => validWho who && validStack site && validCore c && validValue value
  | .tcmUncorrectable site c _ => validStack site && validCore c
  | .ccoMbxInPush who site c value => validWho who && validStack site && validCore c && validValue value
  | .hubMessageEnqueue site c => validStack site && validCore c
  | .mbxHeadRemove site c => validStack site && validCore c
  | .mbxSend site c dest => validStack site && validCore c && validDest dest
  | .ccoMbxOutPop who site c value => validWho who && validStack site && validCore c && validValue value
  | .sweepFaultReport site unit => validStack site && validUnit unit
  | .sqDoorbell who q value => validWho who && validQueue q && validValue value
  | .updraftDecision => true
  | .passBegin site => validStack site
  | .sweepStart site => validStack site
  | .sweepDone site => validStack site
  | .passEnd => true
  | .passAbort site => validStack site
  | .quiet site => validStack site
  | .clear site => validStack site
  | .empty site _ => validStack site
  | .drainStuckTimeout site => validStack site
  | .completionWrite q => validQueue q
  | .sqEnable who q value => validWho who && validQueue q && validValue value
  | .sqAbort who q => validWho who && validQueue q
  | .sqFlush who q => validWho who && validQueue q
  | .sqCqConfig who q _ value => validWho who && validQueue q && validValue value
  | .cqHeadWrite who q value => validWho who && validQueue q && validValue value
  | .descriptorListAdmit who site value => validWho who && validStack site && validValue value
  | .descriptorSourceStart site _ => validStack site
  | .descriptorSinkStart site _ => validStack site
  | .descriptorSinkComplete site _ => validStack site
  | .engineRun site _ _ _ => validStack site
  | .dscMissTimeout site ch => validStack site && validChannel ch
  | .dscStall site => validStack site
  | .gelatWriteCommit site _ => validStack site
  | .scrubRead site _ _ => validStack site
  | .gltErrLogRead who site bytes half => validWho who && validStack site && validSize bytes && validHalf bytes half
  | .gltRepairRetry who site => validWho who && validStack site
  | .exitScrubDone site _ _ => validStack site
  | .gelatInitDone site => validStack site
  | .bhtWrite who site h k value => validWho who && validStack site && validHandle h && validBhtWord k && validValue value
  | .hbmTrain stack _ => validHbm stack
  | .goldenPatrolRead stack _ => validHbm stack
  | .dpdGoldWrite who stack value => validWho who && validHbm stack && validValue value
  | .gatherBlockRead node _ _ _ => validNodeNo node
  | .hubRwtWrite who e value => validWho who && validWindow e && validValue value
  | .hubRwtSync who value => validWho who && validValue value
  | .rwtSyncDone => true
  | .routerHeadFlit node port p _ _ => validNodeNo node && validRouterPort port && validPacket p
  | .read p _ => validPacket p
  | .write p => validPacket p
  | .mwrite node p => validNodeNo node && validPacket p
  | .msg p => validPacket p
  | .rdata p => validPacket p
  | .wack p => validPacket p
  | .contrib p => validPacket p
  | .mshDeadlock node port _ lane => validNodeNo node && validRouterPort port && validLane lane
  | .mshRspTimeout node _ => validNodeNo node
  | .mshRedTimeout site t _ => validStack site && validTree t
  | .linkLossDetect site port _ => validStack site && validRouterPort port
  | .mshVerify who value => validWho who && validValue value
  | .widthToken site port _ _ _ => validStack site && validRouterPort port
  | .widthTokenTimeout site port => validStack site && validRouterPort port
  | .routeTableWrite who node i value mcast => validWho who && validNodeNo node && validRoute mcast i && validValue value
  | .treeEntryWrite who site t value => validWho who && validStack site && validTree t && validValue value
  | .redDrainWrite who site value => validWho who && validStack site && validValue value
  | .mshEventRead who bytes half => validWho who && validSize bytes && validHalf bytes half
  | .tileCompare site a => validStack site && validArray a
  | .voteCprimeDone site => validStack site
  | .voteDecide site => validStack site
  | .voteTimeout site => validStack site
  | .sdgVoteLogRead who bytes half => validWho who && validSize bytes && validHalf bytes half
  | .barRdSeqWrite who value => validWho who && validValue value
  | .linkEnable who l value => validWho who && validLink l && validValue value
  | .galRetrain who l => validWho who && validLink l
  | .galePmaDone l => validLink l
  | .galePcsDone l => validLink l
  | .galeFlitLock l => validLink l
  | .param l _ _ => validLink l
  | .galeAttemptFail l => validLink l
  | .galeDownTimer l => validLink l
  | .galeLinkLoss l _ _ => validLink l
  | .galeDataFlit l bytes => validLink l && validBytes bytes
  | .galeReplayTimeout l => validLink l
  | .galeFecSecond l _ _ => validLink l
  | .openMsg l p => validLink l && validGale p
  | .closeMsg l p => validLink l && validGale p
  | .ackMsg l p => validLink l && validGale p
  | .putMsg l p => validLink l && validGale p
  | .getReq l p => validLink l && validGale p
  | .getResp l p => validLink l && validGale p
  | .sendMsg l p => validLink l && validGale p
  | .collUp l p => validLink l && validGale p
  | .collDown l p => validLink l && validGale p
  | .keepalive l p => validLink l && validGale p
  | .conduitRto c st => validConduit c && validStream st
  | .conduitOpenTimer c => validConduit c
  | .conduitKeepaliveTimer c => validConduit c
  | .conduitDeadLimit c => validConduit c
  | .conduitNolinkLimit c => validConduit c
  | .conduitRnrDelay c => validConduit c
  | .conduitAckTimer c st => validConduit c && validStream st
  | .conduitCfgWrite who c reg value => validWho who && validConduit c && validCndReg reg && validValue value
  | .conduitSendGo who c value => validWho who && validConduit c && validValue value
  | .rxHeadWrite who c value => validWho who && validConduit c && validValue value
  | .galPanelWrite who value => validWho who && validValue value
  | .collSlotWrite who e t k value => validWho who && validEdge e && validTree t && validCollWord k && validValue value
  | .collTimeout e t => validEdge e && validTree t
  | .moduleInsert k _ => validModule k
  | .moduleRemove k => validModule k
  | .moduleInterrupt k _ => validModule k
  | .moduleAuthAnswer k cert sig page => validModule k && validBytes cert && validBytes sig && validBytes page
  | .moduleAuthTimeout k => validModule k
  | .moduleReauthTimer k => validModule k
  | .moduleLifeRead k page => validModule k && validBytes page
  | .lenQuiesce who k => validWho who && validModule k
  | .lenResume who k => validWho who && validModule k
  | .inputTurnOn => true
  | .inputTurnOff => true
  | .lowInputWarning => true
  | .highInputWarning => true
  | .overvoltageTrip => true
  | .pwrokRelease => true
  | .barLoss b _ => validBar b
  | .barRestore b => validBar b
  | .barImbalanceCheck => true
  | .inputBackstop => true
  | .backstopRelease => true
  | .segmentOverload g => validSegment g
  | .segmentOverloadRelease g => validSegment g
  | .segmentOn g => validSegment g
  | .segmentSoftstartTimeout g => validSegment g
  | .segmentTrip g cause => validSegment g && validCause cause
  | .lsrInputSwitchOpen node => validNodeNo node
  | .senseFault node d => validNodeNo node && validDomain d
  | .domainUndervoltage node d => validNodeNo node && validDomain d
  | .domainOvervoltage node d => validNodeNo node && validDomain d
  | .phaseFailure node d _ _ => validNodeNo node && validDomain d
  | .domainOverCap node d => validNodeNo node && validDomain d
  | .lsrHot node => validNodeNo node
  | .powerupApproval g => validSegment g
  | .rampEndCheck node d _ => validNodeNo node && validDomain d
  | .softstartRetry node d => validNodeNo node && validDomain d
  | .powerupDeferredTimeout node d => validNodeNo node && validDomain d
  | .meterSample m => validMeter m
  | .snapshotTimer => true
  | .pwrSnap who value => validWho who && validValue value
  | .pwrEventRead who bytes half => validWho who && validSize bytes && validHalf bytes half
  | .pwrInputMaxRead who bytes half => validWho who && validSize bytes && validHalf bytes half
  | .sensorSample _ _ => true
  | .thermalDemandStep site _ => validStack site
  | .coolantSample _ => true
  | .emergencyEfuseCheck => true
  | .thmEmergClear who value => validWho who && validValue value
  | .clearSuspect who value => validWho who && validValue value
  | .thmEventRead who bytes half => validWho who && validSize bytes && validHalf bytes half
  | .updraftTick => true
  | .sectorIdleGate => true
  | .refWindow _ => true
  | .holdoverExpiry => true
  | .billowStart _ _ => true
  | .clockEdgeLoss site d _ => validStack site && validDirection d
  | .seamSlip site port => validStack site && validRouterPort port
  | .beaconSend => true
  | .beacon site d _ _ _ _ => validStack site && validDirection d
  | .beaconLoss site => validStack site
  | .opChangeRequest who value => validWho who && validValue value
  | .opSlewStart => true
  | .opSettleCheck _ => true
  | .opLinkPause => true
  | .opRelock _ => true
  | .opDetectResume => true
  | .ptpSync port _ => validMgmtPort port
  | .ptpAnnounce port _ _ _ => validMgmtPort port
  | .ptpDelayResp port _ => validMgmtPort port
  | .ptpLoss => true
  | .ptpEnable who value => validWho who && validValue value
  | .dawnCrystalLoss => true
  | .isbCountRead who bytes half => validWho who && validSize bytes && validHalf bytes half
  | .clkEventRead who bytes half => validWho who && validSize bytes && validHalf bytes half
  | .imageLoad who => validWho who
  | .imageReadDone _ => true
  | .imageCheckDone _ => true
  | .imageAbandon who => validWho who
  | .arm node _ => validNodeNo node
  | .armAck node => validNodeNo node
  | .nak node code => validNodeNo node && validCode code
  | .armDecide => true
  | .confirm node => validNodeNo node
  | .abort node => validNodeNo node
  | .commit _ _ => true
  | .report node _ => validNodeNo node
  | .reportDeadline => true
  | .powerOn => true
  | .perstAssert => true
  | .perstLong => true
  | .perstRelease => true
  | .resetRequest who value => validWho who && validValue value
  | .hubWatchdogExpiry => true
  | .hubFatal => true
  | .startWindowExpiry => true
  | .doldrumsExit who value => validWho who && validValue value
  | .resetStretchEnd => true
  | .rstoRelease => true
  | .standbyStart => true
  | .powerStateRequest who value => validWho who && validValue value
  | .transitionTimeout => true
  | .retain site => validStack site
  | .resume site => validStack site
  | .rstPark who value => validWho who && validValue value
  | .fwBcast who value _ => validWho who && validValue value
  | .fwUnicast who value => validWho who && validValue value
  | .fwStart who value => validWho who && validValue value
  | .fwRoundDone => true
  | .fwBlock site header data => validStack site && validWords header && validBytes data
  | .spareInitDone spare => validStack spare
  | .spareCopyDone spare _ => validStack spare
  | .spareIn spare => validStack spare
  | .spareReady spare => validStack spare
  | .spareReadyTimeout spare => validStack spare
  | .hostDone who spare => validWho who && validStack spare
  | .spareAbandon who spare => validWho who && validStack spare
  | .hostLimitExpiry spare => validStack spare
  | .spareLogRead who bytes half => validWho who && validSize bytes && validHalf bytes half
  | .pcieLinkUp _ _ _ => true
  | .pcieLinkDown => true
  | .busMasterEnableChange _ => true
  | .hostReadCompletion _ _ data => validBytes data
  | .hostReadTimeout _ => true
  | .bar4Access _ _ _ data _ => validBytes data
  | .b4apWrite who i value => validWho who && validAperture i && validValue value
  | .irqHoldoffEnd v => validIrq v
  | .msixUnmask _ => true
  | .mgmtRead port data => validMgmtPort port && validBytes data
  | .mgmtWrite port data => validMgmtPort port && validBytes data
  | .mgmtKeyWrite who k value => validWho who && validKeyWord k && validValue value
  | .cperAck port data => validMgmtPort port && validBytes data
  | .cperResend _ => true
  | .mgmtPortDown port => validMgmtPort port
  | .mgmtPortUp port _ => validMgmtPort port
  | .echoRequest port _ _ data => validMgmtPort port && validBytes data
  | .smbRead who value => validWho who && validValue value
  | .smbReadDone _ data => validBytes data
  | .guestSidebandUp g block => validGuest g && validBytes block
  | .guestSidebandTimeout g => validGuest g
  | .guestTrainDone g _ _ _ => validGuest g
  | .guestRetry who g value => validWho who && validGuest g && validValue value
  | .guestEnableWrite who g value => validWho who && validGuest g && validValue value
  | .guestRdata g _ => validGuest g
  | .guestWack g _ _ => validGuest g
  | .guestTempReport g _ => validGuest g
  | .guestTimeout g _ => validGuest g
  | .guestLinkLoss g => validGuest g
  | .guestRetrainTimer g => validGuest g
  | .registerRead who _ bytes => validWho who && validSize bytes
  | .ccoLocalAccess site c a _ => validStack site && validCore c && validAccess a
  | .mtimecmpInterrupt site c => validStack site && validCore c
  | .ptpFollowUp port _ => validMgmtPort port
  | .ptpDelayReqTimer => true
  | .dhcpReply port _ => validMgmtPort port
  | .dhcpLeaseTimer port => validMgmtPort port
  | .arpRequest port _ => validMgmtPort port
  | .neighborDiscovery port _ => validMgmtPort port
  | .putMergeWindow c => validConduit c
  | .collPackWindow e t => validEdge e && validTree t
  | .forwardedClockReturn site d => validStack site && validDirection d

end Sys2Proof
end

