-- ==== Sys2Proof/Certificates/Slice0/Obligations.lean ====
section
/-! DEFINITION. The statements for the provers, one def Obligations.<Name> : Prop each, with the rules of the spec it rests on. Where a statement about a
command has several clauses, each clause gives the state that the command answers where its own effect takes place, from any state and operands that meet the
clause's hypotheses; what the next state does not name is as it was. -/

section

open Sys2Proof Sys2Proof.Machine

/-- Where an array may issue its word and the word passes the checks of its rule, ARRAY_NOP, STREAM, DRAIN, ZERO, SETFMT, LOOP and the array's END give the next state of their own effect: work is added to the array, the formats are set, the loop jumps or ends, the row's end is noted. An undefined opcode rejects the word with 0x0422. (R78, R82, R95, R96, R98, R121) -/
def Obligations.ArraySequencerCommandsComplete : Prop :=
  (∀ (s : State) (site a : Nat), s.arrayAt site a 0 → exec (.arrayNop site a) s = .next (s.arrayNext site a)) ∧
  (∀ (s : State) (site a w : Nat), s.arrayAt site a 3 → s.ucodeWord site a = w →
      rowsError (bits w 40 32) (bits w 23 16) = none → (s.array site a).fmtSet = true →
      (bit w 47 = true → (s.array site a).loadedSinceSwap = true) →
      (bit w 47 = false → s.flag (bankValid site a (s.get (MXA_STATUS.ACTIVE_BANK site a))) = true) →
      exec (.stream site a) s = .next (
        let rep := match (s.array site a).loop with | some (_, n) => n | none => 0
        let t := if s.get (MXA_STATUS.STATE site a) = 5 ∨ s.deferredRow site (arrayRow a) then s
          else s.setArray site a { s.array site a with tiles := (s.array site a).tiles ++ [{ pc := s.get (MXA_STATUS.PC site a), rep := rep, count := bits w 40 32 }] }
        (t.addWork site a ⟨.stream (bit w 47), bits w 23 16, bits w 40 32, 0⟩).arrayNext site a)) ∧
  (∀ (s : State) (site a w : Nat), s.arrayAt site a 4 → s.ucodeWord site a = w →
      bits w 44 42 = 1 → rowsError (bits w 40 32) (bits w 23 16) = none →
      exec (.drain site a) s = .next ((s.addWork site a ⟨.drain 1 (bit w 41), bits w 23 16, bits w 40 32, 0⟩).arrayNext site a)) ∧
  (∀ (s : State) (site a w : Nat), s.arrayAt site a 5 → s.ucodeWord site a = w →
      rowsError (bits w 40 32) (bits w 23 16) = none →
      exec (.zero site a) s = .next ((s.addWork site a ⟨.zero, bits w 23 16, bits w 40 32, 0⟩).arrayNext site a)) ∧
  (∀ (s : State) (site a w : Nat), s.arrayAt site a 6 → s.ucodeWord site a = w →
      formatPairOk (bits w 59 56) (bits w 55 52) (bit w 51) (bit w 50) = true →
      ((s.array site a).fmtSet = true → s.get (MXA_FMT.ANCHOR site a) = bits w 31 16) →
      exec (.setfmt site a) s = .next (
        let t := (((s.put (MXA_FMT.WFMT site a) (bits w 59 56)).put (MXA_FMT.AFMT site a) (bits w 55 52)).put (MXA_FMT.MXW site a) (bits w 51 51)).put
          (MXA_FMT.MXA site a) (bits w 50 50)
        let t := (t.put (MXA_FMT.ANCHOR site a) (bits w 31 16)).put (MXA_FMT.CLASS site a) (classCode (formatClass (bits w 59 56)))
        (t.setArray site a { t.array site a with fmtSet := true }).arrayNext site a)) ∧
  (∀ (s : State) (site a n w : Nat), s.arrayAt site a 7 → s.ucodeWord site a = w →
      s.loopOk site a w = true → (s.array site a).loop = some (s.get (MXA_STATUS.PC site a), n) →
      exec (.loop site a) s = .next (
        if n < bits w 15 0 then
          ((s.setArray site a { s.array site a with loop := some (s.get (MXA_STATUS.PC site a), n + 1) }).put (MXA_STATUS.PC site a) (bits w 40 32)).arrayGo site a
        else (s.setArray site a { s.array site a with loop := none }).arrayNext site a)) ∧
  (∀ (s : State) (site a : Nat), s.arrayAt site a 0xF → (s.array site a).work = [] →
      exec (.arrayEnd site a) s = .next (
        if s.get (MXA_STATUS.STATE site a) = 5 then ((s.arrayGo site a).put (MXA_STATUS.STATE site a) 4).put (MXA_CTRL.RERUN_GO site a) 0
        else ((s.arrayGo site a).put (MXA_STATUS.STATE site a) 0).rowDone site (arrayRow a))) ∧
  (∀ (s : State) (site a : Nat), s.arrayAt site a 2 → exec (.ucodeInvalidOpcode site a) s = .next (s.reject site a 0x0422))

/-- A load that ends fills the bank that is not active and marks it valid; LOADW starts a load from the handle's row; ZERO's next row is cleared; DRAIN's next row is read and held; a row whose arrays hold the same row hands it on; an entry that the throttle blocks waits with reason 4. (R72, R78, R80, R197) -/
def Obligations.ArrayEventCommandsComplete : Prop :=
  (∀ (s : State) (site a : Nat) (t : BankTile), (s.array site a).load = some t → t.tritBad = false →
      let b := 1 - s.get (MXA_STATUS.ACTIVE_BANK site a)
      exec (.bankLoadDone site a) s = .next (
        (((s.setArray site a (if b = 0 then { s.array site a with load := none, bank0 := t } else { s.array site a with load := none, bank1 := t })).put
          (MXA_STATUS.LOADING site a) 0).put (bankValid site a b) 1).nonfinite site a t.nonfinite)) ∧
  (∀ (s : State) (site a w row : Nat), s.arrayAt site a 1 → s.ucodeWord site a = w → (s.array site a).load = none → s.loadwRow site a w = (row, true) →
      let wfmt := s.get (MXA_FMT.WFMT site a)
      let mxw := s.flag (MXA_FMT.MXW site a)
      let d := s.readMem (mkPpa 0 site (64 * row)) (64 * tileBeats wfmt mxw)
      exec (.loadw site a []) s = .next (
        let t := if d.2 then s.discardPass 0x0302 else s
        let t := t.setArray site a { t.array site a with load := some ⟨d.1, wfmt, mxw, d.2, bits w 59 52, row⟩, loadedSinceSwap := true }
        let t := t.put (bankValid site a (1 - t.get (MXA_STATUS.ACTIVE_BANK site a))) 0
        (t.put (MXA_STATUS.LOADING site a) 1).arrayNext site a)) ∧
  (∀ (s : State) (site a i : Nat) (w : Work), indexOf? (fun (w : Work) => w.kind.isZero) (s.array site a).work = some i →
      (s.array site a).work[i]? = some w → blocks (s.array site a).work i (w.base + w.done) (fun k => !k.isZero) = false →
      exec (.accRowZero site a) s = .next (
        let t := s.clearRow site a (w.base + w.done)
        (t.setArray site a { t.array site a with work := stepWork (t.array site a).work i }).arrayGo site a)) ∧
  (∀ (s : State) (site a i dest base count done : Nat), indexOf? (fun (w : Work) => w.kind.isDrain) (s.array site a).work = some i →
      (s.array site a).work[i]? = some ⟨.drain dest false, base, count, done⟩ →
      blocks (s.array site a).work i (base + done) (fun k => !k.isDrain) = false → (s.array site a).held.length < 16 →
      let vals := (s.array site a).row (base + done)
      let c := s.drainCheck site a (base + done) vals ((s.array site a).accPoison.contains (base + done))
      exec (.drainRowRead site a) s = .next (
        (c.1.setArray site a { c.1.array site a with
          work := stepWork (c.1.array site a).work i,
          held := if c.1.get (MXA_STATUS.STATE site a) = 5 then (c.1.array site a).held
            else (c.1.array site a).held ++ [⟨dest, base + done, vals, c.2⟩] }).arrayGo site a)) ∧
  (∀ (s t : State) (site row : Nat) (k : Option (Nat × Nat)) (l : List (Option (Nat × Nat))),
      (s.rowArrays site row).map (fun a => (s.array site a).held.head?.map (fun h => (h.dest, h.row))) = k :: l → l.all (fun x => x == k) = true →
      k ≠ none → s.handAll site (s.rowArrays site row) = some t → exec (.outputRecordHandoff site row) s = .next t) ∧
  (∀ (s : State) (site slot : Nat) (feed : EntryFeed) (faults : List EntryFault),
      (s.feedArrays site feed).isEmpty = false → (s.feedArrays site feed).any (fun a => s.entryLack site a == .stream) = false →
      s.get (MXA_SLOT.SLOT site) ≤ slot → lookD 0 (s.die site).slots (feedKey feed) ≤ slot →
      slotBlocked ((s.reachSlot site slot).get (MXA_THROTTLE.BLOCK site)) slot = false →
      (s.feedArrays site feed).any (fun a => (s.reachSlot site slot).entryLack site a != .nothing) = false →
      ∀ (v : ChainVector) (t : State), (s.reachSlot site slot).feedVector site feed = some (v, t) →
      exec (.arrayEntry site feed slot faults) s = .next (
        (t.setDie site { t.die site with slots := putKey (t.die site).slots (feedKey feed) (slot + 1) }).enterFeed site feed v faults))

/-- At an open register of a site that firmware does not own, a write of MXA_THROTTLE, MXA_ROWMAP, MXA_UCODE, MXA_ROWCTL and MXA_CTRL has its own effect: the block value, the new row map, the microcode word of a die whose arrays stand, the start of the rows, the start of a re-run. Where firmware owns the site, it is refused with 0x0B11. (R86, R90, R92, R93) -/
def Obligations.ArrayRegisterCommandsComplete : Prop :=
  (∀ (s : State) (who : Requester) (site value : Nat), s.siteOpen who (MXA_THROTTLE.REG site) site → s.updraft.en = true →
      exec (.mxaThrottleWrite who site value) s = .next (s.put (MXA_THROTTLE.BLOCK site) (sat 12 (bits value 3 0)))) ∧
  (∀ (s : State) (who : Requester) (site value : Nat), s.siteOpen who (MXA_ROWMAP.REG site) site → s.fwOwned who site = false →
      exec (.mxaRowmapWrite who site value) s = .next (s.writeRowMap site value)) ∧
  (∀ (s : State) (who : Requester) (site value : Nat), s.siteOpen who (MXA_ROWMAP.REG site) site → s.fwOwned who site = true →
      exec (.mxaRowmapWrite who site value) s = .next (s.record { code := 0x0B11, source := 1, node := site })) ∧
  (∀ (s : State) (who : Requester) (site a value : Nat), s.siteOpen who (MXA_CTRL.REG site a) site → s.fwOwned who site = false → bit value 16 = true →
      let t := s.put (MXA_CTRL.RERUN_PC site a) (bits value 8 0)
      t.get (MXA_STATUS.STATE site a) = 4 → t.rowOn site (arrayRow a) = true →
      exec (.rerunGo who site a value) s = .next (((t.startArray site a (bits value 8 0) 5).put (MXA_CTRL.RERUN_GO site a) 1).rerunBy site a)) ∧
  (∀ (s : State) (who : Requester) (site value : Nat), s.siteOpen who (MXA_ROWCTL.REG site) site → s.fwOwned who site = false →
      exec (.rowGo who site value) s = .next (
        let t := (s.put (MXA_ROWCTL.START_PC_N site) (bits value 8 0)).put (MXA_ROWCTL.START_PC_S site) (bits value 24 16)
        let t := if bit value 32 then t.goRow site 0 else t
        if bit value 33 then t.goRow site 1 else t)) ∧
  (∀ (s : State) (who : Requester) (site i value : Nat), s.siteOpen who (MXA_UCODE.REG site i) site → s.fwOwned who site = false →
      (∀ a < 18, s.get (MXA_STATUS.STATE site a) ≠ 1 ∧ s.get (MXA_STATUS.STATE site a) ≠ 2) →
      exec (.ucodeWrite who site i value) s = .next (s.setReg (MXA_UCODE.REG site i) (word value)))

/-- A vector core that runs alone at a valid word of the instruction's opcode, with no memory error, commits the result that the instruction's rule gives its registers: the floating-point and integer operations, conversions, comparisons, selection, permutation and reductions. (R141, R142, R143, R145) -/
def Obligations.VectorArithmeticCommandsComplete : Prop :=
  (∀ (s : State) (site v : Nat) (r : VecResult), s.vectorAt site v 0x02 → binary laneAdd (s.vector site v) (decodeVec (s.vecWord site v)) = VecOut.done r → exec (.fadd site v .none) s = .next (s.vecCommit site v r)) ∧
  (∀ (s : State) (site v : Nat) (r : VecResult), s.vectorAt site v 0x03 → binary laneSub (s.vector site v) (decodeVec (s.vecWord site v)) = VecOut.done r → exec (.fsub site v .none) s = .next (s.vecCommit site v r)) ∧
  (∀ (s : State) (site v : Nat) (r : VecResult), s.vectorAt site v 0x04 → binary laneMul (s.vector site v) (decodeVec (s.vecWord site v)) = VecOut.done r → exec (.fmul site v .none) s = .next (s.vecCommit site v r)) ∧
  (∀ (s : State) (site v : Nat) (r : VecResult), s.vectorAt site v 0x05 → vecFma (s.vector site v) (decodeVec (s.vecWord site v)) = VecOut.done r → exec (.fma site v .none) s = .next (s.vecCommit site v r)) ∧
  (∀ (s : State) (site v : Nat) (r : VecResult), s.vectorAt site v 0x06 → binary laneMin (s.vector site v) (decodeVec (s.vecWord site v)) = VecOut.done r → exec (.fmin site v .none) s = .next (s.vecCommit site v r)) ∧
  (∀ (s : State) (site v : Nat) (r : VecResult), s.vectorAt site v 0x07 → binary laneMax (s.vector site v) (decodeVec (s.vecWord site v)) = VecOut.done r → exec (.fmax site v .none) s = .next (s.vecCommit site v r)) ∧
  (∀ (s : State) (site v : Nat) (r : VecResult), s.vectorAt site v 0x08 → unary (laneFun (decodeVec (s.vecWord site v)).fn) (s.vector site v) (decodeVec (s.vecWord site v)) = VecOut.done r → exec (.funOp site v .none) s = .next (s.vecCommit site v r)) ∧
  (∀ (s : State) (site v : Nat) (r : VecResult), s.vectorAt site v 0x09 → unary (laneFtr (decodeVec (s.vecWord site v)).fn) (s.vector site v) (decodeVec (s.vecWord site v)) = VecOut.done r → exec (.ftr site v .none) s = .next (s.vecCommit site v r)) ∧
  (∀ (s : State) (site v : Nat) (r : VecResult), s.vectorAt site v 0x10 → binary (· + ·) (s.vector site v) (decodeVec (s.vecWord site v)) = VecOut.done r → exec (.iadd site v .none) s = .next (s.vecCommit site v r)) ∧
  (∀ (s : State) (site v : Nat) (r : VecResult), s.vectorAt site v 0x11 → binary (· - ·) (s.vector site v) (decodeVec (s.vecWord site v)) = VecOut.done r → exec (.isub site v .none) s = .next (s.vecCommit site v r)) ∧
  (∀ (s : State) (site v : Nat) (r : VecResult), s.vectorAt site v 0x12 → binary (· * ·) (s.vector site v) (decodeVec (s.vecWord site v)) = VecOut.done r → exec (.imul site v .none) s = .next (s.vecCommit site v r)) ∧
  (∀ (s : State) (site v : Nat) (r : VecResult), s.vectorAt site v 0x13 → binary (laneLog (decodeVec (s.vecWord site v)).fn) (s.vector site v) (decodeVec (s.vecWord site v)) = VecOut.done r → exec (.ilog site v .none) s = .next (s.vecCommit site v r)) ∧
  (∀ (s : State) (site v : Nat) (r : VecResult), s.vectorAt site v 0x14 → unary (laneCvt (decodeVec (s.vecWord site v)).fn) (s.vector site v) (decodeVec (s.vecWord site v)) = VecOut.done r → exec (.cvt site v .none) s = .next (s.vecCommit site v r)) ∧
  (∀ (s : State) (site v : Nat) (r : VecResult), s.vectorAt site v 0x18 → compare (fcmpHolds (decodeVec (s.vecWord site v)).fn) (s.vector site v) (decodeVec (s.vecWord site v)) = VecOut.done r → exec (.fcmp site v .none) s = .next (s.vecCommit site v r)) ∧
  (∀ (s : State) (site v : Nat) (r : VecResult), s.vectorAt site v 0x19 → compare (icmpHolds (decodeVec (s.vecWord site v)).fn) (s.vector site v) (decodeVec (s.vecWord site v)) = VecOut.done r → exec (.icmp site v .none) s = .next (s.vecCommit site v r)) ∧
  (∀ (s : State) (site v : Nat) (r : VecResult), s.vectorAt site v 0x1A → vecSel (s.vector site v) (decodeVec (s.vecWord site v)) = VecOut.done r → exec (.sel site v .none) s = .next (s.vecCommit site v r)) ∧
  (∀ (s : State) (site v : Nat) (r : VecResult), s.vectorAt site v 0x20 → vecBcast (s.vector site v) (decodeVec (s.vecWord site v)) = VecOut.done r → exec (.bcast site v .none) s = .next (s.vecCommit site v r)) ∧
  (∀ (s : State) (site v : Nat) (r : VecResult), s.vectorAt site v 0x21 → vecPerm (s.vector site v) (decodeVec (s.vecWord site v)) = VecOut.done r → exec (.perm site v .none) s = .next (s.vecCommit site v r)) ∧
  (∀ (s : State) (site v : Nat) (r : VecResult), s.vectorAt site v 0x22 → vecLshift (s.vector site v) (decodeVec (s.vecWord site v)) = VecOut.done r → exec (.lshift site v .none) s = .next (s.vecCommit site v r)) ∧
  (∀ (s : State) (site v : Nat) (r : VecResult), s.vectorAt site v 0x28 → reduce laneAdd (zeroLane true) (s.vector site v) (decodeVec (s.vecWord site v)) = VecOut.done r → exec (.rsum site v .none) s = .next (s.vecCommit site v r)) ∧
  (∀ (s : State) (site v : Nat) (r : VecResult), s.vectorAt site v 0x29 → reduce laneMax (infLane true) (s.vector site v) (decodeVec (s.vecWord site v)) = VecOut.done r → exec (.rmax site v .none) s = .next (s.vecCommit site v r))

/-- A vector core that runs alone at a valid word of the instruction's opcode, with no memory error, commits the result of its load, store, scalar, branch or token instruction; TWAIT waits while its token count is short; the core's END stops it with its instruction counted; a word that is not valid halts the core with 0x0442. (R145, R146, R147, R148, R149, R150, R152) -/
def Obligations.VectorControlCommandsComplete : Prop :=
  (∀ (s : State) (site v : Nat), s.vectorAt site v 0x00 → exec (.vecNop site v .none) s = .next (s.vecCommit site v {})) ∧
  (∀ (s : State) (site v : Nat), s.vectorAt site v 0x01 → exec (.vecEnd site v .none) s = .next ((s.addSat (VCO_COUNT.INSTRS site v) 1).vecStop site v 0)) ∧
  (∀ (s : State) (site v : Nat) (r : VecResult), s.vectorAt site v 0x30 → vecVld (s.vector site v) (decodeVec (s.vecWord site v)) = VecOut.done r → exec (.vld site v .none) s = .next (s.vecCommit site v r)) ∧
  (∀ (s : State) (site v : Nat) (r : VecResult), s.vectorAt site v 0x31 → vecVldsc (s.vector site v) (decodeVec (s.vecWord site v)) = VecOut.done r → exec (.vldsc site v .none) s = .next (s.vecCommit site v r)) ∧
  (∀ (s : State) (site v : Nat) (r : VecResult), s.vectorAt site v 0x32 → vecVst (s.vector site v) (decodeVec (s.vecWord site v)) = VecOut.done r → exec (.vst site v .none) s = .next (s.vecCommit site v r)) ∧
  (∀ (s : State) (site v : Nat) (r : VecResult), s.vectorAt site v 0x33 → vecExld (s.vector site v) (decodeVec (s.vecWord site v)) = VecOut.done r → exec (.exld site v .none) s = .next (s.vecCommit site v r)) ∧
  (∀ (s : State) (site v : Nat) (r : VecResult), s.vectorAt site v 0x38 → vecSli (s.vector site v) (decodeVec (s.vecWord site v)) = VecOut.done r → exec (.sli site v .none) s = .next (s.vecCommit site v r)) ∧
  (∀ (s : State) (site v : Nat) (r : VecResult), s.vectorAt site v 0x39 → vecSadd (s.vector site v) (decodeVec (s.vecWord site v)) = VecOut.done r → exec (.sadd site v .none) s = .next (s.vecCommit site v r)) ∧
  (∀ (s : State) (site v : Nat) (r : VecResult), s.vectorAt site v 0x3A → vecBnz (s.vector site v) (decodeVec (s.vecWord site v)) = VecOut.done r → exec (.bnz site v .none) s = .next (s.vecCommit site v r)) ∧
  (∀ (s : State) (site v : Nat), s.vectorAt site v 0x3B → exec (.jmp site v .none) s = .next (s.vecCommit site v { jump := some (decodeVec (s.vecWord site v)).imm })) ∧
  (∀ (s : State) (site v : Nat), s.vectorAt site v 0x3C → 0 < (decodeVec (s.vecWord site v)).imm → (decodeVec (s.vecWord site v)).imm ≤ nth 0 (s.vecTokens site v) (decodeVec (s.vecWord site v)).fn →
      exec (.twait site v .none) s = .next (s.vecCommit site v { take := some ((decodeVec (s.vecWord site v)).fn, (decodeVec (s.vecWord site v)).imm) })) ∧
  (∀ (s : State) (site v : Nat), s.vectorAt site v 0x3C → nth 0 (s.vecTokens site v) (decodeVec (s.vecWord site v)).fn < (decodeVec (s.vecWord site v)).imm →
      exec (.twait site v .none) s = .next (s.vecWait site v 2)) ∧
  (∀ (s : State) (site v : Nat), s.vectorAt site v 0x3D → exec (.tsig site v .none) s = .next (s.vecCommit site v { signal := some ((decodeVec (s.vecWord site v)).fn, (decodeVec (s.vecWord site v)).imm) })) ∧
  (∀ (s : State) (site v : Nat), s.vecRuns site v = true → (s.vector site v).pcPast = false → s.paired site = false → (decodeVec (s.vecWord site v)).ok = false →
      exec (.vecInvalidOpcode site v .none) s = .next (s.vecHalt site v 0x0442))

/-- At an open register of a site that firmware does not own, GO starts the addressed core, or both cores of a pair, at START_PC where it stands idle; a program word is stored while the core is idle and refused with 0x0446 while it runs; VCO_MODE changes at a boundary and is refused with 0x0445 elsewhere. (R152, R155, R158) -/
def Obligations.VectorRegisterCommandsComplete : Prop :=
  (∀ (s : State) (who : Requester) (site v value : Nat), s.siteOpen who (VCO_CTRL.REG site v) site → s.fwOwned who site = false → bit value 16 = true →
      let t := s.put (VCO_CTRL.START_PC site v) (bits value 11 0)
      (t.paired site && v % 2 == 1) = false → t.vcOn site = true → t.get (VCO_STATUS.STATE site v) = 0 →
      exec (.vcoGo who site v value) s = .next ((t.vecCores site v).foldl (fun s c => s.vecStart site (bits value 11 0) c) t)) ∧
  (∀ (s : State) (site v i value : Nat), s.get (VCO_STATUS.STATE site v) ≠ 1 → s.get (VCO_STATUS.STATE site v) ≠ 2 →
      exec (.vcoProgWrite site v i value) s = .next (s.setVector site v { s.vector site v with prog := putKey (s.vector site v).prog i (word value) })) ∧
  (∀ (s : State) (site v i value : Nat), s.get (VCO_STATUS.STATE site v) = 1 → exec (.vcoProgWrite site v i value) s = .next (s.raiseVector site v 0x0446 0)) ∧
  (∀ (s : State) (who : Requester) (site value : Nat), s.siteOpen who (VCO_MODE.REG site) site → s.fwOwned who site = false →
      exec (.vcoModeWrite who site value) s = .next (
        if s.atBoundary site then s.put (VCO_MODE.PAIRED site) (bits value 0 0) else s.record { code := 0x0445, source := 1, node := site }))

/-- A running control core's own writes of CCO_FW, CCO_WDOG_KICK and CCO_FATAL have their effect; a boot that takes too long, a watchdog that expires and an uncorrectable local memory make the core FATAL with the cause and code of its rule; CC0's report of a halted unit aborts the pass; MTIMECMP reached sets the timer interrupt. (R161, R162, R166, R168, R169) -/
def Obligations.ControlCoreCommandsComplete : Prop :=
  (∀ (s : State) (site c value : Nat), s.siteOpen (.core site c) (CCO_FW.REG site c) site → s.coreRuns site c = true → bit value 0 = true →
      exec (.ccoFwWrite (.core site c) site c value) s = .next (
        let t := (s.put (CCO_FW.HEARTBEAT site c) (bits value 63 32)).put (CCO_FW.FW_CODE site c) (bits value 31 16)
        ((t.put (CCO_FW.READY site c) 1).put (CCO_STATUS.STATE site c) 2).readyUnits.readyRefresh)) ∧
  (∀ (s : State) (site c : Nat), s.get (CCO_STATUS.STATE site c) = 1 → exec (.ccoBootTimeout site c) s = .next (s.fatalCore site c 5 0x0A20 0)) ∧
  (∀ (s : State) (site c : Nat), s.siteOpen (.core site c) (CCO_WDOG_KICK.REG site c) site →
      exec (.ccoWdogKick (.core site c) site c) s = .next (
        (s.setControl site c { s.control site c with kicked := s.isobar }).put (CCO_WDOG.REMAIN site c) (s.get (CCO_WDOG.PERIOD site c)))) ∧
  (∀ (s : State) (site c : Nat), s.coreRuns site c = true →
      exec (.ccoWatchdogExpiry site c) s = .next ((s.put (CCO_WDOG.REMAIN site c) 0).fatalCore site c 1 0x0A22 0)) ∧
  (∀ (s : State) (site c value : Nat), s.siteOpen (.core site c) (CCO_FATAL.REG site c) site → s.coreRuns site c = true → bits value 15 0 ≠ 0 →
      exec (.ccoFatalWrite (.core site c) site c value) s = .next (s.fatalCore site c 4 0x0A21 (bits value 15 0))) ∧
  (∀ (s : State) (site c : Nat) (itcm : Bool), s.coreRuns site c = true →
      exec (.tcmUncorrectable site c itcm) s = .next (s.fatalCore site c (if itcm then 2 else 3) 0x0A21 0)) ∧
  (∀ (s : State) (site a : Nat), s.get (MXA_STATUS.STATE site a) = 3 → s.coreRuns site 0 = true →
      exec (.sweepFaultReport site (.array a)) s = .next (s.abortPass (s.get (MXA_STATUS.LAST_CODE site a)) site)) ∧
  (∀ (s : State) (site v : Nat), s.get (VCO_STATUS.STATE site v) = 3 → s.coreRuns site 0 = true →
      exec (.sweepFaultReport site (.vector v)) s = .next (s.abortPass (s.get (VCO_STATUS.LAST_CODE site v)) site)) ∧
  (∀ (s : State) (site c : Nat), c < 2 → s.coreRuns site c = true → (s.control site c).mtimecmp ≤ s.isobar →
      exec (.mtimecmpInterrupt site c) s = .next (s.setControl site c { s.control site c with timerIrq := true })) ∧
  (∀ (s : State) (site c a n v : Nat) (e : Ecc), c < 2 → s.coreRuns site c = true → s.coreWaits site c = false → n = 1 ∨ n = 2 ∨ n = 4 ∨ n = 8 →
      exec (.ccoLocalAccess site c (.load a n) e) s = .next (s.coreLoad site c a n e) ∧
      exec (.ccoLocalAccess site c (.store a n v) e) s = .next (s.coreStore site c a n v)) ∧
  (∀ (s : State) (site c : Nat) (e : Ecc), c < 2 → s.coreRuns site c = true → s.coreWaits site c = false →
      exec (.ccoLocalAccess site c .fence e) s = .next (s.setControl site c { s.control site c with fencing := decide (0 < (s.control site c).posted) }))

/-- A push of the staged words delivers them to the core's inbound mailbox with the pusher's source; the hub's held message enters when there is space; taking the head removes it; a core's message goes to its host queue, to the hub or to the other core; popping the outbound head removes it and interrupts the core. (R164, R165) -/
def Obligations.MailboxCommandsComplete : Prop :=
  (∀ (s : State) (who : Requester) (site c value : Nat), s.siteOpen who (CCO_MBX_IN_PUSH.REG site c) site → bit value 0 = true →
      exec (.ccoMbxInPush who site c value) s = .next (s.mbxPush site c ((below 8).map (fun i => s.reg (CCO_MBX_IN_D.REG site c i))) (pushSource who))) ∧
  (∀ (s : State) (site c : Nat) (m : Message) (l : List Message), (s.control site c).hubHeld = m :: l → (s.control site c).inq.length < 16 →
      exec (.hubMessageEnqueue site c) s = .next ((s.setControl site c { s.control site c with hubHeld := l }).inEnqueue site c m)) ∧
  (∀ (s : State) (site c : Nat), exec (.mbxHeadRemove site c) s = .next (
        (s.setControl site c { s.control site c with inq := (s.control site c).inq.drop 1 }).mbxShow site c)) ∧
  (∀ (s : State) (site c : Nat), let m := withSource (s.control site c).staged (2 * site + c)
      0x40 ≤ messageType m → (s.control site c).outq.length < 16 →
      exec (.mbxSend site c 0) s = .next ((s.setControl site c { s.control site c with outq := (s.control site c).outq ++ [m] }).mbxShow site c)) ∧
  (∀ (s : State) (site c : Nat), let m := withSource (s.control site c).staged (2 * site + c)
      exec (.mbxSend site c 1) s = .next (s.send (.unit (messageType m) site (c :: m.map BitVec.toNat)))) ∧
  (∀ (s : State) (who : Requester) (site c value : Nat), s.siteOpen who (CCO_MBX_OUT_POP.REG site c) site → bit value 0 = true →
      (s.control site c).outq.isEmpty = false →
      exec (.ccoMbxOutPop who site c value) s = .next (((s.setControl site c { s.control site c with outq := (s.control site c).outq.drop 1 }).mbxShow site c).irq site c 1))

/-- While the hub's registers answer, a doorbell with a tail inside the ring sets the tail, one outside it raises 0x0B20; ENABLE, ABORT and FLUSH act on the queue; the completion ring is configured while the queue is disabled and its head moves inside the ring; a completion record is written while the ring has space. (R175, R178, R180, R181) -/
def Obligations.QueueCommandsComplete : Prop :=
  (∀ (s : State) (who : Requester) (q value : Nat), s.hubOpen → bits value 15 0 < 1024 → exec (.sqDoorbell who q value) s = .next (s.put (SQ_DB.TAIL q) (bits value 15 0))) ∧
  (∀ (s : State) (who : Requester) (q value : Nat), s.hubOpen → 1024 ≤ bits value 15 0 → exec (.sqDoorbell who q value) s = .next (s.queueErr q 0x0B20)) ∧
  (∀ (s : State) (who : Requester) (q value : Nat), s.hubOpen → exec (.sqEnable who q value) s = .next (s.writeSqCtrl q value)) ∧
  (∀ (s : State) (who : Requester) (q : Nat), s.hubOpen → exec (.sqAbort who q) s = .next (s.queueAbort q)) ∧
  (∀ (s : State) (who : Requester) (q : Nat), s.hubOpen → exec (.sqFlush who q) s = .next (s.queueFlush q)) ∧
  (∀ (s : State) (who : Requester) (q value : Nat), s.hubOpen → s.flag (SQ_CTRL.ENABLE q) = false → bits value 11 0 = 0 →
      exec (.sqCqConfig who q true value) s = .next (s.setReg (CQ_BASE.REG q) (word value))) ∧
  (∀ (s : State) (who : Requester) (q value : Nat), s.hubOpen → exec (.sqCqConfig who q false value) s = .next (s.cqLog q (bits value 4 0))) ∧
  (∀ (s : State) (who : Requester) (q value : Nat), s.hubOpen → bits value 15 0 < 2 ^ s.get (SQ_CTRL.CQ_LOG2 q) →
      exec (.cqHeadWrite who q value) s = .next (s.put (CQ_PTR.HEAD q) (bits value 15 0))) ∧
  (∀ (s : State) (q i : Nat) (c : Completion), indexOf? (fun (c : Completion) => c.queue == q) s.completions = some i → s.completions[i]? = some c →
      s.ringFull q = false → exec (.completionWrite q) s = .next (({ s with completions := s.completions.eraseIdx i } : State).writeRecord c))

/-- Where a pass is in the state that its rule names, PASS_BEGIN, SWEEP_START, SWEEP_DONE, PASS_END, PASS_ABORT, QUIET, CLEAR and EMPTY take the pass on, a drain that sticks fences the die with 0x020A, and the Updraft decides on the queues. (R182, R186, R187, R188, R189, R192, R430) -/
def Obligations.PassCommandsComplete : Prop :=
  (∀ (s : State) (site : Nat), s.get HUB_PASS.STATE = 2 → s.pass.parts.contains site = true → s.pass.begun.contains site = false →
      exec (.passBegin site) s = .next (
        let t := s.put (STR_STATUS.SWEEP site) 0
        let t := { t with pass := { t.pass with begun := t.pass.begun ++ [site] } }
        if t.waiters.all (fun x => t.pass.begun.contains x) then t.put HUB_PASS.STATE 3 else t)) ∧
  (∀ (s : State) (site : Nat), s.get HUB_PASS.STATE = 3 → s.pass.aborting = false → s.get HUB_PASS.SWEEP < s.passSweeps → s.waiters.contains site = true →
      s.pass.started.contains site = false → s.pass.started.isEmpty = false →
      exec (.sweepStart site) s = .next (
        let t : State := { s with pass := { s.pass with started := s.pass.started ++ [site] } }
        let t := t.put (STR_STATUS.SWEEP site) (s.get HUB_PASS.SWEEP)
        ((t.setDie site { t.die site with sweepRunning := true, sat := 0 }).redStart site).goSweep site)) ∧
  (∀ (s : State) (site : Nat), s.get HUB_PASS.STATE = 3 → s.pass.aborting = false → s.pass.started.contains site = true → s.pass.reported.contains site = false →
      s.sweepOver site = true →
      exec (.sweepDone site) s = .next (
        let m := s.markedOf site
        let t := s.setDie site { s.die site with sweepRunning := false }
        let p := { t.pass with report := t.addPartial site t.pass.report, reported := t.pass.reported ++ [site] }
        let t : State := { t with pass := { p with marked := p.marked + m.1, entries := p.entries + m.2 } }
        if t.waiters.all (fun x => t.pass.reported.contains x) then t.closeSweep else t)) ∧
  (∀ (s : State), s.get HUB_PASS.STATE = 3 → s.pass.aborting = false → s.pass.sweepsDone = s.passSweeps → exec .passEnd s = .next (s.startDrain 0x12)) ∧
  (∀ (s : State) (site : Nat), s.pass.running = true → s.pass.aborting = true → s.pass.parts.contains site = true → (s.die site).stopped = false →
      exec (.passAbort site) s = .next ((if s.get HUB_PASS.STATE = 4 then s else s.startDrain 0x13).collSuspend.stopDie site)) ∧
  (∀ (s : State) (site : Nat), s.get HUB_PASS.STATE = 4 → s.pass.parts.contains site = true → s.pass.quiet.contains site = false → s.siteQuiet site = true →
      (s.pass.aborting = true → (s.die site).stopped = true) →
      exec (.quiet site) s = .next ({ s with pass := { s.pass with quiet := s.pass.quiet ++ [site] } } : State).maybeClear) ∧
  (∀ (s : State) (site : Nat), s.get HUB_PASS.STATE = 4 → s.pass.cleared = true → s.pass.parts.contains site = true → s.pass.empty.contains site = false →
      exec (.clear site) s = .next { s.emptyDie site with pass := { (s.emptyDie site).pass with empty := (s.emptyDie site).pass.empty ++ [site] } }) ∧
  (∀ (s : State) (site : Nat) (fails : List (Nat × Nat)), s.get HUB_PASS.STATE = 4 → s.pass.empty.contains site = true → s.pass.taken.contains site = false →
      exec (.empty site fails) s = .next (
        let t : State := { s with pass := { s.pass with taken := s.pass.taken ++ [site] } }
        if t.drained then (t.passBoundary fails).progress else t)) ∧
  (∀ (s : State) (site : Nat), s.get HUB_PASS.STATE = 4 → s.pass.running = true → s.waiters.contains site = true → s.pass.cleared = false →
      s.pass.quiet.contains site = false →
      exec (.drainStuckTimeout site) s = .next (
        let t := s.record { code := 0x020A, source := 1, node := site, action := s.abortBit + 12 }
        (((t.abortPass 0x020A site).fence site 0x020A).verifySoon.drainOn).progress)) ∧
  (∀ (s : State), s.hubRuns = true → s.doldrums = false → s.pass.running = false → s.ungateShow.admissionWait = 7 →
      exec .updraftDecision s = .next (s.ungateShow.put UPD_DECISION.WAIT 7)) ∧
  (∀ (s : State), s.hubRuns = true → s.doldrums = false → s.pass.running = false → s.ungateShow.admissionWait ≠ 7 →
      exec .updraftDecision s = .next (decideLoop s.ungateShow.admissionWait 4096 s.ungateShow.markers))

/-- A list that the site's own core admits and that passes the checks adds its descriptors to the die; a descriptor's source or sink starts where it may, taking its tokens; a sink that has all its data signals and leaves; a started engine runs; a missing record halts the pass with 0x0208 and a stalled list with 0x0209. (R192, R194, R198, R200, R201, R205) -/
def Obligations.DescriptorCommandsComplete : Prop :=
  (∀ (s : State) (site c value : Nat) (l : List Stream), s.siteOpen (.core site c) (STR_LIST.REG site) site → bits value 40 32 ≠ 0 →
      s.listOk site (bits value 31 0) (bits value 40 32) (bits value 63 48) = true →
      s.checkList site c (bits value 31 0) (bits value 63 48) (s.die site).admitted (bits value 40 32) 0 [] = .inl l →
      exec (.descriptorListAdmit (.core site c) site value) s = .next (
        (s.setDie site { s.die site with streams := (s.die site).streams ++ l, admitted := (s.die site).admitted + bits value 40 32 }).admittedBits site)) ∧
  (∀ (s : State) (site d : Nat) (x : Stream), (s.die site).stream d = some x → s.sourceMay site x = true →
      exec (.descriptorSourceStart site d) s = .next (
        (s.put (STR_TOKEN.FETCH site) (s.get (STR_TOKEN.FETCH site) - x.desc.swait)).setStream site { x with srcStarted := true })) ∧
  (∀ (s : State) (site d : Nat) (x : Stream), (s.die site).stream d = some x → s.sinkMay site x = true →
      exec (.descriptorSinkStart site d) s = .next (
        (s.put (STR_TOKEN.EXEC site) (s.get (STR_TOKEN.EXEC site) - x.desc.dwait)).setStream site { x with snkStarted := true })) ∧
  (∀ (s : State) (site d : Nat) (x : Stream), (s.die site).stream d = some x → s.sinkDone site x = true → (s.die site).stopped = false →
      exec (.descriptorSinkComplete site d) s = .next (
        ((s.setDie site { s.die site with streams := (s.die site).streams.filter (fun z => z.index != x.index) }).admittedBits site).signal site x.desc)) ∧
  (∀ (s : State) (site d : Nat) (x : Stream) (ecc : Ecc), (s.die site).stream d = some x → (s.die site).stopped = false → x.halted = false →
      (x.snkStarted = true → exec (.engineRun site d true ecc) s = .next (s.sinkRun site x)) ∧
      (x.srcStarted = true → exec (.engineRun site d false ecc) s = .next (s.sourceRun site x ecc))) ∧
  (∀ (s : State) (site ch : Nat), (s.die site).streams.any (fun x => x.halted && x.desc.ch == ch) = true →
      exec (.dscMissTimeout site ch) s = .next (
        ((s.strErr site 0x0208 0).record { code := 0x0208, source := 1, node := site, unit := ch, action := s.abortBit }).abortPass 0x0208 site)) ∧
  (∀ (s : State) (site : Nat), (s.die site).sweepRunning = true → (s.die site).stopped = false → (s.die site).streams.any (fun x => x.halted) = false →
      exec (.dscStall site) s = .next (
        ((s.strErr site 0x0209 0).record { code := 0x0209, source := 1, node := site, action := s.abortBit }).abortPass 0x0209 site))

/-- The writes of a cycle commit class by class in rising order; a scrub read repairs its two rows and steps the walk; a retry of repairs takes the held rows; the end of the exit scrub and of the initial fill show the Gelat as done; a handle entry written between passes is stored and judged; a log read pops the log. (R211, R223, R224, R225, R228, R230, R513) -/
def Obligations.GelatCommandsComplete : Prop :=
  (∀ (s : State) (site : Nat) (writes : List PortWrite), exec (.gelatWriteCommit site writes) s =
      .next (((below 5).flatMap (fun c => writes.filter (fun w => w.cls == c))).foldl (commitWrite site writes) s)) ∧
  (∀ (s : State) (site : Nat) (w a : RowErrors), s.gelatUp site = true → s.flag (GLT_CTRL.SCRUB_EN site) = true →
      let rw := (s.gelat site).scrubW % 0x300000
      let ra := (s.gelat site).scrubA % 0xC0000
      exec (.scrubRead site w a) s = .next (
        let t := s.setGelat site { s.gelat site with scrubW := (rw + 1) % 0x300000, scrubA := (ra + 1) % 0xC0000 }
        let t := (t.scrubRow site rw w).scrubRow site (0x300000 + ra) a
        if rw = 0x2FFFFF then t.addWrap (GLT_SCRUB.WALKS site) 1 else t)) ∧
  (∀ (s : State) (who : Requester) (site bytes half : Nat), s.siteOpen who (GLT_ERR_LOG.REG site + 4 * half) site →
      let r := s.readLog (GLT_ERR_LOG.REG site) bytes half
      exec (.gltErrLogRead who site bytes half) s = .next (r.2.send (.readData who (GLT_ERR_LOG.REG site + 4 * half) bytes r.1.toNat false))) ∧
  (∀ (s : State) (who : Requester) (site : Nat), s.siteOpen who (GLT_REPAIR.REG site) site → (s.gelat site).held = [] →
      exec (.gltRepairRetry who site) s = .next ((s.repairCount site).put (GLT_REPAIR.RETRY site) 0)) ∧
  (∀ (s : State) (site : Nat) (found : List (Nat × RowErrors)) (fails : List (Nat × Nat)), s.flag (GLT_STATUS.EXIT_SCRUB site) = true →
      exec (.exitScrubDone site found fails) s = .next (
        let t := (found.foldl (fun s f => s.scrubRow site f.1 f.2) s).repairSite site fails
        ((t.put (GLT_STATUS.EXIT_SCRUB site) 0).put (GLT_STATUS.EXIT_DONE site) 1).readyRefresh)) ∧
  (∀ (s : State) (site : Nat), s.gelatUp site = true →
      exec (.gelatInitDone site) s = .next ((((s.clearGelat site).put (GLT_STATUS.EXIT_SCRUB site) 0).put (GLT_STATUS.EXIT_DONE site) 1).readyRefresh)) ∧
  (∀ (s : State) (c site h k value : Nat), s.siteOpen (.core site c) (BHT_ENTRY.REG site h k) site → s.betweenPasses = true →
      exec (.bhtWrite (.core site c) site h k value) s = .next (
        (s.setReg (BHT_ENTRY.REG site h k) (word (if k = 3 then bits value 59 0 else value))).handleJudge site h)) ∧
  (∀ (s : State) (who : Requester) (site h k value : Nat), s.siteOpen who (BHT_ENTRY.REG site h k) site → s.betweenPasses = false →
      exec (.bhtWrite who site h k value) s = .next (s.raiseGelat 0x0314 site 0 false [h]))

/-- A trained stack is in service and a failed one leaves; the golden patrol reads the next 64 bytes of a locked image; DPD_GOLD is written between passes; a gather read answers with the block's bytes; a relocation entry written is marked stale and wakes its waiters; the synchronisation ends when no request holds a stale entry. (R232, R234, R235, R241) -/
def Obligations.HbmAndRelocationCommandsComplete : Prop :=
  (∀ (s : State) (stack : Nat), s.get (hbmStateLoc stack) = 1 → stack < 32 →
      exec (.hbmTrain stack .trained) s = .next (s.put (hbmStateLoc stack) 2) ∧
      exec (.hbmTrain stack .unsupported) s = .next ((s.hbmLeave stack).raiseDpd 0x0315 stack 0 false []) ∧
      exec (.hbmTrain stack .failed) s = .next ((s.hbmLeave stack).raiseDpd 0x0316 stack 0 false [])) ∧
  (∀ (s : State) (stack : Nat) (e : Ecc), stack < 32 → s.goldenLocked stack = true → s.hbmUp stack = true →
      let lo := s.get ⟨DPD_GOLD.REG (stack / 2) (stack % 2), 14, 0⟩ * 0x200000
      let hi := s.get ⟨DPD_GOLD.REG (stack / 2) (stack % 2), 46, 32⟩ * 0x200000
      lo ≤ (s.hbm stack).patrol → (s.hbm stack).patrol + 64 < hi →
      exec (.goldenPatrolRead stack e) s = .next (
        (s.setHbm stack { s.hbm stack with patrol := (s.hbm stack).patrol + 64 }).eccOn (mkPpa 1 stack (s.hbm stack).patrol) e)) ∧
  (∀ (s : State) (who : Requester) (stack value : Nat), s.hubOpen → s.betweenPasses = true →
      exec (.dpdGoldWrite who stack value) s = .next (s.setReg (DPD_GOLD.REG (stack / 2) (stack % 2))
        (withField (withField (withField 0 63 63 (bits value 63 63)) 46 32 (sat 24576 (bits value 46 32))) 14 0 (bits value 14 0)))) ∧
  (∀ (s : State) (node tag site h o : Nat) (r : Request) (x : Handle),
      s.requests.find? (fun r => r.node == node && r.tag == tag && !r.write) = some r → r.view = some (site, h, o) → s.handle site h = some x → x.kind = 3 →
      s.hbmUp (ppaSite x.base) = false →
      exec (.gatherBlockRead node tag .clean .clean) s = .next (
        let t := (s.ppaInvalid ⟨node, 0xFF⟩ r.ppa false).addWrap (DPD_GATHER.BLOCKS (ppaSite x.base / 2)) 1
        let len := (r.bytes + 127) / 128
        t.tick.inject { dst := node, src := dpdNode (ppaSite x.base / 2), type := 8, len := len, bytes := r.bytes, tag := tag, ppa := r.ppa,
                        data := List.replicate r.bytes 0xFF, poison := 2 ^ len - 1 })) ∧
  (∀ (s : State) (who : Requester) (e value : Nat), s.hubOpen →
      exec (.hubRwtWrite who e value) s = .next (
        let t := s.setReg (HUB_RWT.REG e) (word value)
        ({ t with rwtCache := t.rwtCache.map (fun (c : Nat × List (Nat × Word)) => (c.1, delKey c.2 e)), rwtStale := markIn t.rwtStale e } : State).wakeEntry e)) ∧
  (∀ (s : State) (who : Requester) (value : Nat), s.hubOpen → bit value 0 = true →
      exec (.hubRwtSync who value) s = .next (s.put HUB_RWT_SYNC.SYNC 1)) ∧
  (∀ (s : State), s.flag HUB_RWT_SYNC.SYNC = true →
      (∀ r ∈ s.requests, ∀ e, r.rwt = some e → s.rwtStale.contains e = false) →
      exec .rwtSyncDone s = .next (({ s with rwtStale := [] } : State).put HUB_RWT_SYNC.SYNC 0))

/-- A head flit for the router's own node is delivered, one for another node is forwarded on the port that its route chooses, one with an uncorrectable error is the link's to handle; a dead lock, a missing reduction, a lost link, a width token and its time-out raise what their rules name. (R259, R262, R263, R264, R273, R276, R277, R280, R282, R287) -/
def Obligations.MeshRouterCommandsComplete : Prop :=
  (∀ (s : State) (node port ce : Nat) (p : Packet), node < 169 → node ≠ 84 → (s.linkCorrected node port ce).packetInvalid node p = false → p.type ≠ 3 →
      p.dst = node → exec (.routerHeadFlit node port p ce false) s = .next ((s.linkCorrected node port ce).send (.deliver node p))) ∧
  (∀ (s : State) (node port ce o : Nat) (p : Packet), node < 169 → node ≠ 84 → let t := s.linkCorrected node port ce
      t.packetInvalid node p = false → p.type ≠ 3 → p.dst ≠ node → t.fenced p.dst = false → t.choosePort node p.dst = some o →
      exec (.routerHeadFlit node port p ce false) s = .next (t.send (.forward node o { p with lane := if bit (t.route node p.dst) 14 then 1 else p.lane }))) ∧
  (∀ (s : State) (node port ce : Nat) (p : Packet),
      exec (.routerHeadFlit node port p ce true) s = .next ((s.linkCorrected node port ce).linkUncorrectable node port)) ∧
  (∀ (s : State) (node port channel lane : Nat), node < 169 → node ≠ 84 →
      exec (.mshDeadlock node port channel lane) s = .next ((s.put (SIT_RTR_ERR.DEADLOCK node) 1).raiseMesh 0x051A node port 0 [channel, lane])) ∧
  (∀ (s : State) (site t seq : Nat), (lookD [] s.partials (partialKey site t)).any (fun p => p.seq == seq) = true →
      exec (.mshRedTimeout site t seq) s = .next ((s.put (SIT_RTR_ERR.RED_TIMEOUT site) 1).raiseMesh 0x0515 site 8 0 [t, seq])) ∧
  (∀ (s : State) (site port : Nat), s.get (SIT_LINK.STATE site port) = 3 → s.clock.pause = 0 →
      exec (.linkLossDetect site port true) s = .next (((s.linkState site port 4).linkFail site port 0x051C).verifySoon)) ∧
  (∀ (s : State) (site port n d : Nat), s.get (SIT_LINK.STATE site port) = 3 → s.clock.pause = 0 → neighbour site port = some (n, d) → n ≠ 84 →
      exec (.linkLossDetect site port false) s = .next (((s.linkState site port 4).fence n 0x0513).verifySoon)) ∧
  (∀ (s : State) (who : Requester) (value : Nat), s.hubOpen → bit value 2 = true →
      exec (.mshVerify who value) s = .next ((s.verifyRoutes).put MSH_STATUS.VERIFY 0)) ∧
  (∀ (s : State) (site port good spares token : Nat), s.get (SIT_LINK.STATE site port) = 1 ∨ s.get (SIT_LINK.STATE site port) = 2 → (decodeToken token).ok = true →
      widthOf (popCount 8 good) ≠ 0 → (lookD {} s.links (linkKey site port)).round = 1 → (decodeToken token).width = widthOf (popCount 8 good) →
      exec (.widthToken site port good spares token) s = .next (
        ((s.put (SIT_LINK.STATE site port) 2).put (SIT_LINK.SPARES site port) spares).linkUp site port good (widthOf (popCount 8 good)) (decodeToken token).mask)) ∧
  (∀ (s : State) (site port : Nat), s.get (SIT_LINK.STATE site port) = 1 ∨ s.get (SIT_LINK.STATE site port) = 2 →
      exec (.widthTokenTimeout site port) s = .next (s.linkFail site port 0x0518)) ∧
  (∀ (s : State) (who : Requester) (site i value : Nat), site ≠ 84 → s.siteOpen who (SIT_RTE.REG site i) site → s.betweenPasses = true →
      exec (.routeTableWrite who site i value false) s = .next (s.setReg (SIT_RTE.REG site i) (word value))) ∧
  (∀ (s : State) (who : Requester) (i value : Nat), s.hubOpen → s.betweenPasses = true →
      exec (.routeTableWrite who 84 i value false) s = .next (s.setReg (MSH_HRTE.REG i) (word value))) ∧
  (∀ (s : State) (who : Requester) (site t value : Nat), s.siteOpen who (SIT_TREE_W0.REG site t) site → s.betweenPasses = true →
      exec (.treeEntryWrite who site t value) s = .next ((s.setReg (SIT_TREE_W0.REG site t) (withField (word value) 27 27 0)).treeBad site)) ∧
  (∀ (s : State) (who : Requester) (site value : Nat), s.siteOpen who (SIT_RED_DRAIN.REG site) site → s.fwOwned who site = false → s.betweenPasses = true →
      bit value 15 = false →
      exec (.redDrainWrite who site value) s = .next (s.setReg (SIT_RED_DRAIN.REG site)
        (withField (withField (withField (withField 0 15 15 (bits value 15 15)) 13 8 (bits value 13 8)) 7 7 (bits value 7 7)) 5 0 (bits value 5 0)))) ∧
  (∀ (s : State) (who : Requester) (bytes half : Nat), s.hubOpen → let r := s.readLog MSH_EVENT.REG bytes half
      exec (.mshEventRead who bytes half) s = .next (r.2.send (.readData who (MSH_EVENT.REG + 4 * half) bytes r.1.toNat false)))

/-- At a node that takes its packets, a READ and a WRITE of the node's own Gelat are served, a multicast write is stored at the node, a message enters the mailbox, a response ends the request that waits for it, and a contribution joins the site's reduction; a request with no response raises 0x051F. (R247, R249, R266, R267, R278) -/
def Obligations.MeshPacketCommandsComplete : Prop :=
  (∀ (s : State) (p : Packet) (e : Ecc), s.endpointDrop p.dst p = none → p.dst < 169 → p.dst ≠ 84 → ppaSpace p.ppa = 0 → ppaSite p.ppa = p.dst →
      exec (.read p e) s = .next (s.serveRead p.dst p e) ∧ exec (.write p) s = .next (s.serveWrite p.dst p)) ∧
  (∀ (s : State) (node : Nat) (p : Packet), node < 169 → node ≠ 84 → s.powered node = true → ppaSpace p.ppa = 0 → s.retired.contains node = false →
      exec (.mwrite node p) s = .next (s.serveWrite node { p with dst := node, type := 2, mask := 0, ppa := mkPpa 0 node (ppaOffset p.ppa) })) ∧
  (∀ (s : State) (p : Packet), s.endpointDrop p.dst p = none → p.dst < 169 → p.dst ≠ 84 →
      exec (.msg p) s = .next (s.mbxPush p.dst (p.ppa % 2) ((below 8).map (fun i => word (ofLe ((p.data.drop (8 * i)).take 8)))) (pushSource (.mesh p.src)))) ∧
  (∀ (s : State) (p : Packet) (r : Request), s.answers p.dst = true →
      s.requests.find? (fun r => r.node == p.dst && r.tag == p.tag && !r.write) = some r →
      exec (.rdata p) s = .next (s.readEnds r (p.data.take r.bytes) p.poison)) ∧
  (∀ (s : State) (p : Packet) (r : Request), s.answers p.dst = true →
      s.requests.find? (fun r => r.node == p.dst && r.tag == p.tag && r.write) = some r → r.left = 1 →
      exec (.wack p) s = .next (s.writeEnds { r with left := 0, poison := r.poison || p.poison != 0 } (r.poison || p.poison != 0))) ∧
  (∀ (s : State) (node tag : Nat) (r : Request), s.requests.find? (fun r => r.node == node && r.tag == tag) = some r → r.write = true →
      exec (.mshRspTimeout node tag) s = .next ((s.writeEnds r true).raiseMesh 0x051F node 0xF 0 [r.dst, r.ppa])) ∧
  (∀ (s : State) (p : Packet), s.endpointDrop p.dst p = none → p.dst < 169 → stackSite p.src = false →
      exec (.contrib p) s = .next (s.contribute p.dst p.tree ⟨p.seq, recordVals p.data, p.digest, p.poison != 0, 1⟩))

/-- An aligned 64-bit write of a register that has no behaviour of its own stores its writable fields with the limits of the register; a write into a submission slot stores its bytes; a read answers with the register's fields or the slot's bytes; an access of the wrong size is answered with 0x0B01 and, for a read, all ones. (R12, R14) -/
def Obligations.RegisterAccessesComplete : Prop :=
  (∀ (s : State) (who : Requester) (addr value : Nat) (d : RegDesc), addr + 8 ≤ barEnd → msixArea addr = false → slotKey addr = none → addr % 8 = 0 →
      addr ≠ ISB_COUNT.REG → regOf addr = some d → ownWrite who d addr value s = none → s.hubOpen → siteWindow addr = false →
      d.base ≠ RST_FW_SRC.REG → d.base ≠ RST_FW_LEN.REG → d.base ≠ OVC_SRC.REG → d.base ≠ OVC_LEN.REG →
      exec (.registerWrite who addr 8 value) s = .next (s.plainWrite d addr value)) ∧
  (∀ (s : State) (who : Requester) (addr value : Nat) (d : RegDesc), addr + 8 ≤ barEnd → msixArea addr = false → slotKey addr = none → addr % 8 = 0 →
      addr ≠ ISB_COUNT.REG → regOf addr = some d → ownWrite who d addr value s = none → s.hubRuns = true → siteWindow addr = true →
      s.siteOpen who addr (siteOfAddr addr) → d.base ≠ RST_FW_SRC.REG → d.base ≠ RST_FW_LEN.REG → d.base ≠ OVC_SRC.REG → d.base ≠ OVC_LEN.REG →
      exec (.registerWrite who addr 8 value) s = .next (s.plainWrite d addr value)) ∧
  (∀ (s : State) (who : Requester) (addr bytes value : Nat), 0x4010000 ≤ addr → addr < 0x4050000 → addr % 64 + bytes ≤ 64 → s.hubRuns = true →
      s.doldrums = false → exec (.registerWrite who addr bytes value) s = .next (s.slotStore (addr - 0x4010000) bytes value)) ∧
  (∀ (s : State) (who : Requester) (addr bytes value : Nat), addr < barEnd → addr + bytes ≤ barEnd → msixArea addr = false → slotKey addr = none →
      s.hubRuns = true → bytes ≠ 8 ∨ addr % 8 ≠ 0 → exec (.registerWrite who addr bytes value) s = .next (s.hostErr 0x0B01 who true bytes addr)) ∧
  (∀ (s : State) (who : Requester) (addr bytes : Nat) (d : RegDesc), addr + bytes ≤ barEnd → msixArea addr = false → slotKey addr = none →
      bytes = 4 ∨ bytes = 8 → addr % bytes = 0 → regOf (addr / 8 * 8) = some d → ownRead who d addr bytes s = none → s.hubOpen → siteWindow addr = false →
      exec (.registerRead who addr bytes) s = .next (s.plainRead who d addr bytes)) ∧
  (∀ (s : State) (who : Requester) (addr bytes : Nat) (d : RegDesc), addr + bytes ≤ barEnd → msixArea addr = false → slotKey addr = none →
      bytes = 4 ∨ bytes = 8 → addr % bytes = 0 → regOf (addr / 8 * 8) = some d → ownRead who d addr bytes s = none → s.hubRuns = true → siteWindow addr = true →
      s.siteOpen who addr (siteOfAddr addr) → exec (.registerRead who addr bytes) s = .next (s.plainRead who d addr bytes)) ∧
  (∀ (s : State) (who : Requester) (addr bytes : Nat), addr < barEnd → addr + bytes ≤ barEnd → s.hubRuns = true →
      (bytes ≠ 4 ∧ bytes ≠ 8) ∨ addr % bytes ≠ 0 →
      exec (.registerRead who addr bytes) s = .next ((s.hostErr 0x0B01 who false bytes addr).send (.readData who addr bytes (2 ^ (8 * bytes) - 1) false)))

/-- Once per start the hub sends a probe from each of its ports, a stack answers the first probe it hears, the results are kept when the collection closes and the done flag and its event are set; a link's two ends show each other's version. (R43, R51, R53) -/
def Obligations.DiscoveryCommandsComplete : Prop :=
  (∀ (s : State), s.hubRuns = true → s.flag CLK_STATUS.BILLOW_RUN = true → s.flag HUB_DISC_STATUS.RUNNING = false → s.flag HUB_DISC_STATUS.DONE = false →
      exec .discovery s = .next ((below 12).foldl (fun s h => s.send (.unit 0x100 (hubPortSite h) [h]))
        { (s.setReg HUB_DISC_STATUS.REG 0).put HUB_DISC_STATUS.RUNNING 1 with disc := { since := s.isobar }, logs := delKey s.logs HUB_DISC_LOG.REG })) ∧
  (∀ (s : State) (site : Nat) (place : Nat × Nat) (p : Probe), probePlace p = some place → s.flag HUB_DISC_STATUS.RUNNING = true → stackSite site = true →
      s.domainOn site 3 = true → s.flag (CLK_SITE.LOCK site) = true → look s.disc.reached site = none →
      exec (.discoveryProbe site p) s = .next (s.probed site p place)) ∧
  (∀ (s : State) (endTick : Nat), s.flag HUB_DISC_STATUS.RUNNING = true →
      exec (.discoveryCollectClose endTick) s = .next ((((s.discChecks.hportShow.putSat HUB_DISC_STATUS.DURATION (endTick / 100)).put
        HUB_DISC_STATUS.RUNNING 0).put HUB_DISC_STATUS.DONE 1).hubEvent HUB_EVENT.DISC)) ∧
  (∀ (s : State) (a b : PortRef) (verA verB : Nat), linkEnds a b = true → s.portUp a.node a.port = true → verA = 2 ∨ verA = 3 → verB = 2 ∨ verB = 3 →
      exec (.meshLinkUp a b verA verB) s = .next ((s.portShow a b.node (verA == 3 && verB == 3)).portShow b a.node (verA == 3 && verB == 3))) ∧
  (∀ (s : State) (who : Requester) (bytes half : Nat), s.hubOpen →
      exec (.discLogRead who bytes half) s = .next ((s.readLog HUB_DISC_LOG.REG bytes half).2.send
        (.readData who (HUB_DISC_LOG.REG + 4 * half) bytes (s.readLog HUB_DISC_LOG.REG bytes half).1.toNat false)))

/-- A closed tile whose checksums agree is counted and its replay bank released, one that disagrees goes to a vote; the vote's word in Gelat is answered with the checksum of the inputs; a vote with both results ends as its outcome says, one that runs out of time ends with 0x0407 and aborts the pass; a read of the log takes an entry, and a write of BAR_RD_SEQ shows a record. (R293, R301, R304, R305, R316, R319) -/
def Obligations.SundogCommandsComplete : Prop :=
  (∀ (s : State) (site a : Nat) (t : Tile) (ts : List Tile), (s.array site a).tiles = t :: ts → t.closed = true → t.parity = false →
      popCount 256 t.marks ≠ t.entries → t.o = t.c → t.replay = none →
      (s.setArray site a { s.array site a with tiles := ts }).flag SDG_STATUS.CHECK_ACTIVE = true →
      exec (.tileCompare site a) s = .next ((s.setArray site a { s.array site a with tiles := ts }).addSat (MXA_CHK.TILES site a) 1)) ∧
  (∀ (s : State) (site a : Nat) (t : Tile) (ts : List Tile), (s.array site a).tiles = t :: ts → t.closed = true → t.parity = false →
      popCount 256 t.marks ≠ t.entries → t.o ≠ t.c →
      (s.setArray site a { s.array site a with tiles := ts }).flag SDG_STATUS.CHECK_ACTIVE = true →
      exec (.tileCompare site a) s = .next ((s.setArray site a { s.array site a with tiles := ts }).openVote site a t)) ∧
  (∀ (s : State) (site h : Nat), h = s.voteWord site 0x100 → bit h 63 = true → s.gelatUp site = true →
      exec (.voteCprimeDone site) s = .next ((s.writeOwn site 0x100 [bits h 62 0]).writeVote site (bits h 55 48) 0x80
        (leBytes 8 (2 ^ 63 + (s.inVectors site (bits h 43 40) (bit h 38) (bits h 31 23)).zipIdx.foldl (fun c p =>
          if bit ((below 4).foldl (fun m k => m + s.voteWord site (0x120 + 8 * k) * 2 ^ (64 * k)) 0) p.2 then c
          else addRes c (checksum (BankTile.weights ⟨(s.readMem (voteArea site 0x200) (64 * bits h 15 8)).1, bits h 47 44, bit h 39, false, 0, 0⟩) p.1.elems)) 0)
          ++ List.replicate 56 0) false)) ∧
  (∀ (s : State) (site cp : Nat) (v : Vote) (vs : List Vote) (rr : Nat), s.siteVotes site = v :: vs → v.rr = some rr → s.cPrime site = some cp →
      exec (.voteDecide site) s = .next ((s.voteEffect site v (voteOutcome v.tile.o rr cp)).beginVote site)) ∧
  (∀ (s : State) (site : Nat) (v : Vote) (vs : List Vote), s.siteVotes site = v :: vs →
      exec (.voteTimeout site) s = .next ((((s.sdgCode 0x0407).endVote site v 6 0x0407 s.abortBit false).abortPass 0x0407 site).beginVote site)) ∧
  (∀ (s : State) (who : Requester) (bytes half : Nat), s.hubOpen →
      exec (.sdgVoteLogRead who bytes half) s = .next ((s.readLog SDG_VOTE_LOG.REG bytes half).2.send
        (.readData who (SDG_VOTE_LOG.REG + 4 * half) bytes (s.readLog SDG_VOTE_LOG.REG bytes half).1.toNat false))) ∧
  (∀ (s : State) (who : Requester) (value : Nat) (r : List Word), s.hubRuns = true → look s.baro (value % 2 ^ 64) = some r →
      exec (.barRdSeqWrite who value) s = .next (((groups 8 ((s.setReg BAR_RD_SEQ.REG (word value)).cper r)).zipIdx.foldl (fun s p => s.setReg (BAR_CPER.REG p.2) (word (ofLe p.1)))
        ((below 16).foldl (fun s i => s.setReg (BAR_REC.REG i) (nth 0 r i)) (s.setReg BAR_RD_SEQ.REG (word value)))).put BAR_STATUS.RD_HIT 1))

/-- An enabled link that was disabled starts, each phase of its bring-up leads to the next, a parameter exchange that fits brings it up and one that does not fails it; a failed attempt, a lost signal, the timer of a down link, a replay time-out and a second of FEC counts do what their rules say; a NULL flit that arrives in order acknowledges, and a flit with a bad CRC is discarded. (R323, R325, R327, R328, R329, R330, R331, R332) -/
def Obligations.GaleLinkCommandsComplete : Prop :=
  (∀ (s : State) (who : Requester) (l value : Nat), s.hubOpen → bit value 0 = true → bit value 1 = false →
      let t := (s.put (GAL_LCTRL.REPLAY_TO l) (Nat.max 1 (bits value 63 48))).put (GAL_LCTRL.FEC_LIMIT l) (Nat.max 1 (bits value 47 32))
      let u := (((t.setLink l (t.link l)).put (GAL_LCTRL.LOOPBACK_OK l) (bits value 3 3)).put (GAL_LCTRL.FALLBACK_EN l) (bits value 2 2)).put (GAL_LCTRL.EN l) (bits value 0 0)
      u.linkSt l = 0 → exec (.linkEnable who l value) s = .next (u.linkStart l)) ∧
  (∀ (s : State) (who : Requester) (l : Nat), s.hubOpen → exec (.galRetrain who l) s = .next (s.retrain l)) ∧
  (∀ (s : State) (l : Nat), s.linkSt l = 2 → exec (.galePmaDone l) s = .next ((s.setLinkSt l 3).put (GAL_LANE.SIGNAL l) 0xFF)) ∧
  (∀ (s : State) (l : Nat), s.linkSt l = 3 → exec (.galePcsDone l) s = .next ((s.setLinkSt l 4).put (GAL_LANE.AM_LOCK l) 0xFF)) ∧
  (∀ (s : State) (l : Nat), s.linkSt l = 4 → exec (.galeFlitLock l) s = .next ((s.setLinkSt l 5).send
      (.gale l 2 [] (flitBytes ((s.link l).header 2 ⟨0, false, false, 0, []⟩) (s.paramPayload l))))) ∧
  (∀ (s : State) (l : Nat) (f : ParamFlit), s.linkSt l = 5 → s.paramOk l f = true →
      exec (.param l f true) s = .next (((s.put (GAL_LSTATUS.PEER_PANEL l) f.panel).put (GAL_LSTATUS.PEER_LINK l) f.link).linkReady l f)) ∧
  (∀ (s : State) (l : Nat) (f : ParamFlit) (peer : Bool), s.linkSt l = 5 → s.paramOk l f = false →
      exec (.param l f peer) s = .next ((s.raiseLink l 0x0606).linkFailed l)) ∧
  (∀ (s : State) (l : Nat), 2 ≤ s.linkSt l → s.linkSt l ≤ 5 → exec (.galeAttemptFail l) s = .next (s.linkFailed l)) ∧
  (∀ (s : State) (l : Nat), s.linkSt l = 7 → exec (.galeDownTimer l) s = .next (s.linkRetry l)) ∧
  (∀ (s : State) (l signal am : Nat), exec (.galeLinkLoss l signal am) s = .next (((s.put (GAL_LANE.SIGNAL l) signal).put (GAL_LANE.AM_LOCK l) am).linkDown l)) ∧
  (∀ (s : State) (l h : Nat) (bytes : List Nat), h = ofLe (bytes.take 8) → s.linkSt l = 6 →
      ofLe ((bytes.drop 252).take 4) = crc32 crcEthernet (bytes.take 252) → bit h 37 = false → bits h 63 62 ≠ 1 →
      let r := ((s.setLink l { s.link l with crcRun := 0 }).flitAck l (bits h 49 38)).flitCredit l [bits h 24 17, bits h 16 9, bits h 8 1]
      r.2 = true → exec (.galeDataFlit l bytes) s = .next ((r.1.setLink l { r.1.link l with peerNak := false }).pump l)) ∧
  (∀ (s : State) (l : Nat) (bytes : List Nat), s.linkSt l = 6 → ofLe ((bytes.drop 252).take 4) ≠ crc32 crcEthernet (bytes.take 252) →
      let t := (s.addSat (GAL_LLERR.CRC l) 1).flitDiscard l
      (t.link l).crcRun < 3 → exec (.galeDataFlit l bytes) s = .next (t.setLink l { t.link l with crcRun := (t.link l).crcRun + 1 })) ∧
  (∀ (s : State) (l : Nat), s.linkSt l = 6 → (s.link l).unacked.isEmpty = false → exec (.galeReplayTimeout l) s = .next (s.replayDue l)) ∧
  (∀ (s : State) (l corrected uncorrectable : Nat),
      let t := (s.addSat (GAL_FEC.CORRECTED l) corrected).addSat (GAL_FEC.UNCORR l) uncorrectable
      t.linkSt l = 6 → t.get (GAL_LCTRL.FEC_LIMIT l) < uncorrectable → uncorrectable ≤ 16 * t.get (GAL_LCTRL.FEC_LIMIT l) →
      exec (.galeFecSecond l corrected uncorrectable) s = .next (t.raiseLink l 0x0605)) ∧
  (∀ (s : State) (who : Requester) (value : Nat), s.hubOpen →
      let t := s.put GAL_PANEL.COLL_LIMIT (Nat.max 1 (bits value 31 0))
      (t.gale.map (·.1)).all (fun l => t.linkSt l == 0 || t.linkSt l == 8 || t.linkSt l == 9) = true →
      exec (.galPanelWrite who value) s = .next (t.put GAL_PANEL.ID (bits value 63 48)))

/-- An OPEN opens a conduit that is opening, a CLOSE closes it, an acknowledgement ends the packets it names, a PUT, a GET and a SEND inside the rules start their accesses of memory, a GET's answer is delivered, and a collective record is taken by its slot. (R336, R337, R340, R341, R344, R348) -/
def Obligations.ConduitPacketsComplete : Prop :=
  (∀ (s t : State) (l c : Nat) (p : GalePacket), s.receive l { p with type := 1 } = (t, some c) → t.cndState c = 1 →
      let u := (t.setConduit c { heard := t.isobar }).put (GAL_CND_STATE.STATE c) 2
      exec (.openMsg l p) s = .next (u.cndTransmit c (u.cndPacket c 1 0))) ∧
  (∀ (s t u : State) (l c : Nat) (p : GalePacket), s.receive l { p with type := 2 } = (t, some c) → t.cndState c ≠ 1 →
      t.inOrder c { p with type := 2 } = (u, true) →
      exec (.closeMsg l p) s = .next (((u.accept c { p with type := 2 }).cndAck c 0 0 0).cndEnd c 0)) ∧
  (∀ (s t : State) (l c i : Nat) (p : GalePacket), s.receive l { p with type := 3 } = (t, some c) → t.cndState c ≠ 1 → statusOf p.status = 0 →
      indexOf? (fun (q : GalePacket) => q.psn == p.apsn) ((t.conduit c).txs p.stream).unacked = some i →
      exec (.ackMsg l p) s = .next ((State.cndAdmit c p.stream 256 ((((t.conduit c).txs p.stream).unacked.take (i + 1)).foldl (fun s q => s.cndDone c q 0)
        (t.setConduit c ((t.conduit c).setTx p.stream { (t.conduit c).txs p.stream with unacked := ((t.conduit c).txs p.stream).unacked.drop (i + 1), timeouts := 0 })))).cndClosing c)) ∧
  (∀ (s t : State) (l c : Nat) (p : GalePacket), s.takeNext l { p with type := 4 } = (t, some c) →
      let u := t.accept c { p with type := 4 }
      u.windowCheck c p.offset p.len true = 0 →
      let w := u.edgeWrite (cndEdge u c) (.conduit c (u.conduit c).nextKey) (u.get (GAL_CND_WBASE.BASE c) + p.offset) (p.data.take p.len) p.poison
      exec (.putMsg l p) s = .next (w.1.cndOp c { key := (u.conduit c).nextKey, kind := 0, psn := p.psn, left := w.2, base := u.get (GAL_CND_WBASE.BASE c) + p.offset, len := p.len })) ∧
  (∀ (s t : State) (l c : Nat) (p : GalePacket), s.takeNext l { p with type := 5 } = (t, some c) →
      let u := (t.accept c { p with type := 5 }).cndAckEvery c 0
      u.windowCheck c p.offset p.len false = 0 →
      let w := u.edgeRead (cndEdge u c) (.conduit c (u.conduit c).nextKey) (u.get (GAL_CND_WBASE.BASE c) + p.offset) p.len
      exec (.getReq l p) s = .next (w.1.cndOp c { key := (u.conduit c).nextKey, kind := 1, psn := p.psn, left := w.2, base := u.get (GAL_CND_WBASE.BASE c) + p.offset, len := p.len })) ∧
  (∀ (s t : State) (l c : Nat) (p : GalePacket) (a : MeshAsk), s.takeNext l { p with type := 6 } = (t, some c) → statusOf p.status = 0 →
      let u := (t.accept c { p with type := 6 }).cndAckEvery c 1
      look (u.conduit c).gets p.ref = some a → p.data.length = a.bytes →
      let v := u.setConduit c { u.conduit c with gets := delKey (u.conduit c).gets p.ref }
      exec (.getResp l p) s = .next (v.answerRead (edgeNode (cndEdge v c)) a p.data p.poison)) ∧
  (∀ (s t : State) (l c tail : Nat) (p : GalePacket), s.takeNext l { p with type := 7 } = (t, some c) → t.get (GAL_CND_RX.LOG2 c) ≠ 0 →
      tail = (t.get (GAL_CND_RX.TAIL c) + ((t.conduit c).ops.filter (fun o => o.kind == 2 || o.kind == 3)).length) % 2 ^ t.get (GAL_CND_RX.LOG2 c) →
      (tail + 1) % 2 ^ t.get (GAL_CND_RX.LOG2 c) ≠ t.get (GAL_CND_RX.HEAD c) →
      let u := (t.accept c { p with type := 7 }).cndAckEvery c 0
      let w := u.edgeWrite (cndEdge u c) (.conduit c (u.conduit c).nextKey) (u.get (GAL_CND_RXBASE.BASE c) + 4096 * tail) (p.data.take p.len) p.poison
      exec (.sendMsg l p) s = .next (w.1.cndOp c { key := (u.conduit c).nextKey, kind := 2, psn := u.isobar, left := w.2, base := u.get (GAL_CND_RXBASE.BASE c) + 4096 * tail, len := p.len })) ∧
  (∀ (s : State) (l : Nat) (p : GalePacket), exec (.collUp l p) s = .next (s.collArrive l { p with type := 8 } true) ∧
      exec (.collDown l p) s = .next (s.collArrive l { p with type := 9 } false) ∧
      exec (.keepalive l p) s = .next (s.receive l { p with type := 0xA }).1)

/-- A configuration write of a free conduit is stored, a SEND starts its read, the receive head moves; a retransmission time-out resends, or ends the conduit at the limit; the timers of an opening, an open and a dead conduit act as their rules say, and a collective slot's time-out raises 0x0620 and aborts the pass. (R336, R337, R338, R340, R343, R344, R345, R348, R350) -/
def Obligations.ConduitCommandsComplete : Prop :=
  (∀ (s : State) (c st : Nat), s.cndState c = 2 ∨ s.cndState c = 3 → ((s.conduit c).txs st).unacked.isEmpty = false → (s.conduit c).rnr = none →
      ((s.conduit c).txs st).timeouts + 1 < s.get GAL_TIMERS.RETRIES → exec (.conduitRto c st) s = .next ((s.setConduit c
        ((s.conduit c).setTx st { (s.conduit c).txs st with timeouts := ((s.conduit c).txs st).timeouts + 1 })).cndResend c st)) ∧
  (∀ (s : State) (c st : Nat), s.cndState c = 2 ∨ s.cndState c = 3 → ((s.conduit c).txs st).unacked.isEmpty = false → (s.conduit c).rnr = none →
      s.get GAL_TIMERS.RETRIES ≤ ((s.conduit c).txs st).timeouts + 1 → exec (.conduitRto c st) s = .next (s.cndEnd c 4)) ∧
  (∀ (s : State) (c : Nat), s.cndState c = 1 → exec (.conduitOpenTimer c) s = .next (s.cndTransmit c (s.cndPacket c 1 0))) ∧
  (∀ (s : State) (c : Nat), s.cndState c = 2 → exec (.conduitKeepaliveTimer c) s = .next (s.cndTransmit c (s.cndPacket c 0xA 0)) ∧
      exec (.conduitDeadLimit c) s = .next (s.cndEnd c 4)) ∧
  (∀ (s : State) (c : Nat), s.cndState c = 2 ∨ s.cndState c = 3 → s.cndLink c = none → exec (.conduitNolinkLimit c) s = .next (s.cndEnd c 4)) ∧
  (∀ (s : State) (c st ref : Nat), (s.conduit c).rnr = some (st, ref) → exec (.conduitRnrDelay c) s = .next (
      (((s.conduit c).txs st).unacked.drop ((indexOf? (fun (q : GalePacket) => q.psn == ref) ((s.conduit c).txs st).unacked).getD 0)).foldl
        (fun s q => (s.addSat (GAL_CND_STATE.RETX c) 1).cndTransmit c q) (s.setConduit c { s.conduit c with rnr := none }))) ∧
  (∀ (s : State) (c st : Nat), s.cndState c = 2 ∨ s.cndState c = 3 → 0 < ((s.conduit c).rxs st).since →
      exec (.conduitAckTimer c st) s = .next (s.cndAck c st 0 0)) ∧
  (∀ (s : State) (c e t : Nat), exec (.putMergeWindow c) s = .next (s.cndFlush c) ∧
      exec (.collPackWindow e t) s = .next (State.collSend e t true (s.coll e t).ready.length s)) ∧
  (∀ (s : State) (who : Requester) (e t value : Nat), s.hubOpen → s.betweenPasses = true → ((State.slotBad e (below 64) 0
        (s.put (GAL_COLL_W2.DEST e t) (bits value 55 0))).activeSlots.filter (fun p => p.1 == e && ((State.slotBad e (below 64) 0
        (s.put (GAL_COLL_W2.DEST e t) (bits value 55 0))).collTree e p.2).bad)) = [] →
      exec (.collSlotWrite who e t 2 value) s = .next (State.slotBad e (below 64) 0 (s.put (GAL_COLL_W2.DEST e t) (bits value 55 0)))) ∧
  (∀ (s : State) (e t : Nat), s.collActive e t = true → s.collIdle e t = false →
      exec (.collTimeout e t) s = .next ((s.record { code := 0x0620, source := 2, node := edgeNode e, unit := t, action := s.abortBit }).abortPass 0x0620 0xFF)) ∧
  (∀ (s : State) (who : Requester) (c value : Nat), s.hubOpen → s.cndState c = 0 ∨ s.cndState c = 4 →
      exec (.conduitCfgWrite who c 2 value) s = .next ((s.setConduit c (s.conduit c)).put (GAL_CND_WSIZE.SIZE c) (bits value 43 0)) ∧
      exec (.conduitCfgWrite who c 3 value) s = .next ((s.setConduit c (s.conduit c)).put (GAL_CND_RXBASE.BASE c) (bits value 55 0))) ∧
  (∀ (s : State) (who : Requester) (c value : Nat), s.hubOpen → s.cndState c = 0 ∨ s.cndState c = 4 →
      exec (.conduitCfgWrite who c 1 value) s = .next ((s.setConduit c (s.conduit c)).setReg (GAL_CND_WBASE.REG c)
        (withField (withField (withField 0 63 63 (bits value 63 63)) 62 62 (bits value 62 62)) 55 0 (bits value 55 0))) ∧
      exec (.conduitCfgWrite who c 0 value) s = .next ((((s.setConduit c (s.conduit c)).put (GAL_CND_CFG.OPEN c) (bits value 63 63)).setReg (GAL_CND_CFG.REG c)
        (withField (withField (withField (withField (withField 0 54 50 (bits value 54 50)) 49 46 (bits value 49 46)) 40 32 (bits value 40 32)) 31 16 (bits value 31 16))
          63 63 (bits value 63 63))).cndRequest c)) ∧
  (∀ (s : State) (who : Requester) (e t value : Nat), s.hubOpen → s.betweenPasses = true →
      let r := State.slotBad e (below 64) 0 (s.setReg (GAL_COLL_W0.REG e t) (withField (word value) 27 27 0))
      let u := State.slotBad e (below 64) 0 (s.put (GAL_COLL_W1.PEERS e t) (bits value 63 24))
      exec (.collSlotWrite who e t 0 value) s = .next (((r.activeSlots.filter (fun p => p.1 == e && (r.collTree e p.2).bad)).foldl (fun s p => s.slotArm e p.2) r).slotArm e t) ∧
      exec (.collSlotWrite who e t 1 value) s = .next ((u.activeSlots.filter (fun p => p.1 == e && (u.collTree e p.2).bad)).foldl (fun s p => s.slotArm e p.2) u)) ∧
  (∀ (s : State) (who : Requester) (c value : Nat), s.hubOpen → s.cndState c ≠ 0 → s.cndState c ≠ 4 →
      exec (.conduitCfgWrite who c 2 value) s = .next ((s.setConduit c (s.conduit c)).raiseCnd c 0x0612 0)) ∧
  (∀ (s : State) (who : Requester) (c value : Nat), s.hubOpen → bit value 63 = true →
      let t := s.put (GAL_CND_SCTL.LEN c) (bits value 11 0)
      t.flag (GAL_CND_SCTL.BUSY c) = false → 1 ≤ bits value 11 0 → bits value 11 0 ≤ 4080 → t.cndState c = 2 → ppaSpace (t.get (GAL_CND_SEND.SRC c)) ≤ 1 →
      t.memValid (t.get (GAL_CND_SEND.SRC c)) = true → t.memValid (t.get (GAL_CND_SEND.SRC c) + bits value 11 0 - 1) = true →
      let u := t.put (GAL_CND_SCTL.BUSY c) 1
      let w := u.edgeRead (cndEdge u c) (.conduit c (u.conduit c).nextKey) (t.get (GAL_CND_SEND.SRC c)) (bits value 11 0)
      exec (.conduitSendGo who c value) s = .next (w.1.cndOp c { key := (u.conduit c).nextKey, kind := 4, psn := 0, left := w.2, base := t.get (GAL_CND_SEND.SRC c), len := bits value 11 0 })) ∧
  (∀ (s : State) (who : Requester) (c value : Nat), s.hubOpen → sat 12 (bits value 3 0) = 0 ∨ bits value 31 16 < 2 ^ sat 12 (bits value 3 0) →
      exec (.rxHeadWrite who c value) s = .next (((s.put (GAL_CND_RX.LOG2 c) (sat 12 (bits value 3 0))).put (GAL_CND_RX.IRQ c) (bits value 4 4)).put
        (GAL_CND_RX.HEAD c) (bits value 31 16)))

/-- A module that is inserted is identified and authenticated, one that is removed takes its links down, an interrupt raises 0x0635, a right answer makes the module trusted and a wrong one or none does not; quiesce waits for the pass, and a quiesced module resumes by identification. (R353, R354, R355, R357, R358, R565) -/
def Obligations.ModuleCommandsComplete : Prop :=
  (∀ (s : State) (k : Nat) (m : ModuleId), let t := s.setModule k { present := true, ident := some m, quiesceWaits := (s.lenModule k).quiesceWaits }
      t.get (LEN_STATE.STATE k) ≠ 6 → t.linksRun = true → exec (.moduleInsert k m) s = .next ((t.moduleState k 1).moduleIdentify k)) ∧
  (∀ (s : State) (k : Nat), (s.lenModule k).present = true → let t := s.setModule k { quiesceWaits := (s.lenModule k).quiesceWaits }
      t.get (LEN_STATE.STATE k) ≠ 6 → exec (.moduleRemove k) s = .next ((below 8).foldl (fun s b =>
        let l := 8 * k + b
        if s.linkSt l = 6 then s.linkDown l
        else if 2 ≤ s.linkSt l ∧ s.linkSt l ≤ 5 then (s.linkAgainst l).setLinkSt l 7 else s)
        (((t.raiseModule k 0x0636).moduleState k 0).put (LEN_SERIAL.SERIAL k) 0))) ∧
  (∀ (s : State) (k n : Nat), (s.lenModule k).present = true → exec (.moduleInterrupt k .busFailed) s = .next ((s.raiseModule k 0x0635).moduleState k 7) ∧
      exec (.moduleInterrupt k .alarm) s = .next (s.raiseModule k 0x0635) ∧ exec (.moduleInterrupt k (.pathLost n)) s = .next (s.raiseModule k 0x0635)) ∧
  (∀ (s : State) (k : Nat) (n : Nat) (cert sig page : List Nat) (m : ModuleId) (c : Cert), (s.lenModule k).challenge = some n → (s.lenModule k).ident = some m →
      cert.length ≤ 1024 → certOf cert = some c → exec (.moduleAuthAnswer k cert sig page) s = .next (
        if c.signedBy p256 sha256 Config.moduleCaKey = false then (s.authFail k 3).lifeRead k page
        else if p256.checks c.key (sha256 (Config.challenge n ++ m.serial ++ page.take 48)) sig = false then (s.authFail k 2).lifeRead k page
        else (((((s.setModule k { s.lenModule k with challenge := none, authTime := some s.isobar }).put (LEN_AUTH.RESULT k) 1).put (LEN_AUTH.AGE k) 0).moduleState k 3).lifeRead k page).moduleLinks k)) ∧
  (∀ (s : State) (k : Nat) (n : Nat) (cert sig page : List Nat) (m : ModuleId), (s.lenModule k).challenge = some n → (s.lenModule k).ident = some m →
      1024 < cert.length → exec (.moduleAuthAnswer k cert sig page) s = .next ((s.authFail k 3).lifeRead k page)) ∧
  (∀ (s : State) (k : Nat), (s.lenModule k).challenge.isSome = true → exec (.moduleAuthTimeout k) s = .next (s.authFail k 4)) ∧
  (∀ (s : State) (k : Nat) (page : List Nat), (s.lenModule k).present = true → s.get (LEN_STATE.STATE k) = 3 ∨ s.get (LEN_STATE.STATE k) = 4 →
      exec (.moduleReauthTimer k) s = .next (s.authStart k) ∧ exec (.moduleLifeRead k page) s = .next (s.lifeRead k page)) ∧
  (∀ (s : State) (who : Requester) (k : Nat), s.hubOpen → s.get (LEN_STATE.STATE k) ≠ 6 → s.betweenPasses = true →
      exec (.lenQuiesce who k) s = .next (s.quiesce k)) ∧
  (∀ (s : State) (who : Requester) (k : Nat), s.hubOpen → s.get (LEN_STATE.STATE k) ≠ 6 → s.betweenPasses = false →
      exec (.lenQuiesce who k) s = .next ((s.put (LEN_CTRL.QUIESCE k) 1).setModule k { s.lenModule k with quiesceWaits := true })) ∧
  (∀ (s : State) (who : Requester) (k : Nat), s.hubOpen → s.get (LEN_STATE.STATE k) = 6 → (s.lenModule k).present = true →
      exec (.lenResume who k) s = .next ((((below 8).foldl (fun s b =>
        let l := 8 * k + b
        if s.linkSt l = 9 then s.setLinkSt l (if s.flag (GAL_LCTRL.EN l) then 1 else 0) else s) s).moduleState k 1).moduleIdentify k))

/-- The Dawn turns on and off with the input, warnings set their flags once, an overvoltage opens both eFuses and resets, a loss of PWROK leaves operation, a lost bar is raised once and restored, a backstop forces the arrays' blocks and its release ends it, and a segment starts, times out, is overloaded and trips. (R362, R364, R365, R366, R368, R372, R373, R374) -/
def Obligations.InputSupplyCommandsComplete : Prop :=
  (∀ (s : State), s.get RST_STATUS.PSTATE = 0 → exec .inputTurnOn s = .next ((s.put RST_STATUS.PSTATE 1).barShow)) ∧
  (∀ (s : State), s.get RST_STATUS.PSTATE ≠ 0 → exec .inputTurnOff s = .next ({ ((((s.applyReset 0).put RST_STATUS.PSTATE 0).setReg DWN_CAUSE0.REG 0).setReg
      DWN_CAUSE1.REG 0) with rst := { perst := (((((s.applyReset 0).put RST_STATUS.PSTATE 0).setReg DWN_CAUSE0.REG 0).setReg DWN_CAUSE1.REG 0).rst).perst } })) ∧
  (∀ (s : State), s.get RST_STATUS.PSTATE ≠ 0 → s.flag PWR_STATUS.INPUT_LOW = false →
      exec .lowInputWarning s = .next ((s.put PWR_STATUS.INPUT_LOW 1).raiseInput 0x0701 0xFF 0)) ∧
  (∀ (s : State), s.get RST_STATUS.PSTATE ≠ 0 → s.power.high = false →
      exec .highInputWarning s = .next (({ s with power := { s.power with high := true } }).raiseInput 0x0702 0xFF 0)) ∧
  (∀ (s : State), s.get RST_STATUS.PSTATE ≠ 0 →
      let t := ({ s with power := { s.power with openA := true, openB := true, lostA := true, lostB := true } } : State).barShow
      exec .overvoltageTrip s = .next ((t.raisePower { code := 0x070A, resets := true, action := t.leaveBit } 0xFF).resetBy 9 0x070A 3)) ∧
  (∀ (s : State), let t := ({ s with power := { s.power with pwrokSince := none } } : State).put PWR_STATUS.PWROK 0
      2 ≤ t.get RST_STATUS.PSTATE → exec .pwrokRelease s = .next (((t.raiseInput 0x0703 0xFF t.leaveBit).goDown 2).progress)) ∧
  (∀ (s : State) (tripped : Bool), s.get RST_STATUS.PSTATE ≠ 0 → s.power.lostA = false →
      exec (.barLoss 0 tripped) s = .next ((({ s with power := { s.power with lostA := true, openA := s.power.openA || tripped } }).barShow).raiseInput 0x0704 0 0)) ∧
  (∀ (s : State) (tripped : Bool), s.get RST_STATUS.PSTATE ≠ 0 → s.power.lostB = false →
      exec (.barLoss 1 tripped) s = .next ((({ s with power := { s.power with lostB := true, openB := s.power.openB || tripped } }).barShow).raiseInput 0x0704 1 0)) ∧
  (∀ (s : State), (s.power.openA = false → exec (.barRestore 0) s = .next ({ s with power := { s.power with lostA := false } }).barShow) ∧
      (s.power.openB = false → exec (.barRestore 1) s = .next ({ s with power := { s.power with lostB := false } }).barShow)) ∧
  (∀ (s : State), s.get RST_STATUS.PSTATE ≠ 0 → s.power.lostA = false → s.power.lostB = false → s.power.imbalance = none →
      exec .barImbalanceCheck s = .next (({ s with power := { s.power with imbalance := some s.isobar } }).raiseInput 0x0720 0xFF 0)) ∧
  (∀ (s : State), s.get RST_STATUS.PSTATE ≠ 0 → s.power.inForced = false → exec .inputBackstop s = .next
      (((s.setForced s.servingStacks true s.power.segForced).raiseInput 0x0709 0xFF 0).put PWR_STATUS.OVERLOAD 1)) ∧
  (∀ (s : State), s.power.inForced = true → exec .backstopRelease s = .next ((s.setForced s.servingStacks false s.power.segForced).put PWR_STATUS.OVERLOAD 0)) ∧
  (∀ (s : State) (g : Nat), s.get (PWR_SEG.STATE g) = 2 → g < 16 → s.power.segForced.contains g = false → exec (.segmentOverload g) s = .next
      ((s.setForced (s.segServing g) s.power.inForced (markIn s.power.segForced g)).raiseInput 0x0708 g 0)) ∧
  (∀ (s : State) (g : Nat), s.get (PWR_SEG.STATE g) = 2 → 16 ≤ g → g ≤ 20 → exec (.segmentOverload g) s = .next (s.raiseInput 0x0708 g 0)) ∧
  (∀ (s : State) (g : Nat), s.power.segForced.contains g = true →
      exec (.segmentOverloadRelease g) s = .next (s.setForced (s.segServing g) s.power.inForced (markOut s.power.segForced g))) ∧
  (∀ (s : State) (g cause : Nat), s.get (PWR_SEG.STATE g) = 1 → g ≤ 20 → exec (.segmentOn g) s = .next ((s.put (PWR_SEG.STATE g) 2).progress) ∧
      exec (.segmentSoftstartTimeout g) s = .next ((s.raiseInput 0x0717 g 0).segTrip g 4) ∧ exec (.segmentTrip g cause) s = .next (s.segTrip g cause))

/-- The first powerable request of a segment is approved and starts its ramp, a ramp that ends in range is up and one that does not is retried once; a lost switch, a sense fault, an undervoltage, an overvoltage, failed phases, an excess load and a hot regulator raise what their rules name; the meters, their snapshot and their logs are shown. (R14, R382, R384, R385, R386, R389, R391, R393, R394, R398, R399, R404) -/
def Obligations.DomainCommandsComplete : Prop :=
  (∀ (s : State) (node : Nat), validNode node = true → node ≠ 84 → s.flag (isolatedLoc node) = false →
      let t := ({ s with power := { s.power with isolations := modKey 0 s.power.isolations node (· + 1) } } : State).put (isolatedLoc node) 1
      exec (.lsrInputSwitchOpen node) s = .next (((t.raiseDomain 0x0716 node 0xFF (({ s with power := { s.power with isolations := modKey 0 s.power.isolations node (· + 1) } } : State).fenceBits node)).supplyLost node).fence node 0x0716)) ∧
  (∀ (s : State) (node d : Nat), node < 169 → node ≠ 84 → d ≤ 5 → validNode node = true → s.flag ((PWR_STK_W1.SENSE_FAULT node).sub d 1) = false →
      exec (.senseFault node d) s = .next ((s.put ((PWR_STK_W1.SENSE_FAULT node).sub d 1) 1).raiseDomain 0x0715 node d 0)) ∧
  (∀ (s : State) (node d n : Nat), validNode node = true → s.dom node d = 3 → n = lookD 0 s.power.uvs (domKey node d) + 1 → n < 2 →
      let t := ({ s with power := { s.power with uvs := putKey s.power.uvs (domKey node d) n } } : State)
      exec (.domainUndervoltage node d) s = .next ((t.raiseDomain 0x0713 node d t.discardBit).discardPass 0x0713)) ∧
  (∀ (s : State) (node d n : Nat), validNode node = true → s.dom node d = 3 → n = lookD 0 s.power.uvs (domKey node d) + 1 → 2 ≤ n → node < 169 →
      let t := ({ s with power := { s.power with uvs := putKey s.power.uvs (domKey node d) n } } : State)
      exec (.domainUndervoltage node d) s = .next (((t.raiseDomain 0x0713 node d (t.discardBit + 4)).discardPass 0x0713).unitLeaves node 0x0713 false)) ∧
  (∀ (s : State) (node d : Nat), validNode node = true → s.dom node d = 3 →
      exec (.domainOvervoltage node d) s = .next ((s.raiseDomain 0x0714 node d (if node = 84 then 0 else s.fenceBits node)).domainLost node d 0x0714)) ∧
  (∀ (s : State) (node d rail p : Nat), validNode node = true → p < domPhases node d rail → s.failedPhases node d rail = 0 →
      popCount (domPhases node d rail) (withBit 0 p true) = 1 → domPhases node d rail ≠ 1 →
      exec (.phaseFailure node d rail [p]) s = .next ((s.setFailed node d rail (withBit 0 p true)).raisePower
        { code := 0x0710, node := node, unit := d, details := [p] } p)) ∧
  (∀ (s : State) (node d : Nat), validNode node = true → s.dom node d = 3 → exec (.domainOverCap node d) s = .next
      (((s.raiseDomain 0x0712 node d (s.abortBit + (if node < 169 ∧ node ≠ 84 then 4 else 0))).abortPass 0x0712 (if node < 169 then node else 0xFF)).unitLeaves node 0x0712 false)) ∧
  (∀ (s : State) (node : Nat), validNode node = true →
      exec (.lsrHot node) s = .next (({ s with power := { s.power with hot := markIn s.power.hot node } }).raiseDomain 0x071A node 0xFF 0)) ∧
  (∀ (s : State) (g : Nat) (r : PowerReq), s.mayApprove g = true → s.power.reqs.find? (fun r => segOf r.node == g && !s.upBlocked r) = some r →
      s.refusedUp r.node r.dom = false → exec (.powerupApproval g) s = .next ((s.dropReq r.node r.dom).put (domLoc r.node r.dom) 2)) ∧
  (∀ (s : State) (node d : Nat), validNode node = true → node ≠ 84 → s.get (domLoc node d) = 2 →
      exec (.rampEndCheck node d true) s = .next ((s.domainUp node d).progress)) ∧
  (∀ (s : State) (node d : Nat), validNode node = true → node ≠ 84 → s.get (domLoc node d) = 2 → lookD 0 s.power.failedOnce (domKey node d) ≠ 2 →
      let t := (s.domainDown node d 0).raiseDomain 0x0717 node d 0
      exec (.rampEndCheck node d false) s = .next { t with power := { t.power with failedOnce := putKey t.power.failedOnce (domKey node d) 1 } }) ∧
  (∀ (s : State) (node d : Nat), lookD 0 s.power.failedOnce (domKey node d) = 1 → exec (.softstartRetry node d) s = .next
      (({ s with power := { s.power with failedOnce := putKey s.power.failedOnce (domKey node d) 2 } }).requestDomain node d)) ∧
  (∀ (s : State) (node d : Nat), s.power.reqs.any (fun r => r.node == node && r.dom == d && !r.raised) = true → exec (.powerupDeferredTimeout node d) s = .next
      ((s.setReqs (s.power.reqs.map (fun (r : PowerReq) => if r.node = node ∧ r.dom = d then { r with raised := true } else r))).raiseDomain 0x0718 node d 0)) ∧
  (∀ (s : State) (m : MeterSample), s.get RST_STATUS.PSTATE ≠ 0 → exec (.meterSample m) s = .next
      (((m.rings.foldl (fun s (r : Nat × Nat) => s.meterRing r.1 r.2) (m.stackList.foldl (fun s (r : Nat × Nat) =>
        if stackSite r.1 then { s with power := { s.power with eStk := modKey 0 s.power.eStk r.1 (· + r.2 * 1000) } } else s)
        (m.segs.foldl (fun s r => s.meterSegment r) (s.meterInput m)))).telShow m.tel).progress)) ∧
  (∀ (s : State) (who : Requester) (value : Nat), (s.get RST_STATUS.PSTATE ≠ 0 → exec .snapshotTimer s = .next s.snapshot) ∧
      (s.hubRuns = true → bit value 0 = true → exec (.pwrSnap who value) s = .next s.snapshot)) ∧
  (∀ (s : State) (who : Requester) (bytes half : Nat), s.hubRuns = true → exec (.pwrEventRead who bytes half) s = .next
      ((s.readLog PWR_EVENT.REG bytes half).2.send (.readData who (PWR_EVENT.REG + 4 * half) bytes (s.readLog PWR_EVENT.REG bytes half).1.toNat false))) ∧
  (∀ (s : State) (who : Requester) (half : Nat), s.hubRuns = true → exec (.pwrInputMaxRead who 8 half) s = .next
      ((s.send (.readData who (PWR_INPUT_MAX.REG + 4 * half) 8 (s.reg PWR_INPUT_MAX.REG).toNat false)).setReg PWR_INPUT_MAX.REG 0))

/-- A sensor sample steps the spots it reads and what follows from them, a coolant sample its flow, heat and emergency, each in the order of its rules; a demand step moves by one, the efuse check of an emergency resets, and the clear and log commands act; the Updraft tick runs its parts in order and an idle sector is gated. (R407, R409, R413, R415, R422, R423, R425, R433, R437) -/
def Obligations.ThermalCommandsComplete : Prop :=
  (∀ (s : State) (readings : List SpotReading) (powers : List DomainPower) (nodes : List Nat), s.hubRuns = true →
      let t := ({ s with thermal := { s.thermal with samples := s.thermal.samples + 1 } } : State)
      nodes = (readNodes readings).filter (fun n => decide (0 < spotCount n) && (n == 84 || (decide (169 ≤ n) && !singleSpot n 0) || t.powered n)) →
      let a := (readings.filter (fun r => nodes.contains r.node)).foldl (fun s r => s.spotStep r) (nodes.foldl (fun s n => s.noteEnergy n) t)
      let b := (nodes.filter (fun n => decide (n < 169) && n != 84)).foldl (fun s n => s.stackStep n) (nodes.foldl (fun s n => s.thermShow n) a)
      exec (.sensorSample readings powers) s = .next (b.servingStacks.foldl (fun s n => s.domainDemand n powers) b).guestSpots.pairShow.thermStatus) ∧
  (∀ (s : State) (site : Nat), s.powered site = true → lasted (s.stackHeat site).cool3 s.thermal.samples 100 = true →
      exec (.thermalDemandStep site true) s = .next (s.setDemand site { s.demand site with thermal := (s.demand site).thermal - 1 })) ∧
  (∀ (s : State) (site : Nat), s.powered site = true → (s.knownSpots site).any (fun i => decide ((s.spotLimits site i).1 < (s.spot site i).ctrl)) = true →
      exec (.thermalDemandStep site false) s = .next (s.setDemand site { s.demand site with thermal := sat 12 ((s.demand site).thermal + 1) })) ∧
  (∀ (s : State) (r : CoolantReading), s.get RST_STATUS.PSTATE ≠ 0 →
      let a := r.flowA.toNat
      let b := r.flowB.toNat
      let fdp := flowFromDp r.dp.toNat
      let u := ({ s with thermal := { s.thermal.markRange r with coolant := (s.thermal.markRange r).coolant + 1 } } : State).flowPair a b fdp
      let f := u.thermal.flow a b fdp
      let heat : List Int := (((f : Int) * (u.tOutUsed - u.tInUsed) * 3971) :: u.thermal.heat).take 1000
      let cond := if u.armed then emergencyCond s.thermal a b fdp u.tOutUsed else 0
      let v := ({ u with thermal := { u.thermal with heat := heat, cond := cond, hist := ((a, b, fdp) :: u.thermal.hist).take 500 } } : State)
      let v := ((v.put THM_COOLANT.T_IN (unsigned 16 r.tIn)).put THM_COOLANT.T_OUT (unsigned 16 r.tOut)).put THM_COOLANT.FLOW_A (unsigned 16 r.flowA)
      let v := ((v.put THM_COOLANT.FLOW_B (unsigned 16 r.flowB)).put THM_COOLANT2.DP (unsigned 16 r.dp)).putSat THM_COOLANT2.F_DP fdp
      let v := (v.put THM_COOLANT2.F_CTL f).putSat THM_HEAT.HEAT_CAP (heatCapOf f v.tInUsed)
      let v := v.putSat THM_HEAT.HEAT_W ((heat.foldl (· + ·) (0 : Int)) / ((6000 * heat.length : Nat) : Int)).toNat
      let v := ((v.put THM_STATUS.DP_BAD (b2n u.thermal.dpBad)).put THM_STATUS.FLOW_A_BAD (b2n !u.thermal.okA)).put THM_STATUS.FLOW_B_BAD (b2n !u.thermal.okB)
      let v := v.warn THM_STATUS.INLET_LOW (decide (v.tInUsed < 170)) 0x0824
      let v := v.warn THM_STATUS.INLET_HIGH (decide (400 < v.tInUsed)) 0x0823
      let v := v.warn THM_STATUS.OUTLET_HIGH (decide (600 < v.tOutUsed)) 0x0825
      let v := if cond != 0 && s.thermal.cond != 0 then v.emergency cond else v
      let v := if v.hubRuns ∧ v.get RST_STATUS.PSTATE ≠ 6 then v.heatLimited else v
      exec (.coolantSample r) s = .next ((v.heatCapLow.flowRequest).recovery f).progress) ∧
  (∀ (s : State), s.flag THM_EMERG.ACTIVE = true → 600 < s.get PWR_INPUT.PIN → exec .emergencyEfuseCheck s = .next
      ((({ s with power := { s.power with openA := true, openB := true, lostA := true, lostB := true } }).barShow).resetBy 12 0x0830 3)) ∧
  (∀ (s : State) (who : Requester) (value : Nat), s.hubRuns = true → bit value 10 = true → s.flag THM_EMERG.READY = true →
      let t := (s.put THM_EMERG.ACTIVE 0).put THM_EMERG.READY 0
      exec (.thmEmergClear who value) s = .next ({ t with thermal := { t.thermal with recoverAt := none } }).thermStatus) ∧
  (∀ (s : State) (who : Requester) (value : Nat), s.hubRuns = true → bit value 16 = false →
      exec (.clearSuspect who value) s = .next (s.put THM_CTRL.FLOW_FLOOR (Nat.min 1000 (Nat.max 200 (bits value 9 0))))) ∧
  (∀ (s : State) (who : Requester) (value : Nat), s.hubRuns = true → bit value 16 = true →
      let t := s.put THM_CTRL.FLOW_FLOOR (Nat.min 1000 (Nat.max 200 (bits value 9 0)))
      let u := ({ t with thermal := { t.thermal with tInBad := false, tOutBad := false, failA := false, failB := false, suspA := false, suspB := false, dpBad := false, apart4 := none, close2 := none, apart8 := none } } : State)
      exec (.clearSuspect who value) s = .next (((u.put THM_STATUS.DP_BAD 0).put THM_STATUS.FLOW_A_BAD 0).put THM_STATUS.FLOW_B_BAD 0)) ∧
  (∀ (s : State) (who : Requester) (bytes half : Nat), s.hubRuns = true → exec (.thmEventRead who bytes half) s = .next
      ((s.readLog THM_EVENT.REG bytes half).2.send (.readData who (THM_EVENT.REG + 4 * half) bytes (s.readLog THM_EVENT.REG bytes half).1.toNat false))) ∧
  (∀ (s : State), s.hubRuns = true → s.doldrums = false → exec .updraftTick s = .next
      ((below 16).foldl (fun s g => s.sectorTick g)
        (s.rateTick (if s.updraft.ticks = 0 then 0 else s.power.eIn / 100000 - s.updraft.energyAt)).debtTick).ungateShow.progress) ∧
  (∀ (s : State) (gs : List Nat), s.get RST_STATUS.PSTATE = 4 → s.trans = none → s.get UPD_CFG.IDLE_GATE ≠ 0 → s.updraft.en = true → s.eligible = [] →
      s.get HUB_PASS.STATE = 0 → s.pass.running = false → gs = (below 16).filter (fun g => !(s.sectorServing g).isEmpty) →
      exec .sectorIdleGate s = .next (((gs.foldl (fun s g => (s.sectorServing g).foldl (fun s x => s.powerDownAll x [1, 0, 2]) s) s).put
        UPD_GATED.SECTORS (maskOf gs)).put UPD_GATED.UNGATING 0))

/-- A reference window is judged by its edges, a holdover that runs out stops the panel's work, the Billow's start lets the nodes run, a lost edge, a returned edge, a seam slip, a beacon and its loss are recorded and raised as their rules say, and an operating-point change goes through its pause and relock. (R438, R444, R445, R447, R448, R451, R452, R453, R454, R456, R461) -/
def Obligations.ClockCommandsComplete : Prop :=
  (∀ (s : State) (edges : Nat), s.get RST_STATUS.PSTATE ≠ 0 → 999 ≤ edges → edges ≤ 1001 → s.clock.backup = false → s.clock.refOk = true →
      exec (.refWindow edges) s = .next (({ s with clock := { s.clock with edges := (edges :: s.clock.edges).take 100, good := s.clock.good + 1, lostWindows := 0 } }).put
        CLK_REF.PPM (unsigned 16 (ppmOf ((edges :: s.clock.edges).take 100))))) ∧
  (∀ (s : State) (edges : Nat), s.get RST_STATUS.PSTATE ≠ 0 → edges < 999 → s.clock.refOk = true →
      exec (.refWindow edges) s = .next (({ s with clock := { s.clock with edges := (edges :: s.clock.edges).take 100, good := 0, lostWindows := 0 } }).put
        CLK_REF.PPM (unsigned 16 (ppmOf ((edges :: s.clock.edges).take 100)))).refLost) ∧
  (∀ (s : State), s.clock.refOk = false → s.clock.wasLost = true → s.hubKeeps = true → s.flag CLK_STATUS.HOLDOVER_IDLE = false →
      let t := (s.put CLK_STATUS.HOLDOVER_IDLE 1).raiseClk 0x0903 0xFF 0xFF s.leaveBit []
      t.get RST_STATUS.PSTATE = 4 → exec .holdoverExpiry s = .next ((t.goDown 3).progress)) ∧
  (∀ (s : State) (unlocked : List Nat) (delays : List LinkDelay), s.hubKeeps = true → s.flag CLK_STATUS.BILLOW_RUN = false → s.flag RST_STATUS.COLD = false →
      exec (.billowStart unlocked delays) s = .next ((((s.put CLK_STATUS.BILLOW_RUN 1).nodesStart unlocked).mccRestart (s.put CLK_STATUS.BILLOW_RUN 1).isobar).progress)) ∧
  (∀ (s : State) (site d n : Nat), s.nodeRuns site = true → s.clock.pause = 0 → d < 4 → s.flag ((CLK_SITE.LOST site).sub d 1) = false →
      clockNeighbour site d = some n → n ≠ 84 → 2 ≤ (s.edgeLost site d).reports n →
      exec (.clockEdgeLoss site d true) s = .next (((s.edgeLost site d).fence n 0x0911).verifySoon)) ∧
  (∀ (s : State) (site d : Nat), s.nodeRuns site = true → s.clock.pause = 0 → d < 4 → s.flag ((CLK_SITE.LOST site).sub d 1) = false →
      clockNeighbour site d = some 84 → exec (.clockEdgeLoss site d true) s = .next (s.edgeLost site d)) ∧
  (∀ (s : State) (site d : Nat), s.nodeRuns site = true → d < 4 → s.flag ((CLK_SITE.LOST site).sub d 1) = true →
      let t := s.put ((CLK_SITE.LOST site).sub d 1) 0
      let t := t.put ((CLK_SITE.COUPLED site).sub d 1) (b2n (t.forwards site d))
      exec (.forwardedClockReturn site d) s = .next (t.put (CLK_SITE.HOLD site) (b2n (t.get (CLK_SITE.COUPLED site) == 0)))) ∧
  (∀ (s : State) (site port m : Nat), s.nodeRuns site = true → s.clock.pause = 0 → port < 4 → neighbour site port = some (m, (port + 2) % 4) →
      s.get (SIT_LINK.STATE site port) ≠ 5 → s.clock.slipped.contains (seamName site port) = false →
      let t := ((({ s with clock := { s.clock with slipped := markIn s.clock.slipped (seamName site port) } } : State).addSat CLK_STATUS.SLIPS 1).addSat (CLK_SITE.SLIPS site) 1)
      exec (.seamSlip site port) s = .next (((t.raiseClk 0x0912 site port t.abortBit []).abortPass 0x0912 site).put (SIT_LINK.RETRAIN site port) 1)) ∧
  (∀ (s : State), s.flag CLK_STATUS.BILLOW_RUN = true → s.clock.pause = 0 → s.isobar % 1024 = 0 → exec .beaconSend s = .next
      ((below 12).foldl (fun s h => s.send (.unit 0x2000 84 [h, s.hubMcc, 0])) { s with clock := { s.clock with beacon := s.isobar / 1024 } })) ∧
  (∀ (s : State) (site d launch hops own : Nat), s.nodeRuns site = true → (lookD {} s.clock.nodes site).period ≠ some s.clock.beacon → own = (launch + 8 * hops) % 2 ^ 48 →
      let n : ClockNode := { lookD {} s.clock.nodes site with mcc := own, since := s.isobar, period := some s.clock.beacon, lostRaised := false }
      exec (.beacon site d launch hops own true) s = .next ((below 4).foldl (fun s e =>
        if e = d ∨ (clockNeighbour site e).isNone then s else s.send (.unit 0x2000 site [e, launch, hops + 1]))
        ({ s with clock := { s.clock with nodes := putKey s.clock.nodes site n } }.put (CLK_SITE.BEACON_OK site) 1))) ∧
  (∀ (s : State) (site : Nat), s.nodeRuns site = true → (lookD {} s.clock.nodes site).lostRaised = false →
      let t : State := { s with clock := { s.clock with nodes := putKey s.clock.nodes site { lookD {} s.clock.nodes site with lostRaised := true } } }
      exec (.beaconLoss site) s = .next (((t.put (CLK_SITE.BEACON_OK site) 0).addSat ISB_STATUS.BEACON_LOSS 1).raiseClk 0x0921 site 0xFF 0 [])) ∧
  (∀ (s : State) (who : Requester) (value : Nat), s.hubOpen → bit value 3 = true → let t := s.put CLK_OP_REQ.TARGET (bits value 2 0)
      bits value 2 0 ≠ t.get CLK_OP.CUR → t.changePending = false → t.opAllowed (bits value 2 0) = true →
      exec (.opChangeRequest who value) s = .next ({ t with commit := { t.commit with op := some (bits value 2 0) } }).armNow) ∧
  (∀ (s : State) (target site d : Nat), s.opConfirmed = some target → s.get CLK_OP.CUR < target →
      exec .opSlewStart s = .next { s with clock := { s.clock with setOp := target } } ∧
      (stackSite site = true → d ≤ 2 → s.domainOn site d = true → exec (.opSettleCheck [(site, d)]) s = .next ((s.raiseClk 0x0905 0xFF 0xFF 0 [site, d]).commitAbort 0 0xFF))) ∧
  (∀ (s : State), (s.opConfirmed.isSome = true → exec .opLinkPause s = .next { s with clock := { s.clock with pause := 1 } }) ∧
      (s.clock.pause = 1 → s.commit.armed ≠ 2 → exec (.opRelock []) s = .next ({ s with clock := { s.clock with pause := 2 } }.padsApply).unlockedShow) ∧
      (s.clock.pause = 2 → exec .opDetectResume s = .next { s with clock := { s.clock with pause := 0 } })) ∧
  (∀ (s : State), s.get RST_STATUS.PSTATE ≠ 0 → s.clock.backup = false →
      let t : State := { s with clock := { s.clock with backup := true } }.put CLK_STATUS.DAWN_BACKUP 1
      let u := ((t.put DWN_CAUSE0.CODE 0x0940).put DWN_CAUSE0.RESET 0)
      let v := u.put DWN_CAUSE0.PSTATE (t.get RST_STATUS.PSTATE)
      exec .dawnCrystalLoss s = .next ((v.put DWN_CAUSE1.TIME v.isobar).raiseClk 0x0940 0xFF 0xFF 0 []))

/-- The messages of a PTP master are taken as the protocol's steps, a loss forgets the masters, an enable starts afresh, and a read of the clock's log takes its oldest entry. (R458, R459, R460, R464) -/
def Obligations.TimeCommandsComplete : Prop :=
  (∀ (s : State) (port : Nat) (m : PtpMsg), s.ptpFrom port m = true → m.twoStep = true →
      exec (.ptpSync port m) s = .next (s.setPtp { s.clock.ptp with waiting := some (m.seq, m.rx - m.corr) })) ∧
  (∀ (s : State) (port : Nat) (m : PtpMsg), s.ptpFrom port m = true → m.twoStep = false → exec (.ptpSync port m) s = .next (s.ptpMeasure (m.ts + m.corr) m.rx)) ∧
  (∀ (s : State) (port : Nat) (rx : Int) (m : PtpMsg), s.clock.ptp.waiting = some (m.seq, rx) → s.ptpFrom port m = true →
      exec (.ptpFollowUp port m) s = .next (s.ptpMeasure (m.ts + m.corr) rx)) ∧
  (∀ (s : State) (port : Nat) (m : PtpMsg) (dataset : List Nat) (utc : Int), s.ptpTakes m = true →
      let x : PtpMaster := { port := port, source := m.source, dataset := dataset, utc := utc }
      s.clock.ptp.masters = [] → s.clock.ptp.selected = none →
      exec (.ptpAnnounce port m dataset utc) s = .next (((s.setPtp { s.clock.ptp with masters := [x], selected := some (port, m.source), waiting := none, sync := none, req := none }).put
        ISB_PTP_STAT.UTC_OFFSET (unsigned 16 utc)).put ISB_PTP_STAT.PORT port)) ∧
  (∀ (s : State) (port src : Nat), s.clock.ptp.selected = some (port, src) → s.ptpRuns = true → let p := s.clock.ptp
      let t := s.setPtp { p with req := some (p.nextSeq, 10 * (s.isobar : Int)), nextSeq := (p.nextSeq + 1) % 65536 }
      exec .ptpDelayReqTimer s = .next (t.send (.mgmt port 3 [1, t.get ISB_PTP_CFG.DOMAIN, p.nextSeq]))) ∧
  (∀ (s : State) (port : Nat) (m : PtpMsg) (t1 t2 t3 : Int), s.clock.ptp.req = some (m.seq, t3) → s.clock.ptp.sync = some (t1, t2) → s.ptpFrom port m = true →
      exec (.ptpDelayResp port m) s = .next (s.setPtp { s.clock.ptp with req := none, delay := ((t2 - t1) + (m.ts - m.corr - t3)) / 2 })) ∧
  (∀ (s : State), s.flag ISB_PTP_CFG.EN = true → s.hubKeeps = true → exec .ptpLoss s = .next
      ((s.ptpUnlock.setPtp { s.ptpUnlock.clock.ptp with masters := [], selected := none, sync := none, req := none }).put ISB_PTP_STAT.PORT 0xF)) ∧
  (∀ (s : State) (who : Requester) (value : Nat), s.hubRuns = true → bit value 0 = false →
      let t := ((s.put ISB_PTP_CFG.DOMAIN (bits value 63 56)).put ISB_PTP_CFG.IPV6 (bits value 1 1)).put ISB_PTP_CFG.EN (bits value 0 0)
      exec (.ptpEnable who value) s = .next ((((((t.setPtp { nextSeq := t.clock.ptp.nextSeq }).put ISB_PTP_STAT.PORT 0xF).put ISB_PTP_STAT.STEERING 0).put
        ISB_PTP_STAT.LOCKED 0).put ISB_STATUS.PTP_LOCKED 0))) ∧
  (∀ (s : State) (who : Requester) (bytes half : Nat), s.hubOpen →
      exec (.clkEventRead who bytes half) s = .next ((s.readLog CLK_EVENT.REG bytes half).2.send
        (.readData who (CLK_EVENT.REG + 4 * half) bytes (s.readLog CLK_EVENT.REG bytes half).1.toNat false)))

/-- An image is read, checked and armed, an abandon gives it up; each unit answers ARM with its acknowledgement or its NAK, the decision confirms or aborts with the code of its rule, COMMIT applies the change, and the reports that are due are waited for. (R477, R480, R483, R484, R485, R486) -/
def Obligations.ImageCommandsComplete : Prop :=
  (∀ (s : State) (who : Requester), s.hubOpen → exec (.imageLoad who) s = .next s.imageLoad ∧ exec (.imageAbandon who) s = .next s.imageAbandon) ∧
  (∀ (s : State) (ues : List Nat) (base len : Nat), s.image.staging = some (base, len) → s.get OVC_STATUS.STATE = 1 →
      exec (.imageReadDone ues) s = .next (
        let t := s.stageErrors s.image.staging ues
        match t.imageRead base len with
        | none => (t.put OVC_STAGED.ID (t.imageNum base 16 8)).ovcState 2
        | some f => t.loadFail f.code f.sec f.site)) ∧
  (∀ (s : State) (base len : Nat), s.image.staging = some (base, len) → s.get OVC_STATUS.STATE = 2 →
      exec (.imageCheckDone []) s = .next (
        match s.imageCheck base with
        | none => ({ s.ovcState 3 with commit := { (s.ovcState 3).commit with image := true } } : State).armNow
        | some f => (if f.code = 0x0110 then s.darkServing (s.secBytes base 1) else s).loadFail f.code f.sec f.site)) ∧
  (∀ (s : State) (node : Nat), s.armedUnit node = true → s.get OVC_ARM.STATE = 1 →
      exec (.arm node 0) s = .next ({ s with commit := { s.commit with prepared := markIn s.commit.prepared node } }.send (.unit 0x84 84 [node, s.get OVC_ARM.ID]))) ∧
  (∀ (s : State) (node nak : Nat), s.armedUnit node = true → s.get OVC_ARM.STATE = 1 → nak ≠ 0 →
      exec (.arm node nak) s = .next (s.send (.unit 0x85 84 [node, s.get OVC_ARM.ID, nak]))) ∧
  (∀ (s : State) (node : Nat), s.armedUnit node = true → s.get OVC_ARM.STATE = 1 → s.commit.acks.contains node = false →
      exec (.armAck node) s = .next (({ s with commit := { s.commit with acks := markIn s.commit.acks node } }).addSat OVC_ARM.ACKS 1)) ∧
  (∀ (s : State) (node code : Nat), s.armedUnit node = true → s.get OVC_ARM.STATE = 1 →
      exec (.nak node code) s = .next ((s.raiseUnit 0x0121 node 0 [code]).commitAbort 0x0121 node)) ∧
  (∀ (s : State) (base len : Nat), s.commit.armed = 1 → s.get OVC_ARM.STATE = 1 → s.commit.units.filter (fun n => !s.commit.acks.contains n) = [] →
      s.flag CLK_STATUS.REF_OK = true → s.flag THM_EMERG.ACTIVE = false → s.image.staging = some (base, len) → exec .armDecide s = .next (
        match s.imageRecheck with
        | none => s.confirmAll
        | some f => ((((if f.code = 0x0110 then s.darkServing (s.secBytes base 1) else s).record { code := f.code, unit := f.sec }).commitAbort f.code 0xFF).put OVC_STATUS.SECTION f.sec))) ∧
  (∀ (s : State), s.commit.armed = 2 → s.get OVC_ARM.STATE = 1 → s.commit.units.filter (fun n => !s.commit.acks.contains n) = [] →
      s.flag CLK_STATUS.REF_OK = true → s.flag THM_EMERG.ACTIVE = false → s.opAllowed (s.commit.op.getD 0) = true → exec .armDecide s = .next s.confirmAll) ∧
  (∀ (s : State) (n : Nat) (l : List Nat), s.commit.armed ≠ 0 → s.get OVC_ARM.STATE = 1 → s.commit.units.filter (fun n => !s.commit.acks.contains n) = n :: l →
      exec .armDecide s = .next (((n :: l).foldl (fun s x => s.raiseUnit 0x0120 x 0 []) s).commitAbort 0x0120 n)) ∧
  (∀ (s : State) (node : Nat), s.commit.prepared.contains node = true →
      exec (.confirm node) s = .next { s with commit := { s.commit with confirmed := markIn s.commit.confirmed node } }) ∧
  (∀ (s : State) (node : Nat), exec (.abort node) s = .next
      { s with commit := { s.commit with prepared := markOut s.commit.prepared node, confirmed := markOut s.commit.confirmed node } }) ∧
  (∀ (s : State) (lost ues : List Nat), s.commit.armed = 2 → s.get OVC_ARM.STATE = 2 → let t := s.put OVC_ARM.STATE 4
      let c : CommitState := { s.commit with armed := 0, units := [], acks := [], prepared := [], confirmed := [], applied := s.commit.confirmed, due := s.commit.units.filter (fun n => n != 84 && !s.fenced n), op := none }
      exec (.commit lost ues) s = .next ((({ t with commit := c }.opSwitch (t.commit.op.getD 0) (s.get OVC_ARM_T.T)).armNow.endHold).readyRefresh)) ∧
  (∀ (s : State) (lost ues : List Nat), s.commit.armed = 1 → s.get OVC_ARM.STATE = 2 → let t := s.put OVC_ARM.STATE 4
      let c : CommitState := { s.commit with armed := 0, units := [], acks := [], prepared := [], confirmed := [], applied := s.commit.confirmed, due := s.commit.units.filter (fun n => n != 84 && !s.fenced n), image := false }
      exec (.commit lost ues) s = .next ((({ t with commit := c }.imageApply lost ues).armNow.endHold).readyRefresh)) ∧
  (∀ (s : State) (node : Nat), s.commit.due.contains node = true →
      exec (.report node true) s = .next { s with commit := { s.commit with due := markOut s.commit.due node } } ∧
      exec (.report node false) s = .next ({ s with commit := { s.commit with due := markOut s.commit.due node } }.commitMissed node)) ∧
  (∀ (s : State), exec .reportDeadline s = .next (s.commit.due.foldl (fun (s : State) n => s.commitMissed n)
      { s with commit := { s.commit with due := [], applied := [] } }))

/-- Each cause of a reset applies its level with its code, the stretch that ends releases it, a start in STANDBY begins or waits, a request of a power state starts a transition or is refused, a transition that does not end goes back, and a die stops and resumes. (spec/14_bringup.md) -/
def Obligations.ResetCommandsComplete : Prop :=
  (∀ (s : State), exec .powerOn s = .next ((((((({ s with isobar := 0 } : State).put DWN_CAUSE0.FAILS 0).cause 0 0x0A01 0 false 0).applyReset 0).resetState 0).send (.pin "RSTO_N" false)))) ∧
  (∀ (s : State), let t := ({ s with rst := { s.rst with perst := true } } : State)
      2 ≤ t.get RST_STATUS.PSTATE → exec .perstAssert s = .next (t.resetBy 1 0x0A02 3)) ∧
  (∀ (s : State), s.rst.perst = true → 2 ≤ s.get RST_STATUS.PSTATE → exec .perstLong s = .next (s.resetBy 2 0x0A03 3)) ∧
  (∀ (s : State), s.rst.perst = true → s.rst.ended = true →
      exec .perstRelease s = .next (({ s with rst := { s.rst with perst := false } }).put DWN_STATUS.HOLD 0).releaseReset) ∧
  (∀ (s : State) (value : Nat), s.hubRuns = true → bit value 8 = true → bits value 31 24 = 0x5A →
      exec (.resetRequest .host value) s = .next ((s.put RST_CTRL.LEVEL (bits value 1 0)).resetBy 3 0x0A04 (bits value 1 0)) ∧
      ∀ p, exec (.resetRequest (.mgmt p) value) s = .next ((s.put RST_CTRL.LEVEL (bits value 1 0)).resetBy 4 0x0A05 (bits value 1 0))) ∧
  (∀ (s : State), s.hubRuns = true → exec .hubWatchdogExpiry s = .next ((s.put DWN_WDOG.REMAIN 0).resetBy 5 0x0A06 3) ∧
      exec .hubFatal s = .next (s.resetBy 6 0x0A07 3)) ∧
  (∀ (s : State), s.flag RST_STATUS.WINDOW = true → exec .startWindowExpiry s = .next (s.failStart.closeWindow.resetBy 7 0x0A08 3)) ∧
  (∀ (s : State) (who : Requester) (value : Nat), bit value 0 = true → s.get RST_STATUS.PSTATE = 6 →
      exec (.doldrumsExit who value) s = .next ((s.put DWN_CAUSE0.FAILS 0).resetBy 8 0x0A09 3)) ∧
  (∀ (s : State) (level : Nat), s.rst.level = some level → (s.rst.perst = false → exec .resetStretchEnd s = .next ({ s with rst := { s.rst with ended := true } }).releaseReset) ∧
      (s.rst.perst = true → exec .resetStretchEnd s = .next { s with rst := { s.rst with ended := true } })) ∧
  (∀ (s : State), s.rst.rsto = true → s.rst.level = none →
      exec .rstoRelease s = .next (({ s with rst := { s.rst with rsto := false } }).send (.pin "RSTO_N" true))) ∧
  (∀ (s : State), s.rst.level = none → s.get RST_STATUS.PSTATE = 1 → s.flag DWN_STATUS.HOLD = false →
      (s.startWait = 0 → exec .standbyStart s = .next s.startHub) ∧ (s.startWait ≠ 0 → exec .standbyStart s = .next (s.put DWN_STATUS.WAIT s.startWait))) ∧
  (∀ (s : State) (who : Requester) (value : Nat), s.hubRuns = true → bit value 8 = true → let t := s.put RST_PWR_REQ.TARGET (bits value 3 0)
      t.hubRuns = true → bits value 3 0 ≠ t.get RST_STATUS.PSTATE → bits value 3 0 ≠ 1 →
      (t.pstateReason (bits value 3 0) = 0 → exec (.powerStateRequest who value) s = .next (t.startTransition (bits value 3 0))) ∧
      (t.pstateReason (bits value 3 0) ≠ 0 → exec (.powerStateRequest who value) s = .next (t.pstateRefused (t.pstateReason (bits value 3 0))))) ∧
  (∀ (s : State) (t : Transition), s.trans = some t → t.down = false →
      exec .transitionTimeout s = .next ((s.raiseReset 0x0A41 0xFF [phaseStep t.phase]).startTransition t.start)) ∧
  (∀ (s : State) (site : Nat), s.powered site = true → exec (.retain site) s = .next (s.setDie site { s.die site with stopped := true }) ∧
      exec (.resume site) s = .next (s.setDie site { s.die site with stopped := false })) ∧
  (∀ (s : State) (who : Requester) (value : Nat), s.hubRuns = true → bit value 0 = true → exec (.rstPark who value) s = .next s.closeWindow)

/-- A firmware operation of the hub is started by its command, its blocks are taken by the loaders and its end is shown; a spare's initialization, copy, handles and readiness lead its swap on, and a swap that does not end in time, or that is abandoned, ends. (R521, R522, R523, R533, R534, R537, R538, R539, R547) -/
def Obligations.FirmwareAndSpareCommandsComplete : Prop :=
  (∀ (s : State) (who : Requester) (value : Nat) (ues : List Nat), s.hubOpen → bits value 2 0 = 1 → exec (.fwBcast who value ues) s = .next
      ((ues.foldl (fun (s : State) k => if ppaSpace k = 1 ∧ s.keyUp k then s.hbmUncorrectable k else s) s).fwCtrl value)) ∧
  (∀ (s : State) (who : Requester) (value : Nat), s.hubOpen → (bits value 2 0 = 2 → exec (.fwUnicast who value) s = .next (s.fwCtrl value)) ∧
      (bits value 2 0 = 3 → exec (.fwStart who value) s = .next (s.fwCtrl value))) ∧
  (∀ (s : State), s.flag RST_FW_STATUS.BUSY = true → exec .fwRoundDone s = .next ((s.fwShow.put RST_FW_STATUS.BUSY 0).hubEvent HUB_EVENT.FW)) ∧
  (∀ (s : State) (site : Nat) (header data : List Nat), s.powered site = true → exec (.fwBlock site header data) s = .next (s.loaderBlock site header data)) ∧
  (∀ (s : State) (spare : Nat) (w : Swap), s.swapOf spare = some w → w.phase = 2 →
      let t := ((s.clearGelat spare).put (GLT_STATUS.EXIT_SCRUB spare) 0).put (GLT_STATUS.EXIT_DONE spare) 1
      exec (.spareInitDone spare) s = .next ((t.copyFrom w (t.copySource w 0)).sparesShow)) ∧
  (∀ (s : State) (spare : Nat) (ues l : List Nat) (w : Swap) (m : Manifest), s.swapOf spare = some w → s.swapManifest w = some m → w.phase = 3 →
      l = ues.filter (fun r => decide (64 * r < m.length)) → l.length < 16 → let t := (s.copySlice w m l).copyShow w (m.length / 64)
      (t.sliceOk w = true → exec (.spareCopyDone spare ues) s = .next (t.restore w)) ∧
      (t.sliceOk w = false → exec (.spareCopyDone spare ues) s = .next ((t.copyAgain w 0x0322).sparesShow))) ∧
  (∀ (s : State) (spare : Nat) (w : Swap), s.swapOf spare = some w → w.phase = 6 → exec (.spareIn spare) s = .next
      ((s.regs.filter (fun p => isHandleReg w.site p.1 && (look s.spares.handles p.1).isNone)).foldl (fun s p => s.swapHandle w p.1 p.2) s)) ∧
  (∀ (s : State) (spare : Nat) (w : Swap), s.swapOf spare = some w → w.phase = 6 → let t := (s.dropSwap w).addSat HUB_SPARE_STATUS.SWAPS 1
      t.fenced w.old = false → exec (.spareReady spare) s = .next ((((t.raiseSpare 0x0140 w.spare w.old w.spare).sparesShow.takeRetires).armNow).readyRefresh)) ∧
  (∀ (s : State) (spare : Nat) (w : Swap), s.swapOf spare = some w → (w.phase = 6 → exec (.spareReadyTimeout spare) s = .next (s.swapEnds w)) ∧
      (w.phase = 5 → exec (.hostLimitExpiry spare) s = .next (s.swapEnds w))) ∧
  (∀ (s : State) (who : Requester) (spare : Nat), s.hubOpen → exec (.hostDone who spare) s = .next (s.put HUB_SPARE_CTRL.SPARE spare).hostDone ∧
      exec (.spareAbandon who spare) s = .next (s.put HUB_SPARE_CTRL.SPARE spare).spareAbandon) ∧
  (∀ (s : State) (who : Requester) (bytes half : Nat), s.hubOpen →
      exec (.spareLogRead who bytes half) s = .next ((s.readLog HUB_SPARE_LOG.REG bytes half).2.send
        (.readData who (HUB_SPARE_LOG.REG + 4 * half) bytes (s.readLog HUB_SPARE_LOG.REG bytes half).1.toNat false)))

/-- The link coming up or down and the bus-master enable are shown and act, the answers of host reads are taken, an access through an aperture goes to memory in pieces, an aperture is written, a vector's holdoff ends and the MSI-X controls release what was held. (R551, R552, R553, R554, R555, R558) -/
def Obligations.HostInterfaceCommandsComplete : Prop :=
  (∀ (s : State) (speed width : Nat) (flit : Bool), s.hubRuns = true → 4 ≤ speed → 8 ≤ width → exec (.pcieLinkUp speed width flit) s = .next
      ((((s.put HUB_PCIE.SPEED speed).put HUB_PCIE.WIDTH width).put HUB_PCIE.FLIT (b2n flit)).put HUB_PCIE.DEGRADED 0)) ∧
  (∀ (s : State) (speed width : Nat) (flit : Bool), s.hubRuns = true → speed < 4 → exec (.pcieLinkUp speed width flit) s = .next
      (((((s.put HUB_PCIE.SPEED speed).put HUB_PCIE.WIDTH width).put HUB_PCIE.FLIT (b2n flit)).put HUB_PCIE.DEGRADED 1).raiseHost 0x0B31 0xFF)) ∧
  (∀ (s : State), s.hubRuns = true →
      let t := ((s.addSat HUB_PCIE.LINK_DOWNS 1).put HUB_PCIE.SPEED 0).put HUB_PCIE.WIDTH 0
      let u := (((t.put HUB_PCIE.FLIT 0).put HUB_PCIE.BME 0).put HUB_PCIE.MSIX_EN 0).put HUB_PCIE.DEGRADED 0
      exec .pcieLinkDown s = .next { u with host := { u.host with funcMask := false } }) ∧
  (∀ (s : State), s.hubRuns = true → (s.flag HUB_PCIE.BME = false → exec (.busMasterEnableChange true) s = .next ((s.put HUB_PCIE.BME 1).heldOut.writeRecords)) ∧
      (s.flag HUB_PCIE.BME = true → exec (.busMasterEnableChange false) s = .next (s.put HUB_PCIE.BME 0))) ∧
  (∀ (s : State) (tag : Nat) (ok : Bool) (data : List Nat), exec (.hostReadCompletion tag ok data) s = .next (s.hostReadEnd tag ok data) ∧
      exec (.hostReadTimeout tag) s = .next (s.hostReadEnd tag false [])) ∧
  (∀ (s : State) (offset n ppa : Nat) (data : List Nat) (poison : Bool), offset + n ≤ 2 ^ 36 → offset < 2 ^ 36 → n ≠ 0 → s.doldrums = false →
      s.flag (HUB_B4AP.EN (offset / 2 ^ 32)) = true → s.bar4Target offset n = (ppa, true) →
      exec (.bar4Access true offset n data poison) s = .next ((pieces ppa n).foldl (fun s q =>
        (s.issue 84 .none (ppaNode q.1) true q.1 q.2 (((data.take n ++ List.replicate (n - data.length) 0).drop (q.1 - ppa)).take q.2) poison none none).1) s)) ∧
  (∀ (s : State) (offset n ppa key : Nat) (data : List Nat) (poison : Bool), offset + n ≤ 2 ^ 36 → offset < 2 ^ 36 → n ≠ 0 → s.doldrums = false →
      s.flag (HUB_B4AP.EN (offset / 2 ^ 32)) = true → s.bar4Target offset n = (ppa, true) →
      key = ((below (s.host.bar4.length + 1)).find? (fun k => !(s.host.bar4.map (·.key)).contains k)).getD s.host.bar4.length →
      exec (.bar4Access false offset n data poison) s = .next ((pieces ppa n).foldl (fun s q =>
        (s.issue 84 (.bar4 key) (ppaNode q.1) false q.1 q.2 [] false none none).1)
        { s with host := { s.host with bar4 := s.host.bar4 ++ [{ key := key, offset := offset, base := ppa, n := n, left := (pieces ppa n).length }] } })) ∧
  (∀ (s : State) (who : Requester) (i value : Nat), s.hubOpen → bits value 55 52 ≤ 1 → bits value 11 0 = 0 →
      exec (.b4apWrite who i value) s = .next ((s.put (HUB_B4AP.EN i) (b2n (bit value 63))).put (HUB_B4AP.BASE i) (bits value 55 0))) ∧
  (∀ (s : State) (who : Requester) (i value : Nat), s.hubOpen → bit value 63 = true → bits value 11 0 ≠ 0 → exec (.b4apWrite who i value) s = .next (s.raiseHost 0x0B30 i)) ∧
  (∀ (s : State) (v : Nat), let t := ({ s with host := { s.host with holdoff := markOut s.host.holdoff v, waiting := markOut s.host.waiting v } } : State)
      exec (.irqHoldoffEnd v) s = .next (if s.host.waiting.contains v then t.trigger v else t)) ∧
  (∀ (s : State) (v : Nat) (masked : Bool), s.hubRuns = true → v < 256 → exec (.msixUnmask (.vector v masked)) s = .next
      (s.msixWrite (2 * v + 1) (withField (s.msixWord (2 * v + 1)) 32 32 (b2n masked)))) ∧
  (∀ (s : State) (enable mask : Bool), s.hubRuns = true → exec (.msixUnmask (.control enable mask)) s = .next
      ((({ s with host := { s.host with funcMask := mask } } : State).put HUB_PCIE.MSIX_EN (b2n enable)).msixReleaseAll))

/-- A request is handled as its rules say, the host writes the key, an acknowledged record is no longer sent and one that is not is sent again up to ten times, a port comes up and goes down, an echo, an ARP request and a solicitation for an own address are answered, DHCP leases an address, and an SMBus read ends with its data. (R560, R561, R562, R564, R566) -/
def Obligations.ManagementCommandsComplete : Prop :=
  (∀ (s : State) (port : Nat) (data : List Nat), exec (.mgmtRead port data) s = .next (s.mgmtRequest port 1 data) ∧
      exec (.mgmtWrite port data) s = .next (s.mgmtRequest port 2 data)) ∧
  (∀ (s : State) (value : Nat), s.hubOpen → let t := s.setReg (HUB_MGT_KEY.REG 3) (word value)
      exec (.mgmtKeyWrite .host 3 value) s = .next (({ t with mgmt := { t.mgmt with last := 0, kept := none } } : State).put HUB_MGT_STAT.KEY_SET 1)) ∧
  (∀ (s : State) (k value : Nat), s.hubOpen → k < 3 →
      exec (.mgmtKeyWrite .host k value) s = .next ((s.setReg (HUB_MGT_KEY.REG k) (word value)).put HUB_MGT_STAT.KEY_SET 0)) ∧
  (∀ (s : State) (who : Requester) (k value : Nat), s.hubOpen → who ≠ .host → exec (.mgmtKeyWrite who k value) s = .next s) ∧
  (∀ (s : State) (port q : Nat) (data : List Nat), s.hubRuns = true → s.mgmtUp port = true → s.ackSeq data = some q →
      exec (.cperAck port data) s = .next { s with mgmt := { s.mgmt with out := s.mgmt.out.filter (fun o => o.seq != q) } }) ∧
  (∀ (s : State) (seq : Nat) (o : CperOut), s.hubRuns = true → s.mgmt.out.find? (fun o => o.seq == seq) = some o → 10 ≤ o.sends →
      exec (.cperResend seq) s = .next ((({ s with mgmt := { s.mgmt with out := s.mgmt.out.filter (fun x => x.seq != seq) } }).addSat HUB_MGT_STAT.CPER_LOST 1).raiseHost 0x0B42 o.port)) ∧
  (∀ (s : State) (seq p : Nat) (o : CperOut), s.hubRuns = true → s.mgmt.out.find? (fun o => o.seq == seq) = some o → o.sends < 10 →
      [1 - o.port, o.port].find? s.canExport = some p → exec (.cperResend seq) s = .next (({ s with mgmt := { s.mgmt with
        out := s.mgmt.out.map (fun (x : CperOut) => if x.seq = seq then { seq := seq, sends := o.sends + 1, port := p } else x) } }).cperSend p seq)) ∧
  (∀ (s : State) (port : Nat), s.hubRuns = true → s.mgmtUp port = true → port < 2 → let t := (s.mgmtState port 0).put (HUB_MGT.FEC port) 0
      exec (.mgmtPortDown port) s = .next ((t.setMgmtPort port { t.mgmtPort port with dhcp := 0 }).raiseHost 0x0B40 port)) ∧
  (∀ (s : State) (port fec : Nat), s.hubRuns = true → s.mgmtUp port = false → port < 2 → let t := (s.mgmtState port 2).put (HUB_MGT.FEC port) fec
      exec (.mgmtPortUp port fec) s = .next ((t.addV6 port (0xFE80 * 2 ^ 112 + t.interfaceId port)).dhcpStart port)) ∧
  (∀ (s : State) (port dst : Nat) (data : List Nat), s.hubRuns = true → s.mgmtUp port = true →
      (s.hasV4 port dst = true → exec (.echoRequest port false dst data) s = .next (s.send (.mgmt port 1 (0 :: 0 :: data)))) ∧
      ((s.mgmtPort port).v6.contains dst = true → exec (.echoRequest port true dst data) s = .next (s.send (.mgmt port 58 (129 :: 0 :: data)))) ∧
      (s.hasV4 port dst = true → exec (.arpRequest port dst) s = .next (s.send (.mgmt port 0x0806 (netBytes 4 dst ++ netBytes 6 (s.get (HUB_MGT.MAC port)))))) ∧
      ((s.mgmtPort port).v6.contains dst = true → exec (.neighborDiscovery port (.solicitation dst)) s = .next
        (s.send (.mgmt port 58 ([136, 0] ++ netBytes 16 dst ++ netBytes 6 (s.get (HUB_MGT.MAC port))))))) ∧
  (∀ (s : State) (port : Nat) (m : DhcpMsg), s.hubRuns = true → s.mgmtUp port = true → s.flag (HUB_MGT_IP.STATIC port) = false → port < 2 →
      (m.kind = 2 → (s.mgmtPort port).dhcp = 1 → exec (.dhcpReply port m) s = .next
        ((s.setMgmtPort port { s.mgmtPort port with dhcp := 2, server := m.server, offer := (m.addr, m.prefixLen) }).dhcpRequest port m.addr m.server)) ∧
      (m.kind = 5 → (s.mgmtPort port).dhcp = 2 → exec (.dhcpReply port m) s = .next
        ((s.setMgmtPort port { s.mgmtPort port with dhcp := 3, server := m.server, offer := (m.addr, m.prefixLen) }).bind port m.addr m.prefixLen)) ∧
      ((s.mgmtPort port).dhcp = 3 → exec (.dhcpLeaseTimer port) s = .next
        ((s.setMgmtPort port { s.mgmtPort port with dhcp := 4 }).dhcpRequest port (s.mgmtPort port).offer.1 (s.mgmtPort port).server))) ∧
  (∀ (s : State) (who : Requester) (value : Nat), s.hubOpen → bit value 63 = true → exec (.smbRead who value) s = .next (s.smbCmd value)) ∧
  (∀ (s : State) (m len : Nat) (data : List Nat), s.host.smb = some (m, len) →
      let t := ({ s with host := { s.host with smb := none } } : State).put HUB_SMB_CMD.BUSY 0
      exec (.smbReadDone true data) s = .next ((data.take len).zipIdx.foldl (fun s p => s.put ⟨HUB_SMB_DATA.REG (p.2 / 8), 8 * (p.2 % 8) + 7, 8 * (p.2 % 8)⟩ p.1)
        (t.put HUB_SMB_CMD.STATUS 0)) ∧
      exec (.smbReadDone false data) s = .next (((t.put HUB_SMB_CMD.STATUS 2).raiseModule m 0x0635).moduleState m 7))

/-- A guest's capability block is taken and checked, it trains, its answers and its temperature are taken while it is up, a request without an answer is poisoned and counted, a lost link and the retrain timer act, and a write of GST_CTRL enables or retries. (R568, R569, R570, R571, R572) -/
def Obligations.GuestCommandsComplete : Prop :=
  (∀ (s : State) (g : Nat) (block : List Nat), g < 4 → s.guestSt g = 2 → let b := block.take 64 ++ List.replicate (64 - block.length) 0
      let t := (((below 8).foldl (fun s i => s.setReg (GST_CAP.REG g i) (word (ofLe ((b.drop (8 * i)).take 8)))) s).guestState g 3).put (GST_STATUS.WHY g) (capabilityWhy b)
      (capabilityWhy b = 0 → exec (.guestSidebandUp g block) s = .next ((t.setGuest g { t.guest g with vset := ofLe ((b.drop 6).take 2) }).guestState g 4)) ∧
      (capabilityWhy b ≠ 0 → exec (.guestSidebandUp g block) s = .next ((t.raiseGuest g 0x0B50).guestDark g 7))) ∧
  (∀ (s : State) (g : Nat), g < 4 → s.guestSt g = 2 → exec (.guestSidebandTimeout g) s = .next (s.guestDark g 6)) ∧
  (∀ (s : State) (g rate width : Nat), g < 4 → s.guestSt g = 4 →
      let t := ((s.setGuest g { s.guest g with heard := s.thermal.samples, retrainDue := false }).put (GST_STATUS.RETRAINS g) 0).guestState g 5
      exec (.guestTrainDone g true rate width) s = .next ((t.put (GST_STATUS.RATE g) rate).put (GST_STATUS.WIDTH g) width) ∧
      exec (.guestTrainDone g false rate width) s = .next (s.guestLoss g)) ∧
  (∀ (s : State) (who : Requester) (g value : Nat), s.hubOpen → g < 4 → (bit value 1 = true → exec (.guestRetry who g value) s = .next (s.guestCtrl g value)) ∧
      (bit value 1 = false → exec (.guestEnableWrite who g value) s = .next (s.guestCtrl g value))) ∧
  (∀ (s : State) (g tag : Nat) (err : Bool) (f : GuestFrame), g < 4 → s.guestUp g = true → exec (.guestRdata g f) s = .next (s.guestFrame g f) ∧
      exec (.guestWack g tag err) s = .next (s.guestFrame g { type := 9, tag := tag, bytes := 1, err := err }) ∧ exec (.guestLinkLoss g) s = .next (s.guestLoss g)) ∧
  (∀ (s : State) (g : Nat) (temp : Int), g < 4 → s.guestUp g = true → exec (.guestTempReport g temp) s = .next
      ((((s.setGuest g { s.guest g with heard := s.thermal.samples }).spotStep { node := guestNode g, spot := 0, a := temp }).thermShow (guestNode g)).thermStatus)) ∧
  (∀ (s : State) (g tag : Nat) (r : GuestReq), (s.guest g).out.find? (fun r => r.tag == tag && !r.answered) = some r →
      let t := ((s.guestPoison g r).addSat (GST_ERR.TIMEOUTS g) 1).setGuest g { s.guest g with out := (s.guest g).out.map (fun (y : GuestReq) => if y.tag == tag then { y with answered := true } else y) }
      (t.guest g).timeSecond ≠ some (t.isobar / second) →
      exec (.guestTimeout g tag) s = .next ((t.setGuest g { t.guest g with timeSecond := some (t.isobar / second) }).raiseGuest g 0x0B53)) ∧
  (∀ (s : State) (g : Nat), g < 4 → s.guestSt g = 8 → (s.guest g).retrainDue = true → let t := s.setGuest g { s.guest g with retrainDue := false }
      t.get (GST_STATUS.RETRAINS g) < 3 → exec (.guestRetrainTimer g) s = .next
      ((t.put (GST_STATUS.RETRAINS g) (t.get (GST_STATUS.RETRAINS g) + 1)).guestState g 2))

/-- Whatever the state and the command, a step of a state whose queue has the command in front is the command's own effect on the state with the queue's rest; and a step of an empty queue is what the panel does by itself, which is the model's choice (log entry 1). (spec/95_what_each_step_holds.md, R439) -/
def Obligations.StepRunsTheCommandInFront : Prop :=
  (∀ (s : State) (c : Instr) (rest : List Instr), step { s with pending := c :: rest } = exec c { s with pending := rest }) ∧
  (∀ (s : State), s.pending = [] → step s = .next s.rest)

/-- The reset state is in canonical form, its queue and its memory are empty, and every register holds the Reset values of its fields; those that the spec leaves to fuses and straps, and those of a register with no Reset value, are the model's constants (log entries 2 and 4). (R14, R206, R507) -/
def Obligations.ResetStateIsCanonicalAndHoldsTheResetValues : Prop :=
  (State.reset.Canonical) ∧
  (State.reset.pending = [] ∧ State.reset.memory = [] ∧ State.reset.isobar = 0) ∧
  (∀ (addr : Nat), State.reset.reg addr = resetWord addr) ∧
  (∀ (addr : Nat) (d : RegDesc) (f : FieldDesc), regAt addr = some d → f ∈ d.fields → State.reset.get ⟨addr, f.hi, f.lo⟩ = resetField addr f % 2 ^ (f.hi + 1 - f.lo)) ∧
  (State.reset.get RST_STATUS.PSTATE = 2 ∧ State.reset.get RST_STATUS.COLD = 1 ∧ State.reset.hubRuns = true ∧ State.reset.get HUB_PASS.STATE = 6 ∧ State.reset.betweenPasses = true)

/-- A command that names an address outside BAR0 and BAR2, or outside BAR4, faults with outsideBar in every state. (R61, R549) -/
def Obligations.AccessesOutsideTheBarsFault : Prop :=
  (∀ (c : Instr) (s : State), InSpace c = false → exec c s = .fault .outsideBar) ∧
  (∀ (who : Requester) (bytes value : Nat) (s : State), 0 < bytes → exec (.registerWrite who barEnd bytes value) s = .fault .outsideBar ∧
      exec (.registerRead who barEnd bytes) s = .fault .outsideBar) ∧
  (InSpace (.registerWrite .host (barEnd - 8) 8 0) = true ∧ InSpace (.registerWrite .host (barEnd - 4) 8 0) = false ∧ InSpace (.registerRead .host barEnd 8) = false)

/-- An address inside BAR0 that decodes to no register reads as zero and ignores writes, and 0x0B02 is recorded; this holds for every address of the windows of the nine hub-occupied sites and from 0x01A9_0000 up. (R12) -/
def Obligations.AnAddressWithoutARegisterReadsZero : Prop :=
  (∀ (s : State) (who : Requester) (addr value : Nat), addr < 0x4000000 → addr % 8 = 0 → msixArea addr = false → s.hubRuns = true → regOf addr = none →
      exec (.registerWrite who addr 8 value) s = .next (s.hostErr 0x0B02 who true 8 addr)) ∧
  (∀ (s : State) (who : Requester) (addr bytes : Nat), addr < 0x4000000 → bytes = 4 ∨ bytes = 8 → addr % bytes = 0 → msixArea addr = false → s.hubRuns = true →
      regOf (addr / 8 * 8) = none → exec (.registerRead who addr bytes) s = .next ((s.hostErr 0x0B02 who false bytes addr).send (.readData who addr bytes 0 false))) ∧
  (∀ (addr : Nat), 0x1000000 ≤ addr → addr < 0x4000000 →
      0x1A90000 ≤ addr ∨ siteOfAddr addr ∈ [70, 71, 72, 83, 84, 85, 96, 97, 98] → regOf addr = none) ∧
  (∀ (s : State) (who : Requester) (write : Bool) (bytes addr : Nat), (s.hostErr 0x0B02 who write bytes addr).get HUB_HST_ERR.LAST_CODE = 0x0B02 ∧
      (s.hostErr 0x0B02 who write bytes addr).get HUB_HST_ERR.UNMAPPED = sat 65535 (s.get HUB_HST_ERR.UNMAPPED + 1))

/-- Where a site's stack is unpowered, its two identity registers still answer a read; every other register of its window reads as zero and ignores writes, and 0x0B03 is recorded with the access; nothing else of the panel changes. (R13, R34) -/
def Obligations.DarkSitesIgnoreWrites : Prop :=
  (∀ (s : State) (who : Requester) (addr value : Nat) (d : RegDesc), siteWindow addr = true → addr % 8 = 0 → s.hubRuns = true → regOf addr = some d →
      identityReg d = false → s.powered (siteOfAddr addr) = false → ownWrite who d addr value s = none →
      exec (.registerWrite who addr 8 value) s = .next (s.hostErr 0x0B03 who true 8 addr)) ∧
  (∀ (s : State) (who : Requester) (addr bytes : Nat) (d : RegDesc), siteWindow addr = true → bytes = 4 ∨ bytes = 8 → addr % bytes = 0 → s.hubRuns = true →
      regOf (addr / 8 * 8) = some d → identityReg d = false → s.powered (siteOfAddr addr) = false → s.flag HUB_DISC_STATUS.DONE = true → ownRead who d addr bytes s = none →
      exec (.registerRead who addr bytes) s = .next ((s.hostErr 0x0B03 who false bytes addr).send (.readData who addr bytes 0 false))) ∧
  (∀ (s : State) (who : Requester) (addr bytes : Nat) (d : RegDesc), siteWindow addr = true → bytes = 4 ∨ bytes = 8 → addr % bytes = 0 → s.hubRuns = true →
      regOf (addr / 8 * 8) = some d → identityReg d = true → s.flag HUB_DISC_STATUS.DONE = true → ownRead who d addr bytes s = none →
      exec (.registerRead who addr bytes) s = .next (s.plainRead who d addr bytes)) ∧
  (∀ (s : State) (who : Requester) (site i value : Nat), s.hubRuns = true → s.powered site = false →
      exec (.mxaThrottleWrite who site value) s = .next (s.hostErr 0x0B03 who true 8 (MXA_THROTTLE.REG site)) ∧
      exec (.ucodeWrite who site i value) s = .next (s.hostErr 0x0B03 who true 8 (MXA_UCODE.REG site i)) ∧
      exec (.vcoModeWrite who site value) s = .next (s.hostErr 0x0B03 who true 8 (VCO_MODE.REG site)) ∧
      exec (.ccoFwWrite who site i value) s = .next (s.hostErr 0x0B03 who true 8 (CCO_FW.REG site i)) ∧
      exec (.ccoMbxInPush who site i value) s = .next (s.hostErr 0x0B03 who true 8 (CCO_MBX_IN_PUSH.REG site i)) ∧
      exec (.treeEntryWrite who site i value) s = .next (s.hostErr 0x0B03 who true 8 (SIT_TREE_W0.REG site i)) ∧
      exec (.redDrainWrite who site value) s = .next (s.hostErr 0x0B03 who true 8 (SIT_RED_DRAIN.REG site)))

/-- A 64-bit read of ISB_COUNT returns the hub's count; an aligned 32-bit read of the low half latches the high half, the next 32-bit read of the high half returns the latched value whatever the count is by then, and any other access of the register clears the latch, so that a later read of the high half returns the current one. (R440) -/
def Obligations.TheTimeIsReadInOnePiece : Prop :=
  (∀ (s : State) (who : Requester), s.hubRuns = true → exec (.isbCountRead who 8 0) s = .next
      (({ s with clock := { s.clock with latch := none } }).send (.readData who ISB_COUNT.REG 8 (s.isobar % 2 ^ 64) false))) ∧
  (∀ (s : State) (who : Requester), s.hubRuns = true → exec (.isbCountRead who 4 0) s = .next
      (({ s with clock := { s.clock with latch := some (s.isobar % 2 ^ 64 / 2 ^ 32) } }).send (.readData who ISB_COUNT.REG 4 (s.isobar % 2 ^ 64 % 2 ^ 32) false))) ∧
  (∀ (s : State) (who : Requester) (h : Nat), s.hubRuns = true → s.clock.latch = some h → exec (.isbCountRead who 4 1) s = .next
      (({ s with clock := { s.clock with latch := none } }).send (.readData who (ISB_COUNT.REG + 4) 4 h false))) ∧
  (∀ (s : State) (who : Requester), s.hubRuns = true → s.clock.latch = none → exec (.isbCountRead who 4 1) s = .next
      (({ s with clock := { s.clock with latch := none } }).send (.readData who (ISB_COUNT.REG + 4) 4 (s.isobar % 2 ^ 64 / 2 ^ 32) false))) ∧
  (∀ (s : State) (who : Requester) (value : Nat), s.hubOpen → ∃ t, exec (.registerWrite who ISB_COUNT.REG 8 value) s = .next t ∧ t.clock.latch = none ∧ t.isobar = s.isobar)

/-- A write of RST_CTRL with GO = 1 asks for a reset only where KEY is 0x5A in the same write; otherwise it is dropped. From the host or a management port the reset takes the level of LEVEL or the fused level of its source, whichever is the more severe (the smaller number), with the source and its code in the cause record. (R494) -/
def Obligations.ResetIsRequestedWithItsKey : Prop :=
  (∀ (s : State) (who : Requester) (value : Nat), s.hubRuns = true → bit value 8 = true → bits value 31 24 ≠ 0x5A → exec (.resetRequest who value) s = .next s) ∧
  (∀ (s : State) (value : Nat), s.hubRuns = true → bit value 8 = true → bits value 31 24 = 0x5A → s.rst.level = none → ∃ t, exec (.resetRequest .host value) s = .next t ∧
      t.rst.level = some (Nat.min (bits value 1 0) ((s.put RST_CTRL.LEVEL (bits value 1 0)).fused 3))) ∧
  (∀ (s : State) (p value : Nat), s.hubRuns = true → bit value 8 = true → bits value 31 24 = 0x5A → s.rst.level = none → ∃ t, exec (.resetRequest (.mgmt p) value) s = .next t ∧
      t.rst.level = some (Nat.min (bits value 1 0) ((s.put RST_CTRL.LEVEL (bits value 1 0)).fused 4))) ∧
  (∀ (s : State) (value : Nat), (s.put RST_CTRL.LEVEL value).fused 3 = s.get ⟨RST_MAP.LEVEL.addr, RST_MAP.LEVEL.lo + 7, RST_MAP.LEVEL.lo + 6⟩)

/-- CCO_WDOG_KICK, CCO_FATAL and the core-written fields of CCO_FW and CCO_WDOG take a write only from the owning control core: from any other requester the write is dropped and the state stays as it was; the owner's write has its effect. (R168, R170) -/
def Obligations.CoreRegistersTakeOnlyTheirOwnersWrites : Prop :=
  (∀ (s : State) (who : Requester) (site c : Nat), who ≠ .core site c → s.siteOpen who (CCO_WDOG_KICK.REG site c) site → exec (.ccoWdogKick who site c) s = .next s) ∧
  (∀ (s : State) (who : Requester) (site c value : Nat), who ≠ .core site c → s.siteOpen who (CCO_FATAL.REG site c) site → exec (.ccoFatalWrite who site c value) s = .next s) ∧
  (∀ (s : State) (who : Requester) (site c value : Nat), who ≠ .core site c → s.siteOpen who (CCO_FW.REG site c) site → exec (.ccoFwWrite who site c value) s = .next s) ∧
  (∀ (s : State) (who : Requester) (site c value : Nat), who ≠ .core site c → s.wdogWrite who site c value = s) ∧
  (∀ (s : State) (site c value : Nat), s.wdogWrite (.core site c) site c value = s.put (CCO_WDOG.PERIOD site c) (Nat.max 100 (bits value 31 0)))

/-- A write to a handle table entry is accepted only while HUB_PASS.STATE is IDLE, HOLD or DOWN (0, 1 or 6); at any other time it is dropped and 0x0314 is raised; after an accepted write BAD and WHY show the first rule that the entry breaks. (R211) -/
def Obligations.HandleTableWritesWaitForABoundary : Prop :=
  (∀ (s : State), s.betweenPasses = true ↔ s.get HUB_PASS.STATE = 0 ∨ s.get HUB_PASS.STATE = 1 ∨ s.get HUB_PASS.STATE = 6) ∧
  (∀ (s : State) (who : Requester) (site h k value : Nat), s.siteOpen who (BHT_ENTRY.REG site h k) site → s.betweenPasses = false →
      exec (.bhtWrite who site h k value) s = .next (s.raiseGelat 0x0314 site 0 false [h])) ∧
  (∀ (s : State) (who : Requester) (site h k value : Nat), h < 256 → k < 4 → s.siteOpen who (BHT_ENTRY.REG site h k) site → s.betweenPasses = true →
      ∃ t, exec (.bhtWrite who site h k value) s = .next t ∧
        (∀ j, j < 3 → t.reg (BHT_ENTRY.REG site h j) = if j = k then word value else s.reg (BHT_ENTRY.REG site h j)) ∧
        (let w j := (t.reg (BHT_ENTRY.REG site h j)).toNat
         let why := handleWhy (w 0) (w 1) (w 2) (bits (w 3) 59 0)
         bits (w 3) 62 60 = why ∧ (bit (w 3) 63 = true ↔ why ≠ 0)) ∧
        (∀ a, (∀ j, j < 4 → a ≠ BHT_ENTRY.REG site h j) → t.reg a = s.reg a))

/-- Route, multicast and tree table registers, and SIT_RED_DRAIN, accept writes only while HUB_PASS.STATE is IDLE, HOLD or DOWN; at any other time the write is dropped and 0x0517 is raised; SIT_RED_DRAIN of a site whose firmware owns it is refused with 0x0B11. (R263) -/
def Obligations.RoutingTablesWaitForABoundary : Prop :=
  (∀ (s : State) (who : Requester) (site i value : Nat), site ≠ 84 → s.siteOpen who (SIT_RTE.REG site i) site → s.betweenPasses = false →
      exec (.routeTableWrite who site i value false) s = .next (s.tableRefused site)) ∧
  (∀ (s : State) (who : Requester) (i value : Nat), s.hubOpen → s.betweenPasses = false → exec (.routeTableWrite who 84 i value false) s = .next (s.tableRefused 84)) ∧
  (∀ (s : State) (who : Requester) (site i value : Nat), site ≠ 84 → s.siteOpen who (SIT_MCAST.REG site i) site → s.betweenPasses = false →
      exec (.routeTableWrite who site i value true) s = .next (s.tableRefused site)) ∧
  (∀ (s : State) (who : Requester) (site t value : Nat), s.siteOpen who (SIT_TREE_W0.REG site t) site → s.betweenPasses = false →
      exec (.treeEntryWrite who site t value) s = .next (s.tableRefused site)) ∧
  (∀ (s : State) (who : Requester) (site value : Nat), s.siteOpen who (SIT_RED_DRAIN.REG site) site → s.fwOwned who site = false → s.betweenPasses = false →
      exec (.redDrainWrite who site value) s = .next (s.tableRefused site)) ∧
  (∀ (s : State) (who : Requester) (site value : Nat), s.siteOpen who (SIT_RED_DRAIN.REG site) site → s.fwOwned who site = true →
      exec (.redDrainWrite who site value) s = .next (s.record { code := 0x0B11, source := 1, node := site })) ∧
  (∀ (s : State) (site i value : Nat), s.siteOpen .host (SIT_MCAST.REG site i) site → site ≠ 84 → s.betweenPasses = true → exec (.routeTableWrite .host site i value true) s = .next
      (s.setReg (SIT_MCAST.REG site i) (withField (withField 0 15 8 (bits value 15 8)) 4 0 (bits value 4 0)))) ∧
  (∀ (s : State) (node : Nat), s.tableRefused node = s.raiseMesh 0x0517 node 0xF 0 [] ∧
      (s.fwOwned .host node = true ↔ s.get (CCO_STATUS.STATE node 0) = 2 ∧ s.doldrums = false))

/-- Once control core 0 of a site is READY (and not in Doldrums mode), a write of the host or of a management port to MXA_ROWCTL, MXA_UCODE, MXA_ROWMAP, MXA_CTRL, VCO_CTRL or VCO_MODE is dropped and raises 0x0B11; before READY, and in Doldrums mode, the firmware owns nothing. (R167) -/
def Obligations.FirmwareOwnedRegistersRefuseTheHost : Prop :=
  (∀ (s : State) (who : Requester) (site i value : Nat), (∀ a, s.siteOpen who a site = true) → s.fwOwned who site = true →
      exec (.rowGo who site value) s = .next (s.fwRefused site) ∧ exec (.ucodeWrite who site i value) s = .next (s.fwRefused site) ∧
      exec (.mxaRowmapWrite who site value) s = .next (s.fwRefused site) ∧ exec (.rerunGo who site i value) s = .next (s.fwRefused site) ∧
      exec (.vcoGo who site i value) s = .next (s.fwRefused site) ∧ exec (.vcoModeWrite who site value) s = .next (s.fwRefused site)) ∧
  (∀ (s : State) (site p : Nat), s.get (CCO_STATUS.STATE site 0) = 2 → s.doldrums = false → s.fwOwned .host site = true ∧ s.fwOwned (.mgmt p) site = true) ∧
  (∀ (s : State) (who : Requester) (site : Nat), s.get (CCO_STATUS.STATE site 0) ≠ 2 ∨ s.doldrums = true → s.fwOwned who site = false) ∧
  (∀ (s : State) (site : Nat), s.fwRefused site = s.record { code := 0x0B11, source := 1, node := site })

/-- In space 0x1, SITE 0x00 to 0x1F names one stack and OFFSET must be below 48 GiB; SITE 0xFF names the interleaved space, OFFSET must be below 1,536 GiB, OFFSET[16:12] selects the stack and the byte there is (OFFSET[43:17] << 12) | OFFSET[11:0]; every other SITE is invalid. (R56) -/
def Obligations.HbmAddressesNameTheirBytes : Prop :=
  (∀ (p : Nat), ppaSpace p = 1 → ppaSite p < 32 → physKey p = if ppaOffset p < 0xC00000000 then some p else none) ∧
  (∀ (p : Nat), ppaSpace p = 1 → ppaSite p = 255 → physKey p = if ppaOffset p < 0x18000000000 then
      some (mkPpa 1 (bits (ppaOffset p) 16 12) ((bits (ppaOffset p) 43 17 <<< 12) ||| bits (ppaOffset p) 11 0)) else none) ∧
  (∀ (p : Nat), ppaSpace p = 1 → 32 ≤ ppaSite p → ppaSite p ≠ 255 → physKey p = none)

/-- Five trits t of −1, 0 or +1 make the byte (t0 + 1) + 3(t1 + 1) + 9(t2 + 1) + 27(t3 + 1) + 81(t4 + 1), trit i of that byte is t of i, and the valid bytes are 0 to 242; in a ternary tile, element e of group g is trit e mod 5 of the group's byte e div 5. (R107, R113) -/
def Obligations.TernaryBytesPackFiveTrits : Prop :=
  (∀ (t : Fin 5 → Fin 3) (i : Fin 5), tritOf ((t 0).val + 3 * (t 1).val + 9 * (t 2).val + 27 * (t 3).val + 81 * (t 4).val) i.val = ((t i).val : Int) - 1) ∧
  (∀ (b : Nat), b < 256 → (tritByteOk b = true ↔ b ≤ 242)) ∧
  (∀ (b : Nat), b ≤ 242 → ∃ t : Fin 5 → Fin 3, b = (t 0).val + 3 * (t 1).val + 9 * (t 2).val + 27 * (t 3).val + 81 * (t 4).val) ∧
  (∀ (t : BankTile) (g k j : Nat) (n : Bool) (d : Machine.Dyadic), t.wfmt = 9 → k < 128 → j < 64 → g = 2 * j + k / 64 →
      decodeFloat fp16 (ofLe ((t.bytes.drop (1664 + 2 * g)).take 2)) = .fin n d →
      nth none (nth [] t.weights k) j = some (d.mul ⟨tritOf (nth 0 t.bytes (13 * g + k % 64 / 5)) (k % 64 % 5), 0⟩))

/-- In every state, every command that names no address outside the BARs answers a next state: no ordinary data ends a run, no command is refused. (spec/95_what_each_step_holds.md) -/
def Obligations.EveryCommandInsideTheBarsAnswers : Prop :=
  ∀ (c : Instr) (s : State), InSpace c = true → ∃ t, exec c s = .next t

/-- No command changes the queue, and neither does what the panel does by itself; so a run of n steps takes the n commands that have waited longest, in their order. (spec/95_what_each_step_holds.md) -/
def Obligations.CommandsLeaveTheQueueAlone : Prop :=
  (∀ (c : Instr) (s t : State), exec c s = .next t → t.pending = s.pending) ∧
  (∀ (s : State), s.rest.pending = s.pending) ∧
  (∀ (n : Nat) (s t : State), runSteps n s = .next t → t.pending = s.pending.drop n)

/-- Every command outside the list mayStore leaves every byte of memory, its marks of poison by write aside, the Isobar count and the queue as they were, whatever else it does. (spec/95_what_each_step_holds.md, R19) -/
def Obligations.NonStoringCommandsLeaveMemoryAlone : Prop :=
  ∀ (c : Instr) (s t : State), mayStore c = false → exec c s = .next t → (∀ a, readByte t.memory a = readByte s.memory a) ∧ t.isobar = s.isobar ∧ t.pending = s.pending

/-- From every state in canonical form, reached by a run or not, a step that answers a next state, whatever its command, and every run of steps, leave the state in canonical form: memory sorted by address with no byte that an unlisted address reads as, and every register listed at most once, in the order of the addresses. (spec/95_what_each_step_holds.md, R19) -/
def Obligations.EveryStepKeepsTheCanonicalForm : Prop :=
  (∀ (s t : State), s.Canonical → step s = .next t → t.Canonical) ∧
  (∀ (n : Nat) (s t : State), s.Canonical → runSteps n s = .next t → t.Canonical)

/-- From every state whose waiting commands all stay inside the BARs, a run of any number of steps meets no fault and no refusal, through the commands and past them. (spec/95_what_each_step_holds.md, R61, R549) -/
def Obligations.QueuedRunsNeverStop : Prop :=
  (∀ (n : Nat) (s : State), (∀ c ∈ s.pending, InSpace c = true) → SafeRun n s) ∧
  (∀ (c : Instr) (s : State) (rest : List Instr), s.pending = c :: rest → InSpace c = false → ∀ n, ¬ SafeRun (n + 1) s)

/-- In a memory of canonical form, after bytes are stored from a key on inside one 1 KiB block, each of them reads back, and every other byte of the address space reads as it did, the first write of a spill row included. (R19, R55, R220) -/
def Obligations.StoredBytesReadBack : Prop :=
  ∀ (s : State) (key : Nat) (data : List Nat) (poison : Bool), Memory.wf s.memory = true → key < 2 ^ 56 → key % 1024 + data.length ≤ 1024 →
      (∀ i, i < data.length → (s.storeKey key data poison).byteAt (key + i) = nth 0 data i % 256) ∧
      (∀ a, a < 2 ^ 56 → a < key ∨ key + data.length ≤ a → (s.storeKey key data poison).byteAt a = s.byteAt a)

/-- When a node serves a WRITE, or a multicast write, every byte of memory that is none of the bytes its address names (the address of its byte i is physKey of PPA + i) reads as it did, whatever the write was allowed to store. (R19, R55, R248) -/
def Obligations.PacketWritesStoreOnlyTheirBytes : Prop :=
  (∀ (s : State) (node : Nat) (p : Packet) (a : Nat), p.view = none → a < 2 ^ 56 → p.ppa % 1024 + p.bytes ≤ 1024 →
      (∀ i, i < p.bytes → physKey (p.ppa + i) ≠ some a) → (s.serveWrite node p).byteAt a = s.byteAt a) ∧
  (∀ (s : State) (node : Nat) (p : Packet) (a : Nat), a < 2 ^ 56 → node < 169 → node ≠ 84 → s.powered node = true → ppaSpace p.ppa = 0 → s.retired.contains node = false →
      p.view = none → p.ppa % 1024 + p.bytes ≤ 1024 → (∀ i, i < p.bytes → physKey (mkPpa 0 node (ppaOffset p.ppa) + i) ≠ some a) →
      ∃ t, exec (.mwrite node p) s = .next t ∧ t.byteAt a = s.byteAt a)

/-- A write of a register without a behaviour of its own gives an RW field the value written, clears the ones written of a W1C field, sets those of a W1S field and leaves every other field; every other register, and all of memory, are as they were. (R10, R14) -/
def Obligations.RegisterFieldsAreWrittenByTheirTypes : Prop :=
  (∀ (d : RegDesc) (f : FieldDesc) (old value : Word), d ∈ regTable → f ∈ d.fields → fieldOf (writeFields d old value) f.hi f.lo =
      match f.type with
      | .rw => fieldOf value f.hi f.lo
      | .w1c => fieldOf old f.hi f.lo ^^^ (fieldOf old f.hi f.lo &&& fieldOf value f.hi f.lo)
      | .w1s => fieldOf old f.hi f.lo ||| fieldOf value f.hi f.lo
      | _ => fieldOf old f.hi f.lo) ∧
  (∀ (s : State) (d : RegDesc) (addr value : Nat), (s.plainWrite d addr value).memory = s.memory ∧ (s.plainWrite d addr value).out = s.out ∧
      ∀ a, a ≠ addr → (s.plainWrite d addr value).reg a = s.reg a) ∧
  (∀ (s : State) (l m : Loc) (n : Nat), l.hi < 64 → m.hi < 64 → (s.put l n).get l = n % 2 ^ (l.hi + 1 - l.lo) ∧
      (m.addr ≠ l.addr ∨ l.hi < m.lo ∨ m.hi < l.lo → (s.put l n).get m = s.get m))

/-- A queue register never holds more than its depth of entries where it did not before; entries come out of 64-bit reads in the order in which they went in, oldest first; a read of an empty queue shows VALID = 0; and a 32-bit read of a half changes nothing. (R51, R225, R287, R319) -/
def Obligations.QueueRegistersKeepTheirOrder : Prop :=
  (∀ (s : State) (addr : Nat) (ws : List Word), (s.log addr).entries = [] → ws.length ≤ logDepth addr → ((ws.foldl (fun s w => s.pushLog addr w) s).log addr).entries = ws) ∧
  (∀ (s : State) (addr : Nat) (w : Word) (l : List Word), (s.log addr).entries = w :: l → ((s.readLog addr 8 0).2.log addr).entries = l ∧
      (s.readLog addr 8 0).1.getLsbD 63 = true ∧ fieldOf (s.readLog addr 8 0).1 61 0 = fieldOf w 61 0) ∧
  (∀ (s : State) (addr : Nat), (s.log addr).entries = [] → (s.readLog addr 8 0).1.getLsbD 63 = false) ∧
  (∀ (s : State) (addr half : Nat), (s.readLog addr 4 half).2 = s) ∧
  (∀ (s : State) (addr : Nat) (w : Word), (s.log addr).entries.length ≤ logDepth addr → ((s.pushLog addr w).log addr).entries.length ≤ logDepth addr)

/-- The digest of a record of 64 values at tree slot t with sequence number q is the sum over i of V of i modulo p times r to the power i + 1, modulo p, with p = 2^61 − 1 and r = (S + 2^17 t + q) mod p, or 1 where that is 0, S being the seed modulo p. (R309) -/
def Obligations.TheMackerelDigestIsItsSum : Prop :=
  (∀ (s : State) (t : Nat) (x : Partial), x.vals.length = 64 →
      let p := 2 ^ 61 - 1
      let r0 := ((s.reg SDG_SEED_CUR.REG).toNat % p + 2 ^ 17 * t + x.seq) % p
      let r := if r0 = 0 then 1 else r0
      s.recDigest t x = (((List.range 64).map (fun i => ((nth 0 x.vals i).toInt % (p : Int)).toNat * r ^ (i + 1))).sum) % p) ∧
  (∀ (s : State) (t : Nat) (x : Partial), s.recDigest t x < 2 ^ 61 - 1)

/-- The partial sums that a member router holds are the same, value for value, digest, poison and count, in whatever order the same contributions arrive. (R123, R278) -/
def Obligations.ReductionsDoNotDependOnTheOrder : Prop :=
  (∀ (l m : List Partial), l.Perm m → l.foldl (fun acc e => addPartial e acc) [] = m.foldl (fun acc e => addPartial e acc) []) ∧
  (∀ (l : List Partial), (l.foldl (fun acc e => addPartial e acc) []).Pairwise (fun a b => a.seq < b.seq))

/-- A vector core that runs alone at a valid word of a two-operand arithmetic instruction writes, in each lane that the mask enables, the operation of the two source lanes to the destination register and keeps the destination's other lanes; every other vector register, every mask, scalar and scratch byte of the core, the other cores, memory and what has left the panel are as they were. (R137, R141, R145) -/
def Obligations.VectorInstructionsWorkLaneByLane : Prop :=
  (∀ (s : State) (site v : Nat) (p : Instr × Nat × (Lane → Lane → Lane)),
      p ∈ ([(.fadd site v .none, 0x02, laneAdd), (.fsub site v .none, 0x03, laneSub), (.fmul site v .none, 0x04, laneMul), (.fmin site v .none, 0x06, laneMin),
        (.fmax site v .none, 0x07, laneMax), (.iadd site v .none, 0x10, (· + ·)), (.isub site v .none, 0x11, (· - ·)), (.imul site v .none, 0x12, (· * ·))]
        : List (Instr × Nat × (Lane → Lane → Lane))) → s.vectorAt site v p.2.1 = true →
      ∃ t, exec p.1 s = .next t ∧
        (let w := decodeVec (s.vecWord site v)
         let x := s.vector site v
         let y := t.vector site v
         (∀ i a b, i < 128 → (x.mask w.mask).getLsbD i = true → (x.lanes w.a)[i]? = some a → (x.lanes w.b)[i]? = some b → (y.lanes w.d)[i]? = some (p.2.2 a b)) ∧
         (∀ i, i < 128 → (x.mask w.mask).getLsbD i = false → (y.lanes w.d)[i]? = some (nth 0#32 (x.lanes w.d) i)) ∧
         (∀ d, d ≠ w.d → y.lanes d = x.lanes d) ∧ y.m = x.m ∧ y.s = x.s ∧ y.scratch = x.scratch ∧ y.prog = x.prog) ∧
        (∀ site' v', vectorKey site' v' ≠ vectorKey site v → t.vector site' v' = s.vector site' v') ∧
        t.memory = s.memory ∧ t.out = s.out ∧ t.arrays = s.arrays ∧ t.controls = s.controls ∧ t.logs = s.logs) ∧
  (∀ (x : VectorState), x.mask 0 = BitVec.allOnes 128 ∧ x.scalar 0 = 0) ∧
  (∀ (x : VectorState) (r : VecResult) (n : Nat) (m : BitVec 128), (x.take { r with mask := some (0, m), scal := some (0, n) }).m = x.m ∧
      (x.take { r with mask := some (0, m), scal := some (0, n) }).s = x.s)

/-- Two addresses of the interleaved HBM space that name the same byte are the same address, and every byte of every stack has one; two logical bytes of a transposed buffer never share a physical byte, a tile's bytes stay in the tile, and the spec's example holds. (R56, R213) -/
def Obligations.AddressMappingsAreOneToOne : Prop :=
  (∀ (p q k : Nat), p < 2 ^ 56 → q < 2 ^ 56 → ppaSpace p = 1 → ppaSpace q = 1 → ppaSite p = 255 → ppaSite q = 255 → physKey p = some k → physKey q = some k → p = q) ∧
  (∀ (stack o : Nat), stack < 32 → o < 0xC00000000 → physKey (mkPpa 1 255 (o / 4096 * 2 ^ 17 + stack * 4096 + o % 4096)) = some (mkPpa 1 stack o)) ∧
  (∀ (h : Handle) (o u : Nat), h.view = 1 ∨ h.view = 2 → h.byte o = h.byte u → o = u) ∧
  (∀ (h : Handle) (o : Nat), h.view = 1 ∨ h.view = 2 → h.base + o / tileSize h.view * tileSize h.view ≤ h.byte o ∧
      h.byte o < h.base + (o / tileSize h.view + 1) * tileSize h.view) ∧
  (∀ (h : Handle), h.view = 1 → h.base = 0x100000 → h.byte 0x1234 = 0x101D08)

/-- A width token of any mask of 8 groups, width and round decodes to those fields with its CRC right; and a number of n bytes, written low byte first, reads back as itself. (R6, R273) -/
def Obligations.WidthTokensCarryTheirFields : Prop :=
  (∀ (mask width round : Nat), mask < 256 → width < 4 → round < 64 → decodeToken (encodeToken mask width round) = ⟨mask, width, round, true⟩) ∧
  (∀ (n v : Nat), ofLe (leBytes n v) = v % 256 ^ n ∧ (leBytes n v).length = n) ∧
  (∀ (l : List Nat), (∀ b ∈ l, b < 256) → leBytes l.length (ofLe l) = l)

end
end

