-- ==== Sys2Proof/Laws/Memory.lean ====
section
/-! SUPPORT. The laws of the memory list: every operation keeps its canonical form, and a read finds what the last write to its address left. -/

namespace Sys2Proof.Machine

open Sys2Proof

theorem memoryWfFrom_mono {lo hi : Nat} (h : lo ≤ hi) : ∀ {m : List Host.Cell}, memoryWfFrom hi m = true → memoryWfFrom lo m = true := by
  intro m; cases m with
  | nil => intro _; rfl
  | cons c m => simp only [memoryWfFrom, Bool.and_eq_true, decide_eq_true_eq]; intro w; exact ⟨⟨Nat.le_trans h w.1.1, w.1.2⟩, w.2⟩

theorem memoryWfFrom_filter (p : Host.Cell → Bool) : ∀ (m : List Host.Cell) (lo : Nat), memoryWfFrom lo m = true → memoryWfFrom lo (m.filter p) = true := by
  intro m; induction m with
  | nil => intro lo _; rfl
  | cons c m ih =>
    intro lo w
    simp only [memoryWfFrom, Bool.and_eq_true, decide_eq_true_eq] at w
    by_cases hp : p c = true
    · simp only [List.filter_cons, hp, if_true, memoryWfFrom, Bool.and_eq_true, decide_eq_true_eq]
      exact ⟨w.1, ih _ w.2⟩
    · simp only [List.filter_cons, hp, if_false, Bool.false_eq_true]
      exact memoryWfFrom_mono (by omega) (ih _ w.2)

theorem memoryWfFrom_writeByte (a : Nat) (b : Byte) : ∀ (m : List Host.Cell) (lo : Nat), lo ≤ a → memoryWfFrom lo m = true →
    memoryWfFrom lo (writeByte m a b) = true := by
  intro m; induction m with
  | nil =>
    intro lo h _
    by_cases hb : b = 0#8 <;> simp [writeByte, memoryWfFrom, hb, h]
  | cons c m ih =>
    obtain ⟨k, v⟩ := c
    intro lo h w
    simp only [memoryWfFrom, Bool.and_eq_true, decide_eq_true_eq] at w
    by_cases h1 : a < k
    · by_cases hb : b = 0#8
      · simp [writeByte, h1, hb, memoryWfFrom, w.1.1, w.1.2, w.2]
      · have h3 : a + 1 ≤ k := h1
        simp [writeByte, h1, hb, memoryWfFrom, h, h3, w.1.2, w.2]
    · by_cases h2 : k = a
      · by_cases hb : b = 0#8
        · simp only [writeByte, h1, h2, hb, if_true, if_false, Nat.lt_irrefl]
          exact memoryWfFrom_mono (by omega) w.2
        · subst h2
          simp [writeByte, hb, memoryWfFrom, h, w.2]
      · simp only [writeByte, h1, h2, if_false, memoryWfFrom, Bool.and_eq_true, decide_eq_true_eq]
        exact ⟨w.1, ih _ (by omega) w.2⟩

/-- A write of bytes keeps the canonical form. -/
theorem Memory.wf_writeBytes (l : List Nat) : ∀ (m : List Host.Cell) (a : Nat), Memory.wf m = true → Memory.wf (writeBytes m a l) = true := by
  induction l with
  | nil => intro m a w; exact w
  | cons b l ih => intro m a w; exact ih _ _ (memoryWfFrom_writeByte a _ m 0 (Nat.zero_le _) w)

theorem Memory.wf_writeByte (m : List Host.Cell) (a : Nat) (b : Byte) (w : Memory.wf m = true) : Memory.wf (writeByte m a b) = true :=
  memoryWfFrom_writeByte a b m 0 (Nat.zero_le _) w

theorem Memory.wf_filter (p : Host.Cell → Bool) (m : List Host.Cell) (w : Memory.wf m = true) : Memory.wf (m.filter p) = true :=
  memoryWfFrom_filter p m 0 w

@[simp] theorem Memory.wf_nil : Memory.wf [] = true := rfl

/-- An address below every listed address reads 0. -/
theorem readByte_below : ∀ {m : List Host.Cell} {lo a : Nat}, memoryWfFrom lo m = true → a < lo → readByte m a = 0#8 := by
  intro m; induction m with
  | nil => intro lo a _ _; rfl
  | cons c m ih =>
    obtain ⟨k, v⟩ := c
    intro lo a w h
    simp only [memoryWfFrom, Bool.and_eq_true, decide_eq_true_eq] at w
    have : k ≠ a := by omega
    simp only [readByte, this, if_false]
    exact ih w.2 (by omega)

/-- In a memory of canonical form, a read finds the byte written at its address. -/
theorem readByte_writeByte_same (a : Nat) (b : Byte) : ∀ {m : List Host.Cell} {lo : Nat}, memoryWfFrom lo m = true →
    readByte (writeByte m a b) a = b := by
  intro m; induction m with
  | nil => intro lo _; by_cases hb : b = 0#8 <;> simp [writeByte, readByte, hb]
  | cons c m ih =>
    obtain ⟨k, v⟩ := c
    intro lo w
    simp only [memoryWfFrom, Bool.and_eq_true, decide_eq_true_eq] at w
    by_cases h1 : a < k
    · by_cases hb : b = 0#8
      · have : k ≠ a := by omega
        simp only [writeByte, h1, if_true, hb, readByte, this, if_false]
        exact readByte_below w.2 (by omega)
      · simp [writeByte, h1, hb, readByte]
    · by_cases h2 : k = a
      · by_cases hb : b = 0#8
        · subst h2
          simp only [writeByte, Nat.lt_irrefl, if_false, if_true, hb]
          exact readByte_below w.2 (by omega)
        · simp [writeByte, h2, hb, readByte]
      · simp only [writeByte, h1, h2, if_false, readByte]
        exact ih w.2

/-- A write leaves every other address as it was. -/
theorem readByte_writeByte_other {a c : Nat} (b : Byte) (h : c ≠ a) : ∀ (m : List Host.Cell), readByte (writeByte m a b) c = readByte m c := by
  intro m; induction m with
  | nil => by_cases hb : b = 0#8 <;> simp [writeByte, readByte, hb, h.symm]
  | cons x m ih =>
    obtain ⟨k, v⟩ := x
    by_cases h1 : a < k
    · by_cases hb : b = 0#8 <;> simp [writeByte, h1, hb, readByte, h.symm]
    · by_cases h2 : k = a
      · by_cases hb : b = 0#8 <;> simp [writeByte, h2, hb, readByte, h.symm]
      · simp only [writeByte, h1, h2, if_false, readByte, ih]

/-- A write of bytes leaves every address outside them as it was. -/
theorem readByte_writeBytes_other {c : Nat} (l : List Nat) : ∀ (m : List Host.Cell) (a : Nat), (c < a ∨ a + l.length ≤ c) →
    readByte (writeBytes m a l) c = readByte m c := by
  induction l with
  | nil => intro m a _; rfl
  | cons b l ih =>
    intro m a h
    simp only [List.length_cons] at h
    rw [writeBytes, ih _ _ (by omega), readByte_writeByte_other _ (by omega)]

/-- A read of a byte of a write finds it. -/
theorem readByte_writeBytes_same (l : List Nat) : ∀ (m : List Host.Cell) (a i : Nat), Memory.wf m = true → i < l.length →
    readByte (writeBytes m a l) (a + i) = BitVec.ofNat 8 (nth 0 l i) := by
  induction l with
  | nil => intro m a i _ h; simp at h
  | cons b l ih =>
    intro m a i w h
    cases i with
    | zero =>
      rw [writeBytes, readByte_writeBytes_other _ _ _ (by omega), Nat.add_zero]
      exact readByte_writeByte_same a _ w
    | succ i =>
      have := ih (writeByte m a (BitVec.ofNat 8 b)) (a + 1) i (Memory.wf_writeByte m a _ w) (by simpa using h)
      rw [writeBytes, show a + (i + 1) = a + 1 + i by omega, this]; rfl

end Sys2Proof.Machine
end

