-- ==== Sys2Proof/Laws/Kept.lean ====
section
/-! SUPPORT. What an operation of the machine can do, said once for all of them. A property P of states is Closed when an update of any field but the queue,
the Isobar count and memory keeps it (the register file is written through setReg only); it is ClosedAll when the changes of the Isobar count, of memory and
of the register file that the machine makes keep it too. Each operation has one lemma X_kept, in the files KeptOps beside this one: it keeps every P that is
Closed, where it touches neither memory nor the Isobar count nor drops registers, and every P that is ClosedAll otherwise. -/

namespace Sys2Proof.Machine

open Sys2Proof

/-- P holds of s (a name for the goal, so that one lemma applies at a time). -/
def Kept (P : State → Prop) (s : State) : Prop := P s

/-- P is kept by every update that leaves the queue, the Isobar count and memory alone. -/
structure Closed (P : State → Prop) : Prop where
  upd : ∀ {s : State} {logs : List (Nat × LogQueue)} {out : List Sent} {fresh : Nat} {baro : List (Nat × List Word)} {retire : List Retire}
      {retired poison rwtStale : List Nat} {arrays : List (Nat × ArrayState)} {vectors : List (Nat × VectorState)} {controls : List (Nat × ControlState)}
      {replays : List (Nat × List ReplayBank)} {votes : List (Nat × List Vote)} {arrayRetire phases : List (Nat × Nat)} {dies : List (Nat × DieState)}
      {pass : PassState} {completions : List Completion} {slots : List (Nat × Byte)} {gelats : List (Nat × GelatState)} {hbms : List (Nat × HbmState)}
      {rwtCache : List (Nat × List (Nat × Word))} {requests : List Request} {partials : List (Nat × List Partial)} {redWait : List RedWait}
      {links : List (Nat × LinkTrain)} {verifyPending : Bool} {disc : DiscState} {image : ImageState} {rst : ResetState} {trans : Option Transition}
      {gale : List (Nat × GaleLink)} {conduits : List (Nat × Conduit)} {colls : List (Nat × Coll)} {modules : List (Nat × LenModule)} {power : PowerState}
      {demands : List (Nat × Demand)} {thermal : ThermalState} {updraft : UpdraftState} {guests : List (Nat × Guest)} {spares : SpareState}
      {clock : ClockState} {commit : CommitState} {fw : FwState} {host : HostState} {mgmt : MgmtState},
      P s → P (State.mk s.pending s.isobar s.regs logs out fresh baro retire retired arrays vectors controls replays votes arrayRetire dies pass completions phases
      slots s.memory poison gelats hbms rwtCache rwtStale requests partials redWait links verifyPending disc image rst trans gale conduits colls modules
      power demands thermal updraft guests spares clock commit fw host mgmt)
  setReg : ∀ {s : State} (a : Nat) (w : Word), P s → P (s.setReg a w)

/-- P is kept by the updates of the Isobar count, of memory and of the register file too. -/
structure ClosedAll (P : State → Prop) : Prop extends Closed P where
  isobar : ∀ {s : State} {n : Nat} {logs : List (Nat × LogQueue)} {out : List Sent} {fresh : Nat} {baro : List (Nat × List Word)} {retire : List Retire}
      {retired poison rwtStale : List Nat} {arrays : List (Nat × ArrayState)} {vectors : List (Nat × VectorState)} {controls : List (Nat × ControlState)}
      {replays : List (Nat × List ReplayBank)} {votes : List (Nat × List Vote)} {arrayRetire phases : List (Nat × Nat)} {dies : List (Nat × DieState)}
      {pass : PassState} {completions : List Completion} {slots : List (Nat × Byte)} {gelats : List (Nat × GelatState)} {hbms : List (Nat × HbmState)}
      {rwtCache : List (Nat × List (Nat × Word))} {requests : List Request} {partials : List (Nat × List Partial)} {redWait : List RedWait}
      {links : List (Nat × LinkTrain)} {verifyPending : Bool} {disc : DiscState} {image : ImageState} {rst : ResetState} {trans : Option Transition}
      {gale : List (Nat × GaleLink)} {conduits : List (Nat × Conduit)} {colls : List (Nat × Coll)} {modules : List (Nat × LenModule)} {power : PowerState}
      {demands : List (Nat × Demand)} {thermal : ThermalState} {updraft : UpdraftState} {guests : List (Nat × Guest)} {spares : SpareState}
      {clock : ClockState} {commit : CommitState} {fw : FwState} {host : HostState} {mgmt : MgmtState},
      P s → P (State.mk s.pending n s.regs logs out fresh baro retire retired arrays vectors controls replays votes arrayRetire dies pass completions phases slots
      s.memory poison gelats hbms rwtCache rwtStale requests partials redWait links verifyPending disc image rst trans gale conduits colls modules power
      demands thermal updraft guests spares clock commit fw host mgmt)
  memory : ∀ {s : State} {m : List Host.Cell} {logs : List (Nat × LogQueue)} {out : List Sent} {fresh : Nat} {baro : List (Nat × List Word)} {retire : List Retire}
      {retired poison rwtStale : List Nat} {arrays : List (Nat × ArrayState)} {vectors : List (Nat × VectorState)} {controls : List (Nat × ControlState)}
      {replays : List (Nat × List ReplayBank)} {votes : List (Nat × List Vote)} {arrayRetire phases : List (Nat × Nat)} {dies : List (Nat × DieState)}
      {pass : PassState} {completions : List Completion} {slots : List (Nat × Byte)} {gelats : List (Nat × GelatState)} {hbms : List (Nat × HbmState)}
      {rwtCache : List (Nat × List (Nat × Word))} {requests : List Request} {partials : List (Nat × List Partial)} {redWait : List RedWait}
      {links : List (Nat × LinkTrain)} {verifyPending : Bool} {disc : DiscState} {image : ImageState} {rst : ResetState} {trans : Option Transition}
      {gale : List (Nat × GaleLink)} {conduits : List (Nat × Conduit)} {colls : List (Nat × Coll)} {modules : List (Nat × LenModule)} {power : PowerState}
      {demands : List (Nat × Demand)} {thermal : ThermalState} {updraft : UpdraftState} {guests : List (Nat × Guest)} {spares : SpareState}
      {clock : ClockState} {commit : CommitState} {fw : FwState} {host : HostState} {mgmt : MgmtState},
      P s → (Memory.wf s.memory = true → Memory.wf m = true) → P (State.mk s.pending s.isobar s.regs logs out fresh baro retire retired arrays vectors controls replays votes arrayRetire dies pass completions phases
      slots m poison gelats hbms rwtCache rwtStale requests partials redWait links verifyPending disc image rst trans gale conduits colls modules power
      demands thermal updraft guests spares clock commit fw host mgmt)
  regs : ∀ {s : State} {f : Nat × Word → Bool} {logs : List (Nat × LogQueue)} {out : List Sent} {fresh : Nat} {baro : List (Nat × List Word)} {retire : List Retire}
      {retired poison rwtStale : List Nat} {arrays : List (Nat × ArrayState)} {vectors : List (Nat × VectorState)} {controls : List (Nat × ControlState)}
      {replays : List (Nat × List ReplayBank)} {votes : List (Nat × List Vote)} {arrayRetire phases : List (Nat × Nat)} {dies : List (Nat × DieState)}
      {pass : PassState} {completions : List Completion} {slots : List (Nat × Byte)} {gelats : List (Nat × GelatState)} {hbms : List (Nat × HbmState)}
      {rwtCache : List (Nat × List (Nat × Word))} {requests : List Request} {partials : List (Nat × List Partial)} {redWait : List RedWait}
      {links : List (Nat × LinkTrain)} {verifyPending : Bool} {disc : DiscState} {image : ImageState} {rst : ResetState} {trans : Option Transition}
      {gale : List (Nat × GaleLink)} {conduits : List (Nat × Conduit)} {colls : List (Nat × Coll)} {modules : List (Nat × LenModule)} {power : PowerState}
      {demands : List (Nat × Demand)} {thermal : ThermalState} {updraft : UpdraftState} {guests : List (Nat × Guest)} {spares : SpareState}
      {clock : ClockState} {commit : CommitState} {fw : FwState} {host : HostState} {mgmt : MgmtState},
      P s → P (State.mk s.pending s.isobar (s.regs.filter f) logs out fresh baro retire retired arrays vectors controls replays votes arrayRetire dies pass
      completions phases slots s.memory poison gelats hbms rwtCache rwtStale requests partials redWait links verifyPending disc image rst trans gale
      conduits colls modules power demands thermal updraft guests spares clock commit fw host mgmt)

theorem Kept.fields {P : State → Prop} (g : Closed P) {s : State} {logs : List (Nat × LogQueue)} {out : List Sent} {fresh : Nat} {baro : List (Nat × List Word)} {retire : List Retire}
      {retired poison rwtStale : List Nat} {arrays : List (Nat × ArrayState)} {vectors : List (Nat × VectorState)} {controls : List (Nat × ControlState)}
      {replays : List (Nat × List ReplayBank)} {votes : List (Nat × List Vote)} {arrayRetire phases : List (Nat × Nat)} {dies : List (Nat × DieState)}
      {pass : PassState} {completions : List Completion} {slots : List (Nat × Byte)} {gelats : List (Nat × GelatState)} {hbms : List (Nat × HbmState)}
      {rwtCache : List (Nat × List (Nat × Word))} {requests : List Request} {partials : List (Nat × List Partial)} {redWait : List RedWait}
      {links : List (Nat × LinkTrain)} {verifyPending : Bool} {disc : DiscState} {image : ImageState} {rst : ResetState} {trans : Option Transition}
      {gale : List (Nat × GaleLink)} {conduits : List (Nat × Conduit)} {colls : List (Nat × Coll)} {modules : List (Nat × LenModule)} {power : PowerState}
      {demands : List (Nat × Demand)} {thermal : ThermalState} {updraft : UpdraftState} {guests : List (Nat × Guest)} {spares : SpareState}
      {clock : ClockState} {commit : CommitState} {fw : FwState} {host : HostState} {mgmt : MgmtState}
    (h : Kept P s) : Kept P (State.mk s.pending s.isobar s.regs logs out fresh baro retire retired arrays vectors controls replays votes arrayRetire dies pass completions phases
      slots s.memory poison gelats hbms rwtCache rwtStale requests partials redWait links verifyPending disc image rst trans gale conduits colls modules
      power demands thermal updraft guests spares clock commit fw host mgmt) := g.upd h

theorem Kept.isobarMk {P : State → Prop} (g : ClosedAll P) {s : State} {n : Nat} {logs : List (Nat × LogQueue)} {out : List Sent} {fresh : Nat} {baro : List (Nat × List Word)} {retire : List Retire}
      {retired poison rwtStale : List Nat} {arrays : List (Nat × ArrayState)} {vectors : List (Nat × VectorState)} {controls : List (Nat × ControlState)}
      {replays : List (Nat × List ReplayBank)} {votes : List (Nat × List Vote)} {arrayRetire phases : List (Nat × Nat)} {dies : List (Nat × DieState)}
      {pass : PassState} {completions : List Completion} {slots : List (Nat × Byte)} {gelats : List (Nat × GelatState)} {hbms : List (Nat × HbmState)}
      {rwtCache : List (Nat × List (Nat × Word))} {requests : List Request} {partials : List (Nat × List Partial)} {redWait : List RedWait}
      {links : List (Nat × LinkTrain)} {verifyPending : Bool} {disc : DiscState} {image : ImageState} {rst : ResetState} {trans : Option Transition}
      {gale : List (Nat × GaleLink)} {conduits : List (Nat × Conduit)} {colls : List (Nat × Coll)} {modules : List (Nat × LenModule)} {power : PowerState}
      {demands : List (Nat × Demand)} {thermal : ThermalState} {updraft : UpdraftState} {guests : List (Nat × Guest)} {spares : SpareState}
      {clock : ClockState} {commit : CommitState} {fw : FwState} {host : HostState} {mgmt : MgmtState}
    (h : Kept P s) : Kept P (State.mk s.pending n s.regs logs out fresh baro retire retired arrays vectors controls replays votes arrayRetire dies pass completions phases slots
      s.memory poison gelats hbms rwtCache rwtStale requests partials redWait links verifyPending disc image rst trans gale conduits colls modules power
      demands thermal updraft guests spares clock commit fw host mgmt) := g.isobar h

theorem Kept.memMk {P : State → Prop} (g : ClosedAll P) {s : State} {m : List Host.Cell} {logs : List (Nat × LogQueue)} {out : List Sent} {fresh : Nat} {baro : List (Nat × List Word)} {retire : List Retire}
      {retired poison rwtStale : List Nat} {arrays : List (Nat × ArrayState)} {vectors : List (Nat × VectorState)} {controls : List (Nat × ControlState)}
      {replays : List (Nat × List ReplayBank)} {votes : List (Nat × List Vote)} {arrayRetire phases : List (Nat × Nat)} {dies : List (Nat × DieState)}
      {pass : PassState} {completions : List Completion} {slots : List (Nat × Byte)} {gelats : List (Nat × GelatState)} {hbms : List (Nat × HbmState)}
      {rwtCache : List (Nat × List (Nat × Word))} {requests : List Request} {partials : List (Nat × List Partial)} {redWait : List RedWait}
      {links : List (Nat × LinkTrain)} {verifyPending : Bool} {disc : DiscState} {image : ImageState} {rst : ResetState} {trans : Option Transition}
      {gale : List (Nat × GaleLink)} {conduits : List (Nat × Conduit)} {colls : List (Nat × Coll)} {modules : List (Nat × LenModule)} {power : PowerState}
      {demands : List (Nat × Demand)} {thermal : ThermalState} {updraft : UpdraftState} {guests : List (Nat × Guest)} {spares : SpareState}
      {clock : ClockState} {commit : CommitState} {fw : FwState} {host : HostState} {mgmt : MgmtState}
    (h : Kept P s) (w : Memory.wf s.memory = true → Memory.wf m = true) : Kept P (State.mk s.pending s.isobar s.regs logs out fresh baro retire retired arrays vectors controls replays votes arrayRetire dies pass completions phases
      slots m poison gelats hbms rwtCache rwtStale requests partials redWait links verifyPending disc image rst trans gale conduits colls modules power
      demands thermal updraft guests spares clock commit fw host mgmt) := g.memory h w

theorem Kept.regsMk {P : State → Prop} (g : ClosedAll P) {s : State} {f : Nat × Word → Bool} {logs : List (Nat × LogQueue)} {out : List Sent} {fresh : Nat} {baro : List (Nat × List Word)} {retire : List Retire}
      {retired poison rwtStale : List Nat} {arrays : List (Nat × ArrayState)} {vectors : List (Nat × VectorState)} {controls : List (Nat × ControlState)}
      {replays : List (Nat × List ReplayBank)} {votes : List (Nat × List Vote)} {arrayRetire phases : List (Nat × Nat)} {dies : List (Nat × DieState)}
      {pass : PassState} {completions : List Completion} {slots : List (Nat × Byte)} {gelats : List (Nat × GelatState)} {hbms : List (Nat × HbmState)}
      {rwtCache : List (Nat × List (Nat × Word))} {requests : List Request} {partials : List (Nat × List Partial)} {redWait : List RedWait}
      {links : List (Nat × LinkTrain)} {verifyPending : Bool} {disc : DiscState} {image : ImageState} {rst : ResetState} {trans : Option Transition}
      {gale : List (Nat × GaleLink)} {conduits : List (Nat × Conduit)} {colls : List (Nat × Coll)} {modules : List (Nat × LenModule)} {power : PowerState}
      {demands : List (Nat × Demand)} {thermal : ThermalState} {updraft : UpdraftState} {guests : List (Nat × Guest)} {spares : SpareState}
      {clock : ClockState} {commit : CommitState} {fw : FwState} {host : HostState} {mgmt : MgmtState}
    (h : Kept P s) : Kept P (State.mk s.pending s.isobar (s.regs.filter f) logs out fresh baro retire retired arrays vectors controls replays votes arrayRetire dies pass
      completions phases slots s.memory poison gelats hbms rwtCache rwtStale requests partials redWait links verifyPending disc image rst trans gale
      conduits colls modules power demands thermal updraft guests spares clock commit fw host mgmt) := g.regs h

/-- A register write keeps what is Closed. -/
theorem setReg_kept {P : State → Prop} (g : Closed P) {s : State} (h : Kept P s) (a : Nat) (w : Word) : Kept P (State.setReg s a w) := g.setReg a w h

theorem Kept.ite {P : State → Prop} {a b : State} {c : Prop} [Decidable c] (h : Kept P a) (k : Kept P b) : Kept P (if c then a else b) := by
  split <;> assumption

theorem Kept.dite {P : State → Prop} {c : Prop} [Decidable c] {a : c → State} {b : ¬c → State} (h : ∀ x, Kept P (a x)) (k : ∀ x, Kept P (b x)) :
    Kept P (if x : c then a x else b x) := by
  split
  · exact h _
  · exact k _

/-- A fold of an operation that keeps P keeps P. -/
theorem Kept.foldl {α : Type} {P : State → Prop} {f : State → α → State} {l : List α} :
    ∀ {s : State}, Kept P s → (∀ t a, Kept P t → Kept P (f t a)) → Kept P (l.foldl f s) := by
  induction l with
  | nil => intro s h _; exact h
  | cons a l ih => intro s h k; exact ih (k s a h) k

theorem Kept.ofFst {α : Type} {P : State → Prop} {t : State} {p : State × α} {a : α} (e : p = (t, a)) (h : Kept P p.1) : Kept P t := by
  rw [e] at h; exact h

theorem Kept.ofSnd {α : Type} {P : State → Prop} {t : State} {p : α × State} {a : α} (e : p = (a, t)) (h : Kept P p.2) : Kept P t := by
  rw [e] at h; exact h

theorem Kept.iteFst {α : Type} {P : State → Prop} {a b : State × α} {c : Prop} [Decidable c] (h : Kept P a.1) (k : Kept P b.1) :
    Kept P (if c then a else b).1 := by
  split <;> assumption

theorem Kept.iteSnd {α : Type} {P : State → Prop} {a b : α × State} {c : Prop} [Decidable c] (h : Kept P a.2) (k : Kept P b.2) :
    Kept P (if c then a else b).2 := by
  split <;> assumption

theorem Kept.foldlFst {α β : Type} {P : State → Prop} {f : State × β → α → State × β} {l : List α} :
    ∀ {p : State × β}, Kept P p.1 → (∀ t a, Kept P t.1 → Kept P (f t a).1) → Kept P (l.foldl f p).1 := by
  induction l with
  | nil => intro s h _; exact h
  | cons a l ih => intro s h k; exact ih (k s a h) k

theorem Kept.foldlSnd {α β : Type} {P : State → Prop} {f : β × State → α → β × State} {l : List α} :
    ∀ {p : β × State}, Kept P p.2 → (∀ t a, Kept P t.2 → Kept P (f t a).2) → Kept P (l.foldl f p).2 := by
  induction l with
  | nil => intro s h _; exact h
  | cons a l ih => intro s h k; exact ih (k s a h) k

/-- P holds of the state that an operation may give. -/
def KeptS (P : State → Prop) (o : Option State) : Prop := ∀ t, o = some t → Kept P t

theorem KeptS.some {P : State → Prop} {t : State} (h : Kept P t) : KeptS P (some t) := by
  intro u e; cases e; exact h

theorem KeptS.none {P : State → Prop} : KeptS P none := by
  intro u e; cases e

theorem KeptS.ite {P : State → Prop} {a b : Option State} {c : Prop} [Decidable c] (h : KeptS P a) (k : KeptS P b) :
    KeptS P (if c then a else b) := by
  split <;> assumption

theorem Kept.ofSome {P : State → Prop} {t : State} {o : Option State} (e : o = Option.some t) (h : KeptS P o) : Kept P t := h t e

theorem Kept.getD {P : State → Prop} {t : State} {o : Option State} (h : KeptS P o) (k : Kept P t) : Kept P (o.getD t) := by
  cases o with
  | none => exact k
  | some u => exact h u rfl

/-- P holds of the next state of an outcome. -/
def KeptO (P : State → Prop) (o : Host.Outcome State Fault Refusal) : Prop := ∀ t, o = .next t → Kept P t

theorem KeptO.next {P : State → Prop} {t : State} (h : Kept P t) : KeptO P (.next t) := by
  intro u e; cases e; exact h

theorem KeptO.fault {P : State → Prop} (f : Fault) : KeptO P (.fault f) := by
  intro u e; cases e

theorem KeptO.refused {P : State → Prop} (f : Refusal) : KeptO P (.refused f) := by
  intro u e; cases e

theorem KeptO.ite {P : State → Prop} {a b : Host.Outcome State Fault Refusal} {c : Prop} [Decidable c] (h : KeptO P a) (k : KeptO P b) :
    KeptO P (if c then a else b) := by
  split <;> assumption

/-- P holds of the next state of the outcome that an operation may give. -/
def KeptOO (P : State → Prop) (o : Option (Host.Outcome State Fault Refusal)) : Prop := ∀ x, o = some x → KeptO P x

theorem KeptOO.some {P : State → Prop} {x : Host.Outcome State Fault Refusal} (h : KeptO P x) : KeptOO P (some x) := by
  intro u e; cases e; exact h

theorem KeptOO.none {P : State → Prop} : KeptOO P none := by
  intro u e; cases e

theorem KeptOO.ite {P : State → Prop} {a b : Option (Host.Outcome State Fault Refusal)} {c : Prop} [Decidable c] (h : KeptOO P a) (k : KeptOO P b) :
    KeptOO P (if c then a else b) := by
  split <;> assumption

theorem KeptO.ofSome {P : State → Prop} {x : Host.Outcome State Fault Refusal} {o : Option (Host.Outcome State Fault Refusal)} (e : o = Option.some x)
    (h : KeptOO P o) : KeptO P x := h x e

theorem Kept.ofNext {P : State → Prop} {t : State} {o : Host.Outcome State Fault Refusal} (e : o = .next t) (h : KeptO P o) : Kept P t := h t e

/-- A fold of byte writes keeps memory's form. -/
theorem Memory.wf_foldl_writeByte (g : Nat → Nat) (l : List Host.Cell) : ∀ m : List Host.Cell, Memory.wf m = true →
    Memory.wf (l.foldl (fun m (c : Host.Cell) => writeByte m (g c.1) c.2) m) = true := by
  induction l with
  | nil => intro m h; exact h
  | cons c l ih => intro m h; exact ih _ (Memory.wf_writeByte _ _ _ h)

theorem KeptS.map {P : State → Prop} {o : Option State} {f : State → State} (h : KeptS P o) (k : ∀ t, Kept P t → Kept P (f t)) :
    KeptS P (o.map f) := by
  cases o with
  | none => exact KeptS.none
  | some u => exact KeptS.some (k _ (h u rfl))

theorem KeptOO.or {P : State → Prop} {a b : Option (Host.Outcome State Fault Refusal)} (h : KeptOO P a) (k : KeptOO P b) : KeptOO P (a.or b) := by
  cases a with
  | none => exact k
  | some u => exact h

/-- P holds of the state of a pair that an operation may give. -/
def KeptSP (P : State → Prop) {α : Type} (o : Option (α × State)) : Prop := ∀ p, o = some p → Kept P p.2

theorem Kept.ofSomeSnd {α : Type} {P : State → Prop} {t : State} {o : Option (α × State)} {a : α} (e : o = some (a, t)) (h : KeptSP P o) : Kept P t :=
  h _ e

end Sys2Proof.Machine
end

