-- ==== Sys2Proof/Laws/KeptOps1.lean ====
section
/-! SUPPORT. Part 1 of 7 of the lemmas X_kept, one per operation and per command (see Laws/Kept.lean), in an order where each comes after those it cites. -/

set_option linter.unusedTactic false
set_option linter.unreachableTactic false
set_option linter.unusedVariables false

namespace Sys2Proof.Machine

open Sys2Proof

theorem put_kept {P : State → Prop} (cl : Closed P) {s : State} (h : Kept P s) (l : Loc) (n : Nat) : Kept P (State.put s l n) := by
  unfold State.put
  with_reducible repeat' first | assumption | apply setReg_kept cl

theorem putSat_kept {P : State → Prop} (cl : Closed P) {s : State} (h : Kept P s) (l : Loc) (n : Nat) : Kept P (State.putSat s l n) := by
  unfold State.putSat
  with_reducible repeat' first | assumption | apply put_kept cl

theorem addSat_kept {P : State → Prop} (cl : Closed P) {s : State} (h : Kept P s) (l : Loc) (n : Nat) : Kept P (State.addSat s l n) := by
  unfold State.addSat
  with_reducible repeat' first | assumption | apply putSat_kept cl

theorem unsentLost_kept {P : State → Prop} (cl : Closed P) {s : State} (h : Kept P s) (seq : Nat) : Kept P (State.unsentLost s seq) := by
  unfold State.unsentLost
  with_reducible repeat' first | assumption | apply addSat_kept cl | apply Kept.ite | split

theorem send_kept {P : State → Prop} (cl : Closed P) {s : State} (h : Kept P s) (m : Sent) : Kept P (State.send s m) := by
  unfold State.send
  with_reducible repeat' first | assumption | (extract_lets +onlyGivenNames x; refine (fun (_ : Kept P x) => ?_ : Kept P x → _) ?_; clear_value x; on_goal 2 => unfold x) | (extract_lets +onlyGivenNames x; clear_value x) | fail_if_no_progress apply Kept.fields cl

theorem msixSend_kept {P : State → Prop} (cl : Closed P) {s : State} (h : Kept P s) (v : Nat) : Kept P (State.msixSend s v) := by
  unfold State.msixSend
  with_reducible repeat' first | assumption | apply send_kept cl | apply Kept.ite | (extract_lets +onlyGivenNames x; refine (fun (_ : Kept P x) => ?_ : Kept P x → _) ?_; clear_value x; on_goal 2 => unfold x) | (extract_lets +onlyGivenNames x; clear_value x) | fail_if_no_progress apply Kept.fields cl

theorem trigger_kept {P : State → Prop} (cl : Closed P) {s : State} (h : Kept P s) (v : Nat) : Kept P (State.trigger s v) := by
  unfold State.trigger
  with_reducible repeat' first | assumption | apply msixSend_kept cl | apply Kept.ite | (extract_lets +onlyGivenNames x; refine (fun (_ : Kept P x) => ?_ : Kept P x → _) ?_; clear_value x; on_goal 2 => unfold x) | (extract_lets +onlyGivenNames x; clear_value x) | fail_if_no_progress apply Kept.fields cl

theorem record_kept {P : State → Prop} (cl : Closed P) {s : State} (h : Kept P s) (r : Raise) : Kept P (State.record s r) := by
  unfold State.record
  with_reducible repeat' first | assumption | apply unsentLost_kept cl | apply addSat_kept cl | apply putSat_kept cl | apply put_kept cl | apply trigger_kept cl | apply Kept.ite | (extract_lets +onlyGivenNames x; refine (fun (_ : Kept P x) => ?_ : Kept P x → _) ?_; clear_value x; on_goal 2 => unfold x) | (extract_lets +onlyGivenNames x; clear_value x) | fail_if_no_progress apply Kept.fields cl

theorem pushLog_kept {P : State → Prop} (cl : Closed P) {s : State} (h : Kept P s) (addr : Nat) (w : Word) : Kept P (State.pushLog s addr w) := by
  unfold State.pushLog
  with_reducible repeat' first | assumption | apply Kept.ite | (extract_lets +onlyGivenNames x; refine (fun (_ : Kept P x) => ?_ : Kept P x → _) ?_; clear_value x; on_goal 2 => unfold x) | (extract_lets +onlyGivenNames x; clear_value x) | fail_if_no_progress apply Kept.fields cl

theorem raiseThermal_kept {P : State → Prop} (cl : Closed P) {s : State} (h : Kept P s) (code node : Nat) (unit action : Nat) (resets : Bool) : Kept P (State.raiseThermal s code node unit action resets) := by
  unfold State.raiseThermal
  with_reducible repeat' first | assumption | apply record_kept cl | apply put_kept cl | apply pushLog_kept cl | (extract_lets +onlyGivenNames x; refine (fun (_ : Kept P x) => ?_ : Kept P x → _) ?_; clear_value x; on_goal 2 => unfold x) | (extract_lets +onlyGivenNames x; clear_value x)

theorem linkState_kept {P : State → Prop} (cl : Closed P) {s : State} (h : Kept P s) (site port st : Nat) : Kept P (State.linkState s site port st) := by
  unfold State.linkState
  with_reducible repeat' first | assumption | apply put_kept cl

theorem dropToward_kept {P : State → Prop} (cl : Closed P) {s : State} (h : Kept P s) (n : Nat) : Kept P (State.dropToward s n) := by
  unfold State.dropToward
  with_reducible repeat' first | assumption | apply linkState_kept cl | apply put_kept cl | apply Kept.ite | apply Kept.foldl | intro _ _ _ | (extract_lets +onlyGivenNames x; refine (fun (_ : Kept P x) => ?_ : Kept P x → _) ?_; clear_value x; on_goal 2 => unfold x) | (extract_lets +onlyGivenNames x; clear_value x)

theorem passStatus_kept {P : State → Prop} (cl : Closed P) {s : State} (h : Kept P s) (status code : Nat) : Kept P (State.passStatus s status code) := by
  unfold State.passStatus
  with_reducible repeat' first | assumption | apply Kept.ite | (extract_lets +onlyGivenNames x; refine (fun (_ : Kept P x) => ?_ : Kept P x → _) ?_; clear_value x; on_goal 2 => unfold x) | (extract_lets +onlyGivenNames x; clear_value x) | fail_if_no_progress apply Kept.fields cl

theorem abortPass_kept {P : State → Prop} (cl : Closed P) {s : State} (h : Kept P s) (code site : Nat) : Kept P (State.abortPass s code site) := by
  unfold State.abortPass
  with_reducible repeat' first | assumption | apply passStatus_kept cl | apply Kept.ite | (extract_lets +onlyGivenNames x; refine (fun (_ : Kept P x) => ?_ : Kept P x → _) ?_; clear_value x; on_goal 2 => unfold x) | (extract_lets +onlyGivenNames x; clear_value x) | fail_if_no_progress apply Kept.fields cl

theorem raiseMesh_kept {P : State → Prop} (cl : Closed P) {s : State} (h : Kept P s) (code node : Nat) (port extra : Nat) (details : List Nat) : Kept P (State.raiseMesh s code node port extra details) := by
  unfold State.raiseMesh
  with_reducible repeat' first | assumption | apply record_kept cl | apply pushLog_kept cl | apply put_kept cl | apply abortPass_kept cl | apply Kept.ite | (extract_lets +onlyGivenNames x; refine (fun (_ : Kept P x) => ?_ : Kept P x → _) ?_; clear_value x; on_goal 2 => unfold x) | (extract_lets +onlyGivenNames x; clear_value x)

theorem decideRetire_kept {P : State → Prop} (cl : Closed P) {s : State} (h : Kept P s) (r : Retire) : Kept P (State.decideRetire s r) := by
  unfold State.decideRetire
  with_reducible repeat' first | assumption | apply Kept.ite | (extract_lets +onlyGivenNames x; refine (fun (_ : Kept P x) => ?_ : Kept P x → _) ?_; clear_value x; on_goal 2 => unfold x) | (extract_lets +onlyGivenNames x; clear_value x) | fail_if_no_progress apply Kept.fields cl

theorem fenceNode_kept {P : State → Prop} (cl : Closed P) {s : State} (h : Kept P s) (n trigger : Nat) : Kept P (State.fenceNode s n trigger) := by
  unfold State.fenceNode
  with_reducible repeat' first | assumption | apply addSat_kept cl | apply put_kept cl | apply dropToward_kept cl | apply raiseMesh_kept cl | apply decideRetire_kept cl | apply Kept.ite | (extract_lets +onlyGivenNames x; refine (fun (_ : Kept P x) => ?_ : Kept P x → _) ?_; clear_value x; on_goal 2 => unfold x) | (extract_lets +onlyGivenNames x; clear_value x)

theorem setHbm_kept {P : State → Prop} (cl : Closed P) {s : State} (h : Kept P s) (stack : Nat) (h_ : HbmState) : Kept P (State.setHbm s stack h_) := by
  unfold State.setHbm
  with_reducible repeat' first | assumption | (extract_lets +onlyGivenNames x; refine (fun (_ : Kept P x) => ?_ : Kept P x → _) ?_; clear_value x; on_goal 2 => unfold x) | (extract_lets +onlyGivenNames x; clear_value x) | fail_if_no_progress apply Kept.fields cl

theorem hubEvent_kept {P : State → Prop} (cl : Closed P) {s : State} (h : Kept P s) (l : Loc) : Kept P (State.hubEvent s l) := by
  unfold State.hubEvent
  with_reducible repeat' first | assumption | apply trigger_kept cl | apply put_kept cl

theorem ovcState_kept {P : State → Prop} (cl : Closed P) {s : State} (h : Kept P s) (st : Nat) : Kept P (State.ovcState s st) := by
  unfold State.ovcState
  with_reducible repeat' first | assumption | apply hubEvent_kept cl | apply put_kept cl | apply Kept.ite

theorem loadFail_kept {P : State → Prop} (cl : Closed P) {s : State} (h : Kept P s) (code section_ site : Nat) : Kept P (State.loadFail s code section_ site) := by
  unfold State.loadFail
  with_reducible repeat' first | assumption | apply record_kept cl | apply put_kept cl | apply ovcState_kept cl | apply Kept.ite | (extract_lets +onlyGivenNames x; refine (fun (_ : Kept P x) => ?_ : Kept P x → _) ?_; clear_value x; on_goal 2 => unfold x) | (extract_lets +onlyGivenNames x; clear_value x) | fail_if_no_progress apply Kept.fields cl

theorem hbmLeave_kept {P : State → Prop} (cl : Closed P) {s : State} (h : Kept P s) (stack : Nat) : Kept P (State.hbmLeave s stack) := by
  unfold State.hbmLeave
  extract_lets s1 q s2 t3 p s3
  have h1 : Kept P s1 := put_kept cl h _ _
  have h2 : Kept P s2 := setHbm_kept cl h1 _ _
  have k3 : Kept P t3 := record_kept cl h2 _
  have h3 : Kept P s3 := by
    unfold s3
    split
    · exact Kept.fields cl k3
    · exact h2
  clear_value s3
  split
  · split
    · exact loadFail_kept cl h3 _ _ _
    · exact Kept.fields cl h3
  · exact h3

theorem ringOut_kept {P : State → Prop} (cl : Closed P) {s : State} (h : Kept P s) (n : Nat) : Kept P (State.ringOut s n) := by
  unfold State.ringOut
  with_reducible repeat' first | assumption | apply put_kept cl | apply hbmLeave_kept cl | apply Kept.ite | apply Kept.foldl | intro _ _ _ | (extract_lets +onlyGivenNames x; refine (fun (_ : Kept P x) => ?_ : Kept P x → _) ?_; clear_value x; on_goal 2 => unfold x) | (extract_lets +onlyGivenNames x; clear_value x)

theorem fence_kept {P : State → Prop} (cl : Closed P) {s : State} (h : Kept P s) (n trigger : Nat) : Kept P (State.fence s n trigger) := by
  unfold State.fence
  with_reducible repeat' first | assumption | apply fenceNode_kept cl | apply ringOut_kept cl | apply Kept.ite

theorem deferShow_kept {P : State → Prop} (cl : Closed P) {s : State} (h : Kept P s) (g : Nat) : Kept P (State.deferShow s g) := by
  unfold State.deferShow
  with_reducible repeat' first | assumption | apply put_kept cl

theorem setReqs_kept {P : State → Prop} (cl : Closed P) {s : State} (h : Kept P s) (l : List PowerReq) : Kept P (State.setReqs s l) := by
  unfold State.setReqs
  with_reducible repeat' first | assumption | (extract_lets +onlyGivenNames x; refine (fun (_ : Kept P x) => ?_ : Kept P x → _) ?_; clear_value x; on_goal 2 => unfold x) | (extract_lets +onlyGivenNames x; clear_value x) | fail_if_no_progress apply Kept.fields cl

theorem dropReq_kept {P : State → Prop} (cl : Closed P) {s : State} (h : Kept P s) (node d : Nat) : Kept P (State.dropReq s node d) := by
  unfold State.dropReq
  with_reducible repeat' first | assumption | apply deferShow_kept cl | apply setReqs_kept cl

theorem setArray_kept {P : State → Prop} (cl : Closed P) {s : State} (h : Kept P s) (site a : Nat) (x : ArrayState) : Kept P (State.setArray s site a x) := by
  unfold State.setArray
  with_reducible repeat' first | assumption | (extract_lets +onlyGivenNames x; refine (fun (_ : Kept P x) => ?_ : Kept P x → _) ?_; clear_value x; on_goal 2 => unfold x) | (extract_lets +onlyGivenNames x; clear_value x) | fail_if_no_progress apply Kept.fields cl

theorem rowDown_kept {P : State → Prop} (cl : Closed P) {s : State} (h : Kept P s) (site row : Nat) : Kept P (State.rowDown s site row) := by
  unfold State.rowDown
  with_reducible repeat' first | assumption | apply setArray_kept cl | apply put_kept cl | apply Kept.ite | apply Kept.foldl | intro _ _ _ | (extract_lets +onlyGivenNames x; refine (fun (_ : Kept P x) => ?_ : Kept P x → _) ?_; clear_value x; on_goal 2 => unfold x) | (extract_lets +onlyGivenNames x; clear_value x)

theorem setVector_kept {P : State → Prop} (cl : Closed P) {s : State} (h : Kept P s) (site v : Nat) (x : VectorState) : Kept P (State.setVector s site v x) := by
  unfold State.setVector
  with_reducible repeat' first | assumption | (extract_lets +onlyGivenNames x; refine (fun (_ : Kept P x) => ?_ : Kept P x → _) ?_; clear_value x; on_goal 2 => unfold x) | (extract_lets +onlyGivenNames x; clear_value x) | fail_if_no_progress apply Kept.fields cl

theorem vcDown_kept {P : State → Prop} (cl : Closed P) {s : State} (h : Kept P s) (site : Nat) : Kept P (State.vcDown s site) := by
  unfold State.vcDown
  with_reducible repeat' first | assumption | apply setVector_kept cl | apply put_kept cl | apply setReg_kept cl | apply Kept.ite | apply Kept.foldl | intro _ _ _ | (extract_lets +onlyGivenNames x; refine (fun (_ : Kept P x) => ?_ : Kept P x → _) ?_; clear_value x; on_goal 2 => unfold x) | (extract_lets +onlyGivenNames x; clear_value x)

theorem setControl_kept {P : State → Prop} (cl : Closed P) {s : State} (h : Kept P s) (site c : Nat) (x : ControlState) : Kept P (State.setControl s site c x) := by
  unfold State.setControl
  with_reducible repeat' first | assumption | (extract_lets +onlyGivenNames x; refine (fun (_ : Kept P x) => ?_ : Kept P x → _) ?_; clear_value x; on_goal 2 => unfold x) | (extract_lets +onlyGivenNames x; clear_value x) | fail_if_no_progress apply Kept.fields cl

theorem trDown_kept {P : State → Prop} (cl : Closed P) {s : State} (h : Kept P s) (site : Nat) : Kept P (State.trDown s site) := by
  unfold State.trDown
  with_reducible repeat' first | assumption | apply vcDown_kept cl | apply rowDown_kept cl | apply setControl_kept cl | apply put_kept cl | apply setReg_kept cl | apply Kept.ite | apply Kept.foldl | intro _ _ _ | (extract_lets +onlyGivenNames x; refine (fun (_ : Kept P x) => ?_ : Kept P x → _) ?_; clear_value x; on_goal 2 => unfold x) | (extract_lets +onlyGivenNames x; clear_value x) | fail_if_no_progress apply Kept.fields cl

theorem setGelat_kept {P : State → Prop} (cl : Closed P) {s : State} (h : Kept P s) (site : Nat) (g : GelatState) : Kept P (State.setGelat s site g) := by
  unfold State.setGelat
  with_reducible repeat' first | assumption | (extract_lets +onlyGivenNames x; refine (fun (_ : Kept P x) => ?_ : Kept P x → _) ?_; clear_value x; on_goal 2 => unfold x) | (extract_lets +onlyGivenNames x; clear_value x) | fail_if_no_progress apply Kept.fields cl

theorem clearGelat_kept {P : State → Prop} (cl : ClosedAll P) {s : State} (h : Kept P s) (site : Nat) : Kept P (State.clearGelat s site) := by
  unfold State.clearGelat
  with_reducible repeat' first | assumption | apply setGelat_kept cl.1 | (extract_lets +onlyGivenNames x; refine (fun (_ : Kept P x) => ?_ : Kept P x → _) ?_; clear_value x; on_goal 2 => unfold x) | (extract_lets +onlyGivenNames x; clear_value x) | refine Kept.memMk cl ?_ (fun w => Memory.wf_filter _ _ w)

theorem gaDown_kept {P : State → Prop} (cl : ClosedAll P) {s : State} (h : Kept P s) (site : Nat) : Kept P (State.gaDown s site) := by
  unfold State.gaDown
  with_reducible repeat' first | assumption | apply put_kept cl.1 | apply setGelat_kept cl.1 | apply clearGelat_kept cl

theorem hbmDown_kept {P : State → Prop} (cl : ClosedAll P) {s : State} (h : Kept P s) (node : Nat) : Kept P (State.hbmDown s node) := by
  unfold State.hbmDown
  with_reducible repeat' first | assumption | apply put_kept cl.1 | apply Kept.ite | apply Kept.foldl | intro _ _ _ | (extract_lets +onlyGivenNames x; refine (fun (_ : Kept P x) => ?_ : Kept P x → _) ?_; clear_value x; on_goal 2 => unfold x) | (extract_lets +onlyGivenNames x; clear_value x) | refine Kept.memMk cl ?_ (fun w => Memory.wf_filter _ _ w)

theorem guestState_kept {P : State → Prop} (cl : Closed P) {s : State} (h : Kept P s) (g st : Nat) : Kept P (State.guestState s g st) := by
  unfold State.guestState
  with_reducible repeat' first | assumption | apply hubEvent_kept cl | apply put_kept cl | apply Kept.ite | (extract_lets +onlyGivenNames x; refine (fun (_ : Kept P x) => ?_ : Kept P x → _) ?_; clear_value x; on_goal 2 => unfold x) | (extract_lets +onlyGivenNames x; clear_value x)

theorem inject_kept {P : State → Prop} (cl : Closed P) {s : State} (h : Kept P s) (p : Packet) : Kept P (State.inject s p) := by
  unfold State.inject
  with_reducible repeat' first | assumption | apply send_kept cl | apply Kept.ite | (extract_lets +onlyGivenNames x; refine (fun (_ : Kept P x) => ?_ : Kept P x → _) ?_; clear_value x; on_goal 2 => unfold x) | (extract_lets +onlyGivenNames x; clear_value x) | fail_if_no_progress apply Kept.fields cl

theorem answerWrite_kept {P : State → Prop} (cl : Closed P) {s : State} (h : Kept P s) (node : Nat) (a : MeshAsk) (poison : Bool) : Kept P (State.answerWrite s node a poison) := by
  unfold State.answerWrite
  with_reducible repeat' first | assumption | apply inject_kept cl

theorem answerRead_kept {P : State → Prop} (cl : Closed P) {s : State} (h : Kept P s) (node : Nat) (a : MeshAsk) (data : List Nat) (poison : Bool) : Kept P (State.answerRead s node a data poison) := by
  unfold State.answerRead
  with_reducible repeat' first | assumption | apply inject_kept cl | apply Kept.ite | (extract_lets +onlyGivenNames x; refine (fun (_ : Kept P x) => ?_ : Kept P x → _) ?_; clear_value x; on_goal 2 => unfold x) | (extract_lets +onlyGivenNames x; clear_value x)

theorem tick_kept {P : State → Prop} (cl : Closed P) {s : State} (h : Kept P s) : Kept P (State.tick s) := by
  unfold State.tick
  with_reducible repeat' first | assumption | (extract_lets +onlyGivenNames x; refine (fun (_ : Kept P x) => ?_ : Kept P x → _) ?_; clear_value x; on_goal 2 => unfold x) | (extract_lets +onlyGivenNames x; clear_value x) | fail_if_no_progress apply Kept.fields cl

theorem guestPoison_kept {P : State → Prop} (cl : Closed P) {s : State} (h : Kept P s) (g : Nat) (r : GuestReq) : Kept P (State.guestPoison s g r) := by
  unfold State.guestPoison
  with_reducible repeat' first | assumption | apply answerWrite_kept cl | apply answerRead_kept cl | apply tick_kept cl | apply Kept.ite

theorem setGuest_kept {P : State → Prop} (cl : Closed P) {s : State} (h : Kept P s) (g : Nat) (x : Guest) : Kept P (State.setGuest s g x) := by
  unfold State.setGuest
  with_reducible repeat' first | assumption | (extract_lets +onlyGivenNames x; refine (fun (_ : Kept P x) => ?_ : Kept P x → _) ?_; clear_value x; on_goal 2 => unfold x) | (extract_lets +onlyGivenNames x; clear_value x) | fail_if_no_progress apply Kept.fields cl

theorem guestFlush_kept {P : State → Prop} (cl : Closed P) {s : State} (h : Kept P s) (g : Nat) : Kept P (State.guestFlush s g) := by
  unfold State.guestFlush
  with_reducible repeat' first | assumption | apply guestPoison_kept cl | apply setGuest_kept cl | apply Kept.ite | apply Kept.foldl | intro _ _ _ | (extract_lets +onlyGivenNames x; refine (fun (_ : Kept P x) => ?_ : Kept P x → _) ?_; clear_value x; on_goal 2 => unfold x) | (extract_lets +onlyGivenNames x; clear_value x) | fail_if_no_progress apply Kept.fields cl

theorem guestLeave_kept {P : State → Prop} (cl : Closed P) {s : State} (h : Kept P s) (g st : Nat) : Kept P (State.guestLeave s g st) := by
  unfold State.guestLeave
  with_reducible repeat' first | assumption | apply guestState_kept cl | apply guestFlush_kept cl

theorem raiseGuest_kept {P : State → Prop} (cl : Closed P) {s : State} (h : Kept P s) (g code : Nat) : Kept P (State.raiseGuest s g code) := by
  unfold State.raiseGuest
  with_reducible repeat' first | assumption | apply put_kept cl | apply record_kept cl

theorem guestLoss_kept {P : State → Prop} (cl : Closed P) {s : State} (h : Kept P s) (g : Nat) : Kept P (State.guestLoss s g) := by
  unfold State.guestLoss
  with_reducible repeat' first | assumption | apply guestLeave_kept cl | apply raiseGuest_kept cl | apply setGuest_kept cl | (extract_lets +onlyGivenNames x; refine (fun (_ : Kept P x) => ?_ : Kept P x → _) ?_; clear_value x; on_goal 2 => unfold x) | (extract_lets +onlyGivenNames x; clear_value x) | fail_if_no_progress apply Kept.fields cl

theorem domainDown_kept {P : State → Prop} (cl : ClosedAll P) {s : State} (h : Kept P s) (node d st : Nat) : Kept P (State.domainDown s node d st) := by
  unfold State.domainDown
  with_reducible repeat' first | assumption | apply put_kept cl.1 | apply dropReq_kept cl.1 | apply rowDown_kept cl.1 | apply vcDown_kept cl.1 | apply trDown_kept cl.1 | apply gaDown_kept cl | apply hbmDown_kept cl | apply guestLoss_kept cl.1 | apply Kept.ite | (extract_lets +onlyGivenNames x; refine (fun (_ : Kept P x) => ?_ : Kept P x → _) ?_; clear_value x; on_goal 2 => unfold x) | (extract_lets +onlyGivenNames x; clear_value x) | fail_if_no_progress apply Kept.fields cl.1 | split

theorem powerDown_kept {P : State → Prop} (cl : ClosedAll P) {s : State} (h : Kept P s) (node d : Nat) : Kept P (State.powerDown s node d) := by
  unfold State.powerDown
  with_reducible repeat' first | assumption | apply domainDown_kept cl | apply Kept.ite | (extract_lets +onlyGivenNames x; refine (fun (_ : Kept P x) => ?_ : Kept P x → _) ?_; clear_value x; on_goal 2 => unfold x) | (extract_lets +onlyGivenNames x; clear_value x)

theorem powerDownAll_kept {P : State → Prop} (cl : ClosedAll P) {s : State} (h : Kept P s) (node : Nat) (ds : List Nat) : Kept P (State.powerDownAll s node ds) := by
  unfold State.powerDownAll
  with_reducible repeat' first | assumption | apply powerDown_kept cl | apply Kept.foldl | intro _ _ _

theorem unitLeaves_kept {P : State → Prop} (cl : Closed P) {s : State} (h : Kept P s) (node code : Nat) (deferrable : Bool) : Kept P (State.unitLeaves s node code deferrable) := by
  unfold State.unitLeaves
  with_reducible repeat' first | assumption | apply decideRetire_kept cl | apply Kept.ite

theorem stackCrit_kept {P : State → Prop} (cl : ClosedAll P) {s : State} (h : Kept P s) (site spot : Nat) : Kept P (State.stackCrit s site spot) := by
  unfold State.stackCrit
  with_reducible repeat' first | assumption | apply put_kept cl.1 | apply raiseThermal_kept cl.1 | apply fence_kept cl.1 | apply powerDownAll_kept cl | apply abortPass_kept cl.1 | apply unitLeaves_kept cl.1 | apply Kept.ite | (extract_lets +onlyGivenNames x; refine (fun (_ : Kept P x) => ?_ : Kept P x → _) ?_; clear_value x; on_goal 2 => unfold x) | (extract_lets +onlyGivenNames x; clear_value x)

theorem reachSlot_kept {P : State → Prop} (cl : Closed P) {s : State} (h : Kept P s) (site slot : Nat) : Kept P (State.reachSlot s site slot) := by
  unfold State.reachSlot
  with_reducible repeat' first | assumption | apply put_kept cl | apply addSat_kept cl | apply Kept.ite | (extract_lets +onlyGivenNames x; refine (fun (_ : Kept P x) => ?_ : Kept P x → _) ?_; clear_value x; on_goal 2 => unfold x) | (extract_lets +onlyGivenNames x; clear_value x)

theorem arrayWait_kept {P : State → Prop} (cl : Closed P) {s : State} (h : Kept P s) (site a reason : Nat) : Kept P (State.arrayWait s site a reason) := by
  unfold State.arrayWait
  with_reducible repeat' first | assumption | apply put_kept cl | apply addSat_kept cl | apply Kept.ite | (extract_lets +onlyGivenNames x; refine (fun (_ : Kept P x) => ?_ : Kept P x → _) ?_; clear_value x; on_goal 2 => unfold x) | (extract_lets +onlyGivenNames x; clear_value x)

theorem setDie_kept {P : State → Prop} (cl : Closed P) {s : State} (h : Kept P s) (site : Nat) (d : DieState) : Kept P (State.setDie s site d) := by
  unfold State.setDie
  with_reducible repeat' first | assumption | (extract_lets +onlyGivenNames x; refine (fun (_ : Kept P x) => ?_ : Kept P x → _) ?_; clear_value x; on_goal 2 => unfold x) | (extract_lets +onlyGivenNames x; clear_value x) | fail_if_no_progress apply Kept.fields cl

theorem sinkVector_kept {P : State → Prop} (cl : Closed P) {s : State} (h : Kept P s) (site dst : Nat) : KeptSP P (State.sinkVector s site dst) := by
  unfold State.sinkVector
  intro p e
  obtain ⟨x, -, hx⟩ := List.exists_of_findSome?_eq_some e
  dsimp only at hx
  split at hx
  · cases hx
  · cases hx
    exact put_kept cl (setDie_kept cl h _ _) _ _

theorem feedVector_kept {P : State → Prop} (cl : Closed P) {s : State} (h : Kept P s) (site : Nat) (f : EntryFeed) : KeptSP P (State.feedVector s site f) := by
  unfold State.feedVector
  split
  · intro p e
    obtain ⟨x, -, rfl⟩ := Option.map_eq_some_iff.mp e
    exact h
  · exact sinkVector_kept cl h _ _

theorem irq_kept {P : State → Prop} (cl : Closed P) {s : State} (h : Kept P s) (site c b : Nat) : Kept P (State.irq s site c b) := by
  unfold State.irq
  with_reducible repeat' first | assumption | apply setControl_kept cl | (extract_lets +onlyGivenNames x; refine (fun (_ : Kept P x) => ?_ : Kept P x → _) ?_; clear_value x; on_goal 2 => unfold x) | (extract_lets +onlyGivenNames x; clear_value x) | fail_if_no_progress apply Kept.fields cl

theorem irqBoth_kept {P : State → Prop} (cl : Closed P) {s : State} (h : Kept P s) (site b : Nat) : Kept P (State.irqBoth s site b) := by
  unfold State.irqBoth
  with_reducible repeat' first | assumption | apply irq_kept cl

theorem rowDone_kept {P : State → Prop} (cl : Closed P) {s : State} (h : Kept P s) (site row : Nat) : Kept P (State.rowDone s site row) := by
  unfold State.rowDone
  with_reducible repeat' first | assumption | apply irqBoth_kept cl | apply put_kept cl | apply Kept.ite | (extract_lets +onlyGivenNames x; refine (fun (_ : Kept P x) => ?_ : Kept P x → _) ?_; clear_value x; on_goal 2 => unfold x) | (extract_lets +onlyGivenNames x; clear_value x)

theorem haltArray_kept {P : State → Prop} (cl : Closed P) {s : State} (h : Kept P s) (site a code : Nat) (err : Option Loc) : Kept P (State.haltArray s site a code err) := by
  unfold State.haltArray
  with_reducible repeat' first | assumption | apply put_kept cl | apply irqBoth_kept cl | apply abortPass_kept cl | apply record_kept cl | (extract_lets +onlyGivenNames x; refine (fun (_ : Kept P x) => ?_ : Kept P x → _) ?_; clear_value x; on_goal 2 => unfold x) | (extract_lets +onlyGivenNames x; clear_value x) | split

theorem haltRow_kept {P : State → Prop} (cl : Closed P) {s : State} (h : Kept P s) (site a code : Nat) (err : Option Loc) : Kept P (State.haltRow s site a code err) := by
  unfold State.haltRow
  with_reducible repeat' first | assumption | apply rowDone_kept cl | apply haltArray_kept cl

theorem reject_kept {P : State → Prop} (cl : Closed P) {s : State} (h : Kept P s) (site a code : Nat) : Kept P (State.reject s site a code) := by
  unfold State.reject
  with_reducible repeat' first | assumption | apply haltRow_kept cl

theorem setReplay_kept {P : State → Prop} (cl : Closed P) {s : State} (h : Kept P s) (site row : Nat) (l : List ReplayBank) : Kept P (State.setReplay s site row l) := by
  unfold State.setReplay
  with_reducible repeat' first | assumption | (extract_lets +onlyGivenNames x; refine (fun (_ : Kept P x) => ?_ : Kept P x → _) ?_; clear_value x; on_goal 2 => unfold x) | (extract_lets +onlyGivenNames x; clear_value x) | fail_if_no_progress apply Kept.fields cl

theorem recordVector_kept {P : State → Prop} (cl : Closed P) {s : State} (h : Kept P s) (site row : Nat) (as : List Nat) (v : ChainVector) : Kept P (State.recordVector s site row as v).1 := by
  unfold State.recordVector
  with_reducible repeat' first | assumption | apply setReplay_kept cl | apply Kept.ite | apply Kept.iteFst | apply Kept.ofFst (by assumption) | (extract_lets +onlyGivenNames x; refine (fun (_ : Kept P x) => ?_ : Kept P x → _) ?_; clear_value x; on_goal 2 => unfold x) | (extract_lets +onlyGivenNames x; refine (fun (_ : Kept P x.1) => ?_ : Kept P x.1 → _) ?_; clear_value x; on_goal 2 => unfold x) | (extract_lets +onlyGivenNames x; clear_value x) | fail_if_no_progress apply Kept.fields cl | split

theorem countFlushes_kept {P : State → Prop} (cl : Closed P) {s : State} (h : Kept P s) (site a : Nat) (e : EntrySum) : Kept P (State.countFlushes s site a e) := by
  unfold State.countFlushes
  with_reducible repeat' first | assumption | apply addSat_kept cl | apply put_kept cl | apply Kept.ite | apply Kept.foldl | intro _ _ _ | (extract_lets +onlyGivenNames x; refine (fun (_ : Kept P x) => ?_ : Kept P x → _) ?_; clear_value x; on_goal 2 => unfold x) | (extract_lets +onlyGivenNames x; clear_value x)

theorem addWrap_kept {P : State → Prop} (cl : Closed P) {s : State} (h : Kept P s) (l : Loc) (n : Nat) : Kept P (State.addWrap s l n) := by
  unfold State.addWrap
  with_reducible repeat' first | assumption | apply put_kept cl

theorem discardPass_kept {P : State → Prop} (cl : Closed P) {s : State} (h : Kept P s) (code : Nat) : Kept P (State.discardPass s code) := by
  unfold State.discardPass
  with_reducible repeat' first | assumption | apply passStatus_kept cl

theorem nonfinite_kept {P : State → Prop} (cl : Closed P) {s : State} (h : Kept P s) (site a n : Nat) : Kept P (State.nonfinite s site a n) := by
  unfold State.nonfinite
  with_reducible repeat' first | assumption | apply put_kept cl | apply addSat_kept cl | apply setArray_kept cl | apply discardPass_kept cl | apply record_kept cl | apply Kept.ite | (extract_lets +onlyGivenNames x; refine (fun (_ : Kept P x) => ?_ : Kept P x → _) ?_; clear_value x; on_goal 2 => unfold x) | (extract_lets +onlyGivenNames x; clear_value x) | fail_if_no_progress apply Kept.fields cl

theorem arrayGo_kept {P : State → Prop} (cl : Closed P) {s : State} (h : Kept P s) (site a : Nat) : Kept P (State.arrayGo s site a) := by
  unfold State.arrayGo
  with_reducible repeat' first | assumption | apply put_kept cl | apply Kept.ite | (extract_lets +onlyGivenNames x; refine (fun (_ : Kept P x) => ?_ : Kept P x → _) ?_; clear_value x; on_goal 2 => unfold x) | (extract_lets +onlyGivenNames x; clear_value x)

theorem enterArray_kept {P : State → Prop} (cl : Closed P) {s : State} (h : Kept P s) (site a : Nat) (v : ChainVector) (faults : List EntryFault) (tiled : Bool) (bank : Option Nat) : Kept P (State.enterArray s site a v faults tiled bank).1 := by
  unfold State.enterArray
  with_reducible repeat' first | assumption | apply put_kept cl | apply setArray_kept cl | apply countFlushes_kept cl | apply addSat_kept cl | apply addWrap_kept cl | apply nonfinite_kept cl | apply record_kept cl | apply arrayGo_kept cl | apply Kept.ite | apply Kept.iteFst | apply Kept.ofFst (by assumption) | (extract_lets +onlyGivenNames x; refine (fun (_ : Kept P x) => ?_ : Kept P x → _) ?_; clear_value x; on_goal 2 => unfold x) | (extract_lets +onlyGivenNames x; refine (fun (_ : Kept P x.1) => ?_ : Kept P x.1 → _) ?_; clear_value x; on_goal 2 => unfold x) | (extract_lets +onlyGivenNames x; clear_value x) | fail_if_no_progress apply Kept.fields cl | split

theorem setVotes_kept {P : State → Prop} (cl : Closed P) {s : State} (h : Kept P s) (site : Nat) (l : List Vote) : Kept P (State.setVotes s site l) := by
  unfold State.setVotes
  with_reducible repeat' first | assumption | (extract_lets +onlyGivenNames x; refine (fun (_ : Kept P x) => ?_ : Kept P x → _) ?_; clear_value x; on_goal 2 => unfold x) | (extract_lets +onlyGivenNames x; clear_value x) | fail_if_no_progress apply Kept.fields cl

theorem voteTap_kept {P : State → Prop} (cl : Closed P) {s : State} (h : Kept P s) (site : Nat) (f : EntryFeed) (taps : List (Nat × Nat)) : Kept P (State.voteTap s site f taps) := by
  unfold State.voteTap
  with_reducible repeat' first | assumption | apply setVotes_kept cl | apply Kept.ite | (extract_lets +onlyGivenNames x; refine (fun (_ : Kept P x) => ?_ : Kept P x → _) ?_; clear_value x; on_goal 2 => unfold x) | (extract_lets +onlyGivenNames x; clear_value x) | fail_if_no_progress apply Kept.fields cl | split

theorem enterFeed_kept {P : State → Prop} (cl : Closed P) {s : State} (h : Kept P s) (site : Nat) (f : EntryFeed) (v : ChainVector) (faults : List EntryFault) : Kept P (State.enterFeed s site f v faults) := by
  unfold State.enterFeed
  with_reducible repeat' first | assumption | apply reject_kept cl | apply recordVector_kept cl | apply enterArray_kept cl | apply voteTap_kept cl | apply Kept.ite | apply Kept.foldl | apply Kept.iteFst | apply Kept.foldlFst | apply Kept.ofFst (by assumption) | intro _ _ _ | (extract_lets +onlyGivenNames x; refine (fun (_ : Kept P x) => ?_ : Kept P x → _) ?_; clear_value x; on_goal 2 => unfold x) | (extract_lets +onlyGivenNames x; refine (fun (_ : Kept P x.1) => ?_ : Kept P x.1 → _) ?_; clear_value x; on_goal 2 => unfold x) | (extract_lets +onlyGivenNames x; clear_value x) | split

theorem execArrayEntry_kept {P : State → Prop} (cl : Closed P) {s : State} (h : Kept P s) (site : Nat) (feed : EntryFeed) (slot : Nat) (faults : List EntryFault) : KeptO P (execArrayEntry site feed slot faults s) := by
  unfold execArrayEntry
  with_reducible repeat' first | assumption | apply reachSlot_kept cl | apply arrayWait_kept cl | apply feedVector_kept cl | apply setDie_kept cl | apply enterFeed_kept cl | apply KeptO.next | apply KeptO.ite | apply Kept.ofSomeSnd (by assumption) | apply Kept.ite | apply Kept.foldl | intro _ _ _ | (extract_lets +onlyGivenNames x; refine (fun (_ : Kept P x) => ?_ : Kept P x → _) ?_; clear_value x; on_goal 2 => unfold x) | (extract_lets +onlyGivenNames x; clear_value x) | split

theorem raiseVector_kept {P : State → Prop} (cl : Closed P) {s : State} (h : Kept P s) (site v : Nat) (code action : Nat) : Kept P (State.raiseVector s site v code action) := by
  unfold State.raiseVector
  with_reducible repeat' first | assumption | apply put_kept cl | apply record_kept cl | (extract_lets +onlyGivenNames x; refine (fun (_ : Kept P x) => ?_ : Kept P x → _) ?_; clear_value x; on_goal 2 => unfold x) | (extract_lets +onlyGivenNames x; clear_value x) | split

theorem raiseGelat_kept {P : State → Prop} (cl : Closed P) {s : State} (h : Kept P s) (code site action : Nat) (corrected : Bool) (details : List Nat) : Kept P (State.raiseGelat s code site action corrected details) := by
  unfold State.raiseGelat
  with_reducible repeat' first | assumption | apply put_kept cl | apply record_kept cl

theorem eccCorrected_kept {P : State → Prop} (cl : Closed P) {s : State} (h : Kept P s) (site row store : Nat) (scrub : Bool) (nbits : Nat) : Kept P (State.eccCorrected s site row store scrub nbits) := by
  unfold State.eccCorrected
  with_reducible repeat' first | assumption | apply addSat_kept cl | apply pushLog_kept cl | apply raiseGelat_kept cl | apply setGelat_kept cl | apply Kept.ite | (extract_lets +onlyGivenNames x; refine (fun (_ : Kept P x) => ?_ : Kept P x → _) ?_; clear_value x; on_goal 2 => unfold x) | (extract_lets +onlyGivenNames x; clear_value x) | fail_if_no_progress apply Kept.fields cl

theorem hbmRefresh_kept {P : State → Prop} (cl : Closed P) {s : State} (h : Kept P s) (stack : Nat) : Kept P (State.hbmRefresh s stack) := by
  unfold State.hbmRefresh
  with_reducible repeat' first | assumption | apply putSat_kept cl | apply setHbm_kept cl | (extract_lets +onlyGivenNames x; refine (fun (_ : Kept P x) => ?_ : Kept P x → _) ?_; clear_value x; on_goal 2 => unfold x) | (extract_lets +onlyGivenNames x; clear_value x) | fail_if_no_progress apply Kept.fields cl

theorem raiseDpd_kept {P : State → Prop} (cl : Closed P) {s : State} (h : Kept P s) (code stack action : Nat) (corrected : Bool) (details : List Nat) : Kept P (State.raiseDpd s code stack action corrected details) := by
  unfold State.raiseDpd
  with_reducible repeat' first | assumption | apply put_kept cl | apply record_kept cl

theorem hbmUncorrectable_kept {P : State → Prop} (cl : Closed P) {s : State} (h : Kept P s) (key : Nat) : Kept P (State.hbmUncorrectable s key) := by
  unfold State.hbmUncorrectable
  with_reducible repeat' first | assumption | apply addSat_kept cl | apply hbmRefresh_kept cl | apply setHbm_kept cl | apply raiseDpd_kept cl | apply Kept.ite | (extract_lets +onlyGivenNames x; refine (fun (_ : Kept P x) => ?_ : Kept P x → _) ?_; clear_value x; on_goal 2 => unfold x) | (extract_lets +onlyGivenNames x; clear_value x) | fail_if_no_progress apply Kept.fields cl

theorem repairCount_kept {P : State → Prop} (cl : Closed P) {s : State} (h : Kept P s) (site : Nat) : Kept P (State.repairCount s site) := by
  unfold State.repairCount
  with_reducible repeat' first | assumption | apply putSat_kept cl | (extract_lets +onlyGivenNames x; refine (fun (_ : Kept P x) => ?_ : Kept P x → _) ?_; clear_value x; on_goal 2 => unfold x) | (extract_lets +onlyGivenNames x; clear_value x)

theorem scheduleRepair_kept {P : State → Prop} (cl : Closed P) {s : State} (h : Kept P s) (site row store : Nat) : Kept P (State.scheduleRepair s site row store) := by
  unfold State.scheduleRepair
  with_reducible repeat' first | assumption | apply repairCount_kept cl | apply setGelat_kept cl | apply Kept.ite | (extract_lets +onlyGivenNames x; refine (fun (_ : Kept P x) => ?_ : Kept P x → _) ?_; clear_value x; on_goal 2 => unfold x) | (extract_lets +onlyGivenNames x; clear_value x) | fail_if_no_progress apply Kept.fields cl

theorem eccUncorrectable_kept {P : State → Prop} (cl : Closed P) {s : State} (h : Kept P s) (key : Nat) (scrub : Bool) : Kept P (State.eccUncorrectable s key scrub) := by
  unfold State.eccUncorrectable
  with_reducible repeat' first | assumption | apply addSat_kept cl | apply pushLog_kept cl | apply raiseGelat_kept cl | apply scheduleRepair_kept cl | apply Kept.ite | (extract_lets +onlyGivenNames x; refine (fun (_ : Kept P x) => ?_ : Kept P x → _) ?_; clear_value x; on_goal 2 => unfold x) | (extract_lets +onlyGivenNames x; clear_value x) | fail_if_no_progress apply Kept.fields cl

theorem eccOn_kept {P : State → Prop} (cl : Closed P) {s : State} (h : Kept P s) (key : Nat) (e : Ecc) : Kept P (State.eccOn s key e) := by
  unfold State.eccOn
  with_reducible repeat' first | assumption | apply addSat_kept cl | apply eccCorrected_kept cl | apply hbmUncorrectable_kept cl | apply eccUncorrectable_kept cl | apply Kept.ite | split

theorem ppaInvalid_kept {P : State → Prop} (cl : Closed P) {s : State} (h : Kept P s) (w : Who) (ppa : Nat) (write : Bool) : Kept P (State.ppaInvalid s w ppa write) := by
  unfold State.ppaInvalid
  with_reducible repeat' first | assumption | apply record_kept cl | apply Kept.ite

theorem readFor_kept {P : State → Prop} (cl : Closed P) {s : State} (h : Kept P s) (w : Who) (p n : Nat) (e : Ecc) : Kept P (State.readFor s w p n e).1 := by
  unfold State.readFor
  with_reducible repeat' first | assumption | apply eccOn_kept cl | apply ppaInvalid_kept cl | apply Kept.ite | apply Kept.iteFst | apply Kept.ofFst (by assumption) | (extract_lets +onlyGivenNames x; refine (fun (_ : Kept P x) => ?_ : Kept P x → _) ?_; clear_value x; on_goal 2 => unfold x) | (extract_lets +onlyGivenNames x; refine (fun (_ : Kept P x.1) => ?_ : Kept P x.1 → _) ?_; clear_value x; on_goal 2 => unfold x) | (extract_lets +onlyGivenNames x; clear_value x) | split

theorem mbxShow_kept {P : State → Prop} (cl : Closed P) {s : State} (h : Kept P s) (site c : Nat) : Kept P (State.mbxShow s site c) := by
  unfold State.mbxShow
  with_reducible repeat' first | assumption | apply put_kept cl | apply setReg_kept cl | apply trigger_kept cl | apply Kept.ite | apply Kept.foldl | intro _ _ _ | (extract_lets +onlyGivenNames x; refine (fun (_ : Kept P x) => ?_ : Kept P x → _) ?_; clear_value x; on_goal 2 => unfold x) | (extract_lets +onlyGivenNames x; clear_value x) | split

theorem inEnqueue_kept {P : State → Prop} (cl : Closed P) {s : State} (h : Kept P s) (site c : Nat) (m : Message) : Kept P (State.inEnqueue s site c m) := by
  unfold State.inEnqueue
  with_reducible repeat' first | assumption | apply irq_kept cl | apply mbxShow_kept cl | apply setControl_kept cl | (extract_lets +onlyGivenNames x; refine (fun (_ : Kept P x) => ?_ : Kept P x → _) ?_; clear_value x; on_goal 2 => unfold x) | (extract_lets +onlyGivenNames x; clear_value x) | fail_if_no_progress apply Kept.fields cl

theorem hubMessage_kept {P : State → Prop} (cl : Closed P) {s : State} (h : Kept P s) (site c : Nat) (m : Message) : Kept P (State.hubMessage s site c m) := by
  unfold State.hubMessage
  with_reducible repeat' first | assumption | apply setControl_kept cl | apply inEnqueue_kept cl | apply Kept.ite | (extract_lets +onlyGivenNames x; refine (fun (_ : Kept P x) => ?_ : Kept P x → _) ?_; clear_value x; on_goal 2 => unfold x) | (extract_lets +onlyGivenNames x; clear_value x) | fail_if_no_progress apply Kept.fields cl

theorem answerFlits_kept {P : State → Prop} (cl : Closed P) {s : State} (h : Kept P s) (node : Nat) (a : MeshAsk) (data : List Nat) (mask : Nat) : Kept P (State.answerFlits s node a data mask) := by
  unfold State.answerFlits
  with_reducible repeat' first | assumption | apply inject_kept cl

theorem setRoute_kept {P : State → Prop} (cl : Closed P) {s : State} (h : Kept P s) (node dst e : Nat) : Kept P (State.setRoute s node dst e) := by
  unfold State.setRoute
  with_reducible repeat' first | assumption | apply put_kept cl

theorem setCredit_kept {P : State → Prop} (cl : Closed P) {s : State} (h : Kept P s) (q : Nat) (c : Int) : Kept P (State.setCredit s q c) := by
  unfold State.setCredit
  with_reducible repeat' first | assumption | apply put_kept cl | (extract_lets +onlyGivenNames x; refine (fun (_ : Kept P x) => ?_ : Kept P x → _) ?_; clear_value x; on_goal 2 => unfold x) | (extract_lets +onlyGivenNames x; clear_value x) | fail_if_no_progress apply Kept.fields cl

theorem creditUpdate_kept {P : State → Prop} (cl : Closed P) {s : State} (h : Kept P s) : Kept P (State.creditUpdate s) := by
  unfold State.creditUpdate
  with_reducible repeat' first | assumption | apply setCredit_kept cl | apply Kept.ite | apply Kept.foldl | intro _ _ _ | (extract_lets +onlyGivenNames x; refine (fun (_ : Kept P x) => ?_ : Kept P x → _) ?_; clear_value x; on_goal 2 => unfold x) | (extract_lets +onlyGivenNames x; clear_value x)

theorem verifyRoutes_kept {P : State → Prop} (cl : Closed P) {s : State} (h : Kept P s) : Kept P (State.verifyRoutes s) := by
  unfold State.verifyRoutes
  with_reducible repeat' first | assumption | apply put_kept cl | apply raiseMesh_kept cl | apply Kept.ite | (extract_lets +onlyGivenNames x; refine (fun (_ : Kept P x) => ?_ : Kept P x → _) ?_; clear_value x; on_goal 2 => unfold x) | (extract_lets +onlyGivenNames x; clear_value x) | fail_if_no_progress apply Kept.fields cl

theorem verifySoon_kept {P : State → Prop} (cl : Closed P) {s : State} (h : Kept P s) : Kept P (State.verifySoon s) := by
  unfold State.verifySoon
  with_reducible repeat' first | assumption | apply verifyRoutes_kept cl | apply Kept.ite | (extract_lets +onlyGivenNames x; refine (fun (_ : Kept P x) => ?_ : Kept P x → _) ?_; clear_value x; on_goal 2 => unfold x) | (extract_lets +onlyGivenNames x; clear_value x) | fail_if_no_progress apply Kept.fields cl

theorem raiseUnit_kept {P : State → Prop} (cl : Closed P) {s : State} (h : Kept P s) (code node action : Nat) (details : List Nat) : Kept P (State.raiseUnit s code node action details) := by
  unfold State.raiseUnit
  with_reducible repeat' first | assumption | apply record_kept cl | apply put_kept cl | apply Kept.ite | (extract_lets +onlyGivenNames x; refine (fun (_ : Kept P x) => ?_ : Kept P x → _) ?_; clear_value x; on_goal 2 => unfold x) | (extract_lets +onlyGivenNames x; clear_value x)

theorem commitMissed_kept {P : State → Prop} (cl : Closed P) {s : State} (h : Kept P s) (node : Nat) : Kept P (State.commitMissed s node) := by
  unfold State.commitMissed
  with_reducible repeat' first | assumption | apply verifySoon_kept cl | apply fence_kept cl | apply raiseUnit_kept cl | apply Kept.ite

theorem execReportDeadline_kept {P : State → Prop} (cl : Closed P) {s : State} (h : Kept P s) : KeptO P (execReportDeadline s) := by
  unfold execReportDeadline
  with_reducible repeat' first | assumption | apply commitMissed_kept cl | apply KeptO.next | apply Kept.foldl | intro _ _ _ | (extract_lets +onlyGivenNames x; refine (fun (_ : Kept P x) => ?_ : Kept P x → _) ?_; clear_value x; on_goal 2 => unfold x) | (extract_lets +onlyGivenNames x; clear_value x) | fail_if_no_progress apply Kept.fields cl

theorem raiseLink_kept {P : State → Prop} (cl : Closed P) {s : State} (h : Kept P s) (l code : Nat) : Kept P (State.raiseLink s l code) := by
  unfold State.raiseLink
  with_reducible repeat' first | assumption | apply put_kept cl | apply record_kept cl

theorem setLinkSt_kept {P : State → Prop} (cl : Closed P) {s : State} (h : Kept P s) (l st : Nat) : Kept P (State.setLinkSt s l st) := by
  unfold State.setLinkSt
  with_reducible repeat' first | assumption | apply put_kept cl

theorem setLink_kept {P : State → Prop} (cl : Closed P) {s : State} (h : Kept P s) (l : Nat) (x : GaleLink) : Kept P (State.setLink s l x) := by
  unfold State.setLink
  with_reducible repeat' first | assumption | (extract_lets +onlyGivenNames x; refine (fun (_ : Kept P x) => ?_ : Kept P x → _) ?_; clear_value x; on_goal 2 => unfold x) | (extract_lets +onlyGivenNames x; clear_value x) | fail_if_no_progress apply Kept.fields cl

theorem linkPma_kept {P : State → Prop} (cl : Closed P) {s : State} (h : Kept P s) (l : Nat) : Kept P (State.linkPma s l) := by
  unfold State.linkPma
  with_reducible repeat' first | assumption | apply put_kept cl | apply setLinkSt_kept cl | apply setLink_kept cl | apply Kept.ite | (extract_lets +onlyGivenNames x; refine (fun (_ : Kept P x) => ?_ : Kept P x → _) ?_; clear_value x; on_goal 2 => unfold x) | (extract_lets +onlyGivenNames x; clear_value x) | fail_if_no_progress apply Kept.fields cl

theorem linkRetry_kept {P : State → Prop} (cl : Closed P) {s : State} (h : Kept P s) (l : Nat) : Kept P (State.linkRetry s l) := by
  unfold State.linkRetry
  with_reducible repeat' first | assumption | apply raiseLink_kept cl | apply put_kept cl | apply setLinkSt_kept cl | apply linkPma_kept cl | apply Kept.ite

theorem linkAgainst_kept {P : State → Prop} (cl : Closed P) {s : State} (h : Kept P s) (l : Nat) : Kept P (State.linkAgainst s l) := by
  unfold State.linkAgainst
  with_reducible repeat' first | assumption | apply setLink_kept cl | apply putSat_kept cl | apply Kept.ite | (extract_lets +onlyGivenNames x; refine (fun (_ : Kept P x) => ?_ : Kept P x → _) ?_; clear_value x; on_goal 2 => unfold x) | (extract_lets +onlyGivenNames x; clear_value x) | fail_if_no_progress apply Kept.fields cl

theorem linkFailed_kept {P : State → Prop} (cl : Closed P) {s : State} (h : Kept P s) (l : Nat) : Kept P (State.linkFailed s l) := by
  unfold State.linkFailed
  with_reducible repeat' first | assumption | apply linkRetry_kept cl | apply linkAgainst_kept cl

theorem sendFlit_kept {P : State → Prop} (cl : Closed P) {s : State} (h : Kept P s) (l : Nat) (f : Flit) : Kept P (State.sendFlit s l f) := by
  unfold State.sendFlit
  with_reducible repeat' first | assumption | apply send_kept cl | apply setLink_kept cl | apply put_kept cl | (extract_lets +onlyGivenNames x; refine (fun (_ : Kept P x) => ?_ : Kept P x → _) ?_; clear_value x; on_goal 2 => unfold x) | (extract_lets +onlyGivenNames x; clear_value x) | fail_if_no_progress apply Kept.fields cl

theorem pumpLink_kept {P : State → Prop} (cl : Closed P) {s : State} (h : Kept P s) (l a1 : Nat) : Kept P (State.pumpLink l a1 s) := by
  induction a1 generalizing s with
  | zero =>
    unfold State.pumpLink
    with_reducible repeat' first | assumption | apply setLink_kept cl | apply sendFlit_kept cl | apply Kept.ite | (extract_lets +onlyGivenNames x; refine (fun (_ : Kept P x) => ?_ : Kept P x → _) ?_; clear_value x; on_goal 2 => unfold x) | (extract_lets +onlyGivenNames x; clear_value x) | fail_if_no_progress apply Kept.fields cl | split
  | succ n ih =>
    unfold State.pumpLink
    with_reducible repeat' first | assumption | apply ih | apply setLink_kept cl | apply sendFlit_kept cl | apply Kept.ite | (extract_lets +onlyGivenNames x; refine (fun (_ : Kept P x) => ?_ : Kept P x → _) ?_; clear_value x; on_goal 2 => unfold x) | (extract_lets +onlyGivenNames x; clear_value x) | fail_if_no_progress apply Kept.fields cl | split

theorem pump_kept {P : State → Prop} (cl : Closed P) {s : State} (h : Kept P s) (l : Nat) : Kept P (State.pump s l) := by
  unfold State.pump
  with_reducible repeat' first | assumption | apply pumpLink_kept cl

theorem linkPacket_kept {P : State → Prop} (cl : Closed P) {s : State} (h : Kept P s) (l : Nat) (p : GalePacket) : Kept P (State.linkPacket s l p) := by
  unfold State.linkPacket
  with_reducible repeat' first | assumption | apply pump_kept cl | apply setLink_kept cl | apply Kept.ite | (extract_lets +onlyGivenNames x; refine (fun (_ : Kept P x) => ?_ : Kept P x → _) ?_; clear_value x; on_goal 2 => unfold x) | (extract_lets +onlyGivenNames x; clear_value x) | fail_if_no_progress apply Kept.fields cl

theorem cndTransmit_kept {P : State → Prop} (cl : Closed P) {s : State} (h : Kept P s) (c : Nat) (p : GalePacket) : Kept P (State.cndTransmit s c p) := by
  unfold State.cndTransmit
  with_reducible repeat' first | assumption | apply linkPacket_kept cl | apply put_kept cl | split

theorem cndResend_kept {P : State → Prop} (cl : Closed P) {s : State} (h : Kept P s) (c st : Nat) : Kept P (State.cndResend s c st) := by
  unfold State.cndResend
  with_reducible repeat' first | assumption | apply cndTransmit_kept cl | apply addSat_kept cl | apply Kept.foldl | intro _ _ _ | (extract_lets +onlyGivenNames x; refine (fun (_ : Kept P x) => ?_ : Kept P x → _) ?_; clear_value x; on_goal 2 => unfold x) | (extract_lets +onlyGivenNames x; clear_value x)

theorem linkReady_kept {P : State → Prop} (cl : Closed P) {s : State} (h : Kept P s) (l : Nat) (f : ParamFlit) : Kept P (State.linkReady s l f) := by
  unfold State.linkReady
  with_reducible repeat' first | assumption | apply setLink_kept cl | apply put_kept cl | apply setLinkSt_kept cl | apply raiseLink_kept cl | apply cndResend_kept cl | apply Kept.ite | apply Kept.foldl | intro _ _ _ | (extract_lets +onlyGivenNames x; refine (fun (_ : Kept P x) => ?_ : Kept P x → _) ?_; clear_value x; on_goal 2 => unfold x) | (extract_lets +onlyGivenNames x; clear_value x)

theorem execParam_kept {P : State → Prop} (cl : Closed P) {s : State} (h : Kept P s) (l : Nat) (f : ParamFlit) (peer : Bool) : KeptO P (execParam l f peer s) := by
  unfold execParam
  with_reducible repeat' first | assumption | apply linkFailed_kept cl | apply raiseLink_kept cl | apply put_kept cl | apply linkReady_kept cl | apply KeptO.next | apply KeptO.ite | apply Kept.ite | (extract_lets +onlyGivenNames x; refine (fun (_ : Kept P x) => ?_ : Kept P x → _) ?_; clear_value x; on_goal 2 => unfold x) | (extract_lets +onlyGivenNames x; clear_value x)

theorem vecStop_kept {P : State → Prop} (cl : Closed P) {s : State} (h : Kept P s) (site v st : Nat) : Kept P (State.vecStop s site v st) := by
  unfold State.vecStop
  with_reducible repeat' first | assumption | apply irqBoth_kept cl | apply put_kept cl

theorem vecHalt_kept {P : State → Prop} (cl : Closed P) {s : State} (h : Kept P s) (site v code : Nat) : Kept P (State.vecHalt s site v code) := by
  unfold State.vecHalt
  with_reducible repeat' first | assumption | apply put_kept cl | apply vecStop_kept cl | apply abortPass_kept cl | apply record_kept cl | apply Kept.foldl | intro _ _ _ | (extract_lets +onlyGivenNames x; refine (fun (_ : Kept P x) => ?_ : Kept P x → _) ?_; clear_value x; on_goal 2 => unfold x) | (extract_lets +onlyGivenNames x; clear_value x) | split

theorem vecMismatch_kept {P : State → Prop} (cl : Closed P) {s : State} (h : Kept P s) (site v : Nat) : Kept P (State.vecMismatch s site v) := by
  unfold State.vecMismatch
  with_reducible repeat' first | assumption | apply addSat_kept cl | apply put_kept cl | apply vecHalt_kept cl | apply decideRetire_kept cl | apply Kept.ite | (extract_lets +onlyGivenNames x; refine (fun (_ : Kept P x) => ?_ : Kept P x → _) ?_; clear_value x; on_goal 2 => unfold x) | (extract_lets +onlyGivenNames x; clear_value x)

theorem vecFault_kept {P : State → Prop} (cl : Closed P) {s : State} (h : Kept P s) (site v : Nat) (f : CoreFault) (reads : Bool) : Kept P (State.vecFault s site v f reads).1 := by
  unfold State.vecFault
  with_reducible repeat' first | assumption | apply addSat_kept cl | apply vecHalt_kept cl | apply Kept.ite | apply Kept.iteFst | apply Kept.ofFst (by assumption) | split

theorem vecNext_kept {P : State → Prop} (cl : Closed P) {s : State} (h : Kept P s) (site v : Nat) (r : VecResult) : Kept P (State.vecNext s site v r) := by
  unfold State.vecNext
  with_reducible repeat' first | assumption | apply put_kept cl | apply addSat_kept cl | apply setVector_kept cl | apply Kept.ite | (extract_lets +onlyGivenNames x; refine (fun (_ : Kept P x) => ?_ : Kept P x → _) ?_; clear_value x; on_goal 2 => unfold x) | (extract_lets +onlyGivenNames x; clear_value x) | fail_if_no_progress apply Kept.fields cl | split

theorem vecCounts_kept {P : State → Prop} (cl : Closed P) {s : State} (h : Kept P s) (site v : Nat) (r : VecResult) : Kept P (State.vecCounts s site v r) := by
  unfold State.vecCounts
  with_reducible repeat' first | assumption | apply addSat_kept cl | apply put_kept cl | apply Kept.ite | (extract_lets +onlyGivenNames x; refine (fun (_ : Kept P x) => ?_ : Kept P x → _) ?_; clear_value x; on_goal 2 => unfold x) | (extract_lets +onlyGivenNames x; clear_value x)

theorem scratchWrite_kept {P : State → Prop} (cl : Closed P) {s : State} (h : Kept P s) (site v a : Nat) (data : List Nat) : Kept P (State.scratchWrite s site v a data) := by
  unfold State.scratchWrite
  with_reducible repeat' first | assumption | apply setVector_kept cl | apply Kept.foldl | intro _ _ _

theorem nanStore_kept {P : State → Prop} (cl : Closed P) {s : State} (h : Kept P s) (site v : Nat) : Kept P (State.nanStore s site v) := by
  unfold State.nanStore
  with_reducible repeat' first | assumption | apply setVector_kept cl | apply discardPass_kept cl | apply raiseVector_kept cl | apply Kept.ite | (extract_lets +onlyGivenNames x; refine (fun (_ : Kept P x) => ?_ : Kept P x → _) ?_; clear_value x; on_goal 2 => unfold x) | (extract_lets +onlyGivenNames x; clear_value x) | fail_if_no_progress apply Kept.fields cl

theorem engineEvent_kept {P : State → Prop} (cl : Closed P) {s : State} (h : Kept P s) (site c : Nat) : Kept P (State.engineEvent s site c) := by
  unfold State.engineEvent
  with_reducible repeat' first | assumption | apply addWrap_kept cl | apply irq_kept cl

theorem addEngineToken_kept {P : State → Prop} (cl : Closed P) {s : State} (h : Kept P s) (site n : Nat) (exec : Bool) : Kept P (State.addEngineToken s site n exec) := by
  unfold State.addEngineToken
  with_reducible repeat' first | assumption | apply abortPass_kept cl | apply record_kept cl | apply put_kept cl | apply Kept.ite | (extract_lets +onlyGivenNames x; refine (fun (_ : Kept P x) => ?_ : Kept P x → _) ?_; clear_value x; on_goal 2 => unfold x) | (extract_lets +onlyGivenNames x; clear_value x)

theorem vecCommit_kept {P : State → Prop} (cl : Closed P) {s : State} (h : Kept P s) (site v : Nat) (r : VecResult) : Kept P (State.vecCommit s site v r) := by
  unfold State.vecCommit
  extract_lets s1 s2 s3
  have h1 : Kept P s1 := by
    refine Kept.foldl h (fun t c k => ?_)
    have k1 : Kept P (t.setVector site c ((t.vector site c).take r)) := setVector_kept cl k _ _ _
    dsimp only
    refine vecNext_kept cl (vecCounts_kept cl ?_ _ _ _) _ _ _
    split
    · exact put_kept cl k1 _ _
    · exact k1
  have h2 : Kept P s2 := by
    unfold s2
    split
    · exact scratchWrite_kept cl h1 _ _ _ _
    · exact h1
  have h3 : Kept P s3 := Kept.ite h2 (nanStore_kept cl h2 _ _)
  clear_value s3
  split
  · exact engineEvent_kept cl h3 _ _
  · exact engineEvent_kept cl h3 _ _
  · exact addEngineToken_kept cl h3 _ _ _
  · exact addEngineToken_kept cl h3 _ _ _
  · exact h3

theorem vecWait_kept {P : State → Prop} (cl : Closed P) {s : State} (h : Kept P s) (site v reason : Nat) : Kept P (State.vecWait s site v reason) := by
  unfold State.vecWait
  with_reducible repeat' first | assumption | apply addSat_kept cl | apply put_kept cl | apply Kept.foldl | intro _ _ _

theorem vecExec_kept {P : State → Prop} (cl : Closed P) {s : State} (h : Kept P s) (site v : Nat) (f : CoreFault) (op : Nat) (reads : Bool) (g : VectorState → List Nat → VecWord → VecOut) : Kept P (State.vecExec s site v f op reads g) := by
  unfold State.vecExec
  with_reducible repeat' first | assumption | apply vecMismatch_kept cl | apply vecFault_kept cl | apply vecHalt_kept cl | apply vecCommit_kept cl | apply vecWait_kept cl | apply vecStop_kept cl | apply addSat_kept cl | apply Kept.ite | apply Kept.foldl | apply Kept.iteFst | apply Kept.foldlFst | apply Kept.ofFst (by assumption) | intro _ _ _ | (extract_lets +onlyGivenNames x; refine (fun (_ : Kept P x) => ?_ : Kept P x → _) ?_; clear_value x; on_goal 2 => unfold x) | (extract_lets +onlyGivenNames x; refine (fun (_ : Kept P x.1) => ?_ : Kept P x.1 → _) ?_; clear_value x; on_goal 2 => unfold x) | (extract_lets +onlyGivenNames x; clear_value x) | split

theorem vecPlain_kept {P : State → Prop} (cl : Closed P) {s : State} (h : Kept P s) (site v : Nat) (f : CoreFault) (op : Nat) (g : VectorState → VecWord → VecOut) : Kept P (State.vecPlain s site v f op g) := by
  unfold State.vecPlain
  with_reducible repeat' first | assumption | apply vecExec_kept cl

theorem execIadd_kept {P : State → Prop} (cl : Closed P) {s : State} (h : Kept P s) (site v : Nat) (f : CoreFault) : KeptO P (execIadd site v f s) := by
  unfold execIadd
  with_reducible repeat' first | assumption | apply vecPlain_kept cl | apply KeptO.next

theorem stateAfter_kept {P : State → Prop} (cl : Closed P) {s : State} (h : Kept P s) {o : Host.Outcome State Fault Refusal} (k : KeptO P o) : Kept P (stateAfter o s) := by
  unfold stateAfter
  cases o with
  | next t => exact k t rfl
  | fault _ => exact h
  | refused _ => exact h

theorem hostErr_kept {P : State → Prop} (cl : Closed P) {s : State} (h : Kept P s) (code : Nat) (who : Requester) (write : Bool) (bytes addr : Nat) : Kept P (State.hostErr s code who write bytes addr) := by
  unfold State.hostErr
  with_reducible repeat' first | assumption | apply put_kept cl | apply addSat_kept cl | apply Kept.ite | (extract_lets +onlyGivenNames x; refine (fun (_ : Kept P x) => ?_ : Kept P x → _) ?_; clear_value x; on_goal 2 => unfold x) | (extract_lets +onlyGivenNames x; clear_value x)

theorem sizeRead_kept {P : State → Prop} (cl : Closed P) {s : State} (h : Kept P s) (who : Requester) (addr bytes : Nat) : Kept P (State.sizeRead s who addr bytes) := by
  unfold State.sizeRead
  with_reducible repeat' first | assumption | apply send_kept cl | apply hostErr_kept cl

theorem readAtHub_kept {P : State → Prop} (cl : Closed P) {s : State} (h : Kept P s) (who : Requester) (addr bytes : Nat) {k : Host.Outcome State Fault Refusal} (hk : KeptO P k) : KeptO P (State.readAtHub s who addr bytes k) := by
  unfold State.readAtHub
  with_reducible repeat' first | assumption | apply send_kept cl | apply hostErr_kept cl | exact hk | apply KeptO.next | apply KeptO.ite | apply Kept.ite

theorem readLog_kept {P : State → Prop} (cl : Closed P) {s : State} (h : Kept P s) (addr bytes half : Nat) : Kept P (State.readLog s addr bytes half).2 := by
  unfold State.readLog
  with_reducible repeat' first | assumption | apply Kept.ite | apply Kept.iteSnd | apply Kept.ofSnd (by assumption) | (extract_lets +onlyGivenNames x; refine (fun (_ : Kept P x) => ?_ : Kept P x → _) ?_; clear_value x; on_goal 2 => unfold x) | (extract_lets +onlyGivenNames x; refine (fun (_ : Kept P x.2) => ?_ : Kept P x.2 → _) ?_; clear_value x; on_goal 2 => unfold x) | (extract_lets +onlyGivenNames x; clear_value x) | fail_if_no_progress apply Kept.fields cl

theorem execDiscLogRead_kept {P : State → Prop} (cl : Closed P) {s : State} (h : Kept P s) (who : Requester) (bytes half : Nat) : KeptO P (execDiscLogRead who bytes half s) := by
  unfold execDiscLogRead
  with_reducible repeat' first | assumption | apply readAtHub_kept cl | apply readLog_kept cl | apply send_kept cl | apply KeptO.next | apply Kept.ofSnd (by assumption) | (extract_lets +onlyGivenNames x; refine (fun (_ : Kept P x) => ?_ : Kept P x → _) ?_; clear_value x; on_goal 2 => unfold x) | (extract_lets +onlyGivenNames x; refine (fun (_ : Kept P x.2) => ?_ : Kept P x.2 → _) ?_; clear_value x; on_goal 2 => unfold x) | (extract_lets +onlyGivenNames x; clear_value x)

theorem readAtSite_kept {P : State → Prop} (cl : Closed P) {s : State} (h : Kept P s) (who : Requester) (addr bytes site : Nat) {k : Host.Outcome State Fault Refusal} (hk : KeptO P k) : KeptO P (State.readAtSite s who addr bytes site k) := by
  unfold State.readAtSite
  with_reducible repeat' first | assumption | apply hostErr_kept cl | apply send_kept cl | exact hk | apply KeptO.next | apply KeptO.ite | apply Kept.ite | (extract_lets +onlyGivenNames x; refine (fun (_ : Kept P x) => ?_ : Kept P x → _) ?_; clear_value x; on_goal 2 => unfold x) | (extract_lets +onlyGivenNames x; clear_value x)

theorem execGltErrLogRead_kept {P : State → Prop} (cl : Closed P) {s : State} (h : Kept P s) (who : Requester) (site bytes half : Nat) : KeptO P (execGltErrLogRead who site bytes half s) := by
  unfold execGltErrLogRead
  with_reducible repeat' first | assumption | apply readAtSite_kept cl | apply readLog_kept cl | apply send_kept cl | apply KeptO.next | apply KeptO.fault | apply KeptO.refused | apply KeptO.ite | apply Kept.ite | apply Kept.foldl | apply Kept.iteSnd | apply Kept.foldlSnd | apply Kept.ofSnd (by assumption) | intro _ _ _ | (extract_lets +onlyGivenNames x; refine (fun (_ : Kept P x) => ?_ : Kept P x → _) ?_; clear_value x; on_goal 2 => unfold x) | (extract_lets +onlyGivenNames x; refine (fun (_ : Kept P x.2) => ?_ : Kept P x.2 → _) ?_; clear_value x; on_goal 2 => unfold x) | (extract_lets +onlyGivenNames x; clear_value x) | fail_if_no_progress apply Kept.fields cl | split

theorem execMshEventRead_kept {P : State → Prop} (cl : Closed P) {s : State} (h : Kept P s) (who : Requester) (bytes half : Nat) : KeptO P (execMshEventRead who bytes half s) := by
  unfold execMshEventRead
  with_reducible repeat' first | assumption | apply readAtHub_kept cl | apply readLog_kept cl | apply send_kept cl | apply KeptO.next | apply Kept.ofSnd (by assumption) | (extract_lets +onlyGivenNames x; refine (fun (_ : Kept P x) => ?_ : Kept P x → _) ?_; clear_value x; on_goal 2 => unfold x) | (extract_lets +onlyGivenNames x; refine (fun (_ : Kept P x.2) => ?_ : Kept P x.2 → _) ?_; clear_value x; on_goal 2 => unfold x) | (extract_lets +onlyGivenNames x; clear_value x)

theorem execSdgVoteLogRead_kept {P : State → Prop} (cl : Closed P) {s : State} (h : Kept P s) (who : Requester) (bytes half : Nat) : KeptO P (execSdgVoteLogRead who bytes half s) := by
  unfold execSdgVoteLogRead
  with_reducible repeat' first | assumption | apply readAtHub_kept cl | apply readLog_kept cl | apply send_kept cl | apply KeptO.next | apply Kept.ofSnd (by assumption) | (extract_lets +onlyGivenNames x; refine (fun (_ : Kept P x) => ?_ : Kept P x → _) ?_; clear_value x; on_goal 2 => unfold x) | (extract_lets +onlyGivenNames x; refine (fun (_ : Kept P x.2) => ?_ : Kept P x.2 → _) ?_; clear_value x; on_goal 2 => unfold x) | (extract_lets +onlyGivenNames x; clear_value x)

theorem atDawn_kept {P : State → Prop} (cl : Closed P) {s : State} (h : Kept P s) {k : Host.Outcome State Fault Refusal} (hk : KeptO P k) : KeptO P (State.atDawn s k) := by
  unfold State.atDawn
  with_reducible repeat' first | assumption | exact hk | apply KeptO.next | apply KeptO.ite | apply Kept.ite

theorem execPwrEventRead_kept {P : State → Prop} (cl : Closed P) {s : State} (h : Kept P s) (who : Requester) (bytes half : Nat) : KeptO P (execPwrEventRead who bytes half s) := by
  unfold execPwrEventRead
  with_reducible repeat' first | assumption | apply atDawn_kept cl | apply readLog_kept cl | apply send_kept cl | apply KeptO.next | apply Kept.ofSnd (by assumption) | (extract_lets +onlyGivenNames x; refine (fun (_ : Kept P x) => ?_ : Kept P x → _) ?_; clear_value x; on_goal 2 => unfold x) | (extract_lets +onlyGivenNames x; refine (fun (_ : Kept P x.2) => ?_ : Kept P x.2 → _) ?_; clear_value x; on_goal 2 => unfold x) | (extract_lets +onlyGivenNames x; clear_value x)

theorem execPwrInputMaxRead_kept {P : State → Prop} (cl : Closed P) {s : State} (h : Kept P s) (who : Requester) (bytes half : Nat) : KeptO P (execPwrInputMaxRead who bytes half s) := by
  unfold execPwrInputMaxRead
  with_reducible repeat' first | assumption | apply atDawn_kept cl | apply send_kept cl | apply setReg_kept cl | apply KeptO.next | apply KeptO.ite | apply Kept.ite | (extract_lets +onlyGivenNames x; refine (fun (_ : Kept P x) => ?_ : Kept P x → _) ?_; clear_value x; on_goal 2 => unfold x) | (extract_lets +onlyGivenNames x; clear_value x)

theorem execThmEventRead_kept {P : State → Prop} (cl : Closed P) {s : State} (h : Kept P s) (who : Requester) (bytes half : Nat) : KeptO P (execThmEventRead who bytes half s) := by
  unfold execThmEventRead
  with_reducible repeat' first | assumption | apply atDawn_kept cl | apply readLog_kept cl | apply send_kept cl | apply KeptO.next | apply Kept.ofSnd (by assumption) | (extract_lets +onlyGivenNames x; refine (fun (_ : Kept P x) => ?_ : Kept P x → _) ?_; clear_value x; on_goal 2 => unfold x) | (extract_lets +onlyGivenNames x; refine (fun (_ : Kept P x.2) => ?_ : Kept P x.2 → _) ?_; clear_value x; on_goal 2 => unfold x) | (extract_lets +onlyGivenNames x; clear_value x)

theorem execClkEventRead_kept {P : State → Prop} (cl : Closed P) {s : State} (h : Kept P s) (who : Requester) (bytes half : Nat) : KeptO P (execClkEventRead who bytes half s) := by
  unfold execClkEventRead
  with_reducible repeat' first | assumption | apply readAtHub_kept cl | apply readLog_kept cl | apply send_kept cl | apply KeptO.next | apply Kept.ofSnd (by assumption) | (extract_lets +onlyGivenNames x; refine (fun (_ : Kept P x) => ?_ : Kept P x → _) ?_; clear_value x; on_goal 2 => unfold x) | (extract_lets +onlyGivenNames x; refine (fun (_ : Kept P x.2) => ?_ : Kept P x.2 → _) ?_; clear_value x; on_goal 2 => unfold x) | (extract_lets +onlyGivenNames x; clear_value x)

theorem execIsbCountRead_kept {P : State → Prop} (cl : Closed P) {s : State} (h : Kept P s) (who : Requester) (bytes half : Nat) : KeptO P (execIsbCountRead who bytes half s) := by
  unfold execIsbCountRead
  with_reducible repeat' first | assumption | apply atDawn_kept cl | apply send_kept cl | apply KeptO.next | apply KeptO.ite | apply Kept.ite | (extract_lets +onlyGivenNames x; refine (fun (_ : Kept P x) => ?_ : Kept P x → _) ?_; clear_value x; on_goal 2 => unfold x) | (extract_lets +onlyGivenNames x; clear_value x) | fail_if_no_progress apply Kept.fields cl

theorem execSpareLogRead_kept {P : State → Prop} (cl : Closed P) {s : State} (h : Kept P s) (who : Requester) (bytes half : Nat) : KeptO P (execSpareLogRead who bytes half s) := by
  unfold execSpareLogRead
  with_reducible repeat' first | assumption | apply readAtHub_kept cl | apply readLog_kept cl | apply send_kept cl | apply KeptO.next | apply Kept.ofSnd (by assumption) | (extract_lets +onlyGivenNames x; refine (fun (_ : Kept P x) => ?_ : Kept P x → _) ?_; clear_value x; on_goal 2 => unfold x) | (extract_lets +onlyGivenNames x; refine (fun (_ : Kept P x.2) => ?_ : Kept P x.2 → _) ?_; clear_value x; on_goal 2 => unfold x) | (extract_lets +onlyGivenNames x; clear_value x)

theorem ownRead_kept {P : State → Prop} (cl : Closed P) {s : State} (h : Kept P s) (who : Requester) (d : RegDesc) (addr bytes : Nat) : KeptOO P (ownRead who d addr bytes s) := by
  unfold ownRead
  with_reducible repeat' first | assumption | apply execDiscLogRead_kept cl | apply execGltErrLogRead_kept cl | apply execMshEventRead_kept cl | apply execSdgVoteLogRead_kept cl | apply execPwrEventRead_kept cl | apply execPwrInputMaxRead_kept cl | apply execThmEventRead_kept cl | apply execClkEventRead_kept cl | apply execIsbCountRead_kept cl | apply execSpareLogRead_kept cl | apply KeptOO.some | apply KeptOO.none | apply KeptO.next | apply KeptOO.ite | apply KeptO.ite | apply KeptOO.or | apply Kept.ofNext (by assumption) | apply Kept.ite | (extract_lets +onlyGivenNames x; refine (fun (_ : Kept P x) => ?_ : Kept P x → _) ?_; clear_value x; on_goal 2 => unfold x) | (extract_lets +onlyGivenNames x; clear_value x)

theorem plainRead_kept {P : State → Prop} (cl : Closed P) {s : State} (h : Kept P s) (who : Requester) (d : RegDesc) (addr bytes : Nat) : Kept P (State.plainRead s who d addr bytes) := by
  unfold State.plainRead
  with_reducible repeat' first | assumption | apply send_kept cl

theorem readReg_kept {P : State → Prop} (cl : Closed P) {s : State} (h : Kept P s) (who : Requester) (addr bytes : Nat) : KeptO P (readReg who addr bytes s) := by
  unfold readReg
  with_reducible repeat' first | assumption | apply send_kept cl | apply hostErr_kept cl | apply ownRead_kept cl | apply plainRead_kept cl | apply readAtSite_kept cl | apply readAtHub_kept cl | apply KeptO.next | apply KeptO.ite | apply KeptO.ofSome (by assumption) | apply Kept.ite | split

theorem execRegisterRead_kept {P : State → Prop} (cl : Closed P) {s : State} (h : Kept P s) (who : Requester) (addr bytes : Nat) : KeptO P (execRegisterRead who addr bytes s) := by
  unfold execRegisterRead
  with_reducible repeat' first | assumption | apply sizeRead_kept cl | apply send_kept cl | apply hostErr_kept cl | apply readReg_kept cl | apply KeptO.next | apply KeptO.fault | apply KeptO.ite | apply Kept.ite | (extract_lets +onlyGivenNames x; refine (fun (_ : Kept P x) => ?_ : Kept P x → _) ?_; clear_value x; on_goal 2 => unfold x) | (extract_lets +onlyGivenNames x; clear_value x) | split

theorem regRead_kept {P : State → Prop} (cl : Closed P) {s : State} (h : Kept P s) (who : Requester) (addr bytes : Nat) : Kept P (State.regRead s who addr bytes).2 := by
  unfold State.regRead
  with_reducible repeat' first | assumption | apply stateAfter_kept cl | apply execRegisterRead_kept cl | apply Kept.ofNext (by assumption) | apply Kept.ite | apply Kept.iteSnd | apply Kept.ofSnd (by assumption) | (extract_lets +onlyGivenNames x; refine (fun (_ : Kept P x) => ?_ : Kept P x → _) ?_; clear_value x; on_goal 2 => unfold x) | (extract_lets +onlyGivenNames x; refine (fun (_ : Kept P x.2) => ?_ : Kept P x.2 → _) ?_; clear_value x; on_goal 2 => unfold x) | (extract_lets +onlyGivenNames x; clear_value x) | fail_if_no_progress apply Kept.fields cl | split

end Sys2Proof.Machine
end

