-- ==== Sys2Proof/Laws/KeptOps2.lean ====
section
/-! SUPPORT. Part 2 of 7 of the lemmas X_kept, one per operation and per command (see Laws/Kept.lean), in an order where each comes after those it cites. -/

set_option linter.unusedTactic false
set_option linter.unreachableTactic false
set_option linter.unusedVariables false

namespace Sys2Proof.Machine

open Sys2Proof

theorem msixRelease_kept {P : State → Prop} (cl : Closed P) {s : State} (h : Kept P s) (v : Nat) : Kept P (State.msixRelease s v) := by
  unfold State.msixRelease
  with_reducible repeat' first | assumption | apply trigger_kept cl | apply Kept.ite | (extract_lets +onlyGivenNames x; refine (fun (_ : Kept P x) => ?_ : Kept P x → _) ?_; clear_value x; on_goal 2 => unfold x) | (extract_lets +onlyGivenNames x; clear_value x) | fail_if_no_progress apply Kept.fields cl

theorem msixWrite_kept {P : State → Prop} (cl : Closed P) {s : State} (h : Kept P s) (i : Nat) (w : Word) : Kept P (State.msixWrite s i w) := by
  unfold State.msixWrite
  with_reducible repeat' first | assumption | apply msixRelease_kept cl | (extract_lets +onlyGivenNames x; refine (fun (_ : Kept P x) => ?_ : Kept P x → _) ?_; clear_value x; on_goal 2 => unfold x) | (extract_lets +onlyGivenNames x; clear_value x) | fail_if_no_progress apply Kept.fields cl

theorem msixStore_kept {P : State → Prop} (cl : Closed P) {s : State} (h : Kept P s) (addr bytes value : Nat) : Kept P (State.msixStore s addr bytes value) := by
  unfold State.msixStore
  with_reducible repeat' first | assumption | apply msixWrite_kept cl | apply Kept.ite | (extract_lets +onlyGivenNames x; refine (fun (_ : Kept P x) => ?_ : Kept P x → _) ?_; clear_value x; on_goal 2 => unfold x) | (extract_lets +onlyGivenNames x; clear_value x)

theorem slotStore_kept {P : State → Prop} (cl : Closed P) {s : State} (h : Kept P s) (key bytes value : Nat) : Kept P (State.slotStore s key bytes value) := by
  unfold State.slotStore
  with_reducible repeat' first | assumption | apply Kept.foldl | intro _ _ _ | (extract_lets +onlyGivenNames x; refine (fun (_ : Kept P x) => ?_ : Kept P x → _) ?_; clear_value x; on_goal 2 => unfold x) | (extract_lets +onlyGivenNames x; clear_value x) | fail_if_no_progress apply Kept.fields cl

theorem atSite_kept {P : State → Prop} (cl : Closed P) {s : State} (h : Kept P s) (who : Requester) (addr site : Nat) {k : Host.Outcome State Fault Refusal} (hk : KeptO P k) : KeptO P (State.atSite s who addr site k) := by
  unfold State.atSite
  with_reducible repeat' first | assumption | apply hostErr_kept cl | exact hk | apply KeptO.next | apply KeptO.ite | apply Kept.ite

theorem fwRefused_kept {P : State → Prop} (cl : Closed P) {s : State} (h : Kept P s) (site : Nat) : Kept P (State.fwRefused s site) := by
  unfold State.fwRefused
  with_reducible repeat' first | assumption | apply record_kept cl

theorem rerunBy_kept {P : State → Prop} (cl : Closed P) {s : State} (h : Kept P s) (site a : Nat) : Kept P (State.rerunBy s site a) := by
  unfold State.rerunBy
  with_reducible repeat' first | assumption | apply setVotes_kept cl | apply Kept.ite | (extract_lets +onlyGivenNames x; refine (fun (_ : Kept P x) => ?_ : Kept P x → _) ?_; clear_value x; on_goal 2 => unfold x) | (extract_lets +onlyGivenNames x; clear_value x) | fail_if_no_progress apply Kept.fields cl | split

theorem startArray_kept {P : State → Prop} (cl : Closed P) {s : State} (h : Kept P s) (site a : Nat) (pc st : Nat) : Kept P (State.startArray s site a pc st) := by
  unfold State.startArray
  with_reducible repeat' first | assumption | apply setReg_kept cl | apply put_kept cl | apply setArray_kept cl | (extract_lets +onlyGivenNames x; refine (fun (_ : Kept P x) => ?_ : Kept P x → _) ?_; clear_value x; on_goal 2 => unfold x) | (extract_lets +onlyGivenNames x; clear_value x) | fail_if_no_progress apply Kept.fields cl

theorem execRerunGo_kept {P : State → Prop} (cl : Closed P) {s : State} (h : Kept P s) (who : Requester) (site a value : Nat) : KeptO P (execRerunGo who site a value s) := by
  unfold execRerunGo
  with_reducible repeat' first | assumption | apply atSite_kept cl | apply fwRefused_kept cl | apply put_kept cl | apply rerunBy_kept cl | apply startArray_kept cl | apply KeptO.next | apply KeptO.ite | apply Kept.ite | (extract_lets +onlyGivenNames x; refine (fun (_ : Kept P x) => ?_ : Kept P x → _) ?_; clear_value x; on_goal 2 => unfold x) | (extract_lets +onlyGivenNames x; clear_value x)

theorem goRow_kept {P : State → Prop} (cl : Closed P) {s : State} (h : Kept P s) (site row : Nat) : Kept P (State.goRow s site row) := by
  unfold State.goRow
  with_reducible repeat' first | assumption | apply record_kept cl | apply put_kept cl | apply startArray_kept cl | apply Kept.ite | apply Kept.foldl | intro _ _ _ | (extract_lets +onlyGivenNames x; refine (fun (_ : Kept P x) => ?_ : Kept P x → _) ?_; clear_value x; on_goal 2 => unfold x) | (extract_lets +onlyGivenNames x; clear_value x)

theorem execRowGo_kept {P : State → Prop} (cl : Closed P) {s : State} (h : Kept P s) (who : Requester) (site value : Nat) : KeptO P (execRowGo who site value s) := by
  unfold execRowGo
  with_reducible repeat' first | assumption | apply atSite_kept cl | apply fwRefused_kept cl | apply put_kept cl | apply goRow_kept cl | apply KeptO.next | apply KeptO.ite | apply Kept.ite | (extract_lets +onlyGivenNames x; refine (fun (_ : Kept P x) => ?_ : Kept P x → _) ?_; clear_value x; on_goal 2 => unfold x) | (extract_lets +onlyGivenNames x; clear_value x)

theorem mapStates_kept {P : State → Prop} (cl : Closed P) {s : State} (h : Kept P s) (site : Nat) : Kept P (State.mapStates s site) := by
  unfold State.mapStates
  with_reducible repeat' first | assumption | apply setReg_kept cl | apply put_kept cl | apply Kept.ite | apply Kept.foldl | intro _ _ _ | (extract_lets +onlyGivenNames x; refine (fun (_ : Kept P x) => ?_ : Kept P x → _) ?_; clear_value x; on_goal 2 => unfold x) | (extract_lets +onlyGivenNames x; clear_value x)

theorem writeRowMap_kept {P : State → Prop} (cl : Closed P) {s : State} (h : Kept P s) (site value : Nat) : Kept P (State.writeRowMap s site value) := by
  unfold State.writeRowMap
  with_reducible repeat' first | assumption | apply record_kept cl | apply put_kept cl | apply mapStates_kept cl | apply setReg_kept cl | apply decideRetire_kept cl | apply Kept.ite | apply Kept.foldl | intro _ _ _ | (extract_lets +onlyGivenNames x; refine (fun (_ : Kept P x) => ?_ : Kept P x → _) ?_; clear_value x; on_goal 2 => unfold x) | (extract_lets +onlyGivenNames x; clear_value x)

theorem execMxaRowmapWrite_kept {P : State → Prop} (cl : Closed P) {s : State} (h : Kept P s) (who : Requester) (site value : Nat) : KeptO P (execMxaRowmapWrite who site value s) := by
  unfold execMxaRowmapWrite
  with_reducible repeat' first | assumption | apply atSite_kept cl | apply fwRefused_kept cl | apply writeRowMap_kept cl | apply KeptO.next | apply KeptO.ite | apply Kept.ite

theorem block_kept {P : State → Prop} (cl : Closed P) {s : State} (h : Kept P s) (site was : Nat) : Kept P (State.block s site was) := by
  unfold State.block
  with_reducible repeat' first | assumption | apply put_kept cl | apply Kept.ite

theorem setDemand_kept {P : State → Prop} (cl : Closed P) {s : State} (h : Kept P s) (site : Nat) (d : Demand) : Kept P (State.setDemand s site d) := by
  unfold State.setDemand
  with_reducible repeat' first | assumption | apply block_kept cl | apply put_kept cl | (extract_lets +onlyGivenNames x; refine (fun (_ : Kept P x) => ?_ : Kept P x → _) ?_; clear_value x; on_goal 2 => unfold x) | (extract_lets +onlyGivenNames x; clear_value x) | fail_if_no_progress apply Kept.fields cl

theorem execMxaThrottleWrite_kept {P : State → Prop} (cl : Closed P) {s : State} (h : Kept P s) (who : Requester) (site value : Nat) : KeptO P (execMxaThrottleWrite who site value s) := by
  unfold execMxaThrottleWrite
  with_reducible repeat' first | assumption | apply atSite_kept cl | apply put_kept cl | apply setDemand_kept cl | apply KeptO.next | apply KeptO.ite | apply Kept.ite | (extract_lets +onlyGivenNames x; refine (fun (_ : Kept P x) => ?_ : Kept P x → _) ?_; clear_value x; on_goal 2 => unfold x) | (extract_lets +onlyGivenNames x; clear_value x) | fail_if_no_progress apply Kept.fields cl

theorem execUcodeWrite_kept {P : State → Prop} (cl : Closed P) {s : State} (h : Kept P s) (who : Requester) (site i value : Nat) : KeptO P (execUcodeWrite who site i value s) := by
  unfold execUcodeWrite
  with_reducible repeat' first | assumption | apply atSite_kept cl | apply fwRefused_kept cl | apply record_kept cl | apply put_kept cl | apply setReg_kept cl | apply KeptO.next | apply KeptO.ite | apply Kept.ite

theorem vecStart_kept {P : State → Prop} (cl : Closed P) {s : State} (h : Kept P s) (site pc c : Nat) : Kept P (State.vecStart s site pc c) := by
  unfold State.vecStart
  with_reducible repeat' first | assumption | apply put_kept cl | apply setReg_kept cl | apply setVector_kept cl | (extract_lets +onlyGivenNames x; refine (fun (_ : Kept P x) => ?_ : Kept P x → _) ?_; clear_value x; on_goal 2 => unfold x) | (extract_lets +onlyGivenNames x; clear_value x) | fail_if_no_progress apply Kept.fields cl

theorem execVcoGo_kept {P : State → Prop} (cl : Closed P) {s : State} (h : Kept P s) (who : Requester) (site v value : Nat) : KeptO P (execVcoGo who site v value s) := by
  unfold execVcoGo
  with_reducible repeat' first | assumption | apply atSite_kept cl | apply fwRefused_kept cl | apply put_kept cl | apply raiseVector_kept cl | apply vecStart_kept cl | apply KeptO.next | apply KeptO.ite | apply Kept.ite | apply Kept.foldl | intro _ _ _ | (extract_lets +onlyGivenNames x; refine (fun (_ : Kept P x) => ?_ : Kept P x → _) ?_; clear_value x; on_goal 2 => unfold x) | (extract_lets +onlyGivenNames x; clear_value x)

theorem execVcoModeWrite_kept {P : State → Prop} (cl : Closed P) {s : State} (h : Kept P s) (who : Requester) (site value : Nat) : KeptO P (execVcoModeWrite who site value s) := by
  unfold execVcoModeWrite
  with_reducible repeat' first | assumption | apply atSite_kept cl | apply fwRefused_kept cl | apply put_kept cl | apply record_kept cl | apply KeptO.next | apply KeptO.ite | apply Kept.ite

theorem closeWindow_kept {P : State → Prop} (cl : Closed P) {s : State} (h : Kept P s) : Kept P (State.closeWindow s) := by
  unfold State.closeWindow
  with_reducible repeat' first | assumption | apply put_kept cl

theorem readyRefresh_kept {P : State → Prop} (cl : Closed P) {s : State} (h : Kept P s) : Kept P (State.readyRefresh s) := by
  unfold State.readyRefresh
  with_reducible repeat' first | assumption | apply hubEvent_kept cl | apply put_kept cl | apply closeWindow_kept cl | apply Kept.ite | (extract_lets +onlyGivenNames x; refine (fun (_ : Kept P x) => ?_ : Kept P x → _) ?_; clear_value x; on_goal 2 => unfold x) | (extract_lets +onlyGivenNames x; clear_value x)

theorem readyUnits_kept {P : State → Prop} (cl : Closed P) {s : State} (h : Kept P s) : Kept P (State.readyUnits s) := by
  unfold State.readyUnits
  with_reducible repeat' first | assumption | apply putSat_kept cl

theorem execCcoFwWrite_kept {P : State → Prop} (cl : Closed P) {s : State} (h : Kept P s) (who : Requester) (site c value : Nat) : KeptO P (execCcoFwWrite who site c value s) := by
  unfold execCcoFwWrite
  with_reducible repeat' first | assumption | apply atSite_kept cl | apply put_kept cl | apply readyRefresh_kept cl | apply readyUnits_kept cl | apply KeptO.next | apply KeptO.ite | apply Kept.ite | (extract_lets +onlyGivenNames x; refine (fun (_ : Kept P x) => ?_ : Kept P x → _) ?_; clear_value x; on_goal 2 => unfold x) | (extract_lets +onlyGivenNames x; clear_value x)

theorem wdogWrite_kept {P : State → Prop} (cl : Closed P) {s : State} (h : Kept P s) (who : Requester) (site c value : Nat) : Kept P (State.wdogWrite s who site c value) := by
  unfold State.wdogWrite
  with_reducible repeat' first | assumption | apply put_kept cl | apply Kept.ite

theorem execCcoWdogKick_kept {P : State → Prop} (cl : Closed P) {s : State} (h : Kept P s) (who : Requester) (site c : Nat) : KeptO P (execCcoWdogKick who site c s) := by
  unfold execCcoWdogKick
  with_reducible repeat' first | assumption | apply atSite_kept cl | apply put_kept cl | apply setControl_kept cl | apply KeptO.next | apply KeptO.ite | apply Kept.ite | (extract_lets +onlyGivenNames x; refine (fun (_ : Kept P x) => ?_ : Kept P x → _) ?_; clear_value x; on_goal 2 => unfold x) | (extract_lets +onlyGivenNames x; clear_value x) | fail_if_no_progress apply Kept.fields cl

theorem fatalCore_kept {P : State → Prop} (cl : Closed P) {s : State} (h : Kept P s) (site c : Nat) (cause code value : Nat) : Kept P (State.fatalCore s site c cause code value) := by
  unfold State.fatalCore
  with_reducible repeat' first | assumption | apply put_kept cl | apply record_kept cl | apply abortPass_kept cl | apply readyRefresh_kept cl | apply decideRetire_kept cl | (extract_lets +onlyGivenNames x; refine (fun (_ : Kept P x) => ?_ : Kept P x → _) ?_; clear_value x; on_goal 2 => unfold x) | (extract_lets +onlyGivenNames x; clear_value x)

theorem execCcoFatalWrite_kept {P : State → Prop} (cl : Closed P) {s : State} (h : Kept P s) (who : Requester) (site c value : Nat) : KeptO P (execCcoFatalWrite who site c value s) := by
  unfold execCcoFatalWrite
  with_reducible repeat' first | assumption | apply atSite_kept cl | apply fatalCore_kept cl | apply KeptO.next | apply KeptO.ite | apply Kept.ite

theorem mbxType_kept {P : State → Prop} (cl : Closed P) {s : State} (h : Kept P s) (site c : Nat) : Kept P (State.mbxType s site c) := by
  unfold State.mbxType
  with_reducible repeat' first | assumption | apply record_kept cl | apply put_kept cl | apply addSat_kept cl

theorem mbxFull_kept {P : State → Prop} (cl : Closed P) {s : State} (h : Kept P s) (site c : Nat) : Kept P (State.mbxFull s site c) := by
  unfold State.mbxFull
  with_reducible repeat' first | assumption | apply record_kept cl | apply put_kept cl | apply addSat_kept cl

theorem mbxPush_kept {P : State → Prop} (cl : Closed P) {s : State} (h : Kept P s) (site c : Nat) (m : Message) (src : Nat) : Kept P (State.mbxPush s site c m src) := by
  unfold State.mbxPush
  with_reducible repeat' first | assumption | apply mbxType_kept cl | apply mbxFull_kept cl | apply inEnqueue_kept cl | apply Kept.ite

theorem execCcoMbxInPush_kept {P : State → Prop} (cl : Closed P) {s : State} (h : Kept P s) (who : Requester) (site c value : Nat) : KeptO P (execCcoMbxInPush who site c value s) := by
  unfold execCcoMbxInPush
  with_reducible repeat' first | assumption | apply atSite_kept cl | apply mbxPush_kept cl | apply KeptO.next | apply KeptO.ite | apply Kept.ite | (extract_lets +onlyGivenNames x; refine (fun (_ : Kept P x) => ?_ : Kept P x → _) ?_; clear_value x; on_goal 2 => unfold x) | (extract_lets +onlyGivenNames x; clear_value x)

theorem execCcoMbxOutPop_kept {P : State → Prop} (cl : Closed P) {s : State} (h : Kept P s) (who : Requester) (site c value : Nat) : KeptO P (execCcoMbxOutPop who site c value s) := by
  unfold execCcoMbxOutPop
  with_reducible repeat' first | assumption | apply atSite_kept cl | apply irq_kept cl | apply mbxShow_kept cl | apply setControl_kept cl | apply KeptO.next | apply KeptO.ite | apply Kept.ite | (extract_lets +onlyGivenNames x; refine (fun (_ : Kept P x) => ?_ : Kept P x → _) ?_; clear_value x; on_goal 2 => unfold x) | (extract_lets +onlyGivenNames x; clear_value x) | fail_if_no_progress apply Kept.fields cl

theorem strErr_kept {P : State → Prop} (cl : Closed P) {s : State} (h : Kept P s) (site code index : Nat) : Kept P (State.strErr s site code index) := by
  unfold State.strErr
  with_reducible repeat' first | assumption | apply put_kept cl | apply setDie_kept cl | apply Kept.ite | (extract_lets +onlyGivenNames x; refine (fun (_ : Kept P x) => ?_ : Kept P x → _) ?_; clear_value x; on_goal 2 => unfold x) | (extract_lets +onlyGivenNames x; clear_value x) | fail_if_no_progress apply Kept.fields cl

theorem rejectList_kept {P : State → Prop} (cl : Closed P) {s : State} (h : Kept P s) (site code index : Nat) : Kept P (State.rejectList s site code index) := by
  unfold State.rejectList
  with_reducible repeat' first | assumption | apply abortPass_kept cl | apply record_kept cl | apply strErr_kept cl

theorem admittedBits_kept {P : State → Prop} (cl : Closed P) {s : State} (h : Kept P s) (site : Nat) : Kept P (State.admittedBits s site) := by
  unfold State.admittedBits
  with_reducible repeat' first | assumption | apply put_kept cl | apply putSat_kept cl | (extract_lets +onlyGivenNames x; refine (fun (_ : Kept P x) => ?_ : Kept P x → _) ?_; clear_value x; on_goal 2 => unfold x) | (extract_lets +onlyGivenNames x; clear_value x)

theorem execDescriptorListAdmit_kept {P : State → Prop} (cl : Closed P) {s : State} (h : Kept P s) (who : Requester) (site value : Nat) : KeptO P (execDescriptorListAdmit who site value s) := by
  unfold execDescriptorListAdmit
  with_reducible repeat' first | assumption | apply atSite_kept cl | apply fwRefused_kept cl | apply rejectList_kept cl | apply admittedBits_kept cl | apply setDie_kept cl | apply KeptO.next | apply KeptO.ite | apply Kept.ite | (extract_lets +onlyGivenNames x; refine (fun (_ : Kept P x) => ?_ : Kept P x → _) ?_; clear_value x; on_goal 2 => unfold x) | (extract_lets +onlyGivenNames x; clear_value x) | split

theorem handleJudge_kept {P : State → Prop} (cl : Closed P) {s : State} (h : Kept P s) (site h_ : Nat) : Kept P (State.handleJudge s site h_) := by
  unfold State.handleJudge
  with_reducible repeat' first | assumption | apply setReg_kept cl | (extract_lets +onlyGivenNames x; refine (fun (_ : Kept P x) => ?_ : Kept P x → _) ?_; clear_value x; on_goal 2 => unfold x) | (extract_lets +onlyGivenNames x; clear_value x)

theorem execBhtWrite_kept {P : State → Prop} (cl : Closed P) {s : State} (h : Kept P s) (who : Requester) (site h_ : Nat) (k value : Nat) : KeptO P (execBhtWrite who site h_ k value s) := by
  unfold execBhtWrite
  with_reducible repeat' first | assumption | apply atSite_kept cl | apply raiseGelat_kept cl | apply setReg_kept cl | apply handleJudge_kept cl | apply KeptO.next | apply KeptO.ite | apply Kept.ite | (extract_lets +onlyGivenNames x; refine (fun (_ : Kept P x) => ?_ : Kept P x → _) ?_; clear_value x; on_goal 2 => unfold x) | (extract_lets +onlyGivenNames x; clear_value x) | fail_if_no_progress apply Kept.fields cl | split

theorem execGltRepairRetry_kept {P : State → Prop} (cl : Closed P) {s : State} (h : Kept P s) (who : Requester) (site : Nat) : KeptO P (execGltRepairRetry who site s) := by
  unfold execGltRepairRetry
  with_reducible repeat' first | assumption | apply atSite_kept cl | apply setGelat_kept cl | apply put_kept cl | apply repairCount_kept cl | apply KeptO.next | apply KeptO.ite | apply Kept.ite | apply Kept.foldl | intro _ _ _ | (extract_lets +onlyGivenNames x; refine (fun (_ : Kept P x) => ?_ : Kept P x → _) ?_; clear_value x; on_goal 2 => unfold x) | (extract_lets +onlyGivenNames x; clear_value x) | fail_if_no_progress apply Kept.fields cl

theorem atHub_kept {P : State → Prop} (cl : Closed P) {s : State} (h : Kept P s) (who : Requester) (addr : Nat) {k : Host.Outcome State Fault Refusal} (hk : KeptO P k) : KeptO P (State.atHub s who addr k) := by
  unfold State.atHub
  with_reducible repeat' first | assumption | apply hostErr_kept cl | exact hk | apply KeptO.next | apply KeptO.ite | apply Kept.ite

theorem tableRefused_kept {P : State → Prop} (cl : Closed P) {s : State} (h : Kept P s) (node : Nat) : Kept P (State.tableRefused s node) := by
  unfold State.tableRefused
  with_reducible repeat' first | assumption | apply raiseMesh_kept cl

theorem execRouteTableWrite_kept {P : State → Prop} (cl : Closed P) {s : State} (h : Kept P s) (who : Requester) (node i value : Nat) (mcast : Bool) : KeptO P (execRouteTableWrite who node i value mcast s) := by
  unfold execRouteTableWrite
  with_reducible repeat' first | assumption | apply atHub_kept cl | apply atSite_kept cl | apply tableRefused_kept cl | apply setReg_kept cl | apply KeptO.next | apply KeptO.fault | apply KeptO.refused | apply KeptO.ite | apply Kept.ite | apply Kept.foldl | intro _ _ _ | (extract_lets +onlyGivenNames x; refine (fun (_ : Kept P x) => ?_ : Kept P x → _) ?_; clear_value x; on_goal 2 => unfold x) | (extract_lets +onlyGivenNames x; clear_value x) | split

theorem treeBad_kept {P : State → Prop} (cl : Closed P) {s : State} (h : Kept P s) (site : Nat) : Kept P (State.treeBad s site) := by
  unfold State.treeBad
  with_reducible repeat' first | assumption | apply put_kept cl | apply Kept.foldl | intro _ _ _

theorem execTreeEntryWrite_kept {P : State → Prop} (cl : Closed P) {s : State} (h : Kept P s) (who : Requester) (site t value : Nat) : KeptO P (execTreeEntryWrite who site t value s) := by
  unfold execTreeEntryWrite
  with_reducible repeat' first | assumption | apply atSite_kept cl | apply tableRefused_kept cl | apply treeBad_kept cl | apply setReg_kept cl | apply KeptO.next | apply KeptO.ite | apply Kept.ite

theorem execRedDrainWrite_kept {P : State → Prop} (cl : Closed P) {s : State} (h : Kept P s) (who : Requester) (site value : Nat) : KeptO P (execRedDrainWrite who site value s) := by
  unfold execRedDrainWrite
  with_reducible repeat' first | assumption | apply atSite_kept cl | apply record_kept cl | apply tableRefused_kept cl | apply setReg_kept cl | apply KeptO.next | apply KeptO.ite | apply Kept.ite

theorem siteWrite_kept {P : State → Prop} (cl : Closed P) {s : State} (h : Kept P s) (who : Requester) (b site : Nat) (i j value : Nat) : KeptOO P (siteWrite who b site i j value s) := by
  unfold siteWrite
  with_reducible repeat' first | assumption | apply execRerunGo_kept cl | apply execRowGo_kept cl | apply execMxaRowmapWrite_kept cl | apply execMxaThrottleWrite_kept cl | apply execUcodeWrite_kept cl | apply execVcoGo_kept cl | apply execVcoModeWrite_kept cl | apply execCcoFwWrite_kept cl | apply atSite_kept cl | apply wdogWrite_kept cl | apply execCcoWdogKick_kept cl | apply execCcoFatalWrite_kept cl | apply execCcoMbxInPush_kept cl | apply execCcoMbxOutPop_kept cl | apply execDescriptorListAdmit_kept cl | apply execBhtWrite_kept cl | apply execGltRepairRetry_kept cl | apply fwRefused_kept cl | apply execRouteTableWrite_kept cl | apply execTreeEntryWrite_kept cl | apply execRedDrainWrite_kept cl | apply KeptOO.some | apply KeptOO.none | apply KeptO.next | apply KeptOO.ite | apply KeptO.ite | apply KeptOO.or | apply Kept.ofNext (by assumption) | apply Kept.ite

theorem queueErr_kept {P : State → Prop} (cl : Closed P) {s : State} (h : Kept P s) (q code : Nat) : Kept P (State.queueErr s q code) := by
  unfold State.queueErr
  with_reducible repeat' first | assumption | apply record_kept cl

theorem cqLog_kept {P : State → Prop} (cl : Closed P) {s : State} (h : Kept P s) (q n : Nat) : Kept P (State.cqLog s q n) := by
  unfold State.cqLog
  with_reducible repeat' first | assumption | apply queueErr_kept cl | apply put_kept cl | apply Kept.ite

theorem queueEnable_kept {P : State → Prop} (cl : Closed P) {s : State} (h : Kept P s) (q : Nat) (on : Bool) : Kept P (State.queueEnable s q on) := by
  unfold State.queueEnable
  with_reducible repeat' first | assumption | apply put_kept cl | apply Kept.ite | (extract_lets +onlyGivenNames x; refine (fun (_ : Kept P x) => ?_ : Kept P x → _) ?_; clear_value x; on_goal 2 => unfold x) | (extract_lets +onlyGivenNames x; clear_value x) | fail_if_no_progress apply Kept.fields cl

theorem queueAbort_kept {P : State → Prop} (cl : Closed P) {s : State} (h : Kept P s) (q : Nat) : Kept P (State.queueAbort s q) := by
  unfold State.queueAbort
  with_reducible repeat' first | assumption | apply abortPass_kept cl | apply put_kept cl | apply Kept.ite

theorem complete_kept {P : State → Prop} (cl : Closed P) {s : State} (h : Kept P s) (q : Nat) (ws : List Word) (irq ok : Bool) : Kept P (State.complete s q ws irq ok) := by
  unfold State.complete
  with_reducible repeat' first | assumption | (extract_lets +onlyGivenNames x; refine (fun (_ : Kept P x) => ?_ : Kept P x → _) ?_; clear_value x; on_goal 2 => unfold x) | (extract_lets +onlyGivenNames x; clear_value x) | fail_if_no_progress apply Kept.fields cl

theorem takeHead_kept {P : State → Prop} (cl : Closed P) {s : State} (h : Kept P s) (q : Nat) : Kept P (State.takeHead s q) := by
  unfold State.takeHead
  with_reducible repeat' first | assumption | apply put_kept cl

theorem flushQueue_kept {P : State → Prop} (cl : Closed P) {s : State} (h : Kept P s) (q a1 : Nat) : Kept P (State.flushQueue q a1 s) := by
  induction a1 generalizing s with
  | zero =>
    unfold State.flushQueue
    with_reducible repeat' first | assumption | apply complete_kept cl | apply takeHead_kept cl | apply Kept.ite | (extract_lets +onlyGivenNames x; refine (fun (_ : Kept P x) => ?_ : Kept P x → _) ?_; clear_value x; on_goal 2 => unfold x) | (extract_lets +onlyGivenNames x; clear_value x)
  | succ n ih =>
    unfold State.flushQueue
    with_reducible repeat' first | assumption | apply ih | apply complete_kept cl | apply takeHead_kept cl | apply Kept.ite | (extract_lets +onlyGivenNames x; refine (fun (_ : Kept P x) => ?_ : Kept P x → _) ?_; clear_value x; on_goal 2 => unfold x) | (extract_lets +onlyGivenNames x; clear_value x)

theorem queueFlush_kept {P : State → Prop} (cl : Closed P) {s : State} (h : Kept P s) (q : Nat) : Kept P (State.queueFlush s q) := by
  unfold State.queueFlush
  with_reducible repeat' first | assumption | apply flushQueue_kept cl | apply Kept.ite

theorem writeSqCtrl_kept {P : State → Prop} (cl : Closed P) {s : State} (h : Kept P s) (q value : Nat) : Kept P (State.writeSqCtrl s q value) := by
  unfold State.writeSqCtrl
  with_reducible repeat' first | assumption | apply put_kept cl | apply cqLog_kept cl | apply queueEnable_kept cl | apply queueAbort_kept cl | apply queueFlush_kept cl | apply Kept.ite | (extract_lets +onlyGivenNames x; refine (fun (_ : Kept P x) => ?_ : Kept P x → _) ?_; clear_value x; on_goal 2 => unfold x) | (extract_lets +onlyGivenNames x; clear_value x)

theorem execSqEnable_kept {P : State → Prop} (cl : Closed P) {s : State} (h : Kept P s) (who : Requester) (q value : Nat) : KeptO P (execSqEnable who q value s) := by
  unfold execSqEnable
  with_reducible repeat' first | assumption | apply atHub_kept cl | apply writeSqCtrl_kept cl | apply KeptO.next | apply KeptO.fault | apply KeptO.refused | apply KeptO.ite | apply Kept.ite | apply Kept.foldl | intro _ _ _ | (extract_lets +onlyGivenNames x; refine (fun (_ : Kept P x) => ?_ : Kept P x → _) ?_; clear_value x; on_goal 2 => unfold x) | (extract_lets +onlyGivenNames x; clear_value x) | fail_if_no_progress apply Kept.fields cl | split

theorem execSqDoorbell_kept {P : State → Prop} (cl : Closed P) {s : State} (h : Kept P s) (who : Requester) (q value : Nat) : KeptO P (execSqDoorbell who q value s) := by
  unfold execSqDoorbell
  with_reducible repeat' first | assumption | apply atHub_kept cl | apply queueErr_kept cl | apply put_kept cl | apply KeptO.next | apply KeptO.ite | apply Kept.ite

theorem execSqCqConfig_kept {P : State → Prop} (cl : Closed P) {s : State} (h : Kept P s) (who : Requester) (q : Nat) (base : Bool) (value : Nat) : KeptO P (execSqCqConfig who q base value s) := by
  unfold execSqCqConfig
  with_reducible repeat' first | assumption | apply atHub_kept cl | apply queueErr_kept cl | apply setReg_kept cl | apply cqLog_kept cl | apply KeptO.next | apply KeptO.ite | apply Kept.ite

theorem execCqHeadWrite_kept {P : State → Prop} (cl : Closed P) {s : State} (h : Kept P s) (who : Requester) (q value : Nat) : KeptO P (execCqHeadWrite who q value s) := by
  unfold execCqHeadWrite
  with_reducible repeat' first | assumption | apply atHub_kept cl | apply queueErr_kept cl | apply put_kept cl | apply KeptO.next | apply KeptO.ite | apply Kept.ite

theorem execDpdGoldWrite_kept {P : State → Prop} (cl : Closed P) {s : State} (h : Kept P s) (who : Requester) (stack value : Nat) : KeptO P (execDpdGoldWrite who stack value s) := by
  unfold execDpdGoldWrite
  with_reducible repeat' first | assumption | apply atHub_kept cl | apply record_kept cl | apply setReg_kept cl | apply KeptO.next | apply KeptO.ite | apply Kept.ite | (extract_lets +onlyGivenNames x; refine (fun (_ : Kept P x) => ?_ : Kept P x → _) ?_; clear_value x; on_goal 2 => unfold x) | (extract_lets +onlyGivenNames x; clear_value x)

theorem haltedBits_kept {P : State → Prop} (cl : Closed P) {s : State} (h : Kept P s) (site : Nat) : Kept P (State.haltedBits s site) := by
  unfold State.haltedBits
  with_reducible repeat' first | assumption | apply put_kept cl | apply setReg_kept cl | apply Kept.ite | (extract_lets +onlyGivenNames x; refine (fun (_ : Kept P x) => ?_ : Kept P x → _) ?_; clear_value x; on_goal 2 => unfold x) | (extract_lets +onlyGivenNames x; clear_value x) | split

theorem wakeEntry_kept {P : State → Prop} (cl : Closed P) {s : State} (h : Kept P s) (e : Nat) : Kept P (State.wakeEntry s e) := by
  unfold State.wakeEntry
  with_reducible repeat' first | assumption | apply haltedBits_kept cl | apply setDie_kept cl | apply Kept.ite | apply Kept.foldl | intro _ _ _ | (extract_lets +onlyGivenNames x; refine (fun (_ : Kept P x) => ?_ : Kept P x → _) ?_; clear_value x; on_goal 2 => unfold x) | (extract_lets +onlyGivenNames x; clear_value x) | fail_if_no_progress apply Kept.fields cl

theorem execHubRwtWrite_kept {P : State → Prop} (cl : Closed P) {s : State} (h : Kept P s) (who : Requester) (e value : Nat) : KeptO P (execHubRwtWrite who e value s) := by
  unfold execHubRwtWrite
  with_reducible repeat' first | assumption | apply atHub_kept cl | apply setReg_kept cl | apply wakeEntry_kept cl | apply KeptO.next | (extract_lets +onlyGivenNames x; refine (fun (_ : Kept P x) => ?_ : Kept P x → _) ?_; clear_value x; on_goal 2 => unfold x) | (extract_lets +onlyGivenNames x; clear_value x) | fail_if_no_progress apply Kept.fields cl

theorem execHubRwtSync_kept {P : State → Prop} (cl : Closed P) {s : State} (h : Kept P s) (who : Requester) (value : Nat) : KeptO P (execHubRwtSync who value s) := by
  unfold execHubRwtSync
  with_reducible repeat' first | assumption | apply atHub_kept cl | apply put_kept cl | apply KeptO.next | apply KeptO.ite | apply Kept.ite

theorem execMshVerify_kept {P : State → Prop} (cl : Closed P) {s : State} (h : Kept P s) (who : Requester) (value : Nat) : KeptO P (execMshVerify who value s) := by
  unfold execMshVerify
  with_reducible repeat' first | assumption | apply atHub_kept cl | apply put_kept cl | apply verifyRoutes_kept cl | apply KeptO.next | apply KeptO.ite | apply Kept.ite

theorem execBarRdSeqWrite_kept {P : State → Prop} (cl : Closed P) {s : State} (h : Kept P s) (_who : Requester) (value : Nat) : KeptO P (execBarRdSeqWrite _who value s) := by
  unfold execBarRdSeqWrite
  with_reducible repeat' first | assumption | apply atDawn_kept cl | apply setReg_kept cl | apply put_kept cl | apply KeptO.next | apply Kept.foldl | intro _ _ _ | (extract_lets +onlyGivenNames x; refine (fun (_ : Kept P x) => ?_ : Kept P x → _) ?_; clear_value x; on_goal 2 => unfold x) | (extract_lets +onlyGivenNames x; clear_value x) | split

theorem snapshot_kept {P : State → Prop} (cl : Closed P) {s : State} (h : Kept P s) : Kept P (State.snapshot s) := by
  unfold State.snapshot
  with_reducible repeat' first | assumption | apply put_kept cl | apply Kept.foldl | intro _ _ _ | (extract_lets +onlyGivenNames x; refine (fun (_ : Kept P x) => ?_ : Kept P x → _) ?_; clear_value x; on_goal 2 => unfold x) | (extract_lets +onlyGivenNames x; clear_value x)

theorem execPwrSnap_kept {P : State → Prop} (cl : Closed P) {s : State} (h : Kept P s) (_who : Requester) (value : Nat) : KeptO P (execPwrSnap _who value s) := by
  unfold execPwrSnap
  with_reducible repeat' first | assumption | apply atDawn_kept cl | apply snapshot_kept cl | apply KeptO.next | apply KeptO.ite | apply Kept.ite

theorem thermStatus_kept {P : State → Prop} (cl : Closed P) {s : State} (h : Kept P s) : Kept P (State.thermStatus s) := by
  unfold State.thermStatus
  with_reducible repeat' first | assumption | apply putSat_kept cl | apply put_kept cl | apply send_kept cl | apply Kept.ite | (extract_lets +onlyGivenNames x; refine (fun (_ : Kept P x) => ?_ : Kept P x → _) ?_; clear_value x; on_goal 2 => unfold x) | (extract_lets +onlyGivenNames x; clear_value x)

theorem execThmEmergClear_kept {P : State → Prop} (cl : Closed P) {s : State} (h : Kept P s) (_who : Requester) (value : Nat) : KeptO P (execThmEmergClear _who value s) := by
  unfold execThmEmergClear
  with_reducible repeat' first | assumption | apply atDawn_kept cl | apply put_kept cl | apply thermStatus_kept cl | apply KeptO.next | apply KeptO.ite | apply Kept.ite | (extract_lets +onlyGivenNames x; refine (fun (_ : Kept P x) => ?_ : Kept P x → _) ?_; clear_value x; on_goal 2 => unfold x) | (extract_lets +onlyGivenNames x; clear_value x) | fail_if_no_progress apply Kept.fields cl

theorem execClearSuspect_kept {P : State → Prop} (cl : Closed P) {s : State} (h : Kept P s) (_who : Requester) (value : Nat) : KeptO P (execClearSuspect _who value s) := by
  unfold execClearSuspect
  with_reducible repeat' first | assumption | apply atDawn_kept cl | apply put_kept cl | apply KeptO.next | apply KeptO.ite | apply Kept.ite | (extract_lets +onlyGivenNames x; refine (fun (_ : Kept P x) => ?_ : Kept P x → _) ?_; clear_value x; on_goal 2 => unfold x) | (extract_lets +onlyGivenNames x; clear_value x) | fail_if_no_progress apply Kept.fields cl

theorem raiseClk_kept {P : State → Prop} (cl : Closed P) {s : State} (h : Kept P s) (code node : Nat) (unit action : Nat) (details : List Nat) : Kept P (State.raiseClk s code node unit action details) := by
  unfold State.raiseClk
  with_reducible repeat' first | assumption | apply record_kept cl | apply put_kept cl | apply pushLog_kept cl | apply Kept.ite | (extract_lets +onlyGivenNames x; refine (fun (_ : Kept P x) => ?_ : Kept P x → _) ?_; clear_value x; on_goal 2 => unfold x) | (extract_lets +onlyGivenNames x; clear_value x)

theorem unitMessage_kept {P : State → Prop} (cl : Closed P) {s : State} (h : Kept P s) (kind node : Nat) (ws : List Nat) : Kept P (State.unitMessage s kind node ws) := by
  unfold State.unitMessage
  with_reducible repeat' first | assumption | apply hubMessage_kept cl | apply send_kept cl | apply Kept.ite

theorem armNow_kept {P : State → Prop} (cl : Closed P) {s : State} (h : Kept P s) : Kept P (State.armNow s) := by
  unfold State.armNow
  with_reducible repeat' first | assumption | apply put_kept cl | apply addWrap_kept cl | apply unitMessage_kept cl | apply Kept.ite | apply Kept.foldl | intro _ _ _ | (extract_lets +onlyGivenNames x; refine (fun (_ : Kept P x) => ?_ : Kept P x → _) ?_; clear_value x; on_goal 2 => unfold x) | (extract_lets +onlyGivenNames x; clear_value x) | fail_if_no_progress apply Kept.fields cl

theorem execOpChangeRequest_kept {P : State → Prop} (cl : Closed P) {s : State} (h : Kept P s) (who : Requester) (value : Nat) : KeptO P (execOpChangeRequest who value s) := by
  unfold execOpChangeRequest
  with_reducible repeat' first | assumption | apply atHub_kept cl | apply put_kept cl | apply hubEvent_kept cl | apply raiseClk_kept cl | apply armNow_kept cl | apply KeptO.next | apply KeptO.ite | apply Kept.ite | (extract_lets +onlyGivenNames x; refine (fun (_ : Kept P x) => ?_ : Kept P x → _) ?_; clear_value x; on_goal 2 => unfold x) | (extract_lets +onlyGivenNames x; clear_value x) | fail_if_no_progress apply Kept.fields cl

theorem setPtp_kept {P : State → Prop} (cl : Closed P) {s : State} (h : Kept P s) (p : PtpState) : Kept P (State.setPtp s p) := by
  unfold State.setPtp
  with_reducible repeat' first | assumption | (extract_lets +onlyGivenNames x; refine (fun (_ : Kept P x) => ?_ : Kept P x → _) ?_; clear_value x; on_goal 2 => unfold x) | (extract_lets +onlyGivenNames x; clear_value x) | fail_if_no_progress apply Kept.fields cl

theorem execPtpEnable_kept {P : State → Prop} (cl : Closed P) {s : State} (h : Kept P s) (_who : Requester) (value : Nat) : KeptO P (execPtpEnable _who value s) := by
  unfold execPtpEnable
  with_reducible repeat' first | assumption | apply atDawn_kept cl | apply put_kept cl | apply setPtp_kept cl | apply KeptO.next | apply KeptO.ite | apply Kept.ite | (extract_lets +onlyGivenNames x; refine (fun (_ : Kept P x) => ?_ : Kept P x → _) ?_; clear_value x; on_goal 2 => unfold x) | (extract_lets +onlyGivenNames x; clear_value x)

theorem hubWrite_kept {P : State → Prop} (cl : Closed P) {s : State} (h : Kept P s) (who : Requester) (b i : Nat) (j value : Nat) : KeptOO P (hubWrite who b i j value s) := by
  unfold hubWrite
  with_reducible repeat' first | assumption | apply execSqEnable_kept cl | apply execSqDoorbell_kept cl | apply execSqCqConfig_kept cl | apply execCqHeadWrite_kept cl | apply execDpdGoldWrite_kept cl | apply execHubRwtWrite_kept cl | apply execHubRwtSync_kept cl | apply execMshVerify_kept cl | apply execRouteTableWrite_kept cl | apply execBarRdSeqWrite_kept cl | apply execPwrSnap_kept cl | apply execThmEmergClear_kept cl | apply execClearSuspect_kept cl | apply execOpChangeRequest_kept cl | apply execPtpEnable_kept cl | apply KeptOO.some | apply KeptOO.none | apply KeptO.next | apply KeptOO.ite | apply KeptO.ite | apply KeptOO.or | apply Kept.ofNext (by assumption) | apply Kept.ite

theorem linkGo_kept {P : State → Prop} (cl : Closed P) {s : State} (h : Kept P s) (l : Nat) : Kept P (State.linkGo s l) := by
  unfold State.linkGo
  with_reducible repeat' first | assumption | apply linkPma_kept cl | apply Kept.ite

theorem linkStart_kept {P : State → Prop} (cl : Closed P) {s : State} (h : Kept P s) (l : Nat) : Kept P (State.linkStart s l) := by
  unfold State.linkStart
  with_reducible repeat' first | assumption | apply linkGo_kept cl | apply setLinkSt_kept cl | apply setLink_kept cl | apply Kept.ite | (extract_lets +onlyGivenNames x; refine (fun (_ : Kept P x) => ?_ : Kept P x → _) ?_; clear_value x; on_goal 2 => unfold x) | (extract_lets +onlyGivenNames x; clear_value x)

theorem cndsMove_kept {P : State → Prop} (cl : Closed P) {s : State} (h : Kept P s) (l : Nat) : Kept P (State.cndsMove s l) := by
  unfold State.cndsMove
  with_reducible repeat' first | assumption | apply cndResend_kept cl | apply Kept.ite | apply Kept.foldl | intro _ _ _

theorem leaveUp_kept {P : State → Prop} (cl : Closed P) {s : State} (h : Kept P s) (l st : Nat) : Kept P (State.leaveUp s l st) := by
  unfold State.leaveUp
  with_reducible repeat' first | assumption | apply setLink_kept cl | apply setLinkSt_kept cl | apply raiseLink_kept cl | apply addSat_kept cl | apply cndsMove_kept cl | apply Kept.ite | (extract_lets +onlyGivenNames x; refine (fun (_ : Kept P x) => ?_ : Kept P x → _) ?_; clear_value x; on_goal 2 => unfold x) | (extract_lets +onlyGivenNames x; clear_value x)

theorem retrain_kept {P : State → Prop} (cl : Closed P) {s : State} (h : Kept P s) (l : Nat) : Kept P (State.retrain s l) := by
  unfold State.retrain
  with_reducible repeat' first | assumption | apply leaveUp_kept cl | apply linkPma_kept cl | apply put_kept cl | apply setLink_kept cl | apply Kept.ite | (extract_lets +onlyGivenNames x; refine (fun (_ : Kept P x) => ?_ : Kept P x → _) ?_; clear_value x; on_goal 2 => unfold x) | (extract_lets +onlyGivenNames x; clear_value x)

theorem execLinkEnable_kept {P : State → Prop} (cl : Closed P) {s : State} (h : Kept P s) (who : Requester) (l value : Nat) : KeptO P (execLinkEnable who l value s) := by
  unfold execLinkEnable
  with_reducible repeat' first | assumption | apply atHub_kept cl | apply put_kept cl | apply setLink_kept cl | apply linkStart_kept cl | apply linkPma_kept cl | apply leaveUp_kept cl | apply retrain_kept cl | apply KeptO.next | apply KeptO.ite | apply Kept.ite | (extract_lets +onlyGivenNames x; refine (fun (_ : Kept P x) => ?_ : Kept P x → _) ?_; clear_value x; on_goal 2 => unfold x) | (extract_lets +onlyGivenNames x; clear_value x)

theorem execGalPanelWrite_kept {P : State → Prop} (cl : Closed P) {s : State} (h : Kept P s) (who : Requester) (value : Nat) : KeptO P (execGalPanelWrite who value s) := by
  unfold execGalPanelWrite
  with_reducible repeat' first | assumption | apply atHub_kept cl | apply put_kept cl | apply record_kept cl | apply KeptO.next | apply KeptO.ite | apply Kept.ite | (extract_lets +onlyGivenNames x; refine (fun (_ : Kept P x) => ?_ : Kept P x → _) ?_; clear_value x; on_goal 2 => unfold x) | (extract_lets +onlyGivenNames x; clear_value x)

theorem setConduit_kept {P : State → Prop} (cl : Closed P) {s : State} (h : Kept P s) (c : Nat) (x : Conduit) : Kept P (State.setConduit s c x) := by
  unfold State.setConduit
  with_reducible repeat' first | assumption | (extract_lets +onlyGivenNames x; refine (fun (_ : Kept P x) => ?_ : Kept P x → _) ?_; clear_value x; on_goal 2 => unfold x) | (extract_lets +onlyGivenNames x; clear_value x) | fail_if_no_progress apply Kept.fields cl

theorem raiseCnd_kept {P : State → Prop} (cl : Closed P) {s : State} (h : Kept P s) (c code action : Nat) : Kept P (State.raiseCnd s c code action) := by
  unfold State.raiseCnd
  with_reducible repeat' first | assumption | apply put_kept cl | apply record_kept cl

theorem cndSend_kept {P : State → Prop} (cl : Closed P) {s : State} (h : Kept P s) (c : Nat) (p : GalePacket) : Kept P (State.cndSend s c p).1 := by
  unfold State.cndSend
  with_reducible repeat' first | assumption | apply cndTransmit_kept cl | apply setConduit_kept cl | apply Kept.ite | apply Kept.iteFst | apply Kept.ofFst (by assumption) | (extract_lets +onlyGivenNames x; refine (fun (_ : Kept P x) => ?_ : Kept P x → _) ?_; clear_value x; on_goal 2 => unfold x) | (extract_lets +onlyGivenNames x; refine (fun (_ : Kept P x.1) => ?_ : Kept P x.1 → _) ?_; clear_value x; on_goal 2 => unfold x) | (extract_lets +onlyGivenNames x; clear_value x) | fail_if_no_progress apply Kept.fields cl

theorem cndClosing_kept {P : State → Prop} (cl : Closed P) {s : State} (h : Kept P s) (c : Nat) : Kept P (State.cndClosing s c) := by
  unfold State.cndClosing
  with_reducible repeat' first | assumption | apply cndSend_kept cl | apply Kept.ite | apply Kept.iteFst | apply Kept.ofFst (by assumption) | (extract_lets +onlyGivenNames x; refine (fun (_ : Kept P x) => ?_ : Kept P x → _) ?_; clear_value x; on_goal 2 => unfold x) | (extract_lets +onlyGivenNames x; refine (fun (_ : Kept P x.1) => ?_ : Kept P x.1 → _) ?_; clear_value x; on_goal 2 => unfold x) | (extract_lets +onlyGivenNames x; clear_value x)

theorem cndRequest_kept {P : State → Prop} (cl : Closed P) {s : State} (h : Kept P s) (c : Nat) : Kept P (State.cndRequest s c) := by
  unfold State.cndRequest
  with_reducible repeat' first | assumption | apply put_kept cl | apply setConduit_kept cl | apply cndClosing_kept cl | apply Kept.ite | (extract_lets +onlyGivenNames x; refine (fun (_ : Kept P x) => ?_ : Kept P x → _) ?_; clear_value x; on_goal 2 => unfold x) | (extract_lets +onlyGivenNames x; clear_value x)

theorem execConduitCfgWrite_kept {P : State → Prop} (cl : Closed P) {s : State} (h : Kept P s) (who : Requester) (c reg value : Nat) : KeptO P (execConduitCfgWrite who c reg value s) := by
  unfold execConduitCfgWrite
  with_reducible repeat' first | assumption | apply atHub_kept cl | apply setConduit_kept cl | apply put_kept cl | apply setReg_kept cl | apply raiseCnd_kept cl | apply cndRequest_kept cl | apply KeptO.next | apply KeptO.ite | apply Kept.ite | (extract_lets +onlyGivenNames x; refine (fun (_ : Kept P x) => ?_ : Kept P x → _) ?_; clear_value x; on_goal 2 => unfold x) | (extract_lets +onlyGivenNames x; clear_value x) | split

theorem execRxHeadWrite_kept {P : State → Prop} (cl : Closed P) {s : State} (h : Kept P s) (who : Requester) (c value : Nat) : KeptO P (execRxHeadWrite who c value s) := by
  unfold execRxHeadWrite
  with_reducible repeat' first | assumption | apply atHub_kept cl | apply put_kept cl | apply raiseCnd_kept cl | apply KeptO.next | apply KeptO.ite | apply Kept.ite | (extract_lets +onlyGivenNames x; refine (fun (_ : Kept P x) => ?_ : Kept P x → _) ?_; clear_value x; on_goal 2 => unfold x) | (extract_lets +onlyGivenNames x; clear_value x)

theorem issue_kept {P : State → Prop} (cl : Closed P) {s : State} (h : Kept P s) (node : Nat) (use : ReqUse) (dst : Nat) (write : Bool) (ppa n : Nat) (data : List Nat) (poison : Bool) (rwt : Option Nat) (view : Option (Nat × Nat × Nat)) : Kept P (State.issue s node use dst write ppa n data poison rwt view).1 := by
  unfold State.issue
  with_reducible repeat' first | assumption | apply inject_kept cl | apply Kept.ite | apply Kept.iteFst | apply Kept.ofFst (by assumption) | (extract_lets +onlyGivenNames x; refine (fun (_ : Kept P x) => ?_ : Kept P x → _) ?_; clear_value x; on_goal 2 => unfold x) | (extract_lets +onlyGivenNames x; refine (fun (_ : Kept P x.1) => ?_ : Kept P x.1 → _) ?_; clear_value x; on_goal 2 => unfold x) | (extract_lets +onlyGivenNames x; clear_value x) | fail_if_no_progress apply Kept.fields cl

theorem edgeRead_kept {P : State → Prop} (cl : Closed P) {s : State} (h : Kept P s) (e : Nat) (use : ReqUse) (p n : Nat) : Kept P (State.edgeRead s e use p n).1 := by
  unfold State.edgeRead
  with_reducible repeat' first | assumption | apply issue_kept cl | apply Kept.foldl | apply Kept.foldlFst | apply Kept.ofFst (by assumption) | intro _ _ _ | (extract_lets +onlyGivenNames x; refine (fun (_ : Kept P x) => ?_ : Kept P x → _) ?_; clear_value x; on_goal 2 => unfold x) | (extract_lets +onlyGivenNames x; refine (fun (_ : Kept P x.1) => ?_ : Kept P x.1 → _) ?_; clear_value x; on_goal 2 => unfold x) | (extract_lets +onlyGivenNames x; clear_value x)

theorem cndOp_kept {P : State → Prop} (cl : Closed P) {s : State} (h : Kept P s) (c : Nat) (o : CndOp) : Kept P (State.cndOp s c o) := by
  unfold State.cndOp
  with_reducible repeat' first | assumption | apply setConduit_kept cl | (extract_lets +onlyGivenNames x; refine (fun (_ : Kept P x) => ?_ : Kept P x → _) ?_; clear_value x; on_goal 2 => unfold x) | (extract_lets +onlyGivenNames x; clear_value x) | fail_if_no_progress apply Kept.fields cl

theorem execConduitSendGo_kept {P : State → Prop} (cl : Closed P) {s : State} (h : Kept P s) (who : Requester) (c value : Nat) : KeptO P (execConduitSendGo who c value s) := by
  unfold execConduitSendGo
  with_reducible repeat' first | assumption | apply atHub_kept cl | apply put_kept cl | apply raiseCnd_kept cl | apply edgeRead_kept cl | apply cndOp_kept cl | apply KeptO.next | apply KeptO.ite | apply Kept.ite | apply Kept.iteFst | apply Kept.ofFst (by assumption) | (extract_lets +onlyGivenNames x; refine (fun (_ : Kept P x) => ?_ : Kept P x → _) ?_; clear_value x; on_goal 2 => unfold x) | (extract_lets +onlyGivenNames x; refine (fun (_ : Kept P x.1) => ?_ : Kept P x.1 → _) ?_; clear_value x; on_goal 2 => unfold x) | (extract_lets +onlyGivenNames x; clear_value x)

theorem slotBad_kept {P : State → Prop} (cl : Closed P) {s : State} (h : Kept P s) (e : Nat) (a1 : List Nat) (a2 : Nat) : Kept P (State.slotBad e a1 a2 s) := by
  induction a1 generalizing s a2 with
  | nil =>
    unfold State.slotBad
    with_reducible repeat' first | assumption | apply put_kept cl | apply Kept.ite | (extract_lets +onlyGivenNames x; refine (fun (_ : Kept P x) => ?_ : Kept P x → _) ?_; clear_value x; on_goal 2 => unfold x) | (extract_lets +onlyGivenNames x; clear_value x)
  | cons p ps ih =>
    unfold State.slotBad
    with_reducible repeat' first | assumption | apply ih | apply put_kept cl | apply Kept.ite | (extract_lets +onlyGivenNames x; refine (fun (_ : Kept P x) => ?_ : Kept P x → _) ?_; clear_value x; on_goal 2 => unfold x) | (extract_lets +onlyGivenNames x; clear_value x)

theorem setColl_kept {P : State → Prop} (cl : Closed P) {s : State} (h : Kept P s) (e t : Nat) (x : Coll) : Kept P (State.setColl s e t x) := by
  unfold State.setColl
  with_reducible repeat' first | assumption | apply put_kept cl | (extract_lets +onlyGivenNames x; refine (fun (_ : Kept P x) => ?_ : Kept P x → _) ?_; clear_value x; on_goal 2 => unfold x) | (extract_lets +onlyGivenNames x; clear_value x) | fail_if_no_progress apply Kept.fields cl

theorem slotArm_kept {P : State → Prop} (cl : Closed P) {s : State} (h : Kept P s) (e t : Nat) : Kept P (State.slotArm s e t) := by
  unfold State.slotArm
  with_reducible repeat' first | assumption | apply setColl_kept cl | apply put_kept cl | apply Kept.ite | (extract_lets +onlyGivenNames x; refine (fun (_ : Kept P x) => ?_ : Kept P x → _) ?_; clear_value x; on_goal 2 => unfold x) | (extract_lets +onlyGivenNames x; clear_value x)

theorem execCollSlotWrite_kept {P : State → Prop} (cl : Closed P) {s : State} (h : Kept P s) (who : Requester) (e t : Nat) (k value : Nat) : KeptO P (execCollSlotWrite who e t k value s) := by
  unfold execCollSlotWrite
  with_reducible repeat' first | assumption | apply atHub_kept cl | apply raiseMesh_kept cl | apply setReg_kept cl | apply put_kept cl | apply slotBad_kept cl | apply slotArm_kept cl | apply KeptO.next | apply KeptO.ite | apply Kept.ite | apply Kept.foldl | intro _ _ _ | (extract_lets +onlyGivenNames x; refine (fun (_ : Kept P x) => ?_ : Kept P x → _) ?_; clear_value x; on_goal 2 => unfold x) | (extract_lets +onlyGivenNames x; clear_value x) | split

theorem moduleLinks_kept {P : State → Prop} (cl : Closed P) {s : State} (h : Kept P s) (k : Nat) : Kept P (State.moduleLinks s k) := by
  unfold State.moduleLinks
  with_reducible repeat' first | assumption | apply linkGo_kept cl | apply Kept.foldl | intro _ _ _

theorem cndRelease_kept {P : State → Prop} (cl : Closed P) {s : State} (h : Kept P s) (c : Nat) : Kept P (State.cndRelease s c) := by
  unfold State.cndRelease
  with_reducible repeat' first | assumption | apply answerWrite_kept cl | apply answerRead_kept cl | apply tick_kept cl | apply put_kept cl | apply setConduit_kept cl | apply discardPass_kept cl | apply Kept.ite | apply Kept.foldl | intro _ _ _ | (extract_lets +onlyGivenNames x; refine (fun (_ : Kept P x) => ?_ : Kept P x → _) ?_; clear_value x; on_goal 2 => unfold x) | (extract_lets +onlyGivenNames x; clear_value x) | split

theorem cndCollective_kept {P : State → Prop} (cl : Closed P) {s : State} (h : Kept P s) (c : Nat) : Kept P (State.cndCollective s c) := by
  unfold State.cndCollective
  with_reducible repeat' first | assumption | apply abortPass_kept cl | apply Kept.ite | (extract_lets +onlyGivenNames x; refine (fun (_ : Kept P x) => ?_ : Kept P x → _) ?_; clear_value x; on_goal 2 => unfold x) | (extract_lets +onlyGivenNames x; clear_value x)

theorem cndEnd_kept {P : State → Prop} (cl : Closed P) {s : State} (h : Kept P s) (c st : Nat) : Kept P (State.cndEnd s c st) := by
  unfold State.cndEnd
  with_reducible repeat' first | assumption | apply cndRelease_kept cl | apply put_kept cl | apply raiseCnd_kept cl | apply cndCollective_kept cl | apply Kept.ite | (extract_lets +onlyGivenNames x; refine (fun (_ : Kept P x) => ?_ : Kept P x → _) ?_; clear_value x; on_goal 2 => unfold x) | (extract_lets +onlyGivenNames x; clear_value x)

theorem suspendSlot_kept {P : State → Prop} (cl : Closed P) {s : State} (h : Kept P s) (e t : Nat) : Kept P (State.suspendSlot s e t) := by
  unfold State.suspendSlot
  with_reducible repeat' first | assumption | apply put_kept cl | apply setColl_kept cl

theorem setModule_kept {P : State → Prop} (cl : Closed P) {s : State} (h : Kept P s) (k : Nat) (x : LenModule) : Kept P (State.setModule s k x) := by
  unfold State.setModule
  with_reducible repeat' first | assumption | (extract_lets +onlyGivenNames x; refine (fun (_ : Kept P x) => ?_ : Kept P x → _) ?_; clear_value x; on_goal 2 => unfold x) | (extract_lets +onlyGivenNames x; clear_value x) | fail_if_no_progress apply Kept.fields cl

theorem moduleState_kept {P : State → Prop} (cl : Closed P) {s : State} (h : Kept P s) (k st : Nat) : Kept P (State.moduleState s k st) := by
  unfold State.moduleState
  with_reducible repeat' first | assumption | apply hubEvent_kept cl | apply put_kept cl | apply Kept.ite

theorem quiesce_kept {P : State → Prop} (cl : Closed P) {s : State} (h : Kept P s) (k : Nat) : Kept P (State.quiesce s k) := by
  unfold State.quiesce
  with_reducible repeat' first | assumption | apply cndClosing_kept cl | apply put_kept cl | apply cndEnd_kept cl | apply suspendSlot_kept cl | apply leaveUp_kept cl | apply setModule_kept cl | apply moduleState_kept cl | apply Kept.ite | apply Kept.foldl | intro _ _ _ | (extract_lets +onlyGivenNames x; refine (fun (_ : Kept P x) => ?_ : Kept P x → _) ?_; clear_value x; on_goal 2 => unfold x) | (extract_lets +onlyGivenNames x; clear_value x) | fail_if_no_progress apply Kept.fields cl

theorem execLenQuiesce_kept {P : State → Prop} (cl : Closed P) {s : State} (h : Kept P s) (who : Requester) (k : Nat) : KeptO P (execLenQuiesce who k s) := by
  unfold execLenQuiesce
  with_reducible repeat' first | assumption | apply atHub_kept cl | apply quiesce_kept cl | apply setModule_kept cl | apply put_kept cl | apply KeptO.next | apply KeptO.ite | apply Kept.ite | (extract_lets +onlyGivenNames x; refine (fun (_ : Kept P x) => ?_ : Kept P x → _) ?_; clear_value x; on_goal 2 => unfold x) | (extract_lets +onlyGivenNames x; clear_value x) | fail_if_no_progress apply Kept.fields cl

theorem raiseModule_kept {P : State → Prop} (cl : Closed P) {s : State} (h : Kept P s) (k code : Nat) : Kept P (State.raiseModule s k code) := by
  unfold State.raiseModule
  with_reducible repeat' first | assumption | apply put_kept cl | apply record_kept cl

theorem authStart_kept {P : State → Prop} (cl : Closed P) {s : State} (h : Kept P s) (k : Nat) : Kept P (State.authStart s k) := by
  unfold State.authStart
  with_reducible repeat' first | assumption | apply setModule_kept cl | apply tick_kept cl | apply send_kept cl | (extract_lets +onlyGivenNames x; refine (fun (_ : Kept P x) => ?_ : Kept P x → _) ?_; clear_value x; on_goal 2 => unfold x) | (extract_lets +onlyGivenNames x; clear_value x) | fail_if_no_progress apply Kept.fields cl

theorem moduleIdentify_kept {P : State → Prop} (cl : Closed P) {s : State} (h : Kept P s) (k : Nat) : Kept P (State.moduleIdentify s k) := by
  unfold State.moduleIdentify
  with_reducible repeat' first | assumption | apply put_kept cl | apply moduleState_kept cl | apply raiseModule_kept cl | apply authStart_kept cl | apply Kept.ite | (extract_lets +onlyGivenNames x; refine (fun (_ : Kept P x) => ?_ : Kept P x → _) ?_; clear_value x; on_goal 2 => unfold x) | (extract_lets +onlyGivenNames x; clear_value x) | split

theorem execLenResume_kept {P : State → Prop} (cl : Closed P) {s : State} (h : Kept P s) (who : Requester) (k : Nat) : KeptO P (execLenResume who k s) := by
  unfold execLenResume
  with_reducible repeat' first | assumption | apply atHub_kept cl | apply setLinkSt_kept cl | apply moduleIdentify_kept cl | apply moduleState_kept cl | apply KeptO.next | apply KeptO.ite | apply Kept.ite | apply Kept.foldl | intro _ _ _ | (extract_lets +onlyGivenNames x; refine (fun (_ : Kept P x) => ?_ : Kept P x → _) ?_; clear_value x; on_goal 2 => unfold x) | (extract_lets +onlyGivenNames x; clear_value x)

theorem lenCtrlWrite_kept {P : State → Prop} (cl : Closed P) {s : State} (h : Kept P s) (who : Requester) (k value : Nat) : KeptO P (lenCtrlWrite who k value s) := by
  unfold lenCtrlWrite
  refine atHub_kept cl h _ _ ?_
  extract_lets t
  have h1 : Kept P t := moduleLinks_kept cl (put_kept cl h _ _) _
  clear_value t
  have h2 : KeptO P (if bit value 1 then execLenQuiesce who k t else .next t) := KeptO.ite (execLenQuiesce_kept cl h1 _ _) (KeptO.next h1)
  generalize (if bit value 1 then execLenQuiesce who k t else .next t) = o at h2
  cases o with
  | next u => exact KeptO.ite (execLenResume_kept cl (h2 u rfl) _ _) (KeptO.next (h2 u rfl))
  | fault f => exact KeptO.fault f
  | refused f => exact KeptO.refused f

theorem galeWrite_kept {P : State → Prop} (cl : Closed P) {s : State} (h : Kept P s) (who : Requester) (b i : Nat) (j value : Nat) : KeptOO P (galeWrite who b i j value s) := by
  unfold galeWrite
  with_reducible repeat' first | assumption | apply execLinkEnable_kept cl | apply execGalPanelWrite_kept cl | apply execConduitCfgWrite_kept cl | apply execRxHeadWrite_kept cl | apply execConduitSendGo_kept cl | apply execCollSlotWrite_kept cl | apply lenCtrlWrite_kept cl | apply KeptOO.some | apply KeptOO.none | apply KeptO.next | apply KeptOO.ite | apply KeptO.ite | apply KeptOO.or | apply Kept.ofNext (by assumption) | apply Kept.ite

theorem loadEnd_kept {P : State → Prop} (cl : Closed P) {s : State} (h : Kept P s) (code section_ site : Nat) : Kept P (State.loadEnd s code section_ site) := by
  unfold State.loadEnd
  with_reducible repeat' first | assumption | apply put_kept cl | apply ovcState_kept cl | (extract_lets +onlyGivenNames x; refine (fun (_ : Kept P x) => ?_ : Kept P x → _) ?_; clear_value x; on_goal 2 => unfold x) | (extract_lets +onlyGivenNames x; clear_value x) | fail_if_no_progress apply Kept.fields cl

theorem endHold_kept {P : State → Prop} (cl : Closed P) {s : State} (h : Kept P s) : Kept P (State.endHold s) := by
  unfold State.endHold
  with_reducible repeat' first | assumption | apply put_kept cl | apply Kept.ite

theorem commitAbort_kept {P : State → Prop} (cl : Closed P) {s : State} (h : Kept P s) (code site : Nat) : Kept P (State.commitAbort s code site) := by
  unfold State.commitAbort
  with_reducible repeat' first | assumption | apply put_kept cl | apply unitMessage_kept cl | apply hubEvent_kept cl | apply loadEnd_kept cl | apply endHold_kept cl | apply armNow_kept cl | apply Kept.ite | apply Kept.foldl | intro _ _ _ | (extract_lets +onlyGivenNames x; refine (fun (_ : Kept P x) => ?_ : Kept P x → _) ?_; clear_value x; on_goal 2 => unfold x) | (extract_lets +onlyGivenNames x; clear_value x) | fail_if_no_progress apply Kept.fields cl

theorem imageAbandon_kept {P : State → Prop} (cl : Closed P) {s : State} (h : Kept P s) : Kept P (State.imageAbandon s) := by
  unfold State.imageAbandon
  with_reducible repeat' first | assumption | apply loadFail_kept cl | apply commitAbort_kept cl | apply endHold_kept cl | apply loadEnd_kept cl | apply Kept.ite | (extract_lets +onlyGivenNames x; refine (fun (_ : Kept P x) => ?_ : Kept P x → _) ?_; clear_value x; on_goal 2 => unfold x) | (extract_lets +onlyGivenNames x; clear_value x) | fail_if_no_progress apply Kept.fields cl

theorem imageLoad_kept {P : State → Prop} (cl : Closed P) {s : State} (h : Kept P s) : Kept P (State.imageLoad s) := by
  unfold State.imageLoad
  with_reducible repeat' first | assumption | apply ovcState_kept cl | apply record_kept cl | apply Kept.ite | (extract_lets +onlyGivenNames x; refine (fun (_ : Kept P x) => ?_ : Kept P x → _) ?_; clear_value x; on_goal 2 => unfold x) | (extract_lets +onlyGivenNames x; clear_value x) | fail_if_no_progress apply Kept.fields cl

theorem ovcCtrlWrite_kept {P : State → Prop} (cl : Closed P) {s : State} (h : Kept P s) (who : Requester) (value : Nat) : KeptO P (ovcCtrlWrite who value s) := by
  unfold ovcCtrlWrite
  with_reducible repeat' first | assumption | apply atHub_kept cl | apply imageAbandon_kept cl | apply imageLoad_kept cl | apply KeptO.next | apply KeptO.ite | apply Kept.ite | (extract_lets +onlyGivenNames x; refine (fun (_ : Kept P x) => ?_ : Kept P x → _) ?_; clear_value x; on_goal 2 => unfold x) | (extract_lets +onlyGivenNames x; clear_value x)

theorem cause_kept {P : State → Prop} (cl : Closed P) {s : State} (h : Kept P s) (src code level : Nat) (merged : Bool) (pstate : Nat) : Kept P (State.cause s src code level merged pstate) := by
  unfold State.cause
  with_reducible repeat' first | assumption | apply put_kept cl | (extract_lets +onlyGivenNames x; refine (fun (_ : Kept P x) => ?_ : Kept P x → _) ?_; clear_value x; on_goal 2 => unfold x) | (extract_lets +onlyGivenNames x; clear_value x)

theorem resetHidden_kept {P : State → Prop} (cl : ClosedAll P) {s : State} (h : Kept P s) : Kept P (State.resetHidden s) := by
  unfold State.resetHidden
  with_reducible repeat' first | assumption | (extract_lets +onlyGivenNames x; refine (fun (_ : Kept P x) => ?_ : Kept P x → _) ?_; clear_value x; on_goal 2 => unfold x) | (extract_lets +onlyGivenNames x; clear_value x) | fail_if_no_progress apply Kept.fields cl.1 | refine Kept.memMk cl ?_ (fun w => Memory.wf_filter _ _ w)

theorem resetRegs_kept {P : State → Prop} (cl : ClosedAll P) {s : State} (h : Kept P s) (level : Nat) : Kept P (State.resetRegs s level) := by
  unfold State.resetRegs
  with_reducible repeat' first | assumption | (extract_lets +onlyGivenNames x; refine (fun (_ : Kept P x) => ?_ : Kept P x → _) ?_; clear_value x; on_goal 2 => unfold x) | (extract_lets +onlyGivenNames x; clear_value x) | refine Kept.regsMk cl ?_

theorem resetHub_kept {P : State → Prop} (cl : Closed P) {s : State} (h : Kept P s) (level : Nat) : Kept P (State.resetHub s level) := by
  unfold State.resetHub
  with_reducible repeat' first | assumption | apply Kept.ite | (extract_lets +onlyGivenNames x; refine (fun (_ : Kept P x) => ?_ : Kept P x → _) ?_; clear_value x; on_goal 2 => unfold x) | (extract_lets +onlyGivenNames x; clear_value x) | fail_if_no_progress apply Kept.fields cl

theorem clockShow_kept {P : State → Prop} (cl : Closed P) {s : State} (h : Kept P s) : Kept P (State.clockShow s) := by
  unfold State.clockShow
  with_reducible repeat' first | assumption | apply put_kept cl

theorem segShow_kept {P : State → Prop} (cl : Closed P) {s : State} (h : Kept P s) : Kept P (State.segShow s) := by
  unfold State.segShow
  with_reducible repeat' first | assumption | apply put_kept cl | (extract_lets +onlyGivenNames x; refine (fun (_ : Kept P x) => ?_ : Kept P x → _) ?_; clear_value x; on_goal 2 => unfold x) | (extract_lets +onlyGivenNames x; clear_value x)

theorem resetSegments_kept {P : State → Prop} (cl : Closed P) {s : State} (h : Kept P s) : Kept P (State.resetSegments s) := by
  unfold State.resetSegments
  with_reducible repeat' first | assumption | apply segShow_kept cl | apply put_kept cl | apply Kept.ite | apply Kept.foldl | intro _ _ _ | (extract_lets +onlyGivenNames x; refine (fun (_ : Kept P x) => ?_ : Kept P x → _) ?_; clear_value x; on_goal 2 => unfold x) | (extract_lets +onlyGivenNames x; clear_value x)

theorem resetFabricShow_kept {P : State → Prop} (cl : ClosedAll P) {s : State} (h : Kept P s) : Kept P (State.resetFabricShow s) := by
  unfold State.resetFabricShow
  with_reducible repeat' first | assumption | apply setReg_kept cl.1 | apply put_kept cl.1 | apply Kept.foldl | intro _ _ _ | (extract_lets +onlyGivenNames x; refine (fun (_ : Kept P x) => ?_ : Kept P x → _) ?_; clear_value x; on_goal 2 => unfold x) | (extract_lets +onlyGivenNames x; clear_value x) | refine Kept.regsMk cl ?_

theorem applyReset_kept {P : State → Prop} (cl : ClosedAll P) {s : State} (h : Kept P s) (level : Nat) : Kept P (State.applyReset s level) := by
  unfold State.applyReset
  with_reducible repeat' first | assumption | apply resetHidden_kept cl | apply resetRegs_kept cl | apply resetHub_kept cl.1 | apply setReg_kept cl.1 | apply clockShow_kept cl.1 | apply put_kept cl.1 | apply resetSegments_kept cl.1 | apply resetFabricShow_kept cl | apply Kept.ite | apply Kept.foldl | intro _ _ _ | (extract_lets +onlyGivenNames x; refine (fun (_ : Kept P x) => ?_ : Kept P x → _) ?_; clear_value x; on_goal 2 => unfold x) | (extract_lets +onlyGivenNames x; clear_value x) | fail_if_no_progress apply Kept.fields cl.1 | refine Kept.memMk cl ?_ (fun _ => Memory.wf_nil)

theorem resetState_kept {P : State → Prop} (cl : ClosedAll P) {s : State} (h : Kept P s) (level : Nat) : Kept P (State.resetState s level) := by
  unfold State.resetState
  extract_lets p q s1 s2 s3
  have h1 : Kept P s1 := closeWindow_kept cl.1 (put_kept cl.1 (put_kept cl.1 (Kept.fields cl.1 h) _ _) _ _)
  have h2 : Kept P s2 := put_kept cl.1 (put_kept cl.1 h1 _ _) _ _
  have h3 : Kept P s3 := put_kept cl.1 h2 _ _
  clear_value s3 s2
  split
  · exact put_kept cl.1 h2 _ _
  · exact Kept.isobarMk cl h3

theorem failStart_kept {P : State → Prop} (cl : Closed P) {s : State} (h : Kept P s) : Kept P (State.failStart s) := by
  unfold State.failStart
  with_reducible repeat' first | assumption | apply addSat_kept cl

theorem resetCompletion_kept {P : State → Prop} (cl : Closed P) {s : State} (h : Kept P s) (code : Nat) : Kept P (State.resetCompletion s code) := by
  unfold State.resetCompletion
  with_reducible repeat' first | assumption | apply put_kept cl | apply complete_kept cl | apply Kept.ite | (extract_lets +onlyGivenNames x; refine (fun (_ : Kept P x) => ?_ : Kept P x → _) ?_; clear_value x; on_goal 2 => unfold x) | (extract_lets +onlyGivenNames x; clear_value x) | fail_if_no_progress apply Kept.fields cl

theorem resetBy_kept {P : State → Prop} (cl : ClosedAll P) {s : State} (h : Kept P s) (src code want : Nat) : Kept P (State.resetBy s src code want) := by
  unfold State.resetBy
  with_reducible repeat' first | assumption | apply cause_kept cl.1 | apply applyReset_kept cl | apply resetState_kept cl | apply failStart_kept cl.1 | apply resetCompletion_kept cl.1 | apply send_kept cl.1 | apply Kept.ite | (extract_lets +onlyGivenNames x; refine (fun (_ : Kept P x) => ?_ : Kept P x → _) ?_; clear_value x; on_goal 2 => unfold x) | (extract_lets +onlyGivenNames x; clear_value x) | split

theorem execResetRequest_kept {P : State → Prop} (cl : ClosedAll P) {s : State} (h : Kept P s) (who : Requester) (value : Nat) : KeptO P (execResetRequest who value s) := by
  unfold execResetRequest
  with_reducible repeat' first | assumption | apply atDawn_kept cl.1 | apply put_kept cl.1 | apply resetBy_kept cl | apply KeptO.next | apply KeptO.ite | apply Kept.ite | (extract_lets +onlyGivenNames x; refine (fun (_ : Kept P x) => ?_ : Kept P x → _) ?_; clear_value x; on_goal 2 => unfold x) | (extract_lets +onlyGivenNames x; clear_value x) | split

theorem raiseReset_kept {P : State → Prop} (cl : Closed P) {s : State} (h : Kept P s) (code node : Nat) (details : List Nat) : Kept P (State.raiseReset s code node details) := by
  unfold State.raiseReset
  with_reducible repeat' first | assumption | apply put_kept cl | apply record_kept cl | apply Kept.ite

theorem pstateRefused_kept {P : State → Prop} (cl : Closed P) {s : State} (h : Kept P s) (reason : Nat) : Kept P (State.pstateRefused s reason) := by
  unfold State.pstateRefused
  with_reducible repeat' first | assumption | apply raiseReset_kept cl | apply put_kept cl

theorem startTransition_kept {P : State → Prop} (cl : Closed P) {s : State} (h : Kept P s) (target : Nat) : Kept P (State.startTransition s target) := by
  unfold State.startTransition
  with_reducible repeat' first | assumption | apply put_kept cl | (extract_lets +onlyGivenNames x; refine (fun (_ : Kept P x) => ?_ : Kept P x → _) ?_; clear_value x; on_goal 2 => unfold x) | (extract_lets +onlyGivenNames x; clear_value x) | fail_if_no_progress apply Kept.fields cl

theorem execPowerStateRequest_kept {P : State → Prop} (cl : Closed P) {s : State} (h : Kept P s) (_who : Requester) (value : Nat) : KeptO P (execPowerStateRequest _who value s) := by
  unfold execPowerStateRequest
  with_reducible repeat' first | assumption | apply atDawn_kept cl | apply put_kept cl | apply pstateRefused_kept cl | apply startTransition_kept cl | apply KeptO.next | apply KeptO.ite | apply Kept.ite | (extract_lets +onlyGivenNames x; refine (fun (_ : Kept P x) => ?_ : Kept P x → _) ?_; clear_value x; on_goal 2 => unfold x) | (extract_lets +onlyGivenNames x; clear_value x)

theorem execRstPark_kept {P : State → Prop} (cl : Closed P) {s : State} (h : Kept P s) (_who : Requester) (value : Nat) : KeptO P (execRstPark _who value s) := by
  unfold execRstPark
  with_reducible repeat' first | assumption | apply atDawn_kept cl | apply closeWindow_kept cl | apply KeptO.next | apply KeptO.ite | apply Kept.ite

theorem broadcastRefused_kept {P : State → Prop} (cl : Closed P) {s : State} (h : Kept P s) : Kept P (State.broadcastRefused s) := by
  unfold State.broadcastRefused
  with_reducible repeat' first | assumption | apply raiseReset_kept cl

theorem fwTake_kept {P : State → Prop} (cl : Closed P) {s : State} (h : Kept P s) (base len : Nat) (fresh : Bool) : Kept P (State.fwTake s base len fresh) := by
  unfold State.fwTake
  with_reducible repeat' first | assumption | apply put_kept cl | apply Kept.ite | (extract_lets +onlyGivenNames x; refine (fun (_ : Kept P x) => ?_ : Kept P x → _) ?_; clear_value x; on_goal 2 => unfold x) | (extract_lets +onlyGivenNames x; clear_value x) | fail_if_no_progress apply Kept.fields cl

theorem fwTreeWrite_kept {P : State → Prop} (cl : Closed P) {s : State} (h : Kept P s) : Kept P (State.fwTreeWrite s) := by
  unfold State.fwTreeWrite
  with_reducible repeat' first | assumption | apply setReg_kept cl | apply Kept.ite | apply Kept.foldl | intro _ _ _ | (extract_lets +onlyGivenNames x; refine (fun (_ : Kept P x) => ?_ : Kept P x → _) ?_; clear_value x; on_goal 2 => unfold x) | (extract_lets +onlyGivenNames x; clear_value x) | split

theorem fwSend_kept {P : State → Prop} (cl : Closed P) {s : State} (h : Kept P s) (node mask : Nat) : Kept P (State.fwSend s node mask) := by
  unfold State.fwSend
  with_reducible repeat' first | assumption | apply send_kept cl | apply Kept.foldl | intro _ _ _ | (extract_lets +onlyGivenNames x; refine (fun (_ : Kept P x) => ?_ : Kept P x → _) ?_; clear_value x; on_goal 2 => unfold x) | (extract_lets +onlyGivenNames x; clear_value x)

theorem discCounts_kept {P : State → Prop} (cl : Closed P) {s : State} (h : Kept P s) : Kept P (State.discCounts s) := by
  unfold State.discCounts
  with_reducible repeat' first | assumption | apply put_kept cl | apply putSat_kept cl | (extract_lets +onlyGivenNames x; refine (fun (_ : Kept P x) => ?_ : Kept P x → _) ?_; clear_value x; on_goal 2 => unfold x) | (extract_lets +onlyGivenNames x; clear_value x)

theorem discFail_kept {P : State → Prop} (cl : ClosedAll P) {s : State} (h : Kept P s) (site : Nat) : Kept P (State.discFail s site) := by
  unfold State.discFail
  with_reducible repeat' first | assumption | apply powerDownAll_kept cl | apply put_kept cl.1 | apply dropToward_kept cl.1 | apply addSat_kept cl.1 | apply discCounts_kept cl.1 | apply Kept.ite | (extract_lets +onlyGivenNames x; refine (fun (_ : Kept P x) => ?_ : Kept P x → _) ?_; clear_value x; on_goal 2 => unfold x) | (extract_lets +onlyGivenNames x; clear_value x) | fail_if_no_progress apply Kept.fields cl.1

end Sys2Proof.Machine
end

