-- ==== Sys2Proof/Laws/KeptOps3.lean ====
section
/-! SUPPORT. Part 3 of 7 of the lemmas X_kept, one per operation and per command (see Laws/Kept.lean), in an order where each comes after those it cites. -/

set_option linter.unusedTactic false
set_option linter.unreachableTactic false
set_option linter.unusedVariables false

namespace Sys2Proof.Machine

open Sys2Proof

theorem bringUpRoutes_kept {P : State → Prop} (cl : Closed P) {s : State} (h : Kept P s) : Kept P (State.bringUpRoutes s) := by
  unfold State.bringUpRoutes
  with_reducible repeat' first | assumption | apply setRoute_kept cl | apply put_kept cl | apply Kept.ite | apply Kept.foldl | intro _ _ _ | (extract_lets +onlyGivenNames x; refine (fun (_ : Kept P x) => ?_ : Kept P x → _) ?_; clear_value x; on_goal 2 => unfold x) | (extract_lets +onlyGivenNames x; clear_value x) | split

theorem fwTreeRestore_kept {P : State → Prop} (cl : Closed P) {s : State} (h : Kept P s) (image : Option (List Nat)) : Kept P (State.fwTreeRestore s image) := by
  unfold State.fwTreeRestore
  with_reducible repeat' first | assumption | apply setReg_kept cl | apply Kept.foldl | intro _ _ _ | split

theorem startCores_kept {P : State → Prop} (cl : Closed P) {s : State} (h : Kept P s) (site image : Nat) : Kept P (State.startCores s site image) := by
  unfold State.startCores
  with_reducible repeat' first | assumption | apply setControl_kept cl | apply put_kept cl | apply Kept.foldl | intro _ _ _ | (extract_lets +onlyGivenNames x; refine (fun (_ : Kept P x) => ?_ : Kept P x → _) ?_; clear_value x; on_goal 2 => unfold x) | (extract_lets +onlyGivenNames x; clear_value x) | fail_if_no_progress apply Kept.fields cl

theorem startUnits_kept {P : State → Prop} (cl : ClosedAll P) {s : State} (h : Kept P s) (units : List Nat) (image : Nat) : Kept P (State.startUnits s units image) := by
  unfold State.startUnits
  with_reducible repeat' first | assumption | apply startCores_kept cl.1 | apply powerDownAll_kept cl | apply readyUnits_kept cl.1 | apply put_kept cl.1 | apply Kept.foldl | intro _ _ _ | (extract_lets +onlyGivenNames x; refine (fun (_ : Kept P x) => ?_ : Kept P x → _) ?_; clear_value x; on_goal 2 => unfold x) | (extract_lets +onlyGivenNames x; clear_value x) | fail_if_no_progress apply Kept.fields cl.1

theorem fwStart_kept {P : State → Prop} (cl : ClosedAll P) {s : State} (h : Kept P s) : Kept P (State.fwStart s) := by
  unfold State.fwStart
  with_reducible repeat' first | assumption | apply discFail_kept cl | apply raiseReset_kept cl.1 | apply verifySoon_kept cl.1 | apply bringUpRoutes_kept cl.1 | apply fwTreeRestore_kept cl.1 | apply startUnits_kept cl | apply Kept.ite | apply Kept.foldl | intro _ _ _ | (extract_lets +onlyGivenNames x; refine (fun (_ : Kept P x) => ?_ : Kept P x → _) ?_; clear_value x; on_goal 2 => unfold x) | (extract_lets +onlyGivenNames x; clear_value x)

theorem fwGo_kept {P : State → Prop} (cl : ClosedAll P) {s : State} (h : Kept P s) (op site : Nat) : Kept P (State.fwGo s op site) := by
  unfold State.fwGo
  with_reducible repeat' first | assumption | apply broadcastRefused_kept cl.1 | apply raiseReset_kept cl.1 | apply fwTake_kept cl.1 | apply put_kept cl.1 | apply fwTreeWrite_kept cl.1 | apply fwSend_kept cl.1 | apply fwStart_kept cl | apply Kept.ite | apply Kept.foldl | intro _ _ _ | (extract_lets +onlyGivenNames x; refine (fun (_ : Kept P x) => ?_ : Kept P x → _) ?_; clear_value x; on_goal 2 => unfold x) | (extract_lets +onlyGivenNames x; clear_value x) | split

theorem fwCtrl_kept {P : State → Prop} (cl : ClosedAll P) {s : State} (h : Kept P s) (value : Nat) : Kept P (State.fwCtrl s value) := by
  unfold State.fwCtrl
  with_reducible repeat' first | assumption | apply put_kept cl.1 | apply fwGo_kept cl | apply Kept.ite | (extract_lets +onlyGivenNames x; refine (fun (_ : Kept P x) => ?_ : Kept P x → _) ?_; clear_value x; on_goal 2 => unfold x) | (extract_lets +onlyGivenNames x; clear_value x)

theorem execDoldrumsExit_kept {P : State → Prop} (cl : ClosedAll P) {s : State} (h : Kept P s) (_who : Requester) (value : Nat) : KeptO P (execDoldrumsExit _who value s) := by
  unfold execDoldrumsExit
  with_reducible repeat' first | assumption | apply resetBy_kept cl | apply put_kept cl.1 | apply KeptO.next | apply KeptO.ite | apply Kept.ite

theorem sectorShow_kept {P : State → Prop} (cl : Closed P) {s : State} (h : Kept P s) (g : Nat) : Kept P (State.sectorShow s g) := by
  unfold State.sectorShow
  with_reducible repeat' first | assumption | apply put_kept cl | apply Kept.ite | (extract_lets +onlyGivenNames x; refine (fun (_ : Kept P x) => ?_ : Kept P x → _) ?_; clear_value x; on_goal 2 => unfold x) | (extract_lets +onlyGivenNames x; clear_value x)

theorem sparesShow_kept {P : State → Prop} (cl : Closed P) {s : State} (h : Kept P s) : Kept P (State.sparesShow s) := by
  unfold State.sparesShow
  with_reducible repeat' first | assumption | apply putSat_kept cl | apply put_kept cl | apply sectorShow_kept cl | apply Kept.ite | apply Kept.foldl | intro _ _ _ | (extract_lets +onlyGivenNames x; refine (fun (_ : Kept P x) => ?_ : Kept P x → _) ?_; clear_value x; on_goal 2 => unfold x) | (extract_lets +onlyGivenNames x; clear_value x)

theorem spareLog_kept {P : State → Prop} (cl : Closed P) {s : State} (h : Kept P s) (code site other : Nat) : Kept P (State.spareLog s code site other) := by
  unfold State.spareLog
  with_reducible repeat' first | assumption | apply hubEvent_kept cl | apply pushLog_kept cl | (extract_lets +onlyGivenNames x; refine (fun (_ : Kept P x) => ?_ : Kept P x → _) ?_; clear_value x; on_goal 2 => unfold x) | (extract_lets +onlyGivenNames x; clear_value x)

theorem retireDomains_kept {P : State → Prop} (cl : ClosedAll P) {s : State} (h : Kept P s) (site : Nat) (fenced copies : Bool) : Kept P (State.retireDomains s site fenced copies) := by
  unfold State.retireDomains
  with_reducible repeat' first | assumption | apply powerDownAll_kept cl | apply Kept.ite

theorem raiseSpare_kept {P : State → Prop} (cl : Closed P) {s : State} (h : Kept P s) (code node : Nat) (site other : Nat) : Kept P (State.raiseSpare s code node site other) := by
  unfold State.raiseSpare
  with_reducible repeat' first | assumption | apply record_kept cl | apply spareLog_kept cl | apply put_kept cl | (extract_lets +onlyGivenNames x; refine (fun (_ : Kept P x) => ?_ : Kept P x → _) ?_; clear_value x; on_goal 2 => unfold x) | (extract_lets +onlyGivenNames x; clear_value x)

theorem retireStack_kept {P : State → Prop} (cl : ClosedAll P) {s : State} (h : Kept P s) (r : Retire) (other : Option Nat) : Kept P (State.retireStack s r other) := by
  unfold State.retireStack
  with_reducible repeat' first | assumption | apply spareLog_kept cl.1 | apply addSat_kept cl.1 | apply retireDomains_kept cl | apply raiseSpare_kept cl.1 | apply Kept.ite | (extract_lets +onlyGivenNames x; refine (fun (_ : Kept P x) => ?_ : Kept P x → _) ?_; clear_value x; on_goal 2 => unfold x) | (extract_lets +onlyGivenNames x; clear_value x) | fail_if_no_progress apply Kept.fields cl.1

theorem copyShow_kept {P : State → Prop} (cl : Closed P) {s : State} (h : Kept P s) (w : Swap) (rows : Nat) : Kept P (State.copyShow s w rows) := by
  unfold State.copyShow
  with_reducible repeat' first | assumption | apply put_kept cl | apply putSat_kept cl | (extract_lets +onlyGivenNames x; refine (fun (_ : Kept P x) => ?_ : Kept P x → _) ?_; clear_value x; on_goal 2 => unfold x) | (extract_lets +onlyGivenNames x; clear_value x)

theorem raisePower_kept {P : State → Prop} (cl : Closed P) {s : State} (h : Kept P s) (r : Raise) (phase : Nat) : Kept P (State.raisePower s r phase) := by
  unfold State.raisePower
  with_reducible repeat' first | assumption | apply record_kept cl | apply put_kept cl | apply pushLog_kept cl | apply Kept.ite | (extract_lets +onlyGivenNames x; refine (fun (_ : Kept P x) => ?_ : Kept P x → _) ?_; clear_value x; on_goal 2 => unfold x) | (extract_lets +onlyGivenNames x; clear_value x) | fail_if_no_progress apply Kept.fields cl

theorem raiseDomain_kept {P : State → Prop} (cl : Closed P) {s : State} (h : Kept P s) (code node : Nat) (unit action : Nat) : Kept P (State.raiseDomain s code node unit action) := by
  unfold State.raiseDomain
  with_reducible repeat' first | assumption | apply raisePower_kept cl

theorem requestDomain_kept {P : State → Prop} (cl : Closed P) {s : State} (h : Kept P s) (node d : Nat) : Kept P (State.requestDomain s node d) := by
  unfold State.requestDomain
  with_reducible repeat' first | assumption | apply raiseDomain_kept cl | apply deferShow_kept cl | apply put_kept cl | apply Kept.ite | (extract_lets +onlyGivenNames x; refine (fun (_ : Kept P x) => ?_ : Kept P x → _) ?_; clear_value x; on_goal 2 => unfold x) | (extract_lets +onlyGivenNames x; clear_value x) | fail_if_no_progress apply Kept.fields cl

theorem requestAll_kept {P : State → Prop} (cl : Closed P) {s : State} (h : Kept P s) (node : Nat) (ds : List Nat) : Kept P (State.requestAll s node ds) := by
  unfold State.requestAll
  with_reducible repeat' first | assumption | apply requestDomain_kept cl | apply Kept.foldl | intro _ _ _

theorem swapBegin_kept {P : State → Prop} (cl : Closed P) {s : State} (h : Kept P s) (w : Swap) : Kept P (State.swapBegin s w) := by
  unfold State.swapBegin
  with_reducible repeat' first | assumption | apply copyShow_kept cl | apply requestAll_kept cl | apply Kept.ite | (extract_lets +onlyGivenNames x; refine (fun (_ : Kept P x) => ?_ : Kept P x → _) ?_; clear_value x; on_goal 2 => unfold x) | (extract_lets +onlyGivenNames x; clear_value x) | fail_if_no_progress apply Kept.fields cl

theorem takeRetire_kept {P : State → Prop} (cl : ClosedAll P) {s : State} (h : Kept P s) (r : Retire) : Kept P (State.takeRetire s r) := by
  unfold State.takeRetire
  with_reducible repeat' first | assumption | apply ringOut_kept cl.1 | apply retireStack_kept cl | apply raiseSpare_kept cl.1 | apply swapBegin_kept cl.1 | apply Kept.ite | (extract_lets +onlyGivenNames x; refine (fun (_ : Kept P x) => ?_ : Kept P x → _) ?_; clear_value x; on_goal 2 => unfold x) | (extract_lets +onlyGivenNames x; clear_value x) | fail_if_no_progress apply Kept.fields cl.1 | split

theorem takeRetires_kept {P : State → Prop} (cl : ClosedAll P) {s : State} (h : Kept P s) : Kept P (State.takeRetires s) := by
  unfold State.takeRetires
  with_reducible repeat' first | assumption | apply sparesShow_kept cl.1 | apply takeRetire_kept cl | apply Kept.ite | apply Kept.foldl | intro _ _ _ | (extract_lets +onlyGivenNames x; refine (fun (_ : Kept P x) => ?_ : Kept P x → _) ?_; clear_value x; on_goal 2 => unfold x) | (extract_lets +onlyGivenNames x; clear_value x) | fail_if_no_progress apply Kept.fields cl.1

theorem substDrop_kept {P : State → Prop} (cl : Closed P) {s : State} (h : Kept P s) (w : Swap) : Kept P (State.substDrop s w) := by
  unfold State.substDrop
  with_reducible repeat' first | assumption | apply setReg_kept cl | apply Kept.ite

theorem dropSwap_kept {P : State → Prop} (cl : Closed P) {s : State} (h : Kept P s) (w : Swap) : Kept P (State.dropSwap s w) := by
  unfold State.dropSwap
  with_reducible repeat' first | assumption | (extract_lets +onlyGivenNames x; refine (fun (_ : Kept P x) => ?_ : Kept P x → _) ?_; clear_value x; on_goal 2 => unfold x) | (extract_lets +onlyGivenNames x; clear_value x) | fail_if_no_progress apply Kept.fields cl

theorem releaseOld_kept {P : State → Prop} (cl : ClosedAll P) {s : State} (h : Kept P s) (w : Swap) : Kept P (State.releaseOld s w) := by
  unfold State.releaseOld
  with_reducible repeat' first | assumption | apply powerDownAll_kept cl | apply Kept.ite

theorem swapFail_kept {P : State → Prop} (cl : ClosedAll P) {s : State} (h : Kept P s) (w : Swap) : Kept P (State.swapFail s w) := by
  unfold State.swapFail
  with_reducible repeat' first | assumption | apply raiseSpare_kept cl.1 | apply substDrop_kept cl.1 | apply dropSwap_kept cl.1 | apply powerDownAll_kept cl | apply releaseOld_kept cl | apply Kept.ite | (extract_lets +onlyGivenNames x; refine (fun (_ : Kept P x) => ?_ : Kept P x → _) ?_; clear_value x; on_goal 2 => unfold x) | (extract_lets +onlyGivenNames x; clear_value x)

theorem swapEnds_kept {P : State → Prop} (cl : ClosedAll P) {s : State} (h : Kept P s) (w : Swap) : Kept P (State.swapEnds s w) := by
  unfold State.swapEnds
  with_reducible repeat' first | assumption | apply readyRefresh_kept cl.1 | apply armNow_kept cl.1 | apply takeRetires_kept cl | apply sparesShow_kept cl.1 | apply swapFail_kept cl

theorem spareAbandon_kept {P : State → Prop} (cl : ClosedAll P) {s : State} (h : Kept P s) : Kept P (State.spareAbandon s) := by
  unfold State.spareAbandon
  with_reducible repeat' first | assumption | apply swapEnds_kept cl | split

theorem swapHandle_kept {P : State → Prop} (cl : Closed P) {s : State} (h : Kept P s) (w : Swap) (a : Nat) (v : Word) : Kept P (State.swapHandle s w a v) := by
  unfold State.swapHandle
  with_reducible repeat' first | assumption | apply setReg_kept cl | apply handleJudge_kept cl | apply Kept.ite | (extract_lets +onlyGivenNames x; refine (fun (_ : Kept P x) => ?_ : Kept P x → _) ?_; clear_value x; on_goal 2 => unfold x) | (extract_lets +onlyGivenNames x; clear_value x)

theorem swapHandles_kept {P : State → Prop} (cl : Closed P) {s : State} (h : Kept P s) (w : Swap) : Kept P (State.swapHandles s w) := by
  unfold State.swapHandles
  with_reducible repeat' first | assumption | apply swapHandle_kept cl | apply Kept.foldl | intro _ _ _

theorem swapTrees_kept {P : State → Prop} (cl : Closed P) {s : State} (h : Kept P s) (w : Swap) : Kept P (State.swapTrees s w) := by
  unfold State.swapTrees
  with_reducible repeat' first | assumption | apply setReg_kept cl | apply treeBad_kept cl | apply Kept.foldl | intro _ _ _ | (extract_lets +onlyGivenNames x; refine (fun (_ : Kept P x) => ?_ : Kept P x → _) ?_; clear_value x; on_goal 2 => unfold x) | (extract_lets +onlyGivenNames x; clear_value x) | split

theorem setSwap_kept {P : State → Prop} (cl : Closed P) {s : State} (h : Kept P s) (w : Swap) : Kept P (State.setSwap s w) := by
  unfold State.setSwap
  with_reducible repeat' first | assumption | apply Kept.ite | (extract_lets +onlyGivenNames x; refine (fun (_ : Kept P x) => ?_ : Kept P x → _) ?_; clear_value x; on_goal 2 => unfold x) | (extract_lets +onlyGivenNames x; clear_value x) | fail_if_no_progress apply Kept.fields cl

theorem restore_kept {P : State → Prop} (cl : ClosedAll P) {s : State} (h : Kept P s) (w : Swap) : Kept P (State.restore s w) := by
  unfold State.restore
  with_reducible repeat' first | assumption | apply put_kept cl.1 | apply releaseOld_kept cl | apply swapHandles_kept cl.1 | apply swapTrees_kept cl.1 | apply setSwap_kept cl.1 | apply sparesShow_kept cl.1 | apply hubMessage_kept cl.1 | (extract_lets +onlyGivenNames x; refine (fun (_ : Kept P x) => ?_ : Kept P x → _) ?_; clear_value x; on_goal 2 => unfold x) | (extract_lets +onlyGivenNames x; clear_value x) | fail_if_no_progress apply Kept.fields cl.1

theorem hostDone_kept {P : State → Prop} (cl : ClosedAll P) {s : State} (h : Kept P s) : Kept P (State.hostDone s) := by
  unfold State.hostDone
  with_reducible repeat' first | assumption | apply copyShow_kept cl.1 | apply restore_kept cl | apply raiseSpare_kept cl.1 | apply Kept.ite | (extract_lets +onlyGivenNames x; refine (fun (_ : Kept P x) => ?_ : Kept P x → _) ?_; clear_value x; on_goal 2 => unfold x) | (extract_lets +onlyGivenNames x; clear_value x) | split

theorem writeSpareCtrl_kept {P : State → Prop} (cl : ClosedAll P) {s : State} (h : Kept P s) (value : Nat) : Kept P (State.writeSpareCtrl s value) := by
  unfold State.writeSpareCtrl
  with_reducible repeat' first | assumption | apply put_kept cl.1 | apply spareAbandon_kept cl | apply hostDone_kept cl | apply Kept.ite | (extract_lets +onlyGivenNames x; refine (fun (_ : Kept P x) => ?_ : Kept P x → _) ?_; clear_value x; on_goal 2 => unfold x) | (extract_lets +onlyGivenNames x; clear_value x)

theorem raiseHost_kept {P : State → Prop} (cl : Closed P) {s : State} (h : Kept P s) (code unit : Nat) : Kept P (State.raiseHost s code unit) := by
  unfold State.raiseHost
  with_reducible repeat' first | assumption | apply record_kept cl

theorem execB4apWrite_kept {P : State → Prop} (cl : Closed P) {s : State} (h : Kept P s) (who : Requester) (i value : Nat) : KeptO P (execB4apWrite who i value s) := by
  unfold execB4apWrite
  with_reducible repeat' first | assumption | apply atHub_kept cl | apply raiseHost_kept cl | apply put_kept cl | apply KeptO.next | apply KeptO.ite | apply Kept.ite | (extract_lets +onlyGivenNames x; refine (fun (_ : Kept P x) => ?_ : Kept P x → _) ?_; clear_value x; on_goal 2 => unfold x) | (extract_lets +onlyGivenNames x; clear_value x)

theorem guestOff_kept {P : State → Prop} (cl : Closed P) {s : State} (h : Kept P s) (g : Nat) : Kept P (State.guestOff s g) := by
  unfold State.guestOff
  with_reducible repeat' first | assumption | apply put_kept cl | apply guestLeave_kept cl | apply setGuest_kept cl | apply Kept.ite | (extract_lets +onlyGivenNames x; refine (fun (_ : Kept P x) => ?_ : Kept P x → _) ?_; clear_value x; on_goal 2 => unfold x) | (extract_lets +onlyGivenNames x; clear_value x) | fail_if_no_progress apply Kept.fields cl

theorem guestStart_kept {P : State → Prop} (cl : Closed P) {s : State} (h : Kept P s) (g : Nat) : Kept P (State.guestStart s g) := by
  unfold State.guestStart
  with_reducible repeat' first | assumption | apply put_kept cl | apply setGuest_kept cl | apply requestDomain_kept cl | apply guestState_kept cl | apply Kept.ite | (extract_lets +onlyGivenNames x; refine (fun (_ : Kept P x) => ?_ : Kept P x → _) ?_; clear_value x; on_goal 2 => unfold x) | (extract_lets +onlyGivenNames x; clear_value x) | fail_if_no_progress apply Kept.fields cl

theorem guestCtrl_kept {P : State → Prop} (cl : ClosedAll P) {s : State} (h : Kept P s) (g value : Nat) : Kept P (State.guestCtrl s g value) := by
  unfold State.guestCtrl
  with_reducible repeat' first | assumption | apply put_kept cl.1 | apply raiseGuest_kept cl.1 | apply powerDown_kept cl | apply guestOff_kept cl.1 | apply guestStart_kept cl.1 | apply Kept.ite | (extract_lets +onlyGivenNames x; refine (fun (_ : Kept P x) => ?_ : Kept P x → _) ?_; clear_value x; on_goal 2 => unfold x) | (extract_lets +onlyGivenNames x; clear_value x)

theorem smbCmd_kept {P : State → Prop} (cl : Closed P) {s : State} (h : Kept P s) (value : Nat) : Kept P (State.smbCmd s value) := by
  unfold State.smbCmd
  with_reducible repeat' first | assumption | apply put_kept cl | apply send_kept cl | apply Kept.ite | (extract_lets +onlyGivenNames x; refine (fun (_ : Kept P x) => ?_ : Kept P x → _) ?_; clear_value x; on_goal 2 => unfold x) | (extract_lets +onlyGivenNames x; clear_value x) | fail_if_no_progress apply Kept.fields cl

theorem execMgmtKeyWrite_kept {P : State → Prop} (cl : Closed P) {s : State} (h : Kept P s) (who : Requester) (k value : Nat) : KeptO P (execMgmtKeyWrite who k value s) := by
  unfold execMgmtKeyWrite
  with_reducible repeat' first | assumption | apply atHub_kept cl | apply setReg_kept cl | apply put_kept cl | apply KeptO.next | apply KeptO.ite | apply Kept.ite | (extract_lets +onlyGivenNames x; refine (fun (_ : Kept P x) => ?_ : Kept P x → _) ?_; clear_value x; on_goal 2 => unfold x) | (extract_lets +onlyGivenNames x; clear_value x) | fail_if_no_progress apply Kept.fields cl

theorem bind_kept {P : State → Prop} (cl : Closed P) {s : State} (h : Kept P s) (p addr prefixLen : Nat) : Kept P (State.bind s p addr prefixLen) := by
  unfold State.bind
  with_reducible repeat' first | assumption | apply put_kept cl

theorem setMgmtPort_kept {P : State → Prop} (cl : Closed P) {s : State} (h : Kept P s) (p : Nat) (x : MgmtPort) : Kept P (State.setMgmtPort s p x) := by
  unfold State.setMgmtPort
  with_reducible repeat' first | assumption | (extract_lets +onlyGivenNames x; refine (fun (_ : Kept P x) => ?_ : Kept P x → _) ?_; clear_value x; on_goal 2 => unfold x) | (extract_lets +onlyGivenNames x; clear_value x) | fail_if_no_progress apply Kept.fields cl

theorem dhcpStart_kept {P : State → Prop} (cl : Closed P) {s : State} (h : Kept P s) (p : Nat) : Kept P (State.dhcpStart s p) := by
  unfold State.dhcpStart
  with_reducible repeat' first | assumption | apply send_kept cl | apply setMgmtPort_kept cl | apply Kept.ite | (extract_lets +onlyGivenNames x; refine (fun (_ : Kept P x) => ?_ : Kept P x → _) ?_; clear_value x; on_goal 2 => unfold x) | (extract_lets +onlyGivenNames x; clear_value x) | fail_if_no_progress apply Kept.fields cl

theorem ipWrite_kept {P : State → Prop} (cl : Closed P) {s : State} (h : Kept P s) (p value : Nat) : Kept P (State.ipWrite s p value) := by
  unfold State.ipWrite
  with_reducible repeat' first | assumption | apply bind_kept cl | apply setMgmtPort_kept cl | apply put_kept cl | apply dhcpStart_kept cl | apply Kept.ite | (extract_lets +onlyGivenNames x; refine (fun (_ : Kept P x) => ?_ : Kept P x → _) ?_; clear_value x; on_goal 2 => unfold x) | (extract_lets +onlyGivenNames x; clear_value x) | fail_if_no_progress apply Kept.fields cl

theorem cperWrite_kept {P : State → Prop} (cl : Closed P) {s : State} (h : Kept P s) (value : Nat) : Kept P (State.cperWrite s value) := by
  unfold State.cperWrite
  with_reducible repeat' first | assumption | apply put_kept cl | apply Kept.ite | (extract_lets +onlyGivenNames x; refine (fun (_ : Kept P x) => ?_ : Kept P x → _) ?_; clear_value x; on_goal 2 => unfold x) | (extract_lets +onlyGivenNames x; clear_value x) | fail_if_no_progress apply Kept.fields cl

theorem panelWrite_kept {P : State → Prop} (cl : ClosedAll P) {s : State} (h : Kept P s) (who : Requester) (b i value : Nat) : KeptOO P (panelWrite who b i value s) := by
  unfold panelWrite
  with_reducible repeat' first | assumption | apply ovcCtrlWrite_kept cl.1 | apply execResetRequest_kept cl | apply execPowerStateRequest_kept cl.1 | apply execRstPark_kept cl.1 | apply atHub_kept cl.1 | apply fwCtrl_kept cl | apply execDoldrumsExit_kept cl | apply writeSpareCtrl_kept cl | apply execB4apWrite_kept cl.1 | apply guestCtrl_kept cl | apply smbCmd_kept cl.1 | apply execMgmtKeyWrite_kept cl.1 | apply ipWrite_kept cl.1 | apply cperWrite_kept cl.1 | apply KeptOO.some | apply KeptOO.none | apply KeptO.next | apply KeptOO.ite | apply KeptO.ite | apply KeptOO.or | apply Kept.ofNext (by assumption) | apply Kept.ite

theorem ownWrite_kept {P : State → Prop} (cl : ClosedAll P) {s : State} (h : Kept P s) (who : Requester) (d : RegDesc) (addr value : Nat) : KeptOO P (ownWrite who d addr value s) := by
  unfold ownWrite
  with_reducible repeat' first | assumption | apply siteWrite_kept cl.1 | apply hubWrite_kept cl.1 | apply galeWrite_kept cl.1 | apply panelWrite_kept cl | apply KeptOO.some | apply KeptOO.none | apply KeptO.next | apply KeptOO.ite | apply KeptO.ite | apply KeptOO.or | apply KeptO.ofSome (by assumption) | apply Kept.ite | (extract_lets +onlyGivenNames x; refine (fun (_ : Kept P x) => ?_ : Kept P x → _) ?_; clear_value x; on_goal 2 => unfold x) | (extract_lets +onlyGivenNames x; clear_value x)

theorem plainWrite_kept {P : State → Prop} (cl : Closed P) {s : State} (h : Kept P s) (d : RegDesc) (addr value : Nat) : Kept P (State.plainWrite s d addr value) := by
  unfold State.plainWrite
  with_reducible repeat' first | assumption | apply setReg_kept cl

theorem fwSourceWrite_kept {P : State → Prop} (cl : Closed P) {s : State} (h : Kept P s) (d : RegDesc) (addr value : Nat) : Kept P (State.fwSourceWrite s d addr value) := by
  unfold State.fwSourceWrite
  with_reducible repeat' first | assumption | apply put_kept cl | apply plainWrite_kept cl | apply Kept.ite | (extract_lets +onlyGivenNames x; refine (fun (_ : Kept P x) => ?_ : Kept P x → _) ?_; clear_value x; on_goal 2 => unfold x) | (extract_lets +onlyGivenNames x; clear_value x) | fail_if_no_progress apply Kept.fields cl

theorem genericWrite_kept {P : State → Prop} (cl : Closed P) {s : State} (h : Kept P s) (who : Requester) (d : RegDesc) (addr value : Nat) : KeptO P (genericWrite who d addr value s) := by
  unfold genericWrite
  with_reducible repeat' first | assumption | apply fwSourceWrite_kept cl | apply plainWrite_kept cl | apply atSite_kept cl | apply atHub_kept cl | apply KeptO.next | apply KeptO.ite | apply Kept.ite | (extract_lets +onlyGivenNames x; refine (fun (_ : Kept P x) => ?_ : Kept P x → _) ?_; clear_value x; on_goal 2 => unfold x) | (extract_lets +onlyGivenNames x; clear_value x)

theorem unlatch_kept {P : State → Prop} (cl : Closed P) {s : State} (h : Kept P s) (addr : Nat) : Kept P (State.unlatch s addr) := by
  unfold State.unlatch
  with_reducible repeat' first | assumption | apply Kept.ite | (extract_lets +onlyGivenNames x; refine (fun (_ : Kept P x) => ?_ : Kept P x → _) ?_; clear_value x; on_goal 2 => unfold x) | (extract_lets +onlyGivenNames x; clear_value x) | fail_if_no_progress apply Kept.fields cl

theorem writeReg_kept {P : State → Prop} (cl : ClosedAll P) {s : State} (h : Kept P s) (who : Requester) (addr value : Nat) : KeptO P (writeReg who addr value s) := by
  unfold writeReg
  with_reducible repeat' first | assumption | apply hostErr_kept cl.1 | apply ownWrite_kept cl | apply genericWrite_kept cl.1 | apply unlatch_kept cl.1 | apply KeptO.next | apply KeptO.fault | apply KeptO.refused | apply KeptO.ite | apply KeptO.ofSome (by assumption) | apply Kept.ite | apply Kept.foldl | intro _ _ _ | (extract_lets +onlyGivenNames x; refine (fun (_ : Kept P x) => ?_ : Kept P x → _) ?_; clear_value x; on_goal 2 => unfold x) | (extract_lets +onlyGivenNames x; clear_value x) | split

theorem execRegisterWrite_kept {P : State → Prop} (cl : ClosedAll P) {s : State} (h : Kept P s) (who : Requester) (addr bytes value : Nat) : KeptO P (execRegisterWrite who addr bytes value s) := by
  unfold execRegisterWrite
  with_reducible repeat' first | assumption | apply hostErr_kept cl.1 | apply msixStore_kept cl.1 | apply slotStore_kept cl.1 | apply writeReg_kept cl | apply KeptO.next | apply KeptO.fault | apply KeptO.ite | apply Kept.ite | split

theorem regWrite_kept {P : State → Prop} (cl : ClosedAll P) {s : State} (h : Kept P s) (who : Requester) (addr bytes value : Nat) : Kept P (State.regWrite s who addr bytes value) := by
  unfold State.regWrite
  with_reducible repeat' first | assumption | apply stateAfter_kept cl.1 | apply execRegisterWrite_kept cl | apply Kept.ofNext (by assumption) | apply Kept.ite | apply Kept.foldl | intro _ _ _ | (extract_lets +onlyGivenNames x; refine (fun (_ : Kept P x) => ?_ : Kept P x → _) ?_; clear_value x; on_goal 2 => unfold x) | (extract_lets +onlyGivenNames x; clear_value x) | fail_if_no_progress apply Kept.fields cl.1 | split

theorem mgmtAccesses_kept {P : State → Prop} (cl : ClosedAll P) {s : State} (h : Kept P s) (port op : Nat) (ps : List (Nat × Nat)) : Kept P (State.mgmtAccesses s port op ps).1 := by
  unfold State.mgmtAccesses
  with_reducible repeat' first | assumption | apply regRead_kept cl.1 | apply regWrite_kept cl | apply Kept.ite | apply Kept.foldl | apply Kept.iteFst | apply Kept.foldlFst | apply Kept.ofFst (by assumption) | apply Kept.iteSnd | apply Kept.foldlSnd | apply Kept.ofSnd (by assumption) | intro _ _ _ | (extract_lets +onlyGivenNames x; refine (fun (_ : Kept P x) => ?_ : Kept P x → _) ?_; clear_value x; on_goal 2 => unfold x) | (extract_lets +onlyGivenNames x; refine (fun (_ : Kept P x.1) => ?_ : Kept P x.1 → _) ?_; clear_value x; on_goal 2 => unfold x) | (extract_lets +onlyGivenNames x; refine (fun (_ : Kept P x.2) => ?_ : Kept P x.2 → _) ?_; clear_value x; on_goal 2 => unfold x) | (extract_lets +onlyGivenNames x; clear_value x)

theorem mgmtPerform_kept {P : State → Prop} (cl : ClosedAll P) {s : State} (h : Kept P s) (port op seq : Nat) (ps : List (Nat × Nat)) : Kept P (State.mgmtPerform s port op seq ps).1 := by
  unfold State.mgmtPerform
  with_reducible repeat' first | assumption | apply mgmtAccesses_kept cl | apply addWrap_kept cl.1 | apply Kept.ofFst (by assumption) | (extract_lets +onlyGivenNames x; refine (fun (_ : Kept P x) => ?_ : Kept P x → _) ?_; clear_value x; on_goal 2 => unfold x) | (extract_lets +onlyGivenNames x; refine (fun (_ : Kept P x.1) => ?_ : Kept P x.1 → _) ?_; clear_value x; on_goal 2 => unfold x) | (extract_lets +onlyGivenNames x; clear_value x)

theorem mgmtAuthFail_kept {P : State → Prop} (cl : Closed P) {s : State} (h : Kept P s) (port : Nat) : Kept P (State.mgmtAuthFail s port) := by
  unfold State.mgmtAuthFail
  with_reducible repeat' first | assumption | apply addSat_kept cl | apply raiseHost_kept cl | apply Kept.ite | (extract_lets +onlyGivenNames x; refine (fun (_ : Kept P x) => ?_ : Kept P x → _) ?_; clear_value x; on_goal 2 => unfold x) | (extract_lets +onlyGivenNames x; clear_value x) | fail_if_no_progress apply Kept.fields cl

theorem mgmtRequest_kept {P : State → Prop} (cl : ClosedAll P) {s : State} (h : Kept P s) (port op : Nat) (data : List Nat) : Kept P (State.mgmtRequest s port op data) := by
  unfold State.mgmtRequest
  split
  · exact h
  · extract_lets body tag seq ps keyed r q s1 r1
    have hr : Kept P r.1 := mgmtPerform_kept cl h _ _ _ _
    have h1 : Kept P s1 := Kept.fields cl.1 h
    have hr1 : Kept P r1.1 := Kept.iteFst h1 (mgmtPerform_kept cl h1 _ _ _ _)
    clear_value r1 s1 r
    split
    · split
      · exact send_kept cl.1 hr _
      · exact hr
    · split
      · exact mgmtAuthFail_kept cl.1 h _
      · split
        · exact send_kept cl.1 h _
        · split
          · split
            · exact h
            · exact send_kept cl.1 h _
          · split
            · exact send_kept cl.1 (Kept.fields cl.1 hr1) _
            · exact hr1

theorem hostReadIssue_kept {P : State → Prop} (cl : Closed P) {s : State} (h : Kept P s) (a0 : Nat) : Kept P (State.hostReadIssue a0 s) := by
  induction a0 generalizing s with
  | zero =>
    unfold State.hostReadIssue
    with_reducible repeat' first | assumption | apply send_kept cl | apply Kept.ite | (extract_lets +onlyGivenNames x; refine (fun (_ : Kept P x) => ?_ : Kept P x → _) ?_; clear_value x; on_goal 2 => unfold x) | (extract_lets +onlyGivenNames x; clear_value x) | fail_if_no_progress apply Kept.fields cl | split
  | succ n ih =>
    unfold State.hostReadIssue
    with_reducible repeat' first | assumption | apply ih | apply send_kept cl | apply Kept.ite | (extract_lets +onlyGivenNames x; refine (fun (_ : Kept P x) => ?_ : Kept P x → _) ?_; clear_value x; on_goal 2 => unfold x) | (extract_lets +onlyGivenNames x; clear_value x) | fail_if_no_progress apply Kept.fields cl | split

theorem swapsStop_kept {P : State → Prop} (cl : ClosedAll P) {s : State} (h : Kept P s) : Kept P (State.swapsStop s) := by
  unfold State.swapsStop
  with_reducible repeat' first | assumption | apply powerDownAll_kept cl | apply substDrop_kept cl.1 | apply sparesShow_kept cl.1 | apply Kept.ite | apply Kept.foldl | intro _ _ _ | (extract_lets +onlyGivenNames x; refine (fun (_ : Kept P x) => ?_ : Kept P x → _) ?_; clear_value x; on_goal 2 => unfold x) | (extract_lets +onlyGivenNames x; clear_value x) | fail_if_no_progress apply Kept.fields cl.1

theorem copyFrom_kept {P : State → Prop} (cl : ClosedAll P) {s : State} (h : Kept P s) (w : Swap) (source : Nat) : Kept P (State.copyFrom s w source) := by
  unfold State.copyFrom
  with_reducible repeat' first | assumption | apply releaseOld_kept cl | apply copyShow_kept cl.1 | apply setSwap_kept cl.1 | apply raiseSpare_kept cl.1 | apply Kept.ite | (extract_lets +onlyGivenNames x; refine (fun (_ : Kept P x) => ?_ : Kept P x → _) ?_; clear_value x; on_goal 2 => unfold x) | (extract_lets +onlyGivenNames x; clear_value x) | fail_if_no_progress apply Kept.fields cl.1

theorem copyAgain_kept {P : State → Prop} (cl : ClosedAll P) {s : State} (h : Kept P s) (w : Swap) (code : Nat) : Kept P (State.copyAgain s w code) := by
  unfold State.copyAgain
  with_reducible repeat' first | assumption | apply raiseSpare_kept cl.1 | apply copyFrom_kept cl | (extract_lets +onlyGivenNames x; refine (fun (_ : Kept P x) => ?_ : Kept P x → _) ?_; clear_value x; on_goal 2 => unfold x) | (extract_lets +onlyGivenNames x; clear_value x) | fail_if_no_progress apply Kept.fields cl.1

theorem swapAdvance_kept {P : State → Prop} (cl : ClosedAll P) {s : State} (h : Kept P s) (w : Swap) : Kept P (State.swapAdvance s w) := by
  unfold State.swapAdvance
  with_reducible repeat' first | assumption | apply swapFail_kept cl | apply setSwap_kept cl.1 | apply copyAgain_kept cl | apply Kept.ite | (extract_lets +onlyGivenNames x; refine (fun (_ : Kept P x) => ?_ : Kept P x → _) ?_; clear_value x; on_goal 2 => unfold x) | (extract_lets +onlyGivenNames x; clear_value x) | fail_if_no_progress apply Kept.fields cl.1

theorem swapsAdvance_kept {P : State → Prop} (cl : ClosedAll P) {s : State} (h : Kept P s) : Kept P (State.swapsAdvance s) := by
  unfold State.swapsAdvance
  with_reducible repeat' first | assumption | apply swapsStop_kept cl | apply sparesShow_kept cl.1 | apply swapAdvance_kept cl | apply Kept.ite | apply Kept.foldl | intro _ _ _

theorem toPhase_kept {P : State → Prop} (cl : Closed P) {s : State} (h : Kept P s) (p : Nat) : Kept P (State.toPhase s p) := by
  unfold State.toPhase
  with_reducible repeat' first | assumption | (extract_lets +onlyGivenNames x; refine (fun (_ : Kept P x) => ?_ : Kept P x → _) ?_; clear_value x; on_goal 2 => unfold x) | (extract_lets +onlyGivenNames x; clear_value x) | fail_if_no_progress apply Kept.fields cl | split

theorem startSegment_kept {P : State → Prop} (cl : Closed P) {s : State} (h : Kept P s) (g : Nat) : Kept P (State.startSegment s g) := by
  unfold State.startSegment
  with_reducible repeat' first | assumption | apply put_kept cl | apply Kept.ite

theorem segmentsStart_kept {P : State → Prop} (cl : Closed P) {s : State} (h : Kept P s) : Kept P (State.segmentsStart s) := by
  unfold State.segmentsStart
  with_reducible repeat' first | assumption | apply startSegment_kept cl | apply Kept.foldl | intro _ _ _

theorem ringAndTr_kept {P : State → Prop} (cl : Closed P) {s : State} (h : Kept P s) : Kept P (State.ringAndTr s) := by
  unfold State.ringAndTr
  with_reducible repeat' first | assumption | apply requestAll_kept cl | apply put_kept cl | apply requestDomain_kept cl | apply Kept.ite | apply Kept.foldl | intro _ _ _ | (extract_lets +onlyGivenNames x; refine (fun (_ : Kept P x) => ?_ : Kept P x → _) ?_; clear_value x; on_goal 2 => unfold x) | (extract_lets +onlyGivenNames x; clear_value x)

theorem routesAndGelat_kept {P : State → Prop} (cl : Closed P) {s : State} (h : Kept P s) : Kept P (State.routesAndGelat s) := by
  unfold State.routesAndGelat
  with_reducible repeat' first | assumption | apply requestAll_kept cl | apply bringUpRoutes_kept cl | apply Kept.foldl | intro _ _ _

theorem edgeUp_kept {P : State → Prop} (cl : Closed P) {s : State} (h : Kept P s) : Kept P (State.edgeUp s) := by
  unfold State.edgeUp
  with_reducible repeat' first | assumption | apply requestDomain_kept cl | apply guestStart_kept cl | apply Kept.foldl | intro _ _ _ | (extract_lets +onlyGivenNames x; refine (fun (_ : Kept P x) => ?_ : Kept P x → _) ?_; clear_value x; on_goal 2 => unfold x) | (extract_lets +onlyGivenNames x; clear_value x)

theorem transEnd_kept {P : State → Prop} (cl : Closed P) {s : State} (h : Kept P s) : Kept P (State.transEnd s) := by
  unfold State.transEnd
  with_reducible repeat' first | assumption | apply put_kept cl | (extract_lets +onlyGivenNames x; refine (fun (_ : Kept P x) => ?_ : Kept P x → _) ?_; clear_value x; on_goal 2 => unfold x) | (extract_lets +onlyGivenNames x; clear_value x) | fail_if_no_progress apply Kept.fields cl

theorem afterWarm_kept {P : State → Prop} (cl : Closed P) {s : State} (h : Kept P s) (t : Transition) : Kept P (State.afterWarm s t) := by
  unfold State.afterWarm
  with_reducible repeat' first | assumption | apply transEnd_kept cl | apply Kept.ite | (extract_lets +onlyGivenNames x; refine (fun (_ : Kept P x) => ?_ : Kept P x → _) ?_; clear_value x; on_goal 2 => unfold x) | (extract_lets +onlyGivenNames x; clear_value x) | fail_if_no_progress apply Kept.fields cl

theorem galeStart_kept {P : State → Prop} (cl : Closed P) {s : State} (h : Kept P s) : Kept P (State.galeStart s) := by
  unfold State.galeStart
  with_reducible repeat' first | assumption | apply linkStart_kept cl | apply cndRequest_kept cl | apply Kept.ite | apply Kept.foldl | intro _ _ _ | (extract_lets +onlyGivenNames x; refine (fun (_ : Kept P x) => ?_ : Kept P x → _) ?_; clear_value x; on_goal 2 => unfold x) | (extract_lets +onlyGivenNames x; clear_value x)

theorem modulesStart_kept {P : State → Prop} (cl : Closed P) {s : State} (h : Kept P s) : Kept P (State.modulesStart s) := by
  unfold State.modulesStart
  with_reducible repeat' first | assumption | apply moduleIdentify_kept cl | apply moduleState_kept cl | apply Kept.ite | apply Kept.foldl | intro _ _ _ | (extract_lets +onlyGivenNames x; refine (fun (_ : Kept P x) => ?_ : Kept P x → _) ?_; clear_value x; on_goal 2 => unfold x) | (extract_lets +onlyGivenNames x; clear_value x)

theorem setPstate_kept {P : State → Prop} (cl : Closed P) {s : State} (h : Kept P s) (p : Nat) : Kept P (State.setPstate s p) := by
  unfold State.setPstate
  with_reducible repeat' first | assumption | apply hubEvent_kept cl | apply put_kept cl | apply Kept.ite

theorem enterWarm_kept {P : State → Prop} (cl : Closed P) {s : State} (h : Kept P s) : Kept P (State.enterWarm s) := by
  unfold State.enterWarm
  with_reducible repeat' first | assumption | apply galeStart_kept cl | apply modulesStart_kept cl | apply put_kept cl | apply setPstate_kept cl

theorem swapsResume_kept {P : State → Prop} (cl : Closed P) {s : State} (h : Kept P s) : Kept P (State.swapsResume s) := by
  unfold State.swapsResume
  with_reducible repeat' first | assumption | apply swapBegin_kept cl | apply sparesShow_kept cl | apply Kept.ite | apply Kept.foldl | intro _ _ _ | (extract_lets +onlyGivenNames x; refine (fun (_ : Kept P x) => ?_ : Kept P x → _) ?_; clear_value x; on_goal 2 => unfold x) | (extract_lets +onlyGivenNames x; clear_value x) | fail_if_no_progress apply Kept.fields cl

theorem enterServing_kept {P : State → Prop} (cl : Closed P) {s : State} (h : Kept P s) : Kept P (State.enterServing s) := by
  unfold State.enterServing
  with_reducible repeat' first | assumption | apply put_kept cl | apply setPstate_kept cl | apply readyRefresh_kept cl | apply armNow_kept cl | apply swapsResume_kept cl | apply transEnd_kept cl | (extract_lets +onlyGivenNames x; refine (fun (_ : Kept P x) => ?_ : Kept P x → _) ?_; clear_value x; on_goal 2 => unfold x) | (extract_lets +onlyGivenNames x; clear_value x) | fail_if_no_progress apply Kept.fields cl

theorem gatedShow_kept {P : State → Prop} (cl : Closed P) {s : State} (h : Kept P s) : Kept P (State.gatedShow s) := by
  unfold State.gatedShow
  with_reducible repeat' first | assumption | apply putSat_kept cl

theorem arraysDown_kept {P : State → Prop} (cl : ClosedAll P) {s : State} (h : Kept P s) : Kept P (State.arraysDown s) := by
  unfold State.arraysDown
  with_reducible repeat' first | assumption | apply swapsStop_kept cl | apply powerDownAll_kept cl | apply put_kept cl.1 | apply gatedShow_kept cl.1 | apply Kept.foldl | intro _ _ _ | (extract_lets +onlyGivenNames x; refine (fun (_ : Kept P x) => ?_ : Kept P x → _) ?_; clear_value x; on_goal 2 => unfold x) | (extract_lets +onlyGivenNames x; clear_value x)

theorem galeStop_kept {P : State → Prop} (cl : Closed P) {s : State} (h : Kept P s) : Kept P (State.galeStop s) := by
  unfold State.galeStop
  with_reducible repeat' first | assumption | apply cndClosing_kept cl | apply put_kept cl | apply cndEnd_kept cl | apply leaveUp_kept cl | apply Kept.ite | apply Kept.foldl | intro _ _ _ | (extract_lets +onlyGivenNames x; refine (fun (_ : Kept P x) => ?_ : Kept P x → _) ?_; clear_value x; on_goal 2 => unfold x) | (extract_lets +onlyGivenNames x; clear_value x)

theorem retainDomain_kept {P : State → Prop} (cl : ClosedAll P) {s : State} (h : Kept P s) (x d : Nat) : Kept P (State.retainDomain s x d) := by
  unfold State.retainDomain
  with_reducible repeat' first | assumption | apply domainDown_kept cl | apply powerDown_kept cl | apply Kept.ite | (extract_lets +onlyGivenNames x; refine (fun (_ : Kept P x) => ?_ : Kept P x → _) ?_; clear_value x; on_goal 2 => unfold x) | (extract_lets +onlyGivenNames x; clear_value x)

theorem stackRetain_kept {P : State → Prop} (cl : ClosedAll P) {s : State} (h : Kept P s) (cold : Bool) (x : Nat) : Kept P (State.stackRetain s cold x) := by
  unfold State.stackRetain
  with_reducible repeat' first | assumption | apply powerDownAll_kept cl | apply retainDomain_kept cl | apply Kept.ite | (extract_lets +onlyGivenNames x; refine (fun (_ : Kept P x) => ?_ : Kept P x → _) ?_; clear_value x; on_goal 2 => unfold x) | (extract_lets +onlyGivenNames x; clear_value x)

theorem modulesStop_kept {P : State → Prop} (cl : Closed P) {s : State} (h : Kept P s) : Kept P (State.modulesStop s) := by
  unfold State.modulesStop
  with_reducible repeat' first | assumption | apply moduleState_kept cl | apply setModule_kept cl | apply Kept.ite | apply Kept.foldl | intro _ _ _ | (extract_lets +onlyGivenNames x; refine (fun (_ : Kept P x) => ?_ : Kept P x → _) ?_; clear_value x; on_goal 2 => unfold x) | (extract_lets +onlyGivenNames x; clear_value x) | fail_if_no_progress apply Kept.fields cl

theorem ringDown_kept {P : State → Prop} (cl : ClosedAll P) {s : State} (h : Kept P s) : Kept P (State.ringDown s) := by
  unfold State.ringDown
  with_reducible repeat' first | assumption | apply guestOff_kept cl.1 | apply modulesStop_kept cl.1 | apply powerDownAll_kept cl | apply Kept.ite | apply Kept.foldl | intro _ _ _ | (extract_lets +onlyGivenNames x; refine (fun (_ : Kept P x) => ?_ : Kept P x → _) ?_; clear_value x; on_goal 2 => unfold x) | (extract_lets +onlyGivenNames x; clear_value x)

theorem billowStop_kept {P : State → Prop} (cl : Closed P) {s : State} (h : Kept P s) : Kept P (State.billowStop s) := by
  unfold State.billowStop
  with_reducible repeat' first | assumption | apply put_kept cl | apply Kept.ite | apply Kept.foldl | intro _ _ _ | (extract_lets +onlyGivenNames x; refine (fun (_ : Kept P x) => ?_ : Kept P x → _) ?_; clear_value x; on_goal 2 => unfold x) | (extract_lets +onlyGivenNames x; clear_value x) | fail_if_no_progress apply Kept.fields cl

theorem dpdRetain_kept {P : State → Prop} (cl : ClosedAll P) {s : State} (h : Kept P s) : Kept P (State.dpdRetain s) := by
  unfold State.dpdRetain
  with_reducible repeat' first | assumption | apply put_kept cl.1 | apply powerDownAll_kept cl | apply Kept.ite | apply Kept.foldl | intro _ _ _ | (extract_lets +onlyGivenNames x; refine (fun (_ : Kept P x) => ?_ : Kept P x → _) ?_; clear_value x; on_goal 2 => unfold x) | (extract_lets +onlyGivenNames x; clear_value x)

theorem enterRetained_kept {P : State → Prop} (cl : ClosedAll P) {s : State} (h : Kept P s) : Kept P (State.enterRetained s) := by
  unfold State.enterRetained
  with_reducible repeat' first | assumption | apply stackRetain_kept cl | apply setPstate_kept cl.1 | apply ringDown_kept cl | apply billowStop_kept cl.1 | apply dpdRetain_kept cl | apply Kept.foldl | intro _ _ _ | (extract_lets +onlyGivenNames x; refine (fun (_ : Kept P x) => ?_ : Kept P x → _) ?_; clear_value x; on_goal 2 => unfold x) | (extract_lets +onlyGivenNames x; clear_value x)

theorem dawnTakes_kept {P : State → Prop} (cl : ClosedAll P) {s : State} (h : Kept P s) : Kept P (State.dawnTakes s) := by
  unfold State.dawnTakes
  with_reducible repeat' first | assumption | (extract_lets +onlyGivenNames x; refine (fun (_ : Kept P x) => ?_ : Kept P x → _) ?_; clear_value x; on_goal 2 => unfold x) | (extract_lets +onlyGivenNames x; clear_value x) | fail_if_no_progress apply Kept.fields cl.1 | fail_if_no_progress apply Kept.isobarMk cl

theorem srcShow_kept {P : State → Prop} (cl : Closed P) {s : State} (h : Kept P s) : Kept P (State.srcShow s) := by
  unfold State.srcShow
  with_reducible repeat' first | assumption | apply put_kept cl | apply Kept.ite | (extract_lets +onlyGivenNames x; refine (fun (_ : Kept P x) => ?_ : Kept P x → _) ?_; clear_value x; on_goal 2 => unfold x) | (extract_lets +onlyGivenNames x; clear_value x)

theorem enterStandby_kept {P : State → Prop} (cl : ClosedAll P) {s : State} (h : Kept P s) : Kept P (State.enterStandby s) := by
  unfold State.enterStandby
  with_reducible repeat' first | assumption | apply applyReset_kept cl | apply put_kept cl.1 | apply dawnTakes_kept cl | apply srcShow_kept cl.1 | apply Kept.ite | apply Kept.foldl | intro _ _ _ | (extract_lets +onlyGivenNames x; refine (fun (_ : Kept P x) => ?_ : Kept P x → _) ?_; clear_value x; on_goal 2 => unfold x) | (extract_lets +onlyGivenNames x; clear_value x) | fail_if_no_progress apply Kept.fields cl.1 | refine Kept.memMk cl ?_ (fun _ => Memory.wf_nil)

theorem transNext_kept {P : State → Prop} (cl : ClosedAll P) {s : State} (h : Kept P s) (t : Transition) : KeptS P (State.transNext s t) := by
  unfold State.transNext
  have g : ∀ (c : Bool) {t : State} (p : Nat), Kept P t → KeptS P (if c then some (t.toPhase p) else none) :=
    fun c t p k => KeptS.ite (KeptS.some (toPhase_kept cl.1 k _)) KeptS.none
  dsimp only
  split
  · refine KeptS.ite (KeptS.some (toPhase_kept cl.1 h _)) (KeptS.ite (KeptS.some (toPhase_kept cl.1 h _)) (KeptS.ite ?_ (KeptS.some (toPhase_kept cl.1 h _))))
    exact KeptS.some (toPhase_kept cl.1 (segmentsStart_kept cl.1 (put_kept cl.1 h _ _)) _)
  · exact g _ _ (ringAndTr_kept cl.1 (segmentsStart_kept cl.1 h))
  · exact g _ _ h
  · exact g _ _ h
  · exact KeptS.ite (KeptS.some (toPhase_kept cl.1 (routesAndGelat_kept cl.1 h) _)) KeptS.none
  · exact g _ _ h
  · exact g _ _ h
  · exact KeptS.ite (KeptS.some (toPhase_kept cl.1 (edgeUp_kept cl.1 h) _)) KeptS.none
  · exact KeptS.ite (KeptS.some (afterWarm_kept cl.1 (enterWarm_kept cl.1 h) _)) KeptS.none
  · exact KeptS.some (toPhase_kept cl.1 (Kept.foldl h (fun t x k => Kept.ite (requestAll_kept cl.1 k _ _) (requestDomain_kept cl.1 k _ _))) _)
  · exact g _ _ h
  · exact KeptS.some (toPhase_kept cl.1 (Kept.foldl h (fun t x k => Kept.foldl k (fun u y l => Kept.ite (put_kept cl.1 l _ _) l))) _)
  · exact KeptS.ite (KeptS.some (toPhase_kept cl.1 (edgeUp_kept cl.1 (Kept.foldl h (fun t x k => Kept.ite (requestAll_kept cl.1 k _ _) k))) _)) KeptS.none
  · exact KeptS.ite (KeptS.some (afterWarm_kept cl.1 (enterWarm_kept cl.1 (Kept.foldl h (fun t x k => hubMessage_kept cl.1 k _ _ _))) _)) KeptS.none
  · exact KeptS.some (toPhase_kept cl.1 (Kept.foldl h (fun t x k => requestAll_kept cl.1 k _ _)) _)
  · exact g _ _ h
  · exact KeptS.ite (KeptS.some (enterServing_kept cl.1 h)) KeptS.none
  · refine KeptS.ite KeptS.none (KeptS.ite ?_ (KeptS.ite ?_ ?_))
    · exact KeptS.some (readyRefresh_kept cl.1 (transEnd_kept cl.1 (setPstate_kept cl.1 (arraysDown_kept cl h) _)))
    · exact KeptS.some (toPhase_kept cl.1 (Kept.foldl (galeStop_kept cl.1 (arraysDown_kept cl h)) (fun t x k => hubMessage_kept cl.1 k _ _ _)) _)
    · exact KeptS.some (toPhase_kept cl.1 (arraysDown_kept cl h) _)
  · exact g _ _ h
  · exact KeptS.ite (KeptS.some (enterStandby_kept cl (readyRefresh_kept cl.1 (enterRetained_kept cl h)))) (KeptS.some (transEnd_kept cl.1 (readyRefresh_kept cl.1 (enterRetained_kept cl h))))
  · exact KeptS.none

theorem transRun_kept {P : State → Prop} (cl : ClosedAll P) {s : State} (h : Kept P s) (a0 : Nat) : Kept P (State.transRun a0 s) := by
  induction a0 generalizing s with
  | zero =>
    unfold State.transRun
    with_reducible repeat' first | assumption | apply transNext_kept cl | apply Kept.ofSome (by assumption) | apply Kept.getD | split
  | succ n ih =>
    unfold State.transRun
    with_reducible repeat' first | assumption | apply ih | apply transNext_kept cl | apply Kept.ofSome (by assumption) | apply Kept.getD | split

theorem progress_kept {P : State → Prop} (cl : ClosedAll P) {s : State} (h : Kept P s) : Kept P (State.progress s) := by
  unfold State.progress
  with_reducible repeat' first | assumption | apply swapsAdvance_kept cl | apply transRun_kept cl

theorem drainRead_kept {P : State → Prop} (cl : Closed P) {s : State} (h : Kept P s) : Kept P (State.drainRead s) := by
  unfold State.drainRead
  with_reducible repeat' first | assumption | apply send_kept cl | apply Kept.ite | (extract_lets +onlyGivenNames x; refine (fun (_ : Kept P x) => ?_ : Kept P x → _) ?_; clear_value x; on_goal 2 => unfold x) | (extract_lets +onlyGivenNames x; clear_value x) | fail_if_no_progress apply Kept.fields cl | split

theorem toAll_kept {P : State → Prop} (cl : Closed P) {s : State} (h : Kept P s) (type : Nat) (ws : List Nat) : Kept P (State.toAll s type ws) := by
  unfold State.toAll
  with_reducible repeat' first | assumption | apply hubMessage_kept cl | apply Kept.foldl | intro _ _ _

theorem maybeClear_kept {P : State → Prop} (cl : Closed P) {s : State} (h : Kept P s) : Kept P (State.maybeClear s) := by
  unfold State.maybeClear
  with_reducible repeat' first | assumption | apply drainRead_kept cl | apply toAll_kept cl | apply Kept.ite | (extract_lets +onlyGivenNames x; refine (fun (_ : Kept P x) => ?_ : Kept P x → _) ?_; clear_value x; on_goal 2 => unfold x) | (extract_lets +onlyGivenNames x; clear_value x) | fail_if_no_progress apply Kept.fields cl

theorem estimateLow_kept {P : State → Prop} (cl : Closed P) {s : State} (h : Kept P s) : Kept P (State.estimateLow s) := by
  unfold State.estimateLow
  with_reducible repeat' first | assumption | apply raiseThermal_kept cl | apply Kept.ite

theorem passMarked_kept {P : State → Prop} (cl : Closed P) {s : State} (h : Kept P s) : Kept P (State.passMarked s) := by
  unfold State.passMarked
  with_reducible repeat' first | assumption | apply putSat_kept cl | apply put_kept cl | apply record_kept cl | apply Kept.ite | (extract_lets +onlyGivenNames x; refine (fun (_ : Kept P x) => ?_ : Kept P x → _) ?_; clear_value x; on_goal 2 => unfold x) | (extract_lets +onlyGivenNames x; clear_value x)

theorem emptyArray_kept {P : State → Prop} (cl : Closed P) {s : State} (h : Kept P s) (site a : Nat) : Kept P (State.emptyArray s site a) := by
  unfold State.emptyArray
  with_reducible repeat' first | assumption | apply setArray_kept cl | apply put_kept cl | apply Kept.ite | (extract_lets +onlyGivenNames x; refine (fun (_ : Kept P x) => ?_ : Kept P x → _) ?_; clear_value x; on_goal 2 => unfold x) | (extract_lets +onlyGivenNames x; clear_value x)

theorem emptyVector_kept {P : State → Prop} (cl : Closed P) {s : State} (h : Kept P s) (site v : Nat) : Kept P (State.emptyVector s site v) := by
  unfold State.emptyVector
  with_reducible repeat' first | assumption | apply setReg_kept cl | apply setVector_kept cl | apply put_kept cl | apply Kept.ite | (extract_lets +onlyGivenNames x; refine (fun (_ : Kept P x) => ?_ : Kept P x → _) ?_; clear_value x; on_goal 2 => unfold x) | (extract_lets +onlyGivenNames x; clear_value x)

theorem setPartials_kept {P : State → Prop} (cl : Closed P) {s : State} (h : Kept P s) (site t : Nat) (l : List Partial) : Kept P (State.setPartials s site t l) := by
  unfold State.setPartials
  with_reducible repeat' first | assumption | apply put_kept cl | (extract_lets +onlyGivenNames x; refine (fun (_ : Kept P x) => ?_ : Kept P x → _) ?_; clear_value x; on_goal 2 => unfold x) | (extract_lets +onlyGivenNames x; clear_value x) | fail_if_no_progress apply Kept.fields cl

theorem emptyDie_kept {P : State → Prop} (cl : Closed P) {s : State} (h : Kept P s) (site : Nat) : Kept P (State.emptyDie s site) := by
  unfold State.emptyDie
  with_reducible repeat' first | assumption | apply emptyArray_kept cl | apply put_kept cl | apply emptyVector_kept cl | apply haltedBits_kept cl | apply admittedBits_kept cl | apply setDie_kept cl | apply setGelat_kept cl | apply setPartials_kept cl | apply setVotes_kept cl | apply setReplay_kept cl | apply Kept.ite | apply Kept.foldl | intro _ _ _ | (extract_lets +onlyGivenNames x; refine (fun (_ : Kept P x) => ?_ : Kept P x → _) ?_; clear_value x; on_goal 2 => unfold x) | (extract_lets +onlyGivenNames x; clear_value x) | fail_if_no_progress apply Kept.fields cl

theorem panelEmpty_kept {P : State → Prop} (cl : Closed P) {s : State} (h : Kept P s) : Kept P (State.panelEmpty s) := by
  unfold State.panelEmpty
  with_reducible repeat' first | assumption | apply emptyDie_kept cl | apply put_kept cl | apply Kept.foldl | intro _ _ _ | (extract_lets +onlyGivenNames x; refine (fun (_ : Kept P x) => ?_ : Kept P x → _) ?_; clear_value x; on_goal 2 => unfold x) | (extract_lets +onlyGivenNames x; clear_value x) | fail_if_no_progress apply Kept.fields cl

theorem retireMapped_kept {P : State → Prop} (cl : Closed P) {s : State} (h : Kept P s) (site a : Nat) : Kept P (State.retireMapped s site a) := by
  unfold State.retireMapped
  with_reducible repeat' first | assumption | apply writeRowMap_kept cl | apply Kept.ite | (extract_lets +onlyGivenNames x; refine (fun (_ : Kept P x) => ?_ : Kept P x → _) ?_; clear_value x; on_goal 2 => unfold x) | (extract_lets +onlyGivenNames x; clear_value x)

theorem retireArrays_kept {P : State → Prop} (cl : Closed P) {s : State} (h : Kept P s) : Kept P (State.retireArrays s) := by
  unfold State.retireArrays
  with_reducible repeat' first | assumption | apply retireMapped_kept cl | apply Kept.foldl | intro _ _ _ | (extract_lets +onlyGivenNames x; refine (fun (_ : Kept P x) => ?_ : Kept P x → _) ?_; clear_value x; on_goal 2 => unfold x) | (extract_lets +onlyGivenNames x; clear_value x) | fail_if_no_progress apply Kept.fields cl

theorem spareMin_kept {P : State → Prop} (cl : Closed P) {s : State} (h : Kept P s) (site : Nat) : Kept P (State.spareMin s site) := by
  unfold State.spareMin
  with_reducible repeat' first | assumption | apply put_kept cl

theorem takeSpares_kept {P : State → Prop} (cl : Closed P) {s : State} (h : Kept P s) (site bank n : Nat) : Kept P (State.takeSpares s site bank n).1 := by
  unfold State.takeSpares
  with_reducible repeat' first | assumption | apply spareMin_kept cl | apply setGelat_kept cl | apply Kept.ofFst (by assumption) | (extract_lets +onlyGivenNames x; refine (fun (_ : Kept P x) => ?_ : Kept P x → _) ?_; clear_value x; on_goal 2 => unfold x) | (extract_lets +onlyGivenNames x; refine (fun (_ : Kept P x.1) => ?_ : Kept P x.1 → _) ?_; clear_value x; on_goal 2 => unfold x) | (extract_lets +onlyGivenNames x; clear_value x) | fail_if_no_progress apply Kept.fields cl

theorem releaseHeld_kept {P : State → Prop} (cl : Closed P) {s : State} (h : Kept P s) (site row : Nat) : Kept P (State.releaseHeld s site row) := by
  unfold State.releaseHeld
  with_reducible repeat' first | assumption | apply repairCount_kept cl | apply setGelat_kept cl | apply put_kept cl | apply Kept.ite | (extract_lets +onlyGivenNames x; refine (fun (_ : Kept P x) => ?_ : Kept P x → _) ?_; clear_value x; on_goal 2 => unfold x) | (extract_lets +onlyGivenNames x; clear_value x) | fail_if_no_progress apply Kept.fields cl

theorem freshRow_kept {P : State → Prop} (cl : ClosedAll P) {s : State} (h : Kept P s) (key : Nat) : Kept P (State.freshRow s key) := by
  unfold State.freshRow
  with_reducible repeat' first | assumption | apply setGelat_kept cl.1 | apply Kept.ite | (extract_lets +onlyGivenNames x; refine (fun (_ : Kept P x) => ?_ : Kept P x → _) ?_; clear_value x; on_goal 2 => unfold x) | (extract_lets +onlyGivenNames x; clear_value x) | refine Kept.memMk cl ?_ (fun w => Memory.wf_writeBytes _ _ _ w)

theorem storeKey_kept {P : State → Prop} (cl : ClosedAll P) {s : State} (h : Kept P s) (key : Nat) (data : List Nat) (poison : Bool) : Kept P (State.storeKey s key data poison) := by
  unfold State.storeKey
  with_reducible repeat' first | assumption | apply freshRow_kept cl | apply Kept.ite | apply Kept.foldl | intro _ _ _ | (extract_lets +onlyGivenNames x; refine (fun (_ : Kept P x) => ?_ : Kept P x → _) ?_; clear_value x; on_goal 2 => unfold x) | (extract_lets +onlyGivenNames x; clear_value x) | refine Kept.memMk cl ?_ (fun w => Memory.wf_writeBytes _ _ _ w)

theorem repairWeight_kept {P : State → Prop} (cl : ClosedAll P) {s : State} (h : Kept P s) (site row fails : Nat) : Kept P (State.repairWeight s site row fails) := by
  unfold State.repairWeight
  with_reducible repeat' first | assumption | apply raiseGelat_kept cl.1 | apply repairCount_kept cl.1 | apply put_kept cl.1 | apply setGelat_kept cl.1 | apply takeSpares_kept cl.1 | apply addSat_kept cl.1 | apply decideRetire_kept cl.1 | apply releaseHeld_kept cl.1 | apply storeKey_kept cl | apply Kept.ite | apply Kept.iteFst | apply Kept.ofFst (by assumption) | (extract_lets +onlyGivenNames x; refine (fun (_ : Kept P x) => ?_ : Kept P x → _) ?_; clear_value x; on_goal 2 => unfold x) | (extract_lets +onlyGivenNames x; refine (fun (_ : Kept P x.1) => ?_ : Kept P x.1 → _) ?_; clear_value x; on_goal 2 => unfold x) | (extract_lets +onlyGivenNames x; clear_value x) | fail_if_no_progress apply Kept.fields cl.1 | split

theorem repairActivation_kept {P : State → Prop} (cl : ClosedAll P) {s : State} (h : Kept P s) (site row fails : Nat) : Kept P (State.repairActivation s site row fails) := by
  unfold State.repairActivation
  with_reducible repeat' first | assumption | apply takeSpares_kept cl.1 | apply addSat_kept cl.1 | apply raiseGelat_kept cl.1 | apply storeKey_kept cl | apply Kept.ite | apply Kept.iteFst | apply Kept.ofFst (by assumption) | (extract_lets +onlyGivenNames x; refine (fun (_ : Kept P x) => ?_ : Kept P x → _) ?_; clear_value x; on_goal 2 => unfold x) | (extract_lets +onlyGivenNames x; refine (fun (_ : Kept P x.1) => ?_ : Kept P x.1 → _) ?_; clear_value x; on_goal 2 => unfold x) | (extract_lets +onlyGivenNames x; clear_value x)

theorem repairSite_kept {P : State → Prop} (cl : ClosedAll P) {s : State} (h : Kept P s) (site : Nat) (fails : List (Nat × Nat)) : Kept P (State.repairSite s site fails) := by
  unfold State.repairSite
  with_reducible repeat' first | assumption | apply repairCount_kept cl.1 | apply setGelat_kept cl.1 | apply repairWeight_kept cl | apply repairActivation_kept cl | apply put_kept cl.1 | apply Kept.foldl | intro _ _ _ | (extract_lets +onlyGivenNames x; refine (fun (_ : Kept P x) => ?_ : Kept P x → _) ?_; clear_value x; on_goal 2 => unfold x) | (extract_lets +onlyGivenNames x; clear_value x) | fail_if_no_progress apply Kept.fields cl.1

theorem repairAll_kept {P : State → Prop} (cl : ClosedAll P) {s : State} (h : Kept P s) (fails : List (Nat × Nat)) : Kept P (State.repairAll s fails) := by
  unfold State.repairAll
  with_reducible repeat' first | assumption | apply repairSite_kept cl | apply Kept.ite | apply Kept.foldl | intro _ _ _

theorem hbmsLeave_kept {P : State → Prop} (cl : Closed P) {s : State} (h : Kept P s) : Kept P (State.hbmsLeave s) := by
  unfold State.hbmsLeave
  with_reducible repeat' first | assumption | apply raiseDpd_kept cl | apply hbmLeave_kept cl | apply Kept.foldl | intro _ _ _

theorem linksRetrain_kept {P : State → Prop} (cl : Closed P) {s : State} (h : Kept P s) : Kept P (State.linksRetrain s) := by
  unfold State.linksRetrain
  with_reducible repeat' first | assumption | apply linkState_kept cl | apply put_kept cl | apply Kept.ite | apply Kept.foldl | intro _ _ _ | (extract_lets +onlyGivenNames x; refine (fun (_ : Kept P x) => ?_ : Kept P x → _) ?_; clear_value x; on_goal 2 => unfold x) | (extract_lets +onlyGivenNames x; clear_value x) | split

theorem chronicRetire_kept {P : State → Prop} (cl : Closed P) {s : State} (h : Kept P s) (site : Nat) : Kept P (State.chronicRetire s site) := by
  unfold State.chronicRetire
  with_reducible repeat' first | assumption | apply decideRetire_kept cl | apply raiseThermal_kept cl | apply Kept.ite

theorem setHeat_kept {P : State → Prop} (cl : Closed P) {s : State} (h : Kept P s) (site : Nat) (x : StackHeat) : Kept P (State.setHeat s site x) := by
  unfold State.setHeat
  with_reducible repeat' first | assumption | (extract_lets +onlyGivenNames x; refine (fun (_ : Kept P x) => ?_ : Kept P x → _) ?_; clear_value x; on_goal 2 => unfold x) | (extract_lets +onlyGivenNames x; clear_value x) | fail_if_no_progress apply Kept.fields cl

theorem gateStack_kept {P : State → Prop} (cl : ClosedAll P) {s : State} (h : Kept P s) (site : Nat) : Kept P (State.gateStack s site) := by
  unfold State.gateStack
  with_reducible repeat' first | assumption | apply setHeat_kept cl.1 | apply gatedShow_kept cl.1 | apply put_kept cl.1 | apply powerDownAll_kept cl | apply raiseThermal_kept cl.1 | apply Kept.ite | (extract_lets +onlyGivenNames x; refine (fun (_ : Kept P x) => ?_ : Kept P x → _) ?_; clear_value x; on_goal 2 => unfold x) | (extract_lets +onlyGivenNames x; clear_value x) | fail_if_no_progress apply Kept.fields cl.1

theorem quiesceWaiting_kept {P : State → Prop} (cl : Closed P) {s : State} (h : Kept P s) : Kept P (State.quiesceWaiting s) := by
  unfold State.quiesceWaiting
  with_reducible repeat' first | assumption | apply quiesce_kept cl | apply Kept.ite | apply Kept.foldl | intro _ _ _

theorem settings_kept {P : State → Prop} (cl : Closed P) {s : State} (h : Kept P s) : Kept P (State.settings s) := by
  unfold State.settings
  with_reducible repeat' first | assumption | apply setReg_kept cl | apply put_kept cl | (extract_lets +onlyGivenNames x; refine (fun (_ : Kept P x) => ?_ : Kept P x → _) ?_; clear_value x; on_goal 2 => unfold x) | (extract_lets +onlyGivenNames x; clear_value x) | fail_if_no_progress apply Kept.fields cl

theorem verifyWaiting_kept {P : State → Prop} (cl : Closed P) {s : State} (h : Kept P s) : Kept P (State.verifyWaiting s) := by
  unfold State.verifyWaiting
  with_reducible repeat' first | assumption | apply verifyRoutes_kept cl | apply Kept.ite | (extract_lets +onlyGivenNames x; refine (fun (_ : Kept P x) => ?_ : Kept P x → _) ?_; clear_value x; on_goal 2 => unfold x) | (extract_lets +onlyGivenNames x; clear_value x) | fail_if_no_progress apply Kept.fields cl

theorem boundary_kept {P : State → Prop} (cl : ClosedAll P) {s : State} (h : Kept P s) (fails : List (Nat × Nat)) : Kept P (State.boundary s fails) := by
  unfold State.boundary
  with_reducible repeat' first | assumption | apply retireArrays_kept cl.1 | apply repairAll_kept cl | apply hbmsLeave_kept cl.1 | apply linksRetrain_kept cl.1 | apply takeRetires_kept cl | apply chronicRetire_kept cl.1 | apply gateStack_kept cl | apply quiesceWaiting_kept cl.1 | apply settings_kept cl.1 | apply verifyWaiting_kept cl.1 | apply readyRefresh_kept cl.1 | apply armNow_kept cl.1 | apply Kept.foldl | intro _ _ _ | (extract_lets +onlyGivenNames x; refine (fun (_ : Kept P x) => ?_ : Kept P x → _) ?_; clear_value x; on_goal 2 => unfold x) | (extract_lets +onlyGivenNames x; clear_value x)

theorem hubFailedNow_kept {P : State → Prop} (cl : ClosedAll P) {s : State} (h : Kept P s) : Kept P (State.hubFailedNow s) := by
  unfold State.hubFailedNow
  with_reducible repeat' first | assumption | apply resetBy_kept cl | apply Kept.ite | (extract_lets +onlyGivenNames x; refine (fun (_ : Kept P x) => ?_ : Kept P x → _) ?_; clear_value x; on_goal 2 => unfold x) | (extract_lets +onlyGivenNames x; clear_value x) | fail_if_no_progress apply Kept.fields cl.1

theorem hostWrite_kept {P : State → Prop} (cl : Closed P) {s : State} (h : Kept P s) (addr : Nat) (bytes : List Nat) : Kept P (State.hostWrite s addr bytes) := by
  unfold State.hostWrite
  with_reducible repeat' first | assumption | apply send_kept cl | apply Kept.ite | (extract_lets +onlyGivenNames x; refine (fun (_ : Kept P x) => ?_ : Kept P x → _) ?_; clear_value x; on_goal 2 => unfold x) | (extract_lets +onlyGivenNames x; clear_value x) | fail_if_no_progress apply Kept.fields cl

theorem writeRecord_kept {P : State → Prop} (cl : Closed P) {s : State} (h : Kept P s) (c : Completion) : Kept P (State.writeRecord s c) := by
  unfold State.writeRecord
  with_reducible repeat' first | assumption | apply hostWrite_kept cl | apply addWrap_kept cl | apply put_kept cl | apply trigger_kept cl | apply Kept.ite | (extract_lets +onlyGivenNames x; refine (fun (_ : Kept P x) => ?_ : Kept P x → _) ?_; clear_value x; on_goal 2 => unfold x) | (extract_lets +onlyGivenNames x; clear_value x) | fail_if_no_progress apply Kept.fields cl | split

theorem writeRecords_kept {P : State → Prop} (cl : Closed P) {s : State} (h : Kept P s) : Kept P (State.writeRecords s) := by
  unfold State.writeRecords
  with_reducible repeat' first | assumption | apply writeRecord_kept cl | apply Kept.ite | apply Kept.foldl | intro _ _ _ | (extract_lets +onlyGivenNames x; refine (fun (_ : Kept P x) => ?_ : Kept P x → _) ?_; clear_value x; on_goal 2 => unfold x) | (extract_lets +onlyGivenNames x; clear_value x) | fail_if_no_progress apply Kept.fields cl

theorem passBoundary_kept {P : State → Prop} (cl : ClosedAll P) {s : State} (h : Kept P s) (fails : List (Nat × Nat)) : Kept P (State.passBoundary s fails) := by
  unfold State.passBoundary
  with_reducible repeat' first | assumption | apply creditUpdate_kept cl.1 | apply estimateLow_kept cl.1 | apply passMarked_kept cl.1 | apply put_kept cl.1 | apply panelEmpty_kept cl.1 | apply complete_kept cl.1 | apply boundary_kept cl | apply hubFailedNow_kept cl | apply writeRecords_kept cl.1 | apply Kept.ite | (extract_lets +onlyGivenNames x; refine (fun (_ : Kept P x) => ?_ : Kept P x → _) ?_; clear_value x; on_goal 2 => unfold x) | (extract_lets +onlyGivenNames x; clear_value x) | fail_if_no_progress apply Kept.fields cl.1

theorem drainOn_kept {P : State → Prop} (cl : ClosedAll P) {s : State} (h : Kept P s) : Kept P (State.drainOn s) := by
  unfold State.drainOn
  with_reducible repeat' first | assumption | apply maybeClear_kept cl.1 | apply passBoundary_kept cl | apply Kept.ite | (extract_lets +onlyGivenNames x; refine (fun (_ : Kept P x) => ?_ : Kept P x → _) ?_; clear_value x; on_goal 2 => unfold x) | (extract_lets +onlyGivenNames x; clear_value x)

theorem hostReadEnd_kept {P : State → Prop} (cl : ClosedAll P) {s : State} (h : Kept P s) (tag : Nat) (ok : Bool) (data : List Nat) : Kept P (State.hostReadEnd s tag ok data) := by
  unfold State.hostReadEnd
  with_reducible repeat' first | assumption | apply hostReadIssue_kept cl.1 | apply answerRead_kept cl.1 | apply tick_kept cl.1 | apply progress_kept cl | apply drainOn_kept cl | apply Kept.ite | (extract_lets +onlyGivenNames x; refine (fun (_ : Kept P x) => ?_ : Kept P x → _) ?_; clear_value x; on_goal 2 => unfold x) | (extract_lets +onlyGivenNames x; clear_value x) | fail_if_no_progress apply Kept.fields cl.1 | split

theorem execHostReadCompletion_kept {P : State → Prop} (cl : ClosedAll P) {s : State} (h : Kept P s) (tag : Nat) (ok : Bool) (data : List Nat) : KeptO P (execHostReadCompletion tag ok data s) := by
  unfold execHostReadCompletion
  with_reducible repeat' first | assumption | apply hostReadEnd_kept cl | apply KeptO.next

theorem readInvalid_kept {P : State → Prop} (cl : Closed P) {s : State} (h : Kept P s) (node : Nat) (p : Packet) : Kept P (State.readInvalid s node p) := by
  unfold State.readInvalid
  with_reducible repeat' first | assumption | apply answerRead_kept cl | apply ppaInvalid_kept cl

theorem serveRead_kept {P : State → Prop} (cl : Closed P) {s : State} (h : Kept P s) (node : Nat) (p : Packet) (e : Ecc) : Kept P (State.serveRead s node p e) := by
  unfold State.serveRead
  with_reducible repeat' first | assumption | apply readInvalid_kept cl | apply eccOn_kept cl | apply answerFlits_kept cl | apply Kept.ite | (extract_lets +onlyGivenNames x; refine (fun (_ : Kept P x) => ?_ : Kept P x → _) ?_; clear_value x; on_goal 2 => unfold x) | (extract_lets +onlyGivenNames x; clear_value x)

theorem mgmtState_kept {P : State → Prop} (cl : Closed P) {s : State} (h : Kept P s) (p st : Nat) : Kept P (State.mgmtState s p st) := by
  unfold State.mgmtState
  with_reducible repeat' first | assumption | apply hubEvent_kept cl | apply put_kept cl | apply Kept.ite

theorem cperSend_kept {P : State → Prop} (cl : Closed P) {s : State} (h : Kept P s) (p seq : Nat) : Kept P (State.cperSend s p seq) := by
  unfold State.cperSend
  with_reducible repeat' first | assumption | apply send_kept cl | split

theorem exportOn_kept {P : State → Prop} (cl : Closed P) {s : State} (h : Kept P s) (a0 : Nat) : Kept P (State.exportOn a0 s) := by
  induction a0 generalizing s with
  | zero =>
    unfold State.exportOn
    with_reducible repeat' first | assumption | apply cperSend_kept cl | apply Kept.ite | (extract_lets +onlyGivenNames x; refine (fun (_ : Kept P x) => ?_ : Kept P x → _) ?_; clear_value x; on_goal 2 => unfold x) | (extract_lets +onlyGivenNames x; clear_value x) | fail_if_no_progress apply Kept.fields cl | split
  | succ n ih =>
    unfold State.exportOn
    with_reducible repeat' first | assumption | apply ih | apply cperSend_kept cl | apply Kept.ite | (extract_lets +onlyGivenNames x; refine (fun (_ : Kept P x) => ?_ : Kept P x → _) ?_; clear_value x; on_goal 2 => unfold x) | (extract_lets +onlyGivenNames x; clear_value x) | fail_if_no_progress apply Kept.fields cl | split

theorem mgmtIdle_kept {P : State → Prop} (cl : Closed P) {s : State} (h : Kept P s) : Kept P (State.mgmtIdle s) := by
  unfold State.mgmtIdle
  with_reducible repeat' first | assumption | apply mgmtState_kept cl | apply exportOn_kept cl | apply Kept.ite | apply Kept.foldl | intro _ _ _ | (extract_lets +onlyGivenNames x; refine (fun (_ : Kept P x) => ?_ : Kept P x → _) ?_; clear_value x; on_goal 2 => unfold x) | (extract_lets +onlyGivenNames x; clear_value x)

theorem setEpoch_kept {P : State → Prop} (cl : Closed P) {s : State} (h : Kept P s) (e : Int) : Kept P (State.setEpoch s e) := by
  unfold State.setEpoch
  with_reducible repeat' first | assumption | apply put_kept cl

theorem ptpMeasure_kept {P : State → Prop} (cl : Closed P) {s : State} (h : Kept P s) (t1 rx : Int) : Kept P (State.ptpMeasure s t1 rx) := by
  unfold State.ptpMeasure
  with_reducible repeat' first | assumption | apply setEpoch_kept cl | apply put_kept cl | apply setPtp_kept cl | apply raiseClk_kept cl | apply Kept.ite | (extract_lets +onlyGivenNames x; refine (fun (_ : Kept P x) => ?_ : Kept P x → _) ?_; clear_value x; on_goal 2 => unfold x) | (extract_lets +onlyGivenNames x; clear_value x) | fail_if_no_progress apply Kept.fields cl | split

end Sys2Proof.Machine
end

