-- ==== Sys2Proof/Laws/KeptOps4.lean ====
section
/-! SUPPORT. Part 4 of 7 of the lemmas X_kept, one per operation and per command (see Laws/Kept.lean), in an order where each comes after those it cites. -/

set_option linter.unusedTactic false
set_option linter.unreachableTactic false
set_option linter.unusedVariables false

namespace Sys2Proof.Machine

open Sys2Proof

theorem execPtpSync_kept {P : State → Prop} (cl : Closed P) {s : State} (h : Kept P s) (port : Nat) (m : PtpMsg) : KeptO P (execPtpSync port m s) := by
  unfold execPtpSync
  with_reducible repeat' first | assumption | apply setPtp_kept cl | apply ptpMeasure_kept cl | apply KeptO.next | apply KeptO.ite | apply Kept.ite | (extract_lets +onlyGivenNames x; refine (fun (_ : Kept P x) => ?_ : Kept P x → _) ?_; clear_value x; on_goal 2 => unfold x) | (extract_lets +onlyGivenNames x; clear_value x) | fail_if_no_progress apply Kept.fields cl

theorem redStart_kept {P : State → Prop} (cl : Closed P) {s : State} (h : Kept P s) (site : Nat) : Kept P (State.redStart s site) := by
  unfold State.redStart
  with_reducible repeat' first | assumption | apply setPartials_kept cl | apply put_kept cl | apply Kept.ite | apply Kept.foldl | intro _ _ _ | (extract_lets +onlyGivenNames x; refine (fun (_ : Kept P x) => ?_ : Kept P x → _) ?_; clear_value x; on_goal 2 => unfold x) | (extract_lets +onlyGivenNames x; clear_value x) | fail_if_no_progress apply Kept.fields cl

theorem cndAck_kept {P : State → Prop} (cl : Closed P) {s : State} (h : Kept P s) (c st : Nat) (status ref : Nat) : Kept P (State.cndAck s c st status ref) := by
  unfold State.cndAck
  with_reducible repeat' first | assumption | apply setConduit_kept cl | apply cndTransmit_kept cl | (extract_lets +onlyGivenNames x; refine (fun (_ : Kept P x) => ?_ : Kept P x → _) ?_; clear_value x; on_goal 2 => unfold x) | (extract_lets +onlyGivenNames x; clear_value x) | fail_if_no_progress apply Kept.fields cl

theorem cndAckEvery_kept {P : State → Prop} (cl : Closed P) {s : State} (h : Kept P s) (c st : Nat) : Kept P (State.cndAckEvery s c st) := by
  unfold State.cndAckEvery
  with_reducible repeat' first | assumption | apply cndAck_kept cl | apply Kept.ite

theorem edgeWrite_kept {P : State → Prop} (cl : Closed P) {s : State} (h : Kept P s) (e : Nat) (use : ReqUse) (p : Nat) (data : List Nat) (poison : Bool) : Kept P (State.edgeWrite s e use p data poison).1 := by
  unfold State.edgeWrite
  with_reducible repeat' first | assumption | apply issue_kept cl | apply Kept.foldl | apply Kept.foldlFst | apply Kept.ofFst (by assumption) | intro _ _ _ | (extract_lets +onlyGivenNames x; refine (fun (_ : Kept P x) => ?_ : Kept P x → _) ?_; clear_value x; on_goal 2 => unfold x) | (extract_lets +onlyGivenNames x; refine (fun (_ : Kept P x.1) => ?_ : Kept P x.1 → _) ?_; clear_value x; on_goal 2 => unfold x) | (extract_lets +onlyGivenNames x; clear_value x)

theorem cndOpEnd_kept {P : State → Prop} (cl : Closed P) {s : State} (h : Kept P s) (c : Nat) (o : CndOp) : Kept P (State.cndOpEnd s c o) := by
  unfold State.cndOpEnd
  with_reducible repeat' first | assumption | apply setConduit_kept cl | apply cndAck_kept cl | apply cndAckEvery_kept cl | apply cndSend_kept cl | apply edgeWrite_kept cl | apply cndOp_kept cl | apply put_kept cl | apply trigger_kept cl | apply Kept.ite | apply Kept.iteFst | apply Kept.ofFst (by assumption) | (extract_lets +onlyGivenNames x; refine (fun (_ : Kept P x) => ?_ : Kept P x → _) ?_; clear_value x; on_goal 2 => unfold x) | (extract_lets +onlyGivenNames x; refine (fun (_ : Kept P x.1) => ?_ : Kept P x.1 → _) ?_; clear_value x; on_goal 2 => unfold x) | (extract_lets +onlyGivenNames x; clear_value x) | fail_if_no_progress apply Kept.fields cl | split

theorem cndAnswer_kept {P : State → Prop} (cl : Closed P) {s : State} (h : Kept P s) (c key ppa : Nat) (data : List Nat) (poison : Bool) : Kept P (State.cndAnswer s c key ppa data poison) := by
  unfold State.cndAnswer
  with_reducible repeat' first | assumption | apply setConduit_kept cl | apply cndOpEnd_kept cl | apply Kept.ite | (extract_lets +onlyGivenNames x; refine (fun (_ : Kept P x) => ?_ : Kept P x → _) ?_; clear_value x; on_goal 2 => unfold x) | (extract_lets +onlyGivenNames x; clear_value x) | fail_if_no_progress apply Kept.fields cl | split

theorem heldOut_kept {P : State → Prop} (cl : Closed P) {s : State} (h : Kept P s) : Kept P (State.heldOut s) := by
  unfold State.heldOut
  with_reducible repeat' first | assumption | apply send_kept cl | apply Kept.ite | apply Kept.foldl | intro _ _ _ | (extract_lets +onlyGivenNames x; refine (fun (_ : Kept P x) => ?_ : Kept P x → _) ?_; clear_value x; on_goal 2 => unfold x) | (extract_lets +onlyGivenNames x; clear_value x) | fail_if_no_progress apply Kept.fields cl | split

theorem execMtimecmpInterrupt_kept {P : State → Prop} (cl : Closed P) {s : State} (h : Kept P s) (site c : Nat) : KeptO P (execMtimecmpInterrupt site c s) := by
  unfold execMtimecmpInterrupt
  with_reducible repeat' first | assumption | apply setControl_kept cl | apply KeptO.next | apply KeptO.ite | apply Kept.ite | (extract_lets +onlyGivenNames x; refine (fun (_ : Kept P x) => ?_ : Kept P x → _) ?_; clear_value x; on_goal 2 => unfold x) | (extract_lets +onlyGivenNames x; clear_value x) | fail_if_no_progress apply Kept.fields cl

theorem redUnexpected_kept {P : State → Prop} (cl : Closed P) {s : State} (h : Kept P s) (site t seq : Nat) : Kept P (State.redUnexpected s site t seq) := by
  unfold State.redUnexpected
  with_reducible repeat' first | assumption | apply raiseMesh_kept cl | apply put_kept cl

theorem heldRepair_kept {P : State → Prop} (cl : ClosedAll P) {s : State} (h : Kept P s) (key : Nat) (data : List Nat) : Kept P (State.heldRepair s key data) := by
  unfold State.heldRepair
  with_reducible repeat' first | assumption | apply takeSpares_kept cl.1 | apply addSat_kept cl.1 | apply decideRetire_kept cl.1 | apply raiseGelat_kept cl.1 | apply releaseHeld_kept cl.1 | apply storeKey_kept cl | apply Kept.ite | apply Kept.iteFst | apply Kept.ofFst (by assumption) | (extract_lets +onlyGivenNames x; refine (fun (_ : Kept P x) => ?_ : Kept P x → _) ?_; clear_value x; on_goal 2 => unfold x) | (extract_lets +onlyGivenNames x; refine (fun (_ : Kept P x.1) => ?_ : Kept P x.1 → _) ?_; clear_value x; on_goal 2 => unfold x) | (extract_lets +onlyGivenNames x; clear_value x)

theorem writePiece_kept {P : State → Prop} (cl : ClosedAll P) {s : State} (h : Kept P s) (p : Nat) (data : List Nat) (poison whole : Bool) : Kept P (State.writePiece s p data poison whole).1 := by
  unfold State.writePiece
  with_reducible repeat' first | assumption | apply record_kept cl.1 | apply raiseDpd_kept cl.1 | apply storeKey_kept cl | apply heldRepair_kept cl | apply releaseHeld_kept cl.1 | apply Kept.ite | apply Kept.foldl | apply Kept.iteFst | apply Kept.foldlFst | apply Kept.ofFst (by assumption) | intro _ _ _ | (extract_lets +onlyGivenNames x; refine (fun (_ : Kept P x) => ?_ : Kept P x → _) ?_; clear_value x; on_goal 2 => unfold x) | (extract_lets +onlyGivenNames x; refine (fun (_ : Kept P x.1) => ?_ : Kept P x.1 → _) ?_; clear_value x; on_goal 2 => unfold x) | (extract_lets +onlyGivenNames x; clear_value x) | split

theorem writeMem_kept {P : State → Prop} (cl : ClosedAll P) {s : State} (h : Kept P s) (w : Who) (p : Nat) (data : List Nat) (poison : Bool) : Kept P (State.writeMem s w p data poison).1 := by
  unfold State.writeMem
  with_reducible repeat' first | assumption | apply ppaInvalid_kept cl.1 | apply writePiece_kept cl | apply raiseGelat_kept cl.1 | apply Kept.ite | apply Kept.foldl | apply Kept.iteFst | apply Kept.foldlFst | apply Kept.ofFst (by assumption) | intro _ _ _ | (extract_lets +onlyGivenNames x; refine (fun (_ : Kept P x) => ?_ : Kept P x → _) ?_; clear_value x; on_goal 2 => unfold x) | (extract_lets +onlyGivenNames x; refine (fun (_ : Kept P x.1) => ?_ : Kept P x.1 → _) ?_; clear_value x; on_goal 2 => unfold x) | (extract_lets +onlyGivenNames x; clear_value x)

theorem rootDeliver_kept {P : State → Prop} (cl : ClosedAll P) {s : State} (h : Kept P s) (site t : Nat) (e : TreeEntry) (p : Partial) : Kept P (State.rootDeliver s site t e p) := by
  unfold State.rootDeliver
  with_reducible repeat' first | assumption | apply record_kept cl.1 | apply discardPass_kept cl.1 | apply addSat_kept cl.1 | apply put_kept cl.1 | apply abortPass_kept cl.1 | apply writeMem_kept cl | apply issue_kept cl.1 | apply send_kept cl.1 | apply Kept.ite | apply Kept.foldl | apply Kept.iteFst | apply Kept.foldlFst | apply Kept.ofFst (by assumption) | intro _ _ _ | (extract_lets +onlyGivenNames x; have _ := fun a b c => (x a b c : Option State); dsimp only [x]; clear x) | (extract_lets +onlyGivenNames x; have _ := fun a => (x a : State → State); dsimp only [x]; clear x) | (extract_lets +onlyGivenNames x; have _ := (x : State → State); dsimp only [x]; clear x) | (extract_lets +onlyGivenNames x; refine (fun (_ : Kept P x) => ?_ : Kept P x → _) ?_; clear_value x; on_goal 2 => unfold x) | (extract_lets +onlyGivenNames x; refine (fun (_ : Kept P x.1) => ?_ : Kept P x.1 → _) ?_; clear_value x; on_goal 2 => unfold x) | (extract_lets +onlyGivenNames x; clear_value x) | fail_if_no_progress apply Kept.fields cl.1 | split

theorem redFlush_kept {P : State → Prop} (cl : ClosedAll P) {s : State} (h : Kept P s) (site t : Nat) (e : TreeEntry) (a3 : Nat) : Kept P (State.redFlush site t e a3 s) := by
  induction a3 generalizing s with
  | zero =>
    unfold State.redFlush
    with_reducible repeat' first | assumption | apply setPartials_kept cl.1 | apply put_kept cl.1 | apply rootDeliver_kept cl | apply inject_kept cl.1 | apply Kept.ite | (extract_lets +onlyGivenNames x; refine (fun (_ : Kept P x) => ?_ : Kept P x → _) ?_; clear_value x; on_goal 2 => unfold x) | (extract_lets +onlyGivenNames x; clear_value x) | split
  | succ n ih =>
    unfold State.redFlush
    with_reducible repeat' first | assumption | apply ih | apply setPartials_kept cl.1 | apply put_kept cl.1 | apply rootDeliver_kept cl | apply inject_kept cl.1 | apply Kept.ite | (extract_lets +onlyGivenNames x; refine (fun (_ : Kept P x) => ?_ : Kept P x → _) ?_; clear_value x; on_goal 2 => unfold x) | (extract_lets +onlyGivenNames x; clear_value x) | split

theorem redTake_kept {P : State → Prop} (cl : ClosedAll P) {s : State} (h : Kept P s) (site t : Nat) (e : TreeEntry) (c : Partial) : Kept P (State.redTake s site t e c) := by
  unfold State.redTake
  with_reducible repeat' first | assumption | apply redFlush_kept cl | apply setPartials_kept cl.1

theorem redWake_kept {P : State → Prop} (cl : ClosedAll P) {s : State} (h : Kept P s) (site t : Nat) (e : TreeEntry) (a3 : Nat) : Kept P (State.redWake site t e a3 s) := by
  induction a3 generalizing s with
  | zero =>
    unfold State.redWake
    with_reducible repeat' first | assumption | apply redTake_kept cl | (extract_lets +onlyGivenNames x; refine (fun (_ : Kept P x) => ?_ : Kept P x → _) ?_; clear_value x; on_goal 2 => unfold x) | (extract_lets +onlyGivenNames x; clear_value x) | fail_if_no_progress apply Kept.fields cl.1 | split
  | succ n ih =>
    unfold State.redWake
    with_reducible repeat' first | assumption | apply ih | apply redTake_kept cl | (extract_lets +onlyGivenNames x; refine (fun (_ : Kept P x) => ?_ : Kept P x → _) ?_; clear_value x; on_goal 2 => unfold x) | (extract_lets +onlyGivenNames x; clear_value x) | fail_if_no_progress apply Kept.fields cl.1 | split

theorem contribute_kept {P : State → Prop} (cl : ClosedAll P) {s : State} (h : Kept P s) (site t : Nat) (c : Partial) : Kept P (State.contribute s site t c) := by
  unfold State.contribute
  with_reducible repeat' first | assumption | apply redUnexpected_kept cl.1 | apply redTake_kept cl | apply redWake_kept cl | apply Kept.ite | (extract_lets +onlyGivenNames x; refine (fun (_ : Kept P x) => ?_ : Kept P x → _) ?_; clear_value x; on_goal 2 => unfold x) | (extract_lets +onlyGivenNames x; clear_value x) | fail_if_no_progress apply Kept.fields cl.1 | split

theorem localRecord_kept {P : State → Prop} (cl : ClosedAll P) {s : State} (h : Kept P s) (site t : Nat) (vals : List Acc) (poison : Bool) : Kept P (State.localRecord s site t vals poison) := by
  unfold State.localRecord
  with_reducible repeat' first | assumption | apply put_kept cl.1 | apply contribute_kept cl | (extract_lets +onlyGivenNames x; refine (fun (_ : Kept P x) => ?_ : Kept P x → _) ?_; clear_value x; on_goal 2 => unfold x) | (extract_lets +onlyGivenNames x; clear_value x)

theorem delivered_kept {P : State → Prop} (cl : Closed P) {s : State} (h : Kept P s) (site : Nat) (x : Stream) (q : List Segment) (n : Nat) : Kept P (State.delivered s site x q n) := by
  unfold State.delivered
  with_reducible repeat' first | assumption | apply put_kept cl | apply setDie_kept cl | (extract_lets +onlyGivenNames x; refine (fun (_ : Kept P x) => ?_ : Kept P x → _) ?_; clear_value x; on_goal 2 => unfold x) | (extract_lets +onlyGivenNames x; clear_value x) | fail_if_no_progress apply Kept.fields cl

theorem storePiece_kept {P : State → Prop} (cl : ClosedAll P) {s : State} (h : Kept P s) (site : Nat) (x : Stream) (p : Piece) (data : List Nat) (poison : Bool) : Kept P (State.storePiece s site x p data poison) := by
  unfold State.storePiece
  with_reducible repeat' first | assumption | apply writeMem_kept cl | apply Kept.ite | apply Kept.foldl | apply Kept.iteFst | apply Kept.foldlFst | apply Kept.ofFst (by assumption) | intro _ _ _ | (extract_lets +onlyGivenNames x; refine (fun (_ : Kept P x) => ?_ : Kept P x → _) ?_; clear_value x; on_goal 2 => unfold x) | (extract_lets +onlyGivenNames x; refine (fun (_ : Kept P x.1) => ?_ : Kept P x.1 → _) ?_; clear_value x; on_goal 2 => unfold x) | (extract_lets +onlyGivenNames x; clear_value x) | fail_if_no_progress apply Kept.fields cl.1 | split

theorem rwtLookup_kept {P : State → Prop} (cl : Closed P) {s : State} (h : Kept P s) (node e : Nat) : Kept P (State.rwtLookup s node e).2 := by
  unfold State.rwtLookup
  with_reducible repeat' first | assumption | apply Kept.ite | apply Kept.iteSnd | apply Kept.ofSnd (by assumption) | (extract_lets +onlyGivenNames x; refine (fun (_ : Kept P x) => ?_ : Kept P x → _) ?_; clear_value x; on_goal 2 => unfold x) | (extract_lets +onlyGivenNames x; refine (fun (_ : Kept P x.2) => ?_ : Kept P x.2 → _) ?_; clear_value x; on_goal 2 => unfold x) | (extract_lets +onlyGivenNames x; clear_value x) | fail_if_no_progress apply Kept.fields cl | split

theorem setStream_kept {P : State → Prop} (cl : Closed P) {s : State} (h : Kept P s) (site : Nat) (x : Stream) : Kept P (State.setStream s site x) := by
  unfold State.setStream
  with_reducible repeat' first | assumption | apply setDie_kept cl

theorem missHalt_kept {P : State → Prop} (cl : Closed P) {s : State} (h : Kept P s) (site : Nat) (x : Stream) (sink : Bool) (e ppa : Nat) : Kept P (State.missHalt s site x sink e ppa) := by
  unfold State.missHalt
  with_reducible repeat' first | assumption | apply setStream_kept cl | apply haltedBits_kept cl | apply put_kept cl | apply record_kept cl | apply Kept.ite | (extract_lets +onlyGivenNames x; refine (fun (_ : Kept P x) => ?_ : Kept P x → _) ?_; clear_value x; on_goal 2 => unfold x) | (extract_lets +onlyGivenNames x; clear_value x) | fail_if_no_progress apply Kept.fields cl

theorem storePieces_kept {P : State → Prop} (cl : ClosedAll P) {s : State} (h : Kept P s) (site : Nat) (a1 : List Piece) (a2 : Stream) : Kept P (State.storePieces site a1 a2 s) := by
  induction a1 generalizing s a2 with
  | nil =>
    unfold State.storePieces
    with_reducible repeat' first | assumption | apply delivered_kept cl.1 | apply storePiece_kept cl | apply ppaInvalid_kept cl.1 | apply rwtLookup_kept cl.1 | apply missHalt_kept cl.1 | apply issue_kept cl.1 | apply Kept.ite | apply Kept.iteFst | apply Kept.ofFst (by assumption) | apply Kept.iteSnd | apply Kept.ofSnd (by assumption) | (extract_lets +onlyGivenNames x; have _ := fun a b c => (x a b c : Option State); dsimp only [x]; clear x) | (extract_lets +onlyGivenNames x; have _ := fun a => (x a : State → State); dsimp only [x]; clear x) | (extract_lets +onlyGivenNames x; have _ := (x : State → State); dsimp only [x]; clear x) | (extract_lets +onlyGivenNames x; refine (fun (_ : Kept P x) => ?_ : Kept P x → _) ?_; clear_value x; on_goal 2 => unfold x) | (extract_lets +onlyGivenNames x; refine (fun (_ : Kept P x.1) => ?_ : Kept P x.1 → _) ?_; clear_value x; on_goal 2 => unfold x) | (extract_lets +onlyGivenNames x; refine (fun (_ : Kept P x.2) => ?_ : Kept P x.2 → _) ?_; clear_value x; on_goal 2 => unfold x) | (extract_lets +onlyGivenNames x; clear_value x) | fail_if_no_progress apply Kept.fields cl.1 | split
  | cons p ps ih =>
    unfold State.storePieces
    with_reducible repeat' first | assumption | apply ih | apply delivered_kept cl.1 | apply storePiece_kept cl | apply ppaInvalid_kept cl.1 | apply rwtLookup_kept cl.1 | apply missHalt_kept cl.1 | apply issue_kept cl.1 | apply Kept.ite | apply Kept.iteFst | apply Kept.ofFst (by assumption) | apply Kept.iteSnd | apply Kept.ofSnd (by assumption) | (extract_lets +onlyGivenNames x; have _ := fun a b c => (x a b c : Option State); dsimp only [x]; clear x) | (extract_lets +onlyGivenNames x; have _ := fun a => (x a : State → State); dsimp only [x]; clear x) | (extract_lets +onlyGivenNames x; have _ := (x : State → State); dsimp only [x]; clear x) | (extract_lets +onlyGivenNames x; refine (fun (_ : Kept P x) => ?_ : Kept P x → _) ?_; clear_value x; on_goal 2 => unfold x) | (extract_lets +onlyGivenNames x; refine (fun (_ : Kept P x.1) => ?_ : Kept P x.1 → _) ?_; clear_value x; on_goal 2 => unfold x) | (extract_lets +onlyGivenNames x; refine (fun (_ : Kept P x.2) => ?_ : Kept P x.2 → _) ?_; clear_value x; on_goal 2 => unfold x) | (extract_lets +onlyGivenNames x; clear_value x) | fail_if_no_progress apply Kept.fields cl.1 | split

theorem mergeRun_kept {P : State → Prop} (cl : Closed P) {s : State} (h : Kept P s) (site : Nat) (x : Stream) (sink : Bool) (pos : Nat) : Kept P (State.mergeRun s site x sink pos) := by
  unfold State.mergeRun
  with_reducible repeat' first | assumption | apply setDie_kept cl | apply addSat_kept cl | apply Kept.ite | (extract_lets +onlyGivenNames x; refine (fun (_ : Kept P x) => ?_ : Kept P x → _) ?_; clear_value x; on_goal 2 => unfold x) | (extract_lets +onlyGivenNames x; clear_value x) | fail_if_no_progress apply Kept.fields cl | split

theorem sinkRun_kept {P : State → Prop} (cl : ClosedAll P) {s : State} (h : Kept P s) (site : Nat) (x : Stream) : Kept P (State.sinkRun s site x) := by
  unfold State.sinkRun
  with_reducible repeat' first | assumption | apply localRecord_kept cl | apply delivered_kept cl.1 | apply scratchWrite_kept cl.1 | apply storePieces_kept cl | apply mergeRun_kept cl.1 | apply Kept.ite | (extract_lets +onlyGivenNames x; refine (fun (_ : Kept P x) => ?_ : Kept P x → _) ?_; clear_value x; on_goal 2 => unfold x) | (extract_lets +onlyGivenNames x; clear_value x) | split

theorem consumed_kept {P : State → Prop} (cl : Closed P) {s : State} (h : Kept P s) (p : Nat) (poison : Bool) : Kept P (State.consumed s p poison) := by
  unfold State.consumed
  with_reducible repeat' first | assumption | apply discardPass_kept cl | apply Kept.ite

theorem fetchPieces_kept {P : State → Prop} (cl : Closed P) {s : State} (h : Kept P s) (site : Nat) (a1 : List Piece) (a2 : Ecc) (a3 : Stream) : Kept P (State.fetchPieces site a1 a2 a3 s) := by
  induction a1 generalizing s a2 a3 with
  | nil =>
    unfold State.fetchPieces
    with_reducible repeat' first | assumption | apply setStream_kept cl | apply readFor_kept cl | apply eccOn_kept cl | apply consumed_kept cl | apply discardPass_kept cl | apply ppaInvalid_kept cl | apply rwtLookup_kept cl | apply missHalt_kept cl | apply issue_kept cl | apply Kept.ite | apply Kept.iteFst | apply Kept.ofFst (by assumption) | apply Kept.iteSnd | apply Kept.ofSnd (by assumption) | (extract_lets +onlyGivenNames x; refine (fun (_ : Kept P x) => ?_ : Kept P x → _) ?_; clear_value x; on_goal 2 => unfold x) | (extract_lets +onlyGivenNames x; refine (fun (_ : Kept P x.1) => ?_ : Kept P x.1 → _) ?_; clear_value x; on_goal 2 => unfold x) | (extract_lets +onlyGivenNames x; refine (fun (_ : Kept P x.2) => ?_ : Kept P x.2 → _) ?_; clear_value x; on_goal 2 => unfold x) | (extract_lets +onlyGivenNames x; clear_value x) | fail_if_no_progress apply Kept.fields cl | split
  | cons p ps ih =>
    unfold State.fetchPieces
    with_reducible repeat' first | assumption | apply ih | apply setStream_kept cl | apply readFor_kept cl | apply eccOn_kept cl | apply consumed_kept cl | apply discardPass_kept cl | apply ppaInvalid_kept cl | apply rwtLookup_kept cl | apply missHalt_kept cl | apply issue_kept cl | apply Kept.ite | apply Kept.iteFst | apply Kept.ofFst (by assumption) | apply Kept.iteSnd | apply Kept.ofSnd (by assumption) | (extract_lets +onlyGivenNames x; refine (fun (_ : Kept P x) => ?_ : Kept P x → _) ?_; clear_value x; on_goal 2 => unfold x) | (extract_lets +onlyGivenNames x; refine (fun (_ : Kept P x.1) => ?_ : Kept P x.1 → _) ?_; clear_value x; on_goal 2 => unfold x) | (extract_lets +onlyGivenNames x; refine (fun (_ : Kept P x.2) => ?_ : Kept P x.2 → _) ?_; clear_value x; on_goal 2 => unfold x) | (extract_lets +onlyGivenNames x; clear_value x) | fail_if_no_progress apply Kept.fields cl | split

theorem sourceRun_kept {P : State → Prop} (cl : Closed P) {s : State} (h : Kept P s) (site : Nat) (x : Stream) (e : Ecc) : Kept P (State.sourceRun s site x e) := by
  unfold State.sourceRun
  with_reducible repeat' first | assumption | apply setStream_kept cl | apply fetchPieces_kept cl | apply mergeRun_kept cl | apply Kept.ite | (extract_lets +onlyGivenNames x; refine (fun (_ : Kept P x) => ?_ : Kept P x → _) ?_; clear_value x; on_goal 2 => unfold x) | (extract_lets +onlyGivenNames x; clear_value x) | fail_if_no_progress apply Kept.fields cl

theorem execEngineRun_kept {P : State → Prop} (cl : ClosedAll P) {s : State} (h : Kept P s) (site d : Nat) (sink : Bool) (ecc : Ecc) : KeptO P (execEngineRun site d sink ecc s) := by
  unfold execEngineRun
  with_reducible repeat' first | assumption | apply sinkRun_kept cl | apply sourceRun_kept cl.1 | apply KeptO.next | apply KeptO.ite | apply Kept.ite | split

theorem guestDark_kept {P : State → Prop} (cl : ClosedAll P) {s : State} (h : Kept P s) (g st : Nat) : Kept P (State.guestDark s g st) := by
  unfold State.guestDark
  with_reducible repeat' first | assumption | apply powerDown_kept cl | apply guestLeave_kept cl.1

theorem execGuestSidebandUp_kept {P : State → Prop} (cl : ClosedAll P) {s : State} (h : Kept P s) (g : Nat) (block : List Nat) : KeptO P (execGuestSidebandUp g block s) := by
  unfold execGuestSidebandUp
  with_reducible repeat' first | assumption | apply setReg_kept cl.1 | apply guestState_kept cl.1 | apply put_kept cl.1 | apply guestDark_kept cl | apply raiseGuest_kept cl.1 | apply setGuest_kept cl.1 | apply KeptO.next | apply KeptO.ite | apply Kept.ite | apply Kept.foldl | intro _ _ _ | (extract_lets +onlyGivenNames x; refine (fun (_ : Kept P x) => ?_ : Kept P x → _) ?_; clear_value x; on_goal 2 => unfold x) | (extract_lets +onlyGivenNames x; clear_value x) | fail_if_no_progress apply Kept.fields cl.1

theorem mccRestart_kept {P : State → Prop} (cl : Closed P) {s : State} (h : Kept P s) (at_ : Nat) : Kept P (State.mccRestart s at_) := by
  unfold State.mccRestart
  with_reducible repeat' first | assumption | (extract_lets +onlyGivenNames x; refine (fun (_ : Kept P x) => ?_ : Kept P x → _) ?_; clear_value x; on_goal 2 => unfold x) | (extract_lets +onlyGivenNames x; clear_value x) | fail_if_no_progress apply Kept.fields cl

theorem endpointDrop_kept {P : State → Prop} (cl : Closed P) {s : State} (h : Kept P s) (node : Nat) (p : Packet) : KeptS P (State.endpointDrop s node p) := by
  unfold State.endpointDrop
  with_reducible repeat' first | assumption | apply raiseMesh_kept cl | apply KeptS.some | apply KeptS.none | apply KeptS.ite | apply KeptS.map | apply Kept.ite

theorem windowTarget_kept {P : State → Prop} (cl : Closed P) {s : State} (h : Kept P s) (node ppa : Nat) (write : Bool) : Kept P (State.windowTarget s node ppa write).2 := by
  unfold State.windowTarget
  with_reducible repeat' first | assumption | apply rwtLookup_kept cl | apply Kept.ite | apply Kept.iteSnd | apply Kept.ofSnd (by assumption) | (extract_lets +onlyGivenNames x; refine (fun (_ : Kept P x) => ?_ : Kept P x → _) ?_; clear_value x; on_goal 2 => unfold x) | (extract_lets +onlyGivenNames x; refine (fun (_ : Kept P x.2) => ?_ : Kept P x.2 → _) ?_; clear_value x; on_goal 2 => unfold x) | (extract_lets +onlyGivenNames x; clear_value x) | split

theorem busOff_kept {P : State → Prop} (cl : Closed P) {s : State} (h : Kept P s) (a : MeshAsk) (write : Bool) : Kept P (State.busOff s a write) := by
  unfold State.busOff
  with_reducible repeat' first | assumption | apply raiseHost_kept cl | apply ppaInvalid_kept cl | apply Kept.ite | (extract_lets +onlyGivenNames x; refine (fun (_ : Kept P x) => ?_ : Kept P x → _) ?_; clear_value x; on_goal 2 => unfold x) | (extract_lets +onlyGivenNames x; clear_value x) | fail_if_no_progress apply Kept.fields cl

theorem hostMemRead_kept {P : State → Prop} (cl : Closed P) {s : State} (h : Kept P s) (addr : Nat) (a : MeshAsk) : Kept P (State.hostMemRead s addr a) := by
  unfold State.hostMemRead
  with_reducible repeat' first | assumption | apply answerRead_kept cl | apply busOff_kept cl | apply hostReadIssue_kept cl | apply Kept.ite | (extract_lets +onlyGivenNames x; refine (fun (_ : Kept P x) => ?_ : Kept P x → _) ?_; clear_value x; on_goal 2 => unfold x) | (extract_lets +onlyGivenNames x; clear_value x) | fail_if_no_progress apply Kept.fields cl

theorem spaceRead_kept {P : State → Prop} (cl : Closed P) {s : State} (h : Kept P s) (who : Requester) (ppa n : Nat) : Kept P (State.spaceRead s who ppa n).2 := by
  unfold State.spaceRead
  with_reducible repeat' first | assumption | apply regRead_kept cl | apply hostErr_kept cl | apply Kept.ite | apply Kept.foldl | apply Kept.iteSnd | apply Kept.foldlSnd | apply Kept.ofSnd (by assumption) | intro _ _ _ | (extract_lets +onlyGivenNames x; refine (fun (_ : Kept P x) => ?_ : Kept P x → _) ?_; clear_value x; on_goal 2 => unfold x) | (extract_lets +onlyGivenNames x; refine (fun (_ : Kept P x.2) => ?_ : Kept P x.2 → _) ?_; clear_value x; on_goal 2 => unfold x) | (extract_lets +onlyGivenNames x; clear_value x)

theorem cndFlush_kept {P : State → Prop} (cl : Closed P) {s : State} (h : Kept P s) (c : Nat) : Kept P (State.cndFlush s c) := by
  unfold State.cndFlush
  with_reducible repeat' first | assumption | apply cndSend_kept cl | apply setConduit_kept cl | apply Kept.ofFst (by assumption) | (extract_lets +onlyGivenNames x; refine (fun (_ : Kept P x) => ?_ : Kept P x → _) ?_; clear_value x; on_goal 2 => unfold x) | (extract_lets +onlyGivenNames x; refine (fun (_ : Kept P x.1) => ?_ : Kept P x.1 → _) ?_; clear_value x; on_goal 2 => unfold x) | (extract_lets +onlyGivenNames x; clear_value x) | fail_if_no_progress apply Kept.fields cl | split

theorem cndGet_kept {P : State → Prop} (cl : Closed P) {s : State} (h : Kept P s) (c offset : Nat) (a : MeshAsk) : Kept P (State.cndGet s c offset a) := by
  unfold State.cndGet
  with_reducible repeat' first | assumption | apply cndFlush_kept cl | apply cndSend_kept cl | apply setConduit_kept cl | apply Kept.ofFst (by assumption) | (extract_lets +onlyGivenNames x; refine (fun (_ : Kept P x) => ?_ : Kept P x → _) ?_; clear_value x; on_goal 2 => unfold x) | (extract_lets +onlyGivenNames x; refine (fun (_ : Kept P x.1) => ?_ : Kept P x.1 → _) ?_; clear_value x; on_goal 2 => unfold x) | (extract_lets +onlyGivenNames x; clear_value x) | fail_if_no_progress apply Kept.fields cl

theorem guestSend_kept {P : State → Prop} (cl : Closed P) {s : State} (h : Kept P s) (g a1 : Nat) : Kept P (State.guestSend g a1 s) := by
  induction a1 generalizing s with
  | zero =>
    unfold State.guestSend
    with_reducible repeat' first | assumption | apply setGuest_kept cl | apply addWrap_kept cl | apply send_kept cl | apply Kept.ite | (extract_lets +onlyGivenNames x; refine (fun (_ : Kept P x) => ?_ : Kept P x → _) ?_; clear_value x; on_goal 2 => unfold x) | (extract_lets +onlyGivenNames x; clear_value x) | fail_if_no_progress apply Kept.fields cl | split
  | succ n ih =>
    unfold State.guestSend
    with_reducible repeat' first | assumption | apply ih | apply setGuest_kept cl | apply addWrap_kept cl | apply send_kept cl | apply Kept.ite | (extract_lets +onlyGivenNames x; refine (fun (_ : Kept P x) => ?_ : Kept P x → _) ?_; clear_value x; on_goal 2 => unfold x) | (extract_lets +onlyGivenNames x; clear_value x) | fail_if_no_progress apply Kept.fields cl | split

theorem guestRequest_kept {P : State → Prop} (cl : Closed P) {s : State} (h : Kept P s) (g : Nat) (a : MeshAsk) (write : Bool) (data : List Nat) : Kept P (State.guestRequest s g a write data) := by
  unfold State.guestRequest
  with_reducible repeat' first | assumption | apply guestPoison_kept cl | apply addSat_kept cl | apply rwtLookup_kept cl | apply guestSend_kept cl | apply setGuest_kept cl | apply Kept.ite | apply Kept.iteSnd | apply Kept.ofSnd (by assumption) | (extract_lets +onlyGivenNames x; have _ := fun a b c => (x a b c : Option State); dsimp only [x]; clear x) | (extract_lets +onlyGivenNames x; have _ := fun a => (x a : State → State); dsimp only [x]; clear x) | (extract_lets +onlyGivenNames x; have _ := (x : State → State); dsimp only [x]; clear x) | (extract_lets +onlyGivenNames x; refine (fun (_ : Kept P x) => ?_ : Kept P x → _) ?_; clear_value x; on_goal 2 => unfold x) | (extract_lets +onlyGivenNames x; refine (fun (_ : Kept P x.2) => ?_ : Kept P x.2 → _) ?_; clear_value x; on_goal 2 => unfold x) | (extract_lets +onlyGivenNames x; clear_value x) | fail_if_no_progress apply Kept.fields cl | split

theorem execRead_kept {P : State → Prop} (cl : Closed P) {s : State} (h : Kept P s) (p : Packet) (e : Ecc) : KeptO P (execRead p e s) := by
  unfold execRead
  with_reducible repeat' first | assumption | apply endpointDrop_kept cl | apply windowTarget_kept cl | apply hostMemRead_kept cl | apply readInvalid_kept cl | apply serveRead_kept cl | apply spaceRead_kept cl | apply answerRead_kept cl | apply cndGet_kept cl | apply guestRequest_kept cl | apply KeptO.next | apply KeptO.ite | apply Kept.ofSome (by assumption) | apply Kept.getD | apply Kept.ite | apply Kept.iteSnd | apply Kept.ofSnd (by assumption) | (extract_lets +onlyGivenNames x; refine (fun (_ : Kept P x) => ?_ : Kept P x → _) ?_; clear_value x; on_goal 2 => unfold x) | (extract_lets +onlyGivenNames x; refine (fun (_ : Kept P x.2) => ?_ : Kept P x.2 → _) ?_; clear_value x; on_goal 2 => unfold x) | (extract_lets +onlyGivenNames x; clear_value x) | split

theorem admitPass_kept {P : State → Prop} (cl : Closed P) {s : State} (h : Kept P s) (q : Nat) (eligible : List Nat) : Kept P (State.admitPass s q eligible) := by
  unfold State.admitPass
  with_reducible repeat' first | assumption | apply takeHead_kept cl | apply put_kept cl | apply setReg_kept cl | apply toAll_kept cl | apply Kept.foldl | intro _ _ _ | (extract_lets +onlyGivenNames x; refine (fun (_ : Kept P x) => ?_ : Kept P x → _) ?_; clear_value x; on_goal 2 => unfold x) | (extract_lets +onlyGivenNames x; clear_value x) | fail_if_no_progress apply Kept.fields cl

theorem idleBoundary_kept {P : State → Prop} (cl : ClosedAll P) {s : State} (h : Kept P s) : Kept P (State.idleBoundary s) := by
  unfold State.idleBoundary
  with_reducible repeat' first | assumption | apply drainOn_kept cl | apply hubFailedNow_kept cl | apply boundary_kept cl | apply swapsAdvance_kept cl | apply Kept.ite

theorem isobarTick_kept {P : State → Prop} (cl : ClosedAll P) {s : State} (h : Kept P s) : Kept P (State.isobarTick s) := by
  unfold State.isobarTick
  with_reducible repeat' first | assumption | apply Kept.ite | (extract_lets +onlyGivenNames x; refine (fun (_ : Kept P x) => ?_ : Kept P x → _) ?_; clear_value x; on_goal 2 => unfold x) | (extract_lets +onlyGivenNames x; clear_value x) | fail_if_no_progress apply Kept.fields cl.1 | fail_if_no_progress apply Kept.isobarMk cl

theorem idle_kept {P : State → Prop} (cl : ClosedAll P) {s : State} (h : Kept P s) : Kept P (State.idle s) := by
  unfold State.idle
  with_reducible repeat' first | assumption | apply idleBoundary_kept cl | apply progress_kept cl | apply isobarTick_kept cl

theorem rest_kept {P : State → Prop} (cl : ClosedAll P) {s : State} (h : Kept P s) : Kept P (State.rest s) := by
  unfold State.rest
  with_reducible repeat' first | assumption | apply mgmtIdle_kept cl.1 | apply idle_kept cl

theorem flowRequest_kept {P : State → Prop} (cl : Closed P) {s : State} (h : Kept P s) : Kept P (State.flowRequest s) := by
  unfold State.flowRequest
  with_reducible repeat' first | assumption | apply put_kept cl | apply Kept.ite | (extract_lets +onlyGivenNames x; refine (fun (_ : Kept P x) => ?_ : Kept P x → _) ?_; clear_value x; on_goal 2 => unfold x) | (extract_lets +onlyGivenNames x; clear_value x) | fail_if_no_progress apply Kept.fields cl

theorem ungate_kept {P : State → Prop} (cl : Closed P) {s : State} (h : Kept P s) : Kept P (State.ungate s) := by
  unfold State.ungate
  with_reducible repeat' first | assumption | apply put_kept cl | apply requestAll_kept cl | apply Kept.ite | apply Kept.foldl | intro _ _ _ | (extract_lets +onlyGivenNames x; refine (fun (_ : Kept P x) => ?_ : Kept P x → _) ?_; clear_value x; on_goal 2 => unfold x) | (extract_lets +onlyGivenNames x; clear_value x)

theorem warn_kept {P : State → Prop} (cl : Closed P) {s : State} (h : Kept P s) (l : Loc) (on : Bool) (code : Nat) : Kept P (State.warn s l on code) := by
  unfold State.warn
  with_reducible repeat' first | assumption | apply put_kept cl | apply raiseThermal_kept cl | apply Kept.ite | (extract_lets +onlyGivenNames x; refine (fun (_ : Kept P x) => ?_ : Kept P x → _) ?_; clear_value x; on_goal 2 => unfold x) | (extract_lets +onlyGivenNames x; clear_value x)

theorem copyBytes_kept {P : State → Prop} (cl : ClosedAll P) {s : State} (h : Kept P s) (src dst n : Nat) : Kept P (State.copyBytes s src dst n) := by
  exact Kept.memMk cl h (fun w => Memory.wf_foldl_writeByte (fun k => k - src + dst) _ _ (Memory.wf_filter _ _ w))

theorem sliceApply_kept {P : State → Prop} (cl : ClosedAll P) {s : State} (h : Kept P s) (m : Manifest) : Kept P (State.sliceApply s m) := by
  unfold State.sliceApply
  with_reducible repeat' first | assumption | apply copyBytes_kept cl | apply put_kept cl.1 | apply setGelat_kept cl.1 | apply raiseGelat_kept cl.1 | apply Kept.ite | apply Kept.foldl | intro _ _ _ | (extract_lets +onlyGivenNames x; refine (fun (_ : Kept P x) => ?_ : Kept P x → _) ?_; clear_value x; on_goal 2 => unfold x) | (extract_lets +onlyGivenNames x; clear_value x) | fail_if_no_progress apply Kept.fields cl.1

theorem startDrain_kept {P : State → Prop} (cl : Closed P) {s : State} (h : Kept P s) (type : Nat) : Kept P (State.startDrain s type) := by
  unfold State.startDrain
  with_reducible repeat' first | assumption | apply toAll_kept cl | apply send_kept cl | apply put_kept cl | apply Kept.foldl | intro _ _ _ | (extract_lets +onlyGivenNames x; refine (fun (_ : Kept P x) => ?_ : Kept P x → _) ?_; clear_value x; on_goal 2 => unfold x) | (extract_lets +onlyGivenNames x; clear_value x) | fail_if_no_progress apply Kept.fields cl

theorem collSuspend_kept {P : State → Prop} (cl : Closed P) {s : State} (h : Kept P s) : Kept P (State.collSuspend s) := by
  unfold State.collSuspend
  with_reducible repeat' first | assumption | apply suspendSlot_kept cl | apply Kept.foldl | intro _ _ _

theorem writeOwn_kept {P : State → Prop} (cl : ClosedAll P) {s : State} (h : Kept P s) (site off : Nat) (ws : List Nat) : Kept P (State.writeOwn s site off ws) := by
  unfold State.writeOwn
  with_reducible repeat' first | assumption | apply storeKey_kept cl

theorem writeOut_kept {P : State → Prop} (cl : ClosedAll P) {s : State} (h : Kept P s) (site : Nat) (details : List Nat) : Kept P (State.writeOut s site details) := by
  unfold State.writeOut
  with_reducible repeat' first | assumption | apply writeOwn_kept cl | apply Kept.ite | apply Kept.foldl | intro _ _ _ | (extract_lets +onlyGivenNames x; refine (fun (_ : Kept P x) => ?_ : Kept P x → _) ?_; clear_value x; on_goal 2 => unfold x) | (extract_lets +onlyGivenNames x; clear_value x) | fail_if_no_progress apply Kept.fields cl.1 | split

theorem releaseBank_kept {P : State → Prop} (cl : Closed P) {s : State} (h : Kept P s) (site row i : Nat) (waiting : Bool) : Kept P (State.releaseBank s site row i waiting) := by
  unfold State.releaseBank
  with_reducible repeat' first | assumption | apply setReplay_kept cl | apply Kept.ite | (extract_lets +onlyGivenNames x; refine (fun (_ : Kept P x) => ?_ : Kept P x → _) ?_; clear_value x; on_goal 2 => unfold x) | (extract_lets +onlyGivenNames x; clear_value x) | fail_if_no_progress apply Kept.fields cl

theorem openVotes_kept {P : State → Prop} (cl : Closed P) {s : State} (h : Kept P s) (site : Nat) : Kept P (State.openVotes s site) := by
  unfold State.openVotes
  with_reducible repeat' first | assumption | apply put_kept cl | apply putSat_kept cl | (extract_lets +onlyGivenNames x; refine (fun (_ : Kept P x) => ?_ : Kept P x → _) ?_; clear_value x; on_goal 2 => unfold x) | (extract_lets +onlyGivenNames x; clear_value x)

theorem endVote_kept {P : State → Prop} (cl : ClosedAll P) {s : State} (h : Kept P s) (site : Nat) (v : Vote) (outcome code action : Nat) (corrected : Bool) : Kept P (State.endVote s site v outcome code action corrected) := by
  unfold State.endVote
  with_reducible repeat' first | assumption | apply writeOut_kept cl | apply setVotes_kept cl.1 | apply releaseBank_kept cl.1 | apply record_kept cl.1 | apply pushLog_kept cl.1 | apply addSat_kept cl.1 | apply addWrap_kept cl.1 | apply maybeClear_kept cl.1 | apply irq_kept cl.1 | apply openVotes_kept cl.1 | apply Kept.ite | (extract_lets +onlyGivenNames x; refine (fun (_ : Kept P x) => ?_ : Kept P x → _) ?_; clear_value x; on_goal 2 => unfold x) | (extract_lets +onlyGivenNames x; clear_value x)

theorem cancelVotes_kept {P : State → Prop} (cl : ClosedAll P) {s : State} (h : Kept P s) (site a1 : Nat) : Kept P (State.cancelVotes site a1 s) := by
  induction a1 generalizing s with
  | zero =>
    unfold State.cancelVotes
    with_reducible repeat' first | assumption | apply endVote_kept cl | split
  | succ n ih =>
    unfold State.cancelVotes
    with_reducible repeat' first | assumption | apply ih | apply endVote_kept cl | split

theorem stopDie_kept {P : State → Prop} (cl : ClosedAll P) {s : State} (h : Kept P s) (site : Nat) : Kept P (State.stopDie s site) := by
  unfold State.stopDie
  with_reducible repeat' first | assumption | apply setDie_kept cl.1 | apply setArray_kept cl.1 | apply put_kept cl.1 | apply rowDone_kept cl.1 | apply cancelVotes_kept cl | apply Kept.ite | apply Kept.foldl | intro _ _ _ | (extract_lets +onlyGivenNames x; refine (fun (_ : Kept P x) => ?_ : Kept P x → _) ?_; clear_value x; on_goal 2 => unfold x) | (extract_lets +onlyGivenNames x; clear_value x) | fail_if_no_progress apply Kept.fields cl.1

theorem goDown_kept {P : State → Prop} (cl : Closed P) {s : State} (h : Kept P s) (target : Nat) : Kept P (State.goDown s target) := by
  unfold State.goDown
  with_reducible repeat' first | assumption | apply startTransition_kept cl | apply Kept.ite | split

theorem ringOff_kept {P : State → Prop} (cl : ClosedAll P) {s : State} (h : Kept P s) : Kept P (State.ringOff s) := by
  unfold State.ringOff
  with_reducible repeat' first | assumption | apply modulesStop_kept cl.1 | apply powerDownAll_kept cl | apply powerDown_kept cl | apply guestOff_kept cl.1 | apply Kept.foldl | intro _ _ _ | (extract_lets +onlyGivenNames x; refine (fun (_ : Kept P x) => ?_ : Kept P x → _) ?_; clear_value x; on_goal 2 => unfold x) | (extract_lets +onlyGivenNames x; clear_value x)

theorem galeDrop_kept {P : State → Prop} (cl : Closed P) {s : State} (h : Kept P s) : Kept P (State.galeDrop s) := by
  unfold State.galeDrop
  with_reducible repeat' first | assumption | apply put_kept cl | apply leaveUp_kept cl | apply cndEnd_kept cl | apply Kept.ite | apply Kept.foldl | intro _ _ _ | (extract_lets +onlyGivenNames x; refine (fun (_ : Kept P x) => ?_ : Kept P x → _) ?_; clear_value x; on_goal 2 => unfold x) | (extract_lets +onlyGivenNames x; clear_value x)

theorem emergencyStop_kept {P : State → Prop} (cl : ClosedAll P) {s : State} (h : Kept P s) : Kept P (State.emergencyStop s) := by
  unfold State.emergencyStop
  with_reducible repeat' first | assumption | apply abortPass_kept cl.1 | apply startDrain_kept cl.1 | apply collSuspend_kept cl.1 | apply stopDie_kept cl | apply raiseDomain_kept cl.1 | apply put_kept cl.1 | apply dropReq_kept cl.1 | apply powerDownAll_kept cl | apply goDown_kept cl.1 | apply ringOff_kept cl | apply galeDrop_kept cl.1 | apply Kept.ite | apply Kept.foldl | intro _ _ _ | (extract_lets +onlyGivenNames x; refine (fun (_ : Kept P x) => ?_ : Kept P x → _) ?_; clear_value x; on_goal 2 => unfold x) | (extract_lets +onlyGivenNames x; clear_value x)

theorem commitHazard_kept {P : State → Prop} (cl : Closed P) {s : State} (h : Kept P s) : Kept P (State.commitHazard s) := by
  unfold State.commitHazard
  with_reducible repeat' first | assumption | apply endHold_kept cl | apply hubEvent_kept cl | apply commitAbort_kept cl | apply Kept.ite | (extract_lets +onlyGivenNames x; refine (fun (_ : Kept P x) => ?_ : Kept P x → _) ?_; clear_value x; on_goal 2 => unfold x) | (extract_lets +onlyGivenNames x; clear_value x) | fail_if_no_progress apply Kept.fields cl

theorem emergency_kept {P : State → Prop} (cl : ClosedAll P) {s : State} (h : Kept P s) (cond : Nat) : Kept P (State.emergency s cond) := by
  unfold State.emergency
  with_reducible repeat' first | assumption | apply put_kept cl.1 | apply hubEvent_kept cl.1 | apply addSat_kept cl.1 | apply raiseThermal_kept cl.1 | apply emergencyStop_kept cl | apply commitHazard_kept cl.1 | apply thermStatus_kept cl.1 | apply Kept.ite | (extract_lets +onlyGivenNames x; refine (fun (_ : Kept P x) => ?_ : Kept P x → _) ?_; clear_value x; on_goal 2 => unfold x) | (extract_lets +onlyGivenNames x; clear_value x) | fail_if_no_progress apply Kept.fields cl.1

theorem sequence_kept {P : State → Prop} (cl : Closed P) {s : State} (h : Kept P s) (site a op : Nat) {f : Nat → State → State} (hf : ∀ n t, Kept P t → Kept P (f n t)) : Kept P (State.sequence s site a op f) := by
  unfold State.sequence
  with_reducible repeat' first | assumption | apply hf | apply Kept.ite

theorem arrayNext_kept {P : State → Prop} (cl : Closed P) {s : State} (h : Kept P s) (site a : Nat) : Kept P (State.arrayNext s site a) := by
  unfold State.arrayNext
  with_reducible repeat' first | assumption | apply arrayGo_kept cl | apply setArray_kept cl | apply put_kept cl | apply Kept.ite | (extract_lets +onlyGivenNames x; refine (fun (_ : Kept P x) => ?_ : Kept P x → _) ?_; clear_value x; on_goal 2 => unfold x) | (extract_lets +onlyGivenNames x; clear_value x) | fail_if_no_progress apply Kept.fields cl

theorem addWork_kept {P : State → Prop} (cl : Closed P) {s : State} (h : Kept P s) (site a : Nat) (w : Work) : Kept P (State.addWork s site a w) := by
  unfold State.addWork
  with_reducible repeat' first | assumption | apply setArray_kept cl | (extract_lets +onlyGivenNames x; refine (fun (_ : Kept P x) => ?_ : Kept P x → _) ?_; clear_value x; on_goal 2 => unfold x) | (extract_lets +onlyGivenNames x; clear_value x) | fail_if_no_progress apply Kept.fields cl

theorem execZero_kept {P : State → Prop} (cl : Closed P) {s : State} (h : Kept P s) (site a : Nat) : KeptO P (execZero site a s) := by
  unfold execZero
  with_reducible repeat' first | assumption | apply sequence_kept cl | apply reject_kept cl | apply arrayNext_kept cl | apply addWork_kept cl | apply KeptO.next | apply KeptO.fault | apply KeptO.refused | apply KeptO.ite | apply Kept.ite | apply Kept.foldl | intro _ _ _ | (extract_lets +onlyGivenNames x; refine (fun (_ : Kept P x) => ?_ : Kept P x → _) ?_; clear_value x; on_goal 2 => unfold x) | (extract_lets +onlyGivenNames x; clear_value x) | fail_if_no_progress apply Kept.fields cl | split

theorem recovery_kept {P : State → Prop} (cl : ClosedAll P) {s : State} (h : Kept P s) (f : Nat) : Kept P (State.recovery s f) := by
  unfold State.recovery
  with_reducible repeat' first | assumption | apply hubEvent_kept cl.1 | apply put_kept cl.1 | apply resetBy_kept cl | apply raiseThermal_kept cl.1 | apply Kept.ite | (extract_lets +onlyGivenNames x; refine (fun (_ : Kept P x) => ?_ : Kept P x → _) ?_; clear_value x; on_goal 2 => unfold x) | (extract_lets +onlyGivenNames x; clear_value x) | fail_if_no_progress apply Kept.fields cl.1

theorem execDiscovery_kept {P : State → Prop} (cl : Closed P) {s : State} (h : Kept P s) : KeptO P (execDiscovery s) := by
  unfold execDiscovery
  with_reducible repeat' first | assumption | apply put_kept cl | apply setReg_kept cl | apply send_kept cl | apply KeptO.next | apply KeptO.ite | apply Kept.ite | apply Kept.foldl | intro _ _ _ | (extract_lets +onlyGivenNames x; refine (fun (_ : Kept P x) => ?_ : Kept P x → _) ?_; clear_value x; on_goal 2 => unfold x) | (extract_lets +onlyGivenNames x; clear_value x) | fail_if_no_progress apply Kept.fields cl

theorem ringAnswer_kept {P : State → Prop} (cl : Closed P) {s : State} (h : Kept P s) (n kind step : Nat) : Kept P (State.ringAnswer s n kind step) := by
  unfold State.ringAnswer
  with_reducible repeat' first | assumption | apply Kept.ite | (extract_lets +onlyGivenNames x; refine (fun (_ : Kept P x) => ?_ : Kept P x → _) ?_; clear_value x; on_goal 2 => unfold x) | (extract_lets +onlyGivenNames x; clear_value x) | fail_if_no_progress apply Kept.fields cl | split

theorem probed_kept {P : State → Prop} (cl : Closed P) {s : State} (h : Kept P s) (site : Nat) (p : Probe) (place : Nat × Nat) : Kept P (State.probed s site p place) := by
  unfold State.probed
  extract_lets p q s1 ori entry s2
  have h1 : Kept P s1 := send_kept cl (Kept.fields cl h) _
  have h2 : Kept P s2 := by
    refine Kept.foldl h1 (fun t d k => ?_)
    split
    · split
      · exact send_kept cl k _
      · exact k
    · exact k
  clear_value s2 s1
  split
  · exact h1
  · refine Kept.foldl h2 (fun t d k => ?_)
    split
    · exact ringAnswer_kept cl k _ _ _
    · exact k

theorem execDiscoveryProbe_kept {P : State → Prop} (cl : Closed P) {s : State} (h : Kept P s) (site : Nat) (p : Probe) : KeptO P (execDiscoveryProbe site p s) := by
  unfold execDiscoveryProbe
  with_reducible repeat' first | assumption | apply probed_kept cl | apply KeptO.next | apply KeptO.ite | apply Kept.ite | split

theorem hportShow_kept {P : State → Prop} (cl : Closed P) {s : State} (h : Kept P s) : Kept P (State.hportShow s) := by
  unfold State.hportShow
  with_reducible repeat' first | assumption | apply put_kept cl | apply Kept.ite | apply Kept.foldl | intro _ _ _ | (extract_lets +onlyGivenNames x; refine (fun (_ : Kept P x) => ?_ : Kept P x → _) ?_; clear_value x; on_goal 2 => unfold x) | (extract_lets +onlyGivenNames x; clear_value x)

theorem raiseDisc_kept {P : State → Prop} (cl : Closed P) {s : State} (h : Kept P s) (code node : Nat) : Kept P (State.raiseDisc s code node) := by
  unfold State.raiseDisc
  with_reducible repeat' first | assumption | apply raiseReset_kept cl | apply put_kept cl | apply pushLog_kept cl | apply Kept.ite | (extract_lets +onlyGivenNames x; refine (fun (_ : Kept P x) => ?_ : Kept P x → _) ?_; clear_value x; on_goal 2 => unfold x) | (extract_lets +onlyGivenNames x; clear_value x)

theorem ringFail_kept {P : State → Prop} (cl : Closed P) {s : State} (h : Kept P s) (n code : Nat) : Kept P (State.ringFail s n code) := by
  unfold State.ringFail
  with_reducible repeat' first | assumption | apply ringOut_kept cl | apply addSat_kept cl | apply raiseDisc_kept cl

theorem discChecks_kept {P : State → Prop} (cl : ClosedAll P) {s : State} (h : Kept P s) : Kept P (State.discChecks s) := by
  unfold State.discChecks
  with_reducible repeat' first | assumption | apply discFail_kept cl | apply raiseDisc_kept cl.1 | apply ringFail_kept cl.1 | apply put_kept cl.1 | apply Kept.ite | apply Kept.foldl | intro _ _ _ | (extract_lets +onlyGivenNames x; refine (fun (_ : Kept P x) => ?_ : Kept P x → _) ?_; clear_value x; on_goal 2 => unfold x) | (extract_lets +onlyGivenNames x; clear_value x)

theorem execDiscoveryCollectClose_kept {P : State → Prop} (cl : ClosedAll P) {s : State} (h : Kept P s) (endTick : Nat) : KeptO P (execDiscoveryCollectClose endTick s) := by
  unfold execDiscoveryCollectClose
  with_reducible repeat' first | assumption | apply hportShow_kept cl.1 | apply discChecks_kept cl | apply put_kept cl.1 | apply putSat_kept cl.1 | apply hubEvent_kept cl.1 | apply KeptO.next | apply KeptO.ite | apply Kept.ite | (extract_lets +onlyGivenNames x; refine (fun (_ : Kept P x) => ?_ : Kept P x → _) ?_; clear_value x; on_goal 2 => unfold x) | (extract_lets +onlyGivenNames x; clear_value x)

theorem portShow_kept {P : State → Prop} (cl : Closed P) {s : State} (h : Kept P s) (x : PortRef) (partner : Nat) (v3 : Bool) : Kept P (State.portShow s x partner v3) := by
  unfold State.portShow
  with_reducible repeat' first | assumption | apply put_kept cl | apply Kept.ite | (extract_lets +onlyGivenNames x; refine (fun (_ : Kept P x) => ?_ : Kept P x → _) ?_; clear_value x; on_goal 2 => unfold x) | (extract_lets +onlyGivenNames x; clear_value x)

theorem bothEnds_kept {P : State → Prop} (cl : Closed P) {s : State} (h : Kept P s) (site port st : Nat) : Kept P (State.bothEnds s site port st) := by
  unfold State.bothEnds
  with_reducible repeat' first | assumption | apply linkState_kept cl | apply put_kept cl | apply Kept.ite | (extract_lets +onlyGivenNames x; refine (fun (_ : Kept P x) => ?_ : Kept P x → _) ?_; clear_value x; on_goal 2 => unfold x) | (extract_lets +onlyGivenNames x; clear_value x) | split

theorem ringCheck_kept {P : State → Prop} (cl : Closed P) {s : State} (h : Kept P s) (n : Nat) : Kept P (State.ringCheck s n) := by
  unfold State.ringCheck
  with_reducible repeat' first | assumption | apply ringOut_kept cl | apply Kept.ite | (extract_lets +onlyGivenNames x; refine (fun (_ : Kept P x) => ?_ : Kept P x → _) ?_; clear_value x; on_goal 2 => unfold x) | (extract_lets +onlyGivenNames x; clear_value x)

theorem linkFail_kept {P : State → Prop} (cl : Closed P) {s : State} (h : Kept P s) (site port code : Nat) : Kept P (State.linkFail s site port code) := by
  unfold State.linkFail
  with_reducible repeat' first | assumption | apply addSat_kept cl | apply bothEnds_kept cl | apply raiseMesh_kept cl | apply ringCheck_kept cl | apply Kept.ite | (extract_lets +onlyGivenNames x; refine (fun (_ : Kept P x) => ?_ : Kept P x → _) ?_; clear_value x; on_goal 2 => unfold x) | (extract_lets +onlyGivenNames x; clear_value x) | split

theorem execMeshLinkUp_kept {P : State → Prop} (cl : Closed P) {s : State} (h : Kept P s) (a b : PortRef) (verA verB : Nat) : KeptO P (execMeshLinkUp a b verA verB s) := by
  unfold execMeshLinkUp
  with_reducible repeat' first | assumption | apply portShow_kept cl | apply verifySoon_kept cl | apply linkFail_kept cl | apply KeptO.next | apply KeptO.ite | apply Kept.ite | (extract_lets +onlyGivenNames x; refine (fun (_ : Kept P x) => ?_ : Kept P x → _) ?_; clear_value x; on_goal 2 => unfold x) | (extract_lets +onlyGivenNames x; clear_value x)

theorem execArrayNop_kept {P : State → Prop} (cl : Closed P) {s : State} (h : Kept P s) (site a : Nat) : KeptO P (execArrayNop site a s) := by
  unfold execArrayNop
  with_reducible repeat' first | assumption | apply sequence_kept cl | apply arrayNext_kept cl | apply KeptO.next | apply KeptO.fault | apply KeptO.refused | apply KeptO.ite | apply Kept.ite | apply Kept.foldl | intro _ _ _ | (extract_lets +onlyGivenNames x; refine (fun (_ : Kept P x) => ?_ : Kept P x → _) ?_; clear_value x; on_goal 2 => unfold x) | (extract_lets +onlyGivenNames x; clear_value x) | fail_if_no_progress apply Kept.fields cl | split

theorem execLoadw_kept {P : State → Prop} (cl : Closed P) {s : State} (h : Kept P s) (site a : Nat) (found : List (Nat × Ecc)) : KeptO P (execLoadw site a found s) := by
  unfold execLoadw
  with_reducible repeat' first | assumption | apply sequence_kept cl | apply arrayWait_kept cl | apply reject_kept cl | apply eccOn_kept cl | apply discardPass_kept cl | apply setArray_kept cl | apply put_kept cl | apply arrayNext_kept cl | apply KeptO.next | apply KeptO.ite | apply Kept.ite | apply Kept.foldl | intro _ _ _ | (extract_lets +onlyGivenNames x; refine (fun (_ : Kept P x) => ?_ : Kept P x → _) ?_; clear_value x; on_goal 2 => unfold x) | (extract_lets +onlyGivenNames x; clear_value x) | fail_if_no_progress apply Kept.fields cl

theorem execStream_kept {P : State → Prop} (cl : Closed P) {s : State} (h : Kept P s) (site a : Nat) : KeptO P (execStream site a s) := by
  unfold execStream
  with_reducible repeat' first | assumption | apply sequence_kept cl | apply reject_kept cl | apply setArray_kept cl | apply arrayNext_kept cl | apply addWork_kept cl | apply KeptO.next | apply KeptO.fault | apply KeptO.refused | apply KeptO.ite | apply Kept.ite | apply Kept.foldl | intro _ _ _ | (extract_lets +onlyGivenNames x; refine (fun (_ : Kept P x) => ?_ : Kept P x → _) ?_; clear_value x; on_goal 2 => unfold x) | (extract_lets +onlyGivenNames x; clear_value x) | fail_if_no_progress apply Kept.fields cl | split

theorem execDrain_kept {P : State → Prop} (cl : Closed P) {s : State} (h : Kept P s) (site a : Nat) : KeptO P (execDrain site a s) := by
  unfold execDrain
  with_reducible repeat' first | assumption | apply sequence_kept cl | apply reject_kept cl | apply arrayNext_kept cl | apply addWork_kept cl | apply KeptO.next | apply KeptO.fault | apply KeptO.refused | apply KeptO.ite | apply Kept.ite | apply Kept.foldl | intro _ _ _ | (extract_lets +onlyGivenNames x; refine (fun (_ : Kept P x) => ?_ : Kept P x → _) ?_; clear_value x; on_goal 2 => unfold x) | (extract_lets +onlyGivenNames x; clear_value x) | fail_if_no_progress apply Kept.fields cl | split

theorem execSetfmt_kept {P : State → Prop} (cl : Closed P) {s : State} (h : Kept P s) (site a : Nat) : KeptO P (execSetfmt site a s) := by
  unfold execSetfmt
  with_reducible repeat' first | assumption | apply sequence_kept cl | apply reject_kept cl | apply put_kept cl | apply arrayNext_kept cl | apply setArray_kept cl | apply KeptO.next | apply KeptO.fault | apply KeptO.refused | apply KeptO.ite | apply Kept.ite | apply Kept.foldl | intro _ _ _ | (extract_lets +onlyGivenNames x; refine (fun (_ : Kept P x) => ?_ : Kept P x → _) ?_; clear_value x; on_goal 2 => unfold x) | (extract_lets +onlyGivenNames x; clear_value x) | fail_if_no_progress apply Kept.fields cl | split

theorem execLoop_kept {P : State → Prop} (cl : Closed P) {s : State} (h : Kept P s) (site a : Nat) : KeptO P (execLoop site a s) := by
  unfold execLoop
  with_reducible repeat' first | assumption | apply sequence_kept cl | apply reject_kept cl | apply arrayGo_kept cl | apply put_kept cl | apply setArray_kept cl | apply arrayNext_kept cl | apply KeptO.next | apply KeptO.fault | apply KeptO.refused | apply KeptO.ite | apply Kept.ite | apply Kept.foldl | intro _ _ _ | (extract_lets +onlyGivenNames x; refine (fun (_ : Kept P x) => ?_ : Kept P x → _) ?_; clear_value x; on_goal 2 => unfold x) | (extract_lets +onlyGivenNames x; clear_value x) | fail_if_no_progress apply Kept.fields cl | split

theorem execArrayEnd_kept {P : State → Prop} (cl : Closed P) {s : State} (h : Kept P s) (site a : Nat) : KeptO P (execArrayEnd site a s) := by
  unfold execArrayEnd
  with_reducible repeat' first | assumption | apply sequence_kept cl | apply arrayWait_kept cl | apply put_kept cl | apply arrayGo_kept cl | apply rowDone_kept cl | apply KeptO.next | apply KeptO.fault | apply KeptO.refused | apply KeptO.ite | apply Kept.ite | apply Kept.foldl | intro _ _ _ | (extract_lets +onlyGivenNames x; refine (fun (_ : Kept P x) => ?_ : Kept P x → _) ?_; clear_value x; on_goal 2 => unfold x) | (extract_lets +onlyGivenNames x; clear_value x) | fail_if_no_progress apply Kept.fields cl | split

theorem execUcodeInvalidOpcode_kept {P : State → Prop} (cl : Closed P) {s : State} (h : Kept P s) (site a : Nat) : KeptO P (execUcodeInvalidOpcode site a s) := by
  unfold execUcodeInvalidOpcode
  with_reducible repeat' first | assumption | apply reject_kept cl | apply KeptO.next | apply KeptO.ite | apply Kept.ite | (extract_lets +onlyGivenNames x; refine (fun (_ : Kept P x) => ?_ : Kept P x → _) ?_; clear_value x; on_goal 2 => unfold x) | (extract_lets +onlyGivenNames x; clear_value x)

theorem execBankLoadDone_kept {P : State → Prop} (cl : Closed P) {s : State} (h : Kept P s) (site a : Nat) : KeptO P (execBankLoadDone site a s) := by
  unfold execBankLoadDone
  with_reducible repeat' first | assumption | apply setArray_kept cl | apply put_kept cl | apply nonfinite_kept cl | apply reject_kept cl | apply KeptO.next | apply KeptO.ite | apply Kept.ite | (extract_lets +onlyGivenNames x; refine (fun (_ : Kept P x) => ?_ : Kept P x → _) ?_; clear_value x; on_goal 2 => unfold x) | (extract_lets +onlyGivenNames x; clear_value x) | split

theorem retireArray_kept {P : State → Prop} (cl : Closed P) {s : State} (h : Kept P s) (site a : Nat) : Kept P (State.retireArray s site a) := by
  unfold State.retireArray
  with_reducible repeat' first | assumption | apply addSat_kept cl | apply Kept.ite | (extract_lets +onlyGivenNames x; refine (fun (_ : Kept P x) => ?_ : Kept P x → _) ?_; clear_value x; on_goal 2 => unfold x) | (extract_lets +onlyGivenNames x; clear_value x) | fail_if_no_progress apply Kept.fields cl

theorem drainCheck_kept {P : State → Prop} (cl : Closed P) {s : State} (h : Kept P s) (site a r : Nat) (vals : List Acc) (poison : Bool) : Kept P (State.drainCheck s site a r vals poison).1 := by
  unfold State.drainCheck
  with_reducible repeat' first | assumption | apply record_kept cl | apply addSat_kept cl | apply put_kept cl | apply discardPass_kept cl | apply retireArray_kept cl | apply Kept.ite | apply Kept.foldl | apply Kept.iteFst | apply Kept.foldlFst | apply Kept.ofFst (by assumption) | intro _ _ _ | (extract_lets +onlyGivenNames x; refine (fun (_ : Kept P x) => ?_ : Kept P x → _) ?_; clear_value x; on_goal 2 => unfold x) | (extract_lets +onlyGivenNames x; refine (fun (_ : Kept P x.1) => ?_ : Kept P x.1 → _) ?_; clear_value x; on_goal 2 => unfold x) | (extract_lets +onlyGivenNames x; clear_value x)

theorem clearRow_kept {P : State → Prop} (cl : Closed P) {s : State} (h : Kept P s) (site a r : Nat) : Kept P (State.clearRow s site a r) := by
  unfold State.clearRow
  with_reducible repeat' first | assumption | apply setArray_kept cl | (extract_lets +onlyGivenNames x; refine (fun (_ : Kept P x) => ?_ : Kept P x → _) ?_; clear_value x; on_goal 2 => unfold x) | (extract_lets +onlyGivenNames x; clear_value x) | fail_if_no_progress apply Kept.fields cl

theorem execDrainRowRead_kept {P : State → Prop} (cl : Closed P) {s : State} (h : Kept P s) (site a : Nat) : KeptO P (execDrainRowRead site a s) := by
  unfold execDrainRowRead
  with_reducible repeat' first | assumption | apply arrayWait_kept cl | apply drainCheck_kept cl | apply clearRow_kept cl | apply setArray_kept cl | apply arrayGo_kept cl | apply KeptO.next | apply KeptO.ite | apply Kept.ite | apply Kept.iteFst | apply Kept.ofFst (by assumption) | (extract_lets +onlyGivenNames x; refine (fun (_ : Kept P x) => ?_ : Kept P x → _) ?_; clear_value x; on_goal 2 => unfold x) | (extract_lets +onlyGivenNames x; refine (fun (_ : Kept P x.1) => ?_ : Kept P x.1 → _) ?_; clear_value x; on_goal 2 => unfold x) | (extract_lets +onlyGivenNames x; clear_value x) | split

theorem execAccRowZero_kept {P : State → Prop} (cl : Closed P) {s : State} (h : Kept P s) (site a : Nat) : KeptO P (execAccRowZero site a s) := by
  unfold execAccRowZero
  with_reducible repeat' first | assumption | apply arrayWait_kept cl | apply clearRow_kept cl | apply arrayGo_kept cl | apply setArray_kept cl | apply KeptO.next | apply KeptO.ite | apply Kept.ite | (extract_lets +onlyGivenNames x; refine (fun (_ : Kept P x) => ?_ : Kept P x → _) ?_; clear_value x; on_goal 2 => unfold x) | (extract_lets +onlyGivenNames x; clear_value x) | split

theorem enqueue_kept {P : State → Prop} (cl : Closed P) {s : State} (h : Kept P s) (site : Nat) (x : Stream) (data : List Nat) (poison : Bool) : KeptS P (State.enqueue s site x data poison) := by
  unfold State.enqueue
  with_reducible repeat' first | assumption | apply setDie_kept cl | apply KeptS.some | apply KeptS.none | apply KeptS.ite | apply KeptS.map | apply Kept.ite | (extract_lets +onlyGivenNames x; refine (fun (_ : Kept P x) => ?_ : Kept P x → _) ?_; clear_value x; on_goal 2 => unfold x) | (extract_lets +onlyGivenNames x; clear_value x) | fail_if_no_progress apply Kept.fields cl

theorem handOn_kept {P : State → Prop} (cl : ClosedAll P) {s : State} (h : Kept P s) (site a : Nat) (h_ : HeldRow) : KeptS P (State.handOn s site a h_) := by
  unfold State.handOn
  dsimp only
  split
  · split
    · exact KeptS.none
    · exact KeptS.map (enqueue_kept cl.1 h _ _ _ _) (fun t k => setDie_kept cl.1 k _ _)
  · split
    · split
      · exact KeptS.none
      · exact enqueue_kept cl.1 h _ _ _ _
    · exact KeptS.some (localRecord_kept cl h _ _ _ _)

theorem handAll_kept {P : State → Prop} (cl : ClosedAll P) {s : State} (h : Kept P s) (site : Nat) (a2 : List Nat) : KeptS P (State.handAll s site a2) := by
  induction a2 generalizing s with
  | nil => exact KeptS.some h
  | cons a l ih =>
    unfold State.handAll
    split
    · exact KeptS.none
    · split
      · exact KeptS.none
      · rename_i t e
        exact ih (setArray_kept cl.1 (handOn_kept cl h _ _ _ t e) _ _ _)

theorem execOutputRecordHandoff_kept {P : State → Prop} (cl : ClosedAll P) {s : State} (h : Kept P s) (site row : Nat) : KeptO P (execOutputRecordHandoff site row s) := by
  unfold execOutputRecordHandoff
  with_reducible repeat' first | assumption | apply handAll_kept cl | apply KeptO.next | apply KeptO.ite | apply Kept.ofSome (by assumption) | apply Kept.getD | apply Kept.ite | (extract_lets +onlyGivenNames x; refine (fun (_ : Kept P x) => ?_ : Kept P x → _) ?_; clear_value x; on_goal 2 => unfold x) | (extract_lets +onlyGivenNames x; clear_value x) | split

theorem execVecNop_kept {P : State → Prop} (cl : Closed P) {s : State} (h : Kept P s) (site v : Nat) (f : CoreFault) : KeptO P (execVecNop site v f s) := by
  unfold execVecNop
  with_reducible repeat' first | assumption | apply vecPlain_kept cl | apply KeptO.next

theorem execVecEnd_kept {P : State → Prop} (cl : Closed P) {s : State} (h : Kept P s) (site v : Nat) (f : CoreFault) : KeptO P (execVecEnd site v f s) := by
  unfold execVecEnd
  with_reducible repeat' first | assumption | apply vecPlain_kept cl | apply KeptO.next

theorem execFadd_kept {P : State → Prop} (cl : Closed P) {s : State} (h : Kept P s) (site v : Nat) (f : CoreFault) : KeptO P (execFadd site v f s) := by
  unfold execFadd
  with_reducible repeat' first | assumption | apply vecPlain_kept cl | apply KeptO.next

theorem execFsub_kept {P : State → Prop} (cl : Closed P) {s : State} (h : Kept P s) (site v : Nat) (f : CoreFault) : KeptO P (execFsub site v f s) := by
  unfold execFsub
  with_reducible repeat' first | assumption | apply vecPlain_kept cl | apply KeptO.next

theorem execFmul_kept {P : State → Prop} (cl : Closed P) {s : State} (h : Kept P s) (site v : Nat) (f : CoreFault) : KeptO P (execFmul site v f s) := by
  unfold execFmul
  with_reducible repeat' first | assumption | apply vecPlain_kept cl | apply KeptO.next

theorem execFma_kept {P : State → Prop} (cl : Closed P) {s : State} (h : Kept P s) (site v : Nat) (f : CoreFault) : KeptO P (execFma site v f s) := by
  unfold execFma
  with_reducible repeat' first | assumption | apply vecPlain_kept cl | apply KeptO.next

theorem execFmin_kept {P : State → Prop} (cl : Closed P) {s : State} (h : Kept P s) (site v : Nat) (f : CoreFault) : KeptO P (execFmin site v f s) := by
  unfold execFmin
  with_reducible repeat' first | assumption | apply vecPlain_kept cl | apply KeptO.next

theorem execFmax_kept {P : State → Prop} (cl : Closed P) {s : State} (h : Kept P s) (site v : Nat) (f : CoreFault) : KeptO P (execFmax site v f s) := by
  unfold execFmax
  with_reducible repeat' first | assumption | apply vecPlain_kept cl | apply KeptO.next

theorem execFunOp_kept {P : State → Prop} (cl : Closed P) {s : State} (h : Kept P s) (site v : Nat) (f : CoreFault) : KeptO P (execFunOp site v f s) := by
  unfold execFunOp
  with_reducible repeat' first | assumption | apply vecPlain_kept cl | apply KeptO.next

theorem execFtr_kept {P : State → Prop} (cl : Closed P) {s : State} (h : Kept P s) (site v : Nat) (f : CoreFault) : KeptO P (execFtr site v f s) := by
  unfold execFtr
  with_reducible repeat' first | assumption | apply vecPlain_kept cl | apply KeptO.next

theorem execIsub_kept {P : State → Prop} (cl : Closed P) {s : State} (h : Kept P s) (site v : Nat) (f : CoreFault) : KeptO P (execIsub site v f s) := by
  unfold execIsub
  with_reducible repeat' first | assumption | apply vecPlain_kept cl | apply KeptO.next

theorem execImul_kept {P : State → Prop} (cl : Closed P) {s : State} (h : Kept P s) (site v : Nat) (f : CoreFault) : KeptO P (execImul site v f s) := by
  unfold execImul
  with_reducible repeat' first | assumption | apply vecPlain_kept cl | apply KeptO.next

theorem execIlog_kept {P : State → Prop} (cl : Closed P) {s : State} (h : Kept P s) (site v : Nat) (f : CoreFault) : KeptO P (execIlog site v f s) := by
  unfold execIlog
  with_reducible repeat' first | assumption | apply vecPlain_kept cl | apply KeptO.next

theorem execCvt_kept {P : State → Prop} (cl : Closed P) {s : State} (h : Kept P s) (site v : Nat) (f : CoreFault) : KeptO P (execCvt site v f s) := by
  unfold execCvt
  with_reducible repeat' first | assumption | apply vecPlain_kept cl | apply KeptO.next

theorem execFcmp_kept {P : State → Prop} (cl : Closed P) {s : State} (h : Kept P s) (site v : Nat) (f : CoreFault) : KeptO P (execFcmp site v f s) := by
  unfold execFcmp
  with_reducible repeat' first | assumption | apply vecPlain_kept cl | apply KeptO.next

theorem execIcmp_kept {P : State → Prop} (cl : Closed P) {s : State} (h : Kept P s) (site v : Nat) (f : CoreFault) : KeptO P (execIcmp site v f s) := by
  unfold execIcmp
  with_reducible repeat' first | assumption | apply vecPlain_kept cl | apply KeptO.next

theorem execSel_kept {P : State → Prop} (cl : Closed P) {s : State} (h : Kept P s) (site v : Nat) (f : CoreFault) : KeptO P (execSel site v f s) := by
  unfold execSel
  with_reducible repeat' first | assumption | apply vecPlain_kept cl | apply KeptO.next

theorem execBcast_kept {P : State → Prop} (cl : Closed P) {s : State} (h : Kept P s) (site v : Nat) (f : CoreFault) : KeptO P (execBcast site v f s) := by
  unfold execBcast
  with_reducible repeat' first | assumption | apply vecPlain_kept cl | apply KeptO.next

theorem execPerm_kept {P : State → Prop} (cl : Closed P) {s : State} (h : Kept P s) (site v : Nat) (f : CoreFault) : KeptO P (execPerm site v f s) := by
  unfold execPerm
  with_reducible repeat' first | assumption | apply vecPlain_kept cl | apply KeptO.next

theorem execLshift_kept {P : State → Prop} (cl : Closed P) {s : State} (h : Kept P s) (site v : Nat) (f : CoreFault) : KeptO P (execLshift site v f s) := by
  unfold execLshift
  with_reducible repeat' first | assumption | apply vecPlain_kept cl | apply KeptO.next

theorem execRsum_kept {P : State → Prop} (cl : Closed P) {s : State} (h : Kept P s) (site v : Nat) (f : CoreFault) : KeptO P (execRsum site v f s) := by
  unfold execRsum
  with_reducible repeat' first | assumption | apply vecPlain_kept cl | apply KeptO.next

theorem execRmax_kept {P : State → Prop} (cl : Closed P) {s : State} (h : Kept P s) (site v : Nat) (f : CoreFault) : KeptO P (execRmax site v f s) := by
  unfold execRmax
  with_reducible repeat' first | assumption | apply vecPlain_kept cl | apply KeptO.next

theorem execVld_kept {P : State → Prop} (cl : Closed P) {s : State} (h : Kept P s) (site v : Nat) (f : CoreFault) : KeptO P (execVld site v f s) := by
  unfold execVld
  with_reducible repeat' first | assumption | apply vecExec_kept cl | apply KeptO.next

theorem execVldsc_kept {P : State → Prop} (cl : Closed P) {s : State} (h : Kept P s) (site v : Nat) (f : CoreFault) : KeptO P (execVldsc site v f s) := by
  unfold execVldsc
  with_reducible repeat' first | assumption | apply vecExec_kept cl | apply KeptO.next

theorem execVst_kept {P : State → Prop} (cl : Closed P) {s : State} (h : Kept P s) (site v : Nat) (f : CoreFault) : KeptO P (execVst site v f s) := by
  unfold execVst
  with_reducible repeat' first | assumption | apply vecPlain_kept cl | apply KeptO.next

theorem execExld_kept {P : State → Prop} (cl : Closed P) {s : State} (h : Kept P s) (site v : Nat) (f : CoreFault) : KeptO P (execExld site v f s) := by
  unfold execExld
  with_reducible repeat' first | assumption | apply vecExec_kept cl | apply KeptO.next

theorem execSli_kept {P : State → Prop} (cl : Closed P) {s : State} (h : Kept P s) (site v : Nat) (f : CoreFault) : KeptO P (execSli site v f s) := by
  unfold execSli
  with_reducible repeat' first | assumption | apply vecPlain_kept cl | apply KeptO.next

theorem execSadd_kept {P : State → Prop} (cl : Closed P) {s : State} (h : Kept P s) (site v : Nat) (f : CoreFault) : KeptO P (execSadd site v f s) := by
  unfold execSadd
  with_reducible repeat' first | assumption | apply vecPlain_kept cl | apply KeptO.next

theorem execBnz_kept {P : State → Prop} (cl : Closed P) {s : State} (h : Kept P s) (site v : Nat) (f : CoreFault) : KeptO P (execBnz site v f s) := by
  unfold execBnz
  with_reducible repeat' first | assumption | apply vecPlain_kept cl | apply KeptO.next

theorem execJmp_kept {P : State → Prop} (cl : Closed P) {s : State} (h : Kept P s) (site v : Nat) (f : CoreFault) : KeptO P (execJmp site v f s) := by
  unfold execJmp
  with_reducible repeat' first | assumption | apply vecPlain_kept cl | apply KeptO.next

end Sys2Proof.Machine
end

