-- ==== Sys2Proof/Laws/KeptOps5.lean ====
section
/-! SUPPORT. Part 5 of 7 of the lemmas X_kept, one per operation and per command (see Laws/Kept.lean), in an order where each comes after those it cites. -/

set_option linter.unusedTactic false
set_option linter.unreachableTactic false
set_option linter.unusedVariables false

namespace Sys2Proof.Machine

open Sys2Proof

theorem execTwait_kept {P : State → Prop} (cl : Closed P) {s : State} (h : Kept P s) (site v : Nat) (f : CoreFault) : KeptO P (execTwait site v f s) := by
  unfold execTwait
  with_reducible repeat' first | assumption | apply vecExec_kept cl | apply KeptO.next | apply KeptO.ite | apply Kept.ite

theorem execTsig_kept {P : State → Prop} (cl : Closed P) {s : State} (h : Kept P s) (site v : Nat) (f : CoreFault) : KeptO P (execTsig site v f s) := by
  unfold execTsig
  with_reducible repeat' first | assumption | apply vecPlain_kept cl | apply KeptO.next

theorem execVecInvalidOpcode_kept {P : State → Prop} (cl : Closed P) {s : State} (h : Kept P s) (site v : Nat) (f : CoreFault) : KeptO P (execVecInvalidOpcode site v f s) := by
  unfold execVecInvalidOpcode
  with_reducible repeat' first | assumption | apply vecHalt_kept cl | apply vecMismatch_kept cl | apply vecFault_kept cl | apply KeptO.next | apply KeptO.ite | apply Kept.ite | apply Kept.iteFst | apply Kept.ofFst (by assumption) | split

theorem execVcoProgWrite_kept {P : State → Prop} (cl : Closed P) {s : State} (h : Kept P s) (site v : Nat) (i value : Nat) : KeptO P (execVcoProgWrite site v i value s) := by
  unfold execVcoProgWrite
  with_reducible repeat' first | assumption | apply raiseVector_kept cl | apply setVector_kept cl | apply KeptO.next | apply KeptO.ite | apply Kept.ite | (extract_lets +onlyGivenNames x; refine (fun (_ : Kept P x) => ?_ : Kept P x → _) ?_; clear_value x; on_goal 2 => unfold x) | (extract_lets +onlyGivenNames x; clear_value x) | fail_if_no_progress apply Kept.fields cl

theorem execCcoBootTimeout_kept {P : State → Prop} (cl : Closed P) {s : State} (h : Kept P s) (site c : Nat) : KeptO P (execCcoBootTimeout site c s) := by
  unfold execCcoBootTimeout
  with_reducible repeat' first | assumption | apply fatalCore_kept cl | apply KeptO.next | apply KeptO.ite | apply Kept.ite

theorem execCcoWatchdogExpiry_kept {P : State → Prop} (cl : Closed P) {s : State} (h : Kept P s) (site c : Nat) : KeptO P (execCcoWatchdogExpiry site c s) := by
  unfold execCcoWatchdogExpiry
  with_reducible repeat' first | assumption | apply fatalCore_kept cl | apply put_kept cl | apply KeptO.next | apply KeptO.ite | apply Kept.ite

theorem execTcmUncorrectable_kept {P : State → Prop} (cl : Closed P) {s : State} (h : Kept P s) (site c : Nat) (itcm : Bool) : KeptO P (execTcmUncorrectable site c itcm s) := by
  unfold execTcmUncorrectable
  with_reducible repeat' first | assumption | apply fatalCore_kept cl | apply KeptO.next | apply KeptO.ite | apply Kept.ite

theorem execHubMessageEnqueue_kept {P : State → Prop} (cl : Closed P) {s : State} (h : Kept P s) (site c : Nat) : KeptO P (execHubMessageEnqueue site c s) := by
  unfold execHubMessageEnqueue
  with_reducible repeat' first | assumption | apply inEnqueue_kept cl | apply setControl_kept cl | apply KeptO.next | apply KeptO.ite | apply Kept.ite | (extract_lets +onlyGivenNames x; refine (fun (_ : Kept P x) => ?_ : Kept P x → _) ?_; clear_value x; on_goal 2 => unfold x) | (extract_lets +onlyGivenNames x; clear_value x) | split

theorem execMbxHeadRemove_kept {P : State → Prop} (cl : Closed P) {s : State} (h : Kept P s) (site c : Nat) : KeptO P (execMbxHeadRemove site c s) := by
  unfold execMbxHeadRemove
  with_reducible repeat' first | assumption | apply mbxShow_kept cl | apply setControl_kept cl | apply KeptO.next | (extract_lets +onlyGivenNames x; refine (fun (_ : Kept P x) => ?_ : Kept P x → _) ?_; clear_value x; on_goal 2 => unfold x) | (extract_lets +onlyGivenNames x; clear_value x) | fail_if_no_progress apply Kept.fields cl

theorem execMbxSend_kept {P : State → Prop} (cl : Closed P) {s : State} (h : Kept P s) (site c dest : Nat) : KeptO P (execMbxSend site c dest s) := by
  unfold execMbxSend
  with_reducible repeat' first | assumption | apply mbxType_kept cl | apply addSat_kept cl | apply mbxShow_kept cl | apply setControl_kept cl | apply send_kept cl | apply mbxPush_kept cl | apply KeptO.next | apply KeptO.ite | apply Kept.ite | (extract_lets +onlyGivenNames x; refine (fun (_ : Kept P x) => ?_ : Kept P x → _) ?_; clear_value x; on_goal 2 => unfold x) | (extract_lets +onlyGivenNames x; clear_value x) | split

theorem execSweepFaultReport_kept {P : State → Prop} (cl : Closed P) {s : State} (h : Kept P s) (site : Nat) (unit : FaultUnit) : KeptO P (execSweepFaultReport site unit s) := by
  unfold execSweepFaultReport
  with_reducible repeat' first | assumption | apply abortPass_kept cl | apply KeptO.next | apply KeptO.ite | apply Kept.ite | (extract_lets +onlyGivenNames x; refine (fun (_ : Kept P x) => ?_ : Kept P x → _) ?_; clear_value x; on_goal 2 => unfold x) | (extract_lets +onlyGivenNames x; clear_value x) | split

theorem ungateShow_kept {P : State → Prop} (cl : Closed P) {s : State} (h : Kept P s) : Kept P (State.ungateShow s) := by
  unfold State.ungateShow
  with_reducible repeat' first | assumption | apply put_kept cl | apply Kept.ite | (extract_lets +onlyGivenNames x; refine (fun (_ : Kept P x) => ?_ : Kept P x → _) ?_; clear_value x; on_goal 2 => unfold x) | (extract_lets +onlyGivenNames x; clear_value x)

theorem decided_kept {P : State → Prop} (cl : Closed P) {s : State} (h : Kept P s) (q wait : Nat) : Kept P (State.decided s q wait) := by
  unfold State.decided
  with_reducible repeat' first | assumption | apply put_kept cl | apply putSat_kept cl | (extract_lets +onlyGivenNames x; refine (fun (_ : Kept P x) => ?_ : Kept P x → _) ?_; clear_value x; on_goal 2 => unfold x) | (extract_lets +onlyGivenNames x; clear_value x)

theorem takeUnrun_kept {P : State → Prop} (cl : Closed P) {s : State} (h : Kept P s) (q : Nat) : Kept P (State.takeUnrun s q) := by
  unfold State.takeUnrun
  with_reducible repeat' first | assumption | apply complete_kept cl | apply takeHead_kept cl | apply Kept.ite | (extract_lets +onlyGivenNames x; refine (fun (_ : Kept P x) => ?_ : Kept P x → _) ?_; clear_value x; on_goal 2 => unfold x) | (extract_lets +onlyGivenNames x; clear_value x)

theorem decideLoop_kept {P : State → Prop} (cl : Closed P) {s : State} (h : Kept P s) (wait a1 : Nat) : Kept P (decideLoop wait a1 s) := by
  induction a1 generalizing s wait with
  | zero =>
    unfold decideLoop
    with_reducible repeat' first | assumption | apply put_kept cl | apply ungate_kept cl | apply decided_kept cl | apply takeUnrun_kept cl | apply admitPass_kept cl | apply Kept.ite | (extract_lets +onlyGivenNames x; refine (fun (_ : Kept P x) => ?_ : Kept P x → _) ?_; clear_value x; on_goal 2 => unfold x) | (extract_lets +onlyGivenNames x; clear_value x) | split
  | succ n ih =>
    unfold decideLoop
    with_reducible repeat' first | assumption | apply ih | apply put_kept cl | apply ungate_kept cl | apply decided_kept cl | apply takeUnrun_kept cl | apply admitPass_kept cl | apply Kept.ite | (extract_lets +onlyGivenNames x; refine (fun (_ : Kept P x) => ?_ : Kept P x → _) ?_; clear_value x; on_goal 2 => unfold x) | (extract_lets +onlyGivenNames x; clear_value x) | split

theorem markersOf_kept {P : State → Prop} (cl : Closed P) {s : State} (h : Kept P s) (q a1 : Nat) : Kept P (State.markersOf q a1 s) := by
  induction a1 generalizing s with
  | zero =>
    unfold State.markersOf
    with_reducible repeat' first | assumption | apply takeUnrun_kept cl | apply Kept.ite
  | succ n ih =>
    unfold State.markersOf
    with_reducible repeat' first | assumption | apply ih | apply takeUnrun_kept cl | apply Kept.ite

theorem markers_kept {P : State → Prop} (cl : Closed P) {s : State} (h : Kept P s) : Kept P (State.markers s) := by
  unfold State.markers
  with_reducible repeat' first | assumption | apply markersOf_kept cl | apply Kept.foldl | intro _ _ _

theorem execUpdraftDecision_kept {P : State → Prop} (cl : Closed P) {s : State} (h : Kept P s) : KeptO P (execUpdraftDecision s) := by
  unfold execUpdraftDecision
  with_reducible repeat' first | assumption | apply ungateShow_kept cl | apply put_kept cl | apply decideLoop_kept cl | apply markers_kept cl | apply KeptO.next | apply KeptO.ite | apply Kept.ite | (extract_lets +onlyGivenNames x; refine (fun (_ : Kept P x) => ?_ : Kept P x → _) ?_; clear_value x; on_goal 2 => unfold x) | (extract_lets +onlyGivenNames x; clear_value x)

theorem execPassBegin_kept {P : State → Prop} (cl : Closed P) {s : State} (h : Kept P s) (site : Nat) : KeptO P (execPassBegin site s) := by
  unfold execPassBegin
  with_reducible repeat' first | assumption | apply put_kept cl | apply KeptO.next | apply KeptO.ite | apply Kept.ite | (extract_lets +onlyGivenNames x; refine (fun (_ : Kept P x) => ?_ : Kept P x → _) ?_; clear_value x; on_goal 2 => unfold x) | (extract_lets +onlyGivenNames x; clear_value x) | fail_if_no_progress apply Kept.fields cl

theorem checkRecord_kept {P : State → Prop} (cl : Closed P) {s : State} (h : Kept P s) (e t : Nat) (p : Partial) : Kept P (State.checkRecord s e t p).1 := by
  unfold State.checkRecord
  with_reducible repeat' first | assumption | apply record_kept cl | apply addSat_kept cl | apply put_kept cl | apply Kept.ite | apply Kept.iteFst | apply Kept.ofFst (by assumption) | (extract_lets +onlyGivenNames x; refine (fun (_ : Kept P x) => ?_ : Kept P x → _) ?_; clear_value x; on_goal 2 => unfold x) | (extract_lets +onlyGivenNames x; refine (fun (_ : Kept P x.1) => ?_ : Kept P x.1 → _) ?_; clear_value x; on_goal 2 => unfold x) | (extract_lets +onlyGivenNames x; clear_value x) | fail_if_no_progress apply Kept.fields cl

theorem putRec_kept {P : State → Prop} (cl : Closed P) {s : State} (h : Kept P s) (e t : Nat) (r : CollRec) : Kept P (State.putRec s e t r) := by
  unfold State.putRec
  with_reducible repeat' first | assumption | apply setColl_kept cl

theorem collPacket_kept {P : State → Prop} (cl : Closed P) {s : State} (h : Kept P s) (e t : Nat) (up : Bool) (c : Nat) (l : List Partial) : Kept P (State.collPacket s e t up c l) := by
  unfold State.collPacket
  with_reducible repeat' first | assumption | apply cndSend_kept cl | apply putRec_kept cl | apply Kept.ite | apply Kept.foldl | apply Kept.iteFst | apply Kept.foldlFst | apply Kept.ofFst (by assumption) | intro _ _ _ | (extract_lets +onlyGivenNames x; refine (fun (_ : Kept P x) => ?_ : Kept P x → _) ?_; clear_value x; on_goal 2 => unfold x) | (extract_lets +onlyGivenNames x; refine (fun (_ : Kept P x.1) => ?_ : Kept P x.1 → _) ?_; clear_value x; on_goal 2 => unfold x) | (extract_lets +onlyGivenNames x; clear_value x) | fail_if_no_progress apply Kept.fields cl | split

theorem collSend_kept {P : State → Prop} (cl : Closed P) {s : State} (h : Kept P s) (e t : Nat) (all : Bool) (a3 : Nat) : Kept P (State.collSend e t all a3 s) := by
  induction a3 generalizing s with
  | zero =>
    unfold State.collSend
    with_reducible repeat' first | assumption | apply setColl_kept cl | apply collPacket_kept cl | (extract_lets +onlyGivenNames x; refine (fun (_ : Kept P x) => ?_ : Kept P x → _) ?_; clear_value x; on_goal 2 => unfold x) | (extract_lets +onlyGivenNames x; clear_value x) | fail_if_no_progress apply Kept.fields cl | split
  | succ n ih =>
    unfold State.collSend
    with_reducible repeat' first | assumption | apply ih | apply setColl_kept cl | apply collPacket_kept cl | (extract_lets +onlyGivenNames x; refine (fun (_ : Kept P x) => ?_ : Kept P x → _) ?_; clear_value x; on_goal 2 => unfold x) | (extract_lets +onlyGivenNames x; clear_value x) | fail_if_no_progress apply Kept.fields cl | split

theorem collReady_kept {P : State → Prop} (cl : Closed P) {s : State} (h : Kept P s) (e t : Nat) (up : Bool) (c : Nat) (p : Partial) : Kept P (State.collReady s e t up c p) := by
  unfold State.collReady
  with_reducible repeat' first | assumption | apply setColl_kept cl | apply collSend_kept cl | (extract_lets +onlyGivenNames x; refine (fun (_ : Kept P x) => ?_ : Kept P x → _) ?_; clear_value x; on_goal 2 => unfold x) | (extract_lets +onlyGivenNames x; clear_value x) | fail_if_no_progress apply Kept.fields cl

theorem collPrune_kept {P : State → Prop} (cl : Closed P) {s : State} (h : Kept P s) (e t : Nat) : Kept P (State.collPrune s e t) := by
  unfold State.collPrune
  with_reducible repeat' first | assumption | apply setColl_kept cl | (extract_lets +onlyGivenNames x; refine (fun (_ : Kept P x) => ?_ : Kept P x → _) ?_; clear_value x; on_goal 2 => unfold x) | (extract_lets +onlyGivenNames x; clear_value x) | fail_if_no_progress apply Kept.fields cl

theorem collDeliver_kept {P : State → Prop} (cl : Closed P) {s : State} (h : Kept P s) (e t a2 : Nat) : Kept P (State.collDeliver e t a2 s) := by
  induction a2 generalizing s with
  | zero =>
    unfold State.collDeliver
    with_reducible repeat' first | assumption | apply put_kept cl | apply putRec_kept cl | apply abortPass_kept cl | apply record_kept cl | apply discardPass_kept cl | apply edgeWrite_kept cl | apply Kept.ite | apply Kept.iteFst | apply Kept.ofFst (by assumption) | (extract_lets +onlyGivenNames x; refine (fun (_ : Kept P x) => ?_ : Kept P x → _) ?_; clear_value x; on_goal 2 => unfold x) | (extract_lets +onlyGivenNames x; refine (fun (_ : Kept P x.1) => ?_ : Kept P x.1 → _) ?_; clear_value x; on_goal 2 => unfold x) | (extract_lets +onlyGivenNames x; clear_value x) | fail_if_no_progress apply Kept.fields cl | split
  | succ n ih =>
    unfold State.collDeliver
    with_reducible repeat' first | assumption | apply ih | apply put_kept cl | apply putRec_kept cl | apply abortPass_kept cl | apply record_kept cl | apply discardPass_kept cl | apply edgeWrite_kept cl | apply Kept.ite | apply Kept.iteFst | apply Kept.ofFst (by assumption) | (extract_lets +onlyGivenNames x; refine (fun (_ : Kept P x) => ?_ : Kept P x → _) ?_; clear_value x; on_goal 2 => unfold x) | (extract_lets +onlyGivenNames x; refine (fun (_ : Kept P x.1) => ?_ : Kept P x.1 → _) ?_; clear_value x; on_goal 2 => unfold x) | (extract_lets +onlyGivenNames x; clear_value x) | fail_if_no_progress apply Kept.fields cl | split

theorem collFinal_kept {P : State → Prop} (cl : Closed P) {s : State} (h : Kept P s) (e t : Nat) (p : Partial) : Kept P (State.collFinal s e t p) := by
  unfold State.collFinal
  with_reducible repeat' first | assumption | apply putRec_kept cl | apply collReady_kept cl | apply collPrune_kept cl | apply collDeliver_kept cl | apply Kept.foldl | intro _ _ _ | (extract_lets +onlyGivenNames x; refine (fun (_ : Kept P x) => ?_ : Kept P x → _) ?_; clear_value x; on_goal 2 => unfold x) | (extract_lets +onlyGivenNames x; clear_value x) | fail_if_no_progress apply Kept.fields cl

theorem collForm_kept {P : State → Prop} (cl : Closed P) {s : State} (h : Kept P s) (e t q : Nat) : Kept P (State.collForm s e t q) := by
  unfold State.collForm
  with_reducible repeat' first | assumption | apply putRec_kept cl | apply checkRecord_kept cl | apply collFinal_kept cl | apply collReady_kept cl | apply Kept.ite | apply Kept.iteFst | apply Kept.ofFst (by assumption) | (extract_lets +onlyGivenNames x; refine (fun (_ : Kept P x) => ?_ : Kept P x → _) ?_; clear_value x; on_goal 2 => unfold x) | (extract_lets +onlyGivenNames x; refine (fun (_ : Kept P x.1) => ?_ : Kept P x.1 → _) ?_; clear_value x; on_goal 2 => unfold x) | (extract_lets +onlyGivenNames x; clear_value x) | fail_if_no_progress apply Kept.fields cl | split

theorem collTake_kept {P : State → Prop} (cl : Closed P) {s : State} (h : Kept P s) (e t c : Nat) (up : Bool) (p : Partial) : Kept P (State.collTake s e t c up p) := by
  unfold State.collTake
  with_reducible repeat' first | assumption | apply checkRecord_kept cl | apply collForm_kept cl | apply putRec_kept cl | apply collFinal_kept cl | apply Kept.ite | apply Kept.iteFst | apply Kept.ofFst (by assumption) | (extract_lets +onlyGivenNames x; refine (fun (_ : Kept P x) => ?_ : Kept P x → _) ?_; clear_value x; on_goal 2 => unfold x) | (extract_lets +onlyGivenNames x; refine (fun (_ : Kept P x.1) => ?_ : Kept P x.1 → _) ?_; clear_value x; on_goal 2 => unfold x) | (extract_lets +onlyGivenNames x; clear_value x) | fail_if_no_progress apply Kept.fields cl

theorem collStart_kept {P : State → Prop} (cl : Closed P) {s : State} (h : Kept P s) : Kept P (State.collStart s) := by
  unfold State.collStart
  with_reducible repeat' first | assumption | apply put_kept cl | apply addWrap_kept cl | apply setColl_kept cl | apply collTake_kept cl | apply Kept.foldl | intro _ _ _ | (extract_lets +onlyGivenNames x; refine (fun (_ : Kept P x) => ?_ : Kept P x → _) ?_; clear_value x; on_goal 2 => unfold x) | (extract_lets +onlyGivenNames x; clear_value x) | fail_if_no_progress apply Kept.fields cl

theorem goSweep_kept {P : State → Prop} (cl : Closed P) {s : State} (h : Kept P s) (site : Nat) : Kept P (State.goSweep s site) := by
  unfold State.goSweep
  with_reducible repeat' first | assumption | apply put_kept cl | apply goRow_kept cl | apply raiseVector_kept cl | apply vecStart_kept cl | apply Kept.ite | apply Kept.foldl | intro _ _ _ | (extract_lets +onlyGivenNames x; refine (fun (_ : Kept P x) => ?_ : Kept P x → _) ?_; clear_value x; on_goal 2 => unfold x) | (extract_lets +onlyGivenNames x; clear_value x)

theorem execSweepStart_kept {P : State → Prop} (cl : Closed P) {s : State} (h : Kept P s) (site : Nat) : KeptO P (execSweepStart site s) := by
  unfold execSweepStart
  with_reducible repeat' first | assumption | apply collStart_kept cl | apply toAll_kept cl | apply put_kept cl | apply setDie_kept cl | apply goSweep_kept cl | apply redStart_kept cl | apply KeptO.next | apply KeptO.ite | apply Kept.ite | (extract_lets +onlyGivenNames x; refine (fun (_ : Kept P x) => ?_ : Kept P x → _) ?_; clear_value x; on_goal 2 => unfold x) | (extract_lets +onlyGivenNames x; clear_value x) | fail_if_no_progress apply Kept.fields cl

theorem closeSweep_kept {P : State → Prop} (cl : Closed P) {s : State} (h : Kept P s) : Kept P (State.closeSweep s) := by
  unfold State.closeSweep
  with_reducible repeat' first | assumption | apply hostWrite_kept cl | apply passStatus_kept cl | apply record_kept cl | apply put_kept cl | apply Kept.ite | (extract_lets +onlyGivenNames x; refine (fun (_ : Kept P x) => ?_ : Kept P x → _) ?_; clear_value x; on_goal 2 => unfold x) | (extract_lets +onlyGivenNames x; clear_value x) | fail_if_no_progress apply Kept.fields cl

theorem execSweepDone_kept {P : State → Prop} (cl : Closed P) {s : State} (h : Kept P s) (site : Nat) : KeptO P (execSweepDone site s) := by
  unfold execSweepDone
  with_reducible repeat' first | assumption | apply setDie_kept cl | apply closeSweep_kept cl | apply KeptO.next | apply KeptO.ite | apply Kept.ite | (extract_lets +onlyGivenNames x; refine (fun (_ : Kept P x) => ?_ : Kept P x → _) ?_; clear_value x; on_goal 2 => unfold x) | (extract_lets +onlyGivenNames x; clear_value x) | fail_if_no_progress apply Kept.fields cl

theorem execPassEnd_kept {P : State → Prop} (cl : Closed P) {s : State} (h : Kept P s) : KeptO P (execPassEnd s) := by
  unfold execPassEnd
  with_reducible repeat' first | assumption | apply startDrain_kept cl | apply KeptO.next | apply KeptO.ite | apply Kept.ite

theorem execPassAbort_kept {P : State → Prop} (cl : ClosedAll P) {s : State} (h : Kept P s) (site : Nat) : KeptO P (execPassAbort site s) := by
  unfold execPassAbort
  with_reducible repeat' first | assumption | apply startDrain_kept cl.1 | apply stopDie_kept cl | apply collSuspend_kept cl.1 | apply KeptO.next | apply KeptO.ite | apply Kept.ite | (extract_lets +onlyGivenNames x; refine (fun (_ : Kept P x) => ?_ : Kept P x → _) ?_; clear_value x; on_goal 2 => unfold x) | (extract_lets +onlyGivenNames x; clear_value x)

theorem execQuiet_kept {P : State → Prop} (cl : Closed P) {s : State} (h : Kept P s) (site : Nat) : KeptO P (execQuiet site s) := by
  unfold execQuiet
  with_reducible repeat' first | assumption | apply maybeClear_kept cl | apply KeptO.next | apply KeptO.ite | apply Kept.ite | (extract_lets +onlyGivenNames x; refine (fun (_ : Kept P x) => ?_ : Kept P x → _) ?_; clear_value x; on_goal 2 => unfold x) | (extract_lets +onlyGivenNames x; clear_value x) | fail_if_no_progress apply Kept.fields cl

theorem execClear_kept {P : State → Prop} (cl : Closed P) {s : State} (h : Kept P s) (site : Nat) : KeptO P (execClear site s) := by
  unfold execClear
  with_reducible repeat' first | assumption | apply emptyDie_kept cl | apply KeptO.next | apply KeptO.ite | apply Kept.ite | (extract_lets +onlyGivenNames x; refine (fun (_ : Kept P x) => ?_ : Kept P x → _) ?_; clear_value x; on_goal 2 => unfold x) | (extract_lets +onlyGivenNames x; clear_value x) | fail_if_no_progress apply Kept.fields cl

theorem execEmpty_kept {P : State → Prop} (cl : ClosedAll P) {s : State} (h : Kept P s) (site : Nat) (fails : List (Nat × Nat)) : KeptO P (execEmpty site fails s) := by
  unfold execEmpty
  with_reducible repeat' first | assumption | apply progress_kept cl | apply passBoundary_kept cl | apply KeptO.next | apply KeptO.ite | apply Kept.ite | (extract_lets +onlyGivenNames x; refine (fun (_ : Kept P x) => ?_ : Kept P x → _) ?_; clear_value x; on_goal 2 => unfold x) | (extract_lets +onlyGivenNames x; clear_value x) | fail_if_no_progress apply Kept.fields cl.1

theorem execDrainStuckTimeout_kept {P : State → Prop} (cl : ClosedAll P) {s : State} (h : Kept P s) (site : Nat) : KeptO P (execDrainStuckTimeout site s) := by
  unfold execDrainStuckTimeout
  with_reducible repeat' first | assumption | apply record_kept cl.1 | apply fence_kept cl.1 | apply abortPass_kept cl.1 | apply progress_kept cl | apply drainOn_kept cl | apply verifySoon_kept cl.1 | apply KeptO.next | apply KeptO.ite | apply Kept.ite | (extract_lets +onlyGivenNames x; refine (fun (_ : Kept P x) => ?_ : Kept P x → _) ?_; clear_value x; on_goal 2 => unfold x) | (extract_lets +onlyGivenNames x; clear_value x)

theorem execCompletionWrite_kept {P : State → Prop} (cl : Closed P) {s : State} (h : Kept P s) (q : Nat) : KeptO P (execCompletionWrite q s) := by
  unfold execCompletionWrite
  with_reducible repeat' first | assumption | apply writeRecord_kept cl | apply KeptO.next | apply KeptO.ite | apply Kept.ite | (extract_lets +onlyGivenNames x; refine (fun (_ : Kept P x) => ?_ : Kept P x → _) ?_; clear_value x; on_goal 2 => unfold x) | (extract_lets +onlyGivenNames x; clear_value x) | fail_if_no_progress apply Kept.fields cl | split

theorem execSqAbort_kept {P : State → Prop} (cl : Closed P) {s : State} (h : Kept P s) (who : Requester) (q : Nat) : KeptO P (execSqAbort who q s) := by
  unfold execSqAbort
  with_reducible repeat' first | assumption | apply atHub_kept cl | apply queueAbort_kept cl | apply KeptO.next

theorem execSqFlush_kept {P : State → Prop} (cl : Closed P) {s : State} (h : Kept P s) (who : Requester) (q : Nat) : KeptO P (execSqFlush who q s) := by
  unfold execSqFlush
  with_reducible repeat' first | assumption | apply atHub_kept cl | apply queueFlush_kept cl | apply KeptO.next

theorem execDescriptorSourceStart_kept {P : State → Prop} (cl : Closed P) {s : State} (h : Kept P s) (site d : Nat) : KeptO P (execDescriptorSourceStart site d s) := by
  unfold execDescriptorSourceStart
  with_reducible repeat' first | assumption | apply setStream_kept cl | apply put_kept cl | apply KeptO.next | apply KeptO.ite | apply Kept.ite | (extract_lets +onlyGivenNames x; refine (fun (_ : Kept P x) => ?_ : Kept P x → _) ?_; clear_value x; on_goal 2 => unfold x) | (extract_lets +onlyGivenNames x; clear_value x) | split

theorem execDescriptorSinkStart_kept {P : State → Prop} (cl : Closed P) {s : State} (h : Kept P s) (site d : Nat) : KeptO P (execDescriptorSinkStart site d s) := by
  unfold execDescriptorSinkStart
  with_reducible repeat' first | assumption | apply setStream_kept cl | apply put_kept cl | apply KeptO.next | apply KeptO.ite | apply Kept.ite | (extract_lets +onlyGivenNames x; refine (fun (_ : Kept P x) => ?_ : Kept P x → _) ?_; clear_value x; on_goal 2 => unfold x) | (extract_lets +onlyGivenNames x; clear_value x) | split

theorem addToken_kept {P : State → Prop} (cl : Closed P) {s : State} (h : Kept P s) (site v : Nat) (t n : Nat) : Kept P (State.addToken s site v t n) := by
  unfold State.addToken
  with_reducible repeat' first | assumption | apply raiseVector_kept cl | apply put_kept cl | apply Kept.ite | (extract_lets +onlyGivenNames x; refine (fun (_ : Kept P x) => ?_ : Kept P x → _) ?_; clear_value x; on_goal 2 => unfold x) | (extract_lets +onlyGivenNames x; clear_value x)

theorem signalVector_kept {P : State → Prop} (cl : Closed P) {s : State} (h : Kept P s) (site v : Nat) (t n : Nat) : Kept P (State.signalVector s site v t n) := by
  unfold State.signalVector
  with_reducible repeat' first | assumption | apply addToken_kept cl | apply Kept.foldl | intro _ _ _

theorem signal_kept {P : State → Prop} (cl : Closed P) {s : State} (h : Kept P s) (site : Nat) (d : Desc) : Kept P (State.signal s site d) := by
  unfold State.signal
  with_reducible repeat' first | assumption | apply signalVector_kept cl | apply engineEvent_kept cl | apply addEngineToken_kept cl | (extract_lets +onlyGivenNames x; refine (fun (_ : Kept P x) => ?_ : Kept P x → _) ?_; clear_value x; on_goal 2 => unfold x) | (extract_lets +onlyGivenNames x; clear_value x) | split

theorem execDescriptorSinkComplete_kept {P : State → Prop} (cl : Closed P) {s : State} (h : Kept P s) (site d : Nat) : KeptO P (execDescriptorSinkComplete site d s) := by
  unfold execDescriptorSinkComplete
  with_reducible repeat' first | assumption | apply signal_kept cl | apply admittedBits_kept cl | apply setDie_kept cl | apply KeptO.next | apply KeptO.ite | apply Kept.ite | (extract_lets +onlyGivenNames x; refine (fun (_ : Kept P x) => ?_ : Kept P x → _) ?_; clear_value x; on_goal 2 => unfold x) | (extract_lets +onlyGivenNames x; clear_value x) | split

theorem execDscMissTimeout_kept {P : State → Prop} (cl : Closed P) {s : State} (h : Kept P s) (site ch : Nat) : KeptO P (execDscMissTimeout site ch s) := by
  unfold execDscMissTimeout
  with_reducible repeat' first | assumption | apply abortPass_kept cl | apply record_kept cl | apply strErr_kept cl | apply KeptO.next | apply KeptO.ite | apply Kept.ite

theorem execDscStall_kept {P : State → Prop} (cl : Closed P) {s : State} (h : Kept P s) (site : Nat) : KeptO P (execDscStall site s) := by
  unfold execDscStall
  with_reducible repeat' first | assumption | apply abortPass_kept cl | apply record_kept cl | apply strErr_kept cl | apply KeptO.next | apply KeptO.ite | apply Kept.ite

theorem commitWrite_kept {P : State → Prop} (cl : ClosedAll P) {s : State} (h : Kept P s) (site : Nat) (others : List PortWrite) (w : PortWrite) : Kept P (commitWrite site others s w) := by
  unfold commitWrite
  with_reducible repeat' first | assumption | apply writeMem_kept cl | apply storeKey_kept cl | apply Kept.ite | apply Kept.iteFst | apply Kept.ofFst (by assumption)

theorem execGelatWriteCommit_kept {P : State → Prop} (cl : ClosedAll P) {s : State} (h : Kept P s) (site : Nat) (writes : List PortWrite) : KeptO P (execGelatWriteCommit site writes s) := by
  unfold execGelatWriteCommit
  with_reducible repeat' first | assumption | apply commitWrite_kept cl | apply KeptO.next | apply KeptO.fault | apply KeptO.refused | apply KeptO.ite | apply Kept.ite | apply Kept.foldl | intro _ _ _ | (extract_lets +onlyGivenNames x; refine (fun (_ : Kept P x) => ?_ : Kept P x → _) ?_; clear_value x; on_goal 2 => unfold x) | (extract_lets +onlyGivenNames x; clear_value x) | fail_if_no_progress apply Kept.fields cl.1 | split

theorem scrubRow_kept {P : State → Prop} (cl : Closed P) {s : State} (h : Kept P s) (site row : Nat) (e : RowErrors) : Kept P (State.scrubRow s site row e) := by
  unfold State.scrubRow
  with_reducible repeat' first | assumption | apply eccCorrected_kept cl | apply eccUncorrectable_kept cl | apply scheduleRepair_kept cl | apply Kept.ite | apply Kept.foldl | intro _ _ _ | (extract_lets +onlyGivenNames x; refine (fun (_ : Kept P x) => ?_ : Kept P x → _) ?_; clear_value x; on_goal 2 => unfold x) | (extract_lets +onlyGivenNames x; clear_value x)

theorem execScrubRead_kept {P : State → Prop} (cl : Closed P) {s : State} (h : Kept P s) (site : Nat) (w a : RowErrors) : KeptO P (execScrubRead site w a s) := by
  unfold execScrubRead
  with_reducible repeat' first | assumption | apply setGelat_kept cl | apply scrubRow_kept cl | apply addWrap_kept cl | apply KeptO.next | apply KeptO.ite | apply Kept.ite | (extract_lets +onlyGivenNames x; refine (fun (_ : Kept P x) => ?_ : Kept P x → _) ?_; clear_value x; on_goal 2 => unfold x) | (extract_lets +onlyGivenNames x; clear_value x) | fail_if_no_progress apply Kept.fields cl

theorem execExitScrubDone_kept {P : State → Prop} (cl : ClosedAll P) {s : State} (h : Kept P s) (site : Nat) (found : List (Nat × RowErrors)) (fails : List (Nat × Nat)) : KeptO P (execExitScrubDone site found fails s) := by
  unfold execExitScrubDone
  with_reducible repeat' first | assumption | apply scrubRow_kept cl.1 | apply repairSite_kept cl | apply readyRefresh_kept cl.1 | apply put_kept cl.1 | apply KeptO.next | apply KeptO.ite | apply Kept.ite | apply Kept.foldl | intro _ _ _ | (extract_lets +onlyGivenNames x; refine (fun (_ : Kept P x) => ?_ : Kept P x → _) ?_; clear_value x; on_goal 2 => unfold x) | (extract_lets +onlyGivenNames x; clear_value x)

theorem execGelatInitDone_kept {P : State → Prop} (cl : ClosedAll P) {s : State} (h : Kept P s) (site : Nat) : KeptO P (execGelatInitDone site s) := by
  unfold execGelatInitDone
  with_reducible repeat' first | assumption | apply readyRefresh_kept cl.1 | apply put_kept cl.1 | apply clearGelat_kept cl | apply KeptO.next | apply KeptO.ite | apply Kept.ite

theorem execHbmTrain_kept {P : State → Prop} (cl : Closed P) {s : State} (h : Kept P s) (stack : Nat) (r : TrainResult) : KeptO P (execHbmTrain stack r s) := by
  unfold execHbmTrain
  with_reducible repeat' first | assumption | apply put_kept cl | apply raiseDpd_kept cl | apply hbmLeave_kept cl | apply KeptO.next | apply KeptO.ite | apply Kept.ite | split

theorem execGoldenPatrolRead_kept {P : State → Prop} (cl : Closed P) {s : State} (h : Kept P s) (stack : Nat) (e : Ecc) : KeptO P (execGoldenPatrolRead stack e s) := by
  unfold execGoldenPatrolRead
  with_reducible repeat' first | assumption | apply setHbm_kept cl | apply eccOn_kept cl | apply addWrap_kept cl | apply KeptO.next | apply KeptO.ite | apply Kept.ite | (extract_lets +onlyGivenNames x; refine (fun (_ : Kept P x) => ?_ : Kept P x → _) ?_; clear_value x; on_goal 2 => unfold x) | (extract_lets +onlyGivenNames x; clear_value x) | fail_if_no_progress apply Kept.fields cl

theorem execGatherBlockRead_kept {P : State → Prop} (cl : Closed P) {s : State} (h : Kept P s) (node tag : Nat) (ei eb : Ecc) : KeptO P (execGatherBlockRead node tag ei eb s) := by
  unfold execGatherBlockRead
  with_reducible repeat' first | assumption | apply eccOn_kept cl | apply ppaInvalid_kept cl | apply addWrap_kept cl | apply discardPass_kept cl | apply raiseDpd_kept cl | apply addSat_kept cl | apply inject_kept cl | apply tick_kept cl | apply KeptO.next | apply KeptO.ite | apply Kept.ite | (extract_lets +onlyGivenNames x; refine (fun (_ : Kept P x) => ?_ : Kept P x → _) ?_; clear_value x; on_goal 2 => unfold x) | (extract_lets +onlyGivenNames x; clear_value x) | split

theorem execRwtSyncDone_kept {P : State → Prop} (cl : Closed P) {s : State} (h : Kept P s) : KeptO P (execRwtSyncDone s) := by
  unfold execRwtSyncDone
  with_reducible repeat' first | assumption | apply put_kept cl | apply KeptO.next | apply KeptO.ite | apply Kept.ite | (extract_lets +onlyGivenNames x; refine (fun (_ : Kept P x) => ?_ : Kept P x → _) ?_; clear_value x; on_goal 2 => unfold x) | (extract_lets +onlyGivenNames x; clear_value x) | fail_if_no_progress apply Kept.fields cl | split

theorem markRetrain_kept {P : State → Prop} (cl : Closed P) {s : State} (h : Kept P s) (node port : Nat) : Kept P (State.markRetrain s node port) := by
  unfold State.markRetrain
  with_reducible repeat' first | assumption | apply put_kept cl | split

theorem linkCorrected_kept {P : State → Prop} (cl : Closed P) {s : State} (h : Kept P s) (node port ce : Nat) : Kept P (State.linkCorrected s node port ce) := by
  unfold State.linkCorrected
  with_reducible repeat' first | assumption | apply addSat_kept cl | apply markRetrain_kept cl | apply Kept.ite | (extract_lets +onlyGivenNames x; refine (fun (_ : Kept P x) => ?_ : Kept P x → _) ?_; clear_value x; on_goal 2 => unfold x) | (extract_lets +onlyGivenNames x; clear_value x)

theorem linkUncorrectable_kept {P : State → Prop} (cl : Closed P) {s : State} (h : Kept P s) (node port : Nat) : Kept P (State.linkUncorrectable s node port) := by
  unfold State.linkUncorrectable
  with_reducible repeat' first | assumption | apply addSat_kept cl | apply raiseMesh_kept cl | apply markRetrain_kept cl | apply Kept.ite | (extract_lets +onlyGivenNames x; refine (fun (_ : Kept P x) => ?_ : Kept P x → _) ?_; clear_value x; on_goal 2 => unfold x) | (extract_lets +onlyGivenNames x; clear_value x)

theorem fenceDrop_kept {P : State → Prop} (cl : Closed P) {s : State} (h : Kept P s) (node : Nat) (p : Packet) : Kept P (State.fenceDrop s node p) := by
  unfold State.fenceDrop
  with_reducible repeat' first | assumption | apply addSat_kept cl | apply send_kept cl | apply tick_kept cl | apply Kept.ite | (extract_lets +onlyGivenNames x; refine (fun (_ : Kept P x) => ?_ : Kept P x → _) ?_; clear_value x; on_goal 2 => unfold x) | (extract_lets +onlyGivenNames x; clear_value x) | fail_if_no_progress apply Kept.fields cl

theorem execRouterHeadFlit_kept {P : State → Prop} (cl : Closed P) {s : State} (h : Kept P s) (node port : Nat) (p : Packet) (ce : Nat) (ue : Bool) : KeptO P (execRouterHeadFlit node port p ce ue s) := by
  unfold execRouterHeadFlit
  with_reducible repeat' first | assumption | apply linkCorrected_kept cl | apply linkUncorrectable_kept cl | apply raiseMesh_kept cl | apply send_kept cl | apply put_kept cl | apply addSat_kept cl | apply fenceDrop_kept cl | apply KeptO.next | apply KeptO.ite | apply Kept.ite | apply Kept.foldl | intro _ _ _ | (extract_lets +onlyGivenNames x; refine (fun (_ : Kept P x) => ?_ : Kept P x → _) ?_; clear_value x; on_goal 2 => unfold x) | (extract_lets +onlyGivenNames x; clear_value x) | split

theorem hostMemWrite_kept {P : State → Prop} (cl : Closed P) {s : State} (h : Kept P s) (addr : Nat) (a : MeshAsk) (data : List Nat) : Kept P (State.hostMemWrite s addr a data) := by
  unfold State.hostMemWrite
  with_reducible repeat' first | assumption | apply answerWrite_kept cl | apply busOff_kept cl | apply send_kept cl | apply Kept.ite | (extract_lets +onlyGivenNames x; refine (fun (_ : Kept P x) => ?_ : Kept P x → _) ?_; clear_value x; on_goal 2 => unfold x) | (extract_lets +onlyGivenNames x; clear_value x) | fail_if_no_progress apply Kept.fields cl

theorem writeInvalid_kept {P : State → Prop} (cl : Closed P) {s : State} (h : Kept P s) (node : Nat) (p : Packet) : Kept P (State.writeInvalid s node p) := by
  unfold State.writeInvalid
  with_reducible repeat' first | assumption | apply answerWrite_kept cl | apply ppaInvalid_kept cl | apply Kept.ite | apply Kept.foldl | intro _ _ _ | (extract_lets +onlyGivenNames x; refine (fun (_ : Kept P x) => ?_ : Kept P x → _) ?_; clear_value x; on_goal 2 => unfold x) | (extract_lets +onlyGivenNames x; clear_value x) | fail_if_no_progress apply Kept.fields cl | split

theorem serveWrite_kept {P : State → Prop} (cl : ClosedAll P) {s : State} (h : Kept P s) (node : Nat) (p : Packet) : Kept P (State.serveWrite s node p) := by
  unfold State.serveWrite
  with_reducible repeat' first | assumption | apply writeMem_kept cl | apply answerWrite_kept cl.1 | apply Kept.ite | apply Kept.foldl | apply Kept.iteFst | apply Kept.foldlFst | apply Kept.ofFst (by assumption) | intro _ _ _ | (extract_lets +onlyGivenNames x; refine (fun (_ : Kept P x) => ?_ : Kept P x → _) ?_; clear_value x; on_goal 2 => unfold x) | (extract_lets +onlyGivenNames x; refine (fun (_ : Kept P x.1) => ?_ : Kept P x.1 → _) ?_; clear_value x; on_goal 2 => unfold x) | (extract_lets +onlyGivenNames x; clear_value x)

theorem spaceWrite_kept {P : State → Prop} (cl : ClosedAll P) {s : State} (h : Kept P s) (who : Requester) (ppa : Nat) (data : List Nat) : Kept P (State.spaceWrite s who ppa data) := by
  unfold State.spaceWrite
  with_reducible repeat' first | assumption | apply regWrite_kept cl | apply hostErr_kept cl.1 | apply Kept.ite | apply Kept.foldl | intro _ _ _ | (extract_lets +onlyGivenNames x; refine (fun (_ : Kept P x) => ?_ : Kept P x → _) ?_; clear_value x; on_goal 2 => unfold x) | (extract_lets +onlyGivenNames x; clear_value x)

theorem cndPut_kept {P : State → Prop} (cl : Closed P) {s : State} (h : Kept P s) (c offset : Nat) (a : MeshAsk) (data : List Nat) (poison : Bool) : Kept P (State.cndPut s c offset a data poison) := by
  unfold State.cndPut
  with_reducible repeat' first | assumption | apply setConduit_kept cl | apply cndFlush_kept cl | apply Kept.ite | (extract_lets +onlyGivenNames x; have _ := fun a b c => (x a b c : Option State); dsimp only [x]; clear x) | (extract_lets +onlyGivenNames x; have _ := fun a => (x a : State → State); dsimp only [x]; clear x) | (extract_lets +onlyGivenNames x; have _ := (x : State → State); dsimp only [x]; clear x) | (extract_lets +onlyGivenNames x; refine (fun (_ : Kept P x) => ?_ : Kept P x → _) ?_; clear_value x; on_goal 2 => unfold x) | (extract_lets +onlyGivenNames x; clear_value x) | fail_if_no_progress apply Kept.fields cl | split

theorem execWrite_kept {P : State → Prop} (cl : ClosedAll P) {s : State} (h : Kept P s) (p : Packet) : KeptO P (execWrite p s) := by
  unfold execWrite
  with_reducible repeat' first | assumption | apply endpointDrop_kept cl.1 | apply windowTarget_kept cl.1 | apply hostMemWrite_kept cl.1 | apply writeInvalid_kept cl.1 | apply serveWrite_kept cl | apply answerWrite_kept cl.1 | apply spaceWrite_kept cl | apply cndPut_kept cl.1 | apply guestRequest_kept cl.1 | apply KeptO.next | apply KeptO.ite | apply Kept.ofSome (by assumption) | apply Kept.getD | apply Kept.ite | apply Kept.iteSnd | apply Kept.ofSnd (by assumption) | (extract_lets +onlyGivenNames x; refine (fun (_ : Kept P x) => ?_ : Kept P x → _) ?_; clear_value x; on_goal 2 => unfold x) | (extract_lets +onlyGivenNames x; refine (fun (_ : Kept P x.2) => ?_ : Kept P x.2 → _) ?_; clear_value x; on_goal 2 => unfold x) | (extract_lets +onlyGivenNames x; clear_value x) | split

theorem execMwrite_kept {P : State → Prop} (cl : ClosedAll P) {s : State} (h : Kept P s) (node : Nat) (p : Packet) : KeptO P (execMwrite node p s) := by
  unfold execMwrite
  with_reducible repeat' first | assumption | apply raiseMesh_kept cl.1 | apply answerWrite_kept cl.1 | apply send_kept cl.1 | apply serveWrite_kept cl | apply KeptO.next | apply KeptO.ite | apply Kept.ite | (extract_lets +onlyGivenNames x; refine (fun (_ : Kept P x) => ?_ : Kept P x → _) ?_; clear_value x; on_goal 2 => unfold x) | (extract_lets +onlyGivenNames x; clear_value x) | fail_if_no_progress apply Kept.fields cl.1

theorem execMsg_kept {P : State → Prop} (cl : Closed P) {s : State} (h : Kept P s) (p : Packet) : KeptO P (execMsg p s) := by
  unfold execMsg
  with_reducible repeat' first | assumption | apply endpointDrop_kept cl | apply mbxPush_kept cl | apply KeptO.next | apply KeptO.ite | apply Kept.ofSome (by assumption) | apply Kept.getD | apply Kept.ite | (extract_lets +onlyGivenNames x; refine (fun (_ : Kept P x) => ?_ : Kept P x → _) ?_; clear_value x; on_goal 2 => unfold x) | (extract_lets +onlyGivenNames x; clear_value x) | split

theorem lateResponse_kept {P : State → Prop} (cl : Closed P) {s : State} (h : Kept P s) (node : Nat) : Kept P (State.lateResponse s node) := by
  unfold State.lateResponse
  with_reducible repeat' first | assumption | apply addSat_kept cl | apply Kept.ite

theorem closeRequest_kept {P : State → Prop} (cl : Closed P) {s : State} (h : Kept P s) (r : Request) : Kept P (State.closeRequest s r) := by
  unfold State.closeRequest
  with_reducible repeat' first | assumption | (extract_lets +onlyGivenNames x; refine (fun (_ : Kept P x) => ?_ : Kept P x → _) ?_; clear_value x; on_goal 2 => unfold x) | (extract_lets +onlyGivenNames x; clear_value x) | fail_if_no_progress apply Kept.fields cl

theorem coreFault_kept {P : State → Prop} (cl : Closed P) {s : State} (h : Kept P s) (site c cause : Nat) : Kept P (State.coreFault s site c cause) := by
  unfold State.coreFault
  with_reducible repeat' first | assumption | apply setControl_kept cl | (extract_lets +onlyGivenNames x; refine (fun (_ : Kept P x) => ?_ : Kept P x → _) ?_; clear_value x; on_goal 2 => unfold x) | (extract_lets +onlyGivenNames x; clear_value x) | fail_if_no_progress apply Kept.fields cl

theorem bar4Answer_kept {P : State → Prop} (cl : Closed P) {s : State} (h : Kept P s) (key ppa : Nat) (data : List Nat) (poison : Bool) : Kept P (State.bar4Answer s key ppa data poison) := by
  unfold State.bar4Answer
  with_reducible repeat' first | assumption | apply send_kept cl | apply Kept.ite | (extract_lets +onlyGivenNames x; refine (fun (_ : Kept P x) => ?_ : Kept P x → _) ?_; clear_value x; on_goal 2 => unfold x) | (extract_lets +onlyGivenNames x; clear_value x) | fail_if_no_progress apply Kept.fields cl | split

theorem readEnds_kept {P : State → Prop} (cl : Closed P) {s : State} (h : Kept P s) (r : Request) (data : List Nat) (mask : Nat) : Kept P (State.readEnds s r data mask) := by
  unfold State.readEnds
  with_reducible repeat' first | assumption | apply closeRequest_kept cl | apply consumed_kept cl | apply setStream_kept cl | apply coreFault_kept cl | apply send_kept cl | apply cndAnswer_kept cl | apply bar4Answer_kept cl | apply Kept.ite | (extract_lets +onlyGivenNames x; refine (fun (_ : Kept P x) => ?_ : Kept P x → _) ?_; clear_value x; on_goal 2 => unfold x) | (extract_lets +onlyGivenNames x; clear_value x) | fail_if_no_progress apply Kept.fields cl | split

theorem execRdata_kept {P : State → Prop} (cl : Closed P) {s : State} (h : Kept P s) (p : Packet) : KeptO P (execRdata p s) := by
  unfold execRdata
  with_reducible repeat' first | assumption | apply lateResponse_kept cl | apply readEnds_kept cl | apply KeptO.next | apply KeptO.ite | apply Kept.ite | split

theorem collContrib_kept {P : State → Prop} (cl : Closed P) {s : State} (h : Kept P s) (e t : Nat) (p : Partial) : Kept P (State.collContrib s e t p) := by
  unfold State.collContrib
  with_reducible repeat' first | assumption | apply raiseMesh_kept cl | apply checkRecord_kept cl | apply collForm_kept cl | apply putRec_kept cl | apply Kept.ite | apply Kept.iteFst | apply Kept.ofFst (by assumption) | (extract_lets +onlyGivenNames x; refine (fun (_ : Kept P x) => ?_ : Kept P x → _) ?_; clear_value x; on_goal 2 => unfold x) | (extract_lets +onlyGivenNames x; refine (fun (_ : Kept P x.1) => ?_ : Kept P x.1 → _) ?_; clear_value x; on_goal 2 => unfold x) | (extract_lets +onlyGivenNames x; clear_value x) | fail_if_no_progress apply Kept.fields cl | split

theorem collWake_kept {P : State → Prop} (cl : Closed P) {s : State} (h : Kept P s) (e t a2 : Nat) : Kept P (State.collWake e t a2 s) := by
  induction a2 generalizing s with
  | zero =>
    unfold State.collWake
    with_reducible repeat' first | assumption | apply collContrib_kept cl | (extract_lets +onlyGivenNames x; refine (fun (_ : Kept P x) => ?_ : Kept P x → _) ?_; clear_value x; on_goal 2 => unfold x) | (extract_lets +onlyGivenNames x; clear_value x) | fail_if_no_progress apply Kept.fields cl | split
  | succ n ih =>
    unfold State.collWake
    with_reducible repeat' first | assumption | apply ih | apply collContrib_kept cl | (extract_lets +onlyGivenNames x; refine (fun (_ : Kept P x) => ?_ : Kept P x → _) ?_; clear_value x; on_goal 2 => unfold x) | (extract_lets +onlyGivenNames x; clear_value x) | fail_if_no_progress apply Kept.fields cl | split

theorem collWack_kept {P : State → Prop} (cl : Closed P) {s : State} (h : Kept P s) (e t q : Nat) (poison : Bool) : Kept P (State.collWack s e t q poison) := by
  unfold State.collWack
  with_reducible repeat' first | assumption | apply discardPass_kept cl | apply collWake_kept cl | apply collPrune_kept cl | apply putRec_kept cl | apply Kept.ite | (extract_lets +onlyGivenNames x; refine (fun (_ : Kept P x) => ?_ : Kept P x → _) ?_; clear_value x; on_goal 2 => unfold x) | (extract_lets +onlyGivenNames x; clear_value x) | fail_if_no_progress apply Kept.fields cl

theorem writeEnds_kept {P : State → Prop} (cl : Closed P) {s : State} (h : Kept P s) (r : Request) (bad : Bool) : Kept P (State.writeEnds s r bad) := by
  unfold State.writeEnds
  with_reducible repeat' first | assumption | apply closeRequest_kept cl | apply setControl_kept cl | apply cndAnswer_kept cl | apply discardPass_kept cl | apply collWack_kept cl | apply Kept.ite | (extract_lets +onlyGivenNames x; refine (fun (_ : Kept P x) => ?_ : Kept P x → _) ?_; clear_value x; on_goal 2 => unfold x) | (extract_lets +onlyGivenNames x; clear_value x) | fail_if_no_progress apply Kept.fields cl | split

theorem execWack_kept {P : State → Prop} (cl : Closed P) {s : State} (h : Kept P s) (p : Packet) : KeptO P (execWack p s) := by
  unfold execWack
  with_reducible repeat' first | assumption | apply lateResponse_kept cl | apply writeEnds_kept cl | apply KeptO.next | apply KeptO.ite | apply Kept.ite | (extract_lets +onlyGivenNames x; refine (fun (_ : Kept P x) => ?_ : Kept P x → _) ?_; clear_value x; on_goal 2 => unfold x) | (extract_lets +onlyGivenNames x; clear_value x) | fail_if_no_progress apply Kept.fields cl | split

theorem execContrib_kept {P : State → Prop} (cl : ClosedAll P) {s : State} (h : Kept P s) (p : Packet) : KeptO P (execContrib p s) := by
  unfold execContrib
  with_reducible repeat' first | assumption | apply endpointDrop_kept cl.1 | apply redUnexpected_kept cl.1 | apply contribute_kept cl | apply raiseMesh_kept cl.1 | apply collContrib_kept cl.1 | apply KeptO.next | apply KeptO.ite | apply Kept.ofSome (by assumption) | apply Kept.getD | apply Kept.ite | (extract_lets +onlyGivenNames x; refine (fun (_ : Kept P x) => ?_ : Kept P x → _) ?_; clear_value x; on_goal 2 => unfold x) | (extract_lets +onlyGivenNames x; clear_value x) | split

theorem execMshDeadlock_kept {P : State → Prop} (cl : Closed P) {s : State} (h : Kept P s) (node port : Nat) (channel lane : Nat) : KeptO P (execMshDeadlock node port channel lane s) := by
  unfold execMshDeadlock
  with_reducible repeat' first | assumption | apply put_kept cl | apply raiseMesh_kept cl | apply KeptO.next | apply KeptO.ite | apply Kept.ite | (extract_lets +onlyGivenNames x; refine (fun (_ : Kept P x) => ?_ : Kept P x → _) ?_; clear_value x; on_goal 2 => unfold x) | (extract_lets +onlyGivenNames x; clear_value x)

theorem execMshRspTimeout_kept {P : State → Prop} (cl : Closed P) {s : State} (h : Kept P s) (node tag : Nat) : KeptO P (execMshRspTimeout node tag s) := by
  unfold execMshRspTimeout
  with_reducible repeat' first | assumption | apply writeEnds_kept cl | apply readEnds_kept cl | apply tick_kept cl | apply raiseMesh_kept cl | apply KeptO.next | apply KeptO.ite | apply Kept.ite | (extract_lets +onlyGivenNames x; refine (fun (_ : Kept P x) => ?_ : Kept P x → _) ?_; clear_value x; on_goal 2 => unfold x) | (extract_lets +onlyGivenNames x; clear_value x) | split

theorem execMshRedTimeout_kept {P : State → Prop} (cl : Closed P) {s : State} (h : Kept P s) (site t seq : Nat) : KeptO P (execMshRedTimeout site t seq s) := by
  unfold execMshRedTimeout
  with_reducible repeat' first | assumption | apply raiseMesh_kept cl | apply put_kept cl | apply KeptO.next | apply KeptO.ite | apply Kept.ite

theorem execLinkLossDetect_kept {P : State → Prop} (cl : Closed P) {s : State} (h : Kept P s) (site port : Nat) (answers : Bool) : KeptO P (execLinkLossDetect site port answers s) := by
  unfold execLinkLossDetect
  with_reducible repeat' first | assumption | apply linkState_kept cl | apply verifySoon_kept cl | apply linkFail_kept cl | apply fence_kept cl | apply KeptO.next | apply KeptO.ite | apply Kept.ite | (extract_lets +onlyGivenNames x; refine (fun (_ : Kept P x) => ?_ : Kept P x → _) ?_; clear_value x; on_goal 2 => unfold x) | (extract_lets +onlyGivenNames x; clear_value x) | split

theorem linkUp_kept {P : State → Prop} (cl : Closed P) {s : State} (h : Kept P s) (site port : Nat) (good width mask : Nat) : Kept P (State.linkUp s site port good width mask) := by
  unfold State.linkUp
  with_reducible repeat' first | assumption | apply addWrap_kept cl | apply put_kept cl | apply linkState_kept cl | apply raiseMesh_kept cl | apply addSat_kept cl | apply Kept.ite | (extract_lets +onlyGivenNames x; refine (fun (_ : Kept P x) => ?_ : Kept P x → _) ?_; clear_value x; on_goal 2 => unfold x) | (extract_lets +onlyGivenNames x; clear_value x) | fail_if_no_progress apply Kept.fields cl | split

theorem execWidthToken_kept {P : State → Prop} (cl : Closed P) {s : State} (h : Kept P s) (site port : Nat) (good spares token : Nat) : KeptO P (execWidthToken site port good spares token s) := by
  unfold execWidthToken
  with_reducible repeat' first | assumption | apply put_kept cl | apply linkFail_kept cl | apply linkUp_kept cl | apply send_kept cl | apply KeptO.next | apply KeptO.ite | apply Kept.ite | (extract_lets +onlyGivenNames x; refine (fun (_ : Kept P x) => ?_ : Kept P x → _) ?_; clear_value x; on_goal 2 => unfold x) | (extract_lets +onlyGivenNames x; clear_value x) | fail_if_no_progress apply Kept.fields cl

theorem execWidthTokenTimeout_kept {P : State → Prop} (cl : Closed P) {s : State} (h : Kept P s) (site port : Nat) : KeptO P (execWidthTokenTimeout site port s) := by
  unfold execWidthTokenTimeout
  with_reducible repeat' first | assumption | apply linkFail_kept cl | apply KeptO.next | apply KeptO.ite | apply Kept.ite | (extract_lets +onlyGivenNames x; refine (fun (_ : Kept P x) => ?_ : Kept P x → _) ?_; clear_value x; on_goal 2 => unfold x) | (extract_lets +onlyGivenNames x; clear_value x)

theorem sdgCode_kept {P : State → Prop} (cl : Closed P) {s : State} (h : Kept P s) (code : Nat) : Kept P (State.sdgCode s code) := by
  unfold State.sdgCode
  with_reducible repeat' first | assumption | apply put_kept cl

theorem writeVote_kept {P : State → Prop} (cl : ClosedAll P) {s : State} (h : Kept P s) (site to_ off : Nat) (data : List Nat) (poison : Bool) : Kept P (State.writeVote s site to_ off data poison) := by
  unfold State.writeVote
  with_reducible repeat' first | assumption | apply storeKey_kept cl | apply issue_kept cl.1 | apply Kept.ite | apply Kept.foldl | apply Kept.iteFst | apply Kept.foldlFst | apply Kept.ofFst (by assumption) | intro _ _ _

theorem beginVote_kept {P : State → Prop} (cl : ClosedAll P) {s : State} (h : Kept P s) (site : Nat) : Kept P (State.beginVote s site) := by
  unfold State.beginVote
  with_reducible repeat' first | assumption | apply setVotes_kept cl.1 | apply writeOwn_kept cl | apply writeOut_kept cl | apply writeVote_kept cl | apply Kept.ite | (extract_lets +onlyGivenNames x; refine (fun (_ : Kept P x) => ?_ : Kept P x → _) ?_; clear_value x; on_goal 2 => unfold x) | (extract_lets +onlyGivenNames x; clear_value x) | fail_if_no_progress apply Kept.fields cl.1 | split

theorem openVote_kept {P : State → Prop} (cl : ClosedAll P) {s : State} (h : Kept P s) (site a : Nat) (t : Tile) : Kept P (State.openVote s site a t) := by
  unfold State.openVote
  with_reducible repeat' first | assumption | apply sdgCode_kept cl.1 | apply put_kept cl.1 | apply addSat_kept cl.1 | apply abortPass_kept cl.1 | apply record_kept cl.1 | apply releaseBank_kept cl.1 | apply setReplay_kept cl.1 | apply beginVote_kept cl | apply irq_kept cl.1 | apply openVotes_kept cl.1 | apply setVotes_kept cl.1 | apply Kept.ite | (extract_lets +onlyGivenNames x; have _ := fun a b c => (x a b c : Option State); dsimp only [x]; clear x) | (extract_lets +onlyGivenNames x; have _ := fun a => (x a : State → State); dsimp only [x]; clear x) | (extract_lets +onlyGivenNames x; have _ := (x : State → State); dsimp only [x]; clear x) | (extract_lets +onlyGivenNames x; refine (fun (_ : Kept P x) => ?_ : Kept P x → _) ?_; clear_value x; on_goal 2 => unfold x) | (extract_lets +onlyGivenNames x; clear_value x) | fail_if_no_progress apply Kept.fields cl.1 | split

theorem execTileCompare_kept {P : State → Prop} (cl : ClosedAll P) {s : State} (h : Kept P s) (site a : Nat) : KeptO P (execTileCompare site a s) := by
  unfold execTileCompare
  with_reducible repeat' first | assumption | apply setArray_kept cl.1 | apply releaseBank_kept cl.1 | apply openVote_kept cl | apply addSat_kept cl.1 | apply KeptO.next | apply KeptO.ite | apply Kept.ite | (extract_lets +onlyGivenNames x; refine (fun (_ : Kept P x) => ?_ : Kept P x → _) ?_; clear_value x; on_goal 2 => unfold x) | (extract_lets +onlyGivenNames x; clear_value x) | fail_if_no_progress apply Kept.fields cl.1 | split

theorem execVoteCprimeDone_kept {P : State → Prop} (cl : ClosedAll P) {s : State} (h : Kept P s) (site : Nat) : KeptO P (execVoteCprimeDone site s) := by
  unfold execVoteCprimeDone
  with_reducible repeat' first | assumption | apply writeOwn_kept cl | apply writeVote_kept cl | apply KeptO.next | apply KeptO.ite | apply Kept.ite | apply Kept.foldl | intro _ _ _ | (extract_lets +onlyGivenNames x; refine (fun (_ : Kept P x) => ?_ : Kept P x → _) ?_; clear_value x; on_goal 2 => unfold x) | (extract_lets +onlyGivenNames x; clear_value x)

theorem suspect_kept {P : State → Prop} (cl : Closed P) {s : State} (h : Kept P s) (site : Nat) : Kept P (State.suspect s site) := by
  unfold State.suspect
  with_reducible repeat' first | assumption | apply addSat_kept cl | apply decideRetire_kept cl | apply Kept.ite | (extract_lets +onlyGivenNames x; refine (fun (_ : Kept P x) => ?_ : Kept P x → _) ?_; clear_value x; on_goal 2 => unfold x) | (extract_lets +onlyGivenNames x; clear_value x)

theorem voteEffect_kept {P : State → Prop} (cl : ClosedAll P) {s : State} (h : Kept P s) (site : Nat) (v : Vote) (outcome : Nat) : Kept P (State.voteEffect s site v outcome) := by
  unfold State.voteEffect
  with_reducible repeat' first | assumption | apply suspect_kept cl.1 | apply endVote_kept cl | apply sdgCode_kept cl.1 | apply retireArray_kept cl.1 | apply discardPass_kept cl.1 | apply abortPass_kept cl.1 | apply Kept.ite | (extract_lets +onlyGivenNames x; refine (fun (_ : Kept P x) => ?_ : Kept P x → _) ?_; clear_value x; on_goal 2 => unfold x) | (extract_lets +onlyGivenNames x; clear_value x) | split

theorem execVoteDecide_kept {P : State → Prop} (cl : ClosedAll P) {s : State} (h : Kept P s) (site : Nat) : KeptO P (execVoteDecide site s) := by
  unfold execVoteDecide
  with_reducible repeat' first | assumption | apply beginVote_kept cl | apply voteEffect_kept cl | apply KeptO.next | split

theorem execVoteTimeout_kept {P : State → Prop} (cl : ClosedAll P) {s : State} (h : Kept P s) (site : Nat) : KeptO P (execVoteTimeout site s) := by
  unfold execVoteTimeout
  with_reducible repeat' first | assumption | apply beginVote_kept cl | apply abortPass_kept cl.1 | apply endVote_kept cl | apply sdgCode_kept cl.1 | apply KeptO.next | split

theorem execGalRetrain_kept {P : State → Prop} (cl : Closed P) {s : State} (h : Kept P s) (who : Requester) (l : Nat) : KeptO P (execGalRetrain who l s) := by
  unfold execGalRetrain
  with_reducible repeat' first | assumption | apply atHub_kept cl | apply retrain_kept cl | apply KeptO.next

theorem execGalePmaDone_kept {P : State → Prop} (cl : Closed P) {s : State} (h : Kept P s) (l : Nat) : KeptO P (execGalePmaDone l s) := by
  unfold execGalePmaDone
  with_reducible repeat' first | assumption | apply put_kept cl | apply setLinkSt_kept cl | apply KeptO.next | apply KeptO.ite | apply Kept.ite

theorem execGalePcsDone_kept {P : State → Prop} (cl : Closed P) {s : State} (h : Kept P s) (l : Nat) : KeptO P (execGalePcsDone l s) := by
  unfold execGalePcsDone
  with_reducible repeat' first | assumption | apply put_kept cl | apply setLinkSt_kept cl | apply KeptO.next | apply KeptO.ite | apply Kept.ite

theorem execGaleFlitLock_kept {P : State → Prop} (cl : Closed P) {s : State} (h : Kept P s) (l : Nat) : KeptO P (execGaleFlitLock l s) := by
  unfold execGaleFlitLock
  with_reducible repeat' first | assumption | apply send_kept cl | apply setLinkSt_kept cl | apply KeptO.next | apply KeptO.ite | apply Kept.ite | (extract_lets +onlyGivenNames x; refine (fun (_ : Kept P x) => ?_ : Kept P x → _) ?_; clear_value x; on_goal 2 => unfold x) | (extract_lets +onlyGivenNames x; clear_value x)

theorem execGaleAttemptFail_kept {P : State → Prop} (cl : Closed P) {s : State} (h : Kept P s) (l : Nat) : KeptO P (execGaleAttemptFail l s) := by
  unfold execGaleAttemptFail
  with_reducible repeat' first | assumption | apply linkFailed_kept cl | apply KeptO.next | apply KeptO.ite | apply Kept.ite

theorem execGaleDownTimer_kept {P : State → Prop} (cl : Closed P) {s : State} (h : Kept P s) (l : Nat) : KeptO P (execGaleDownTimer l s) := by
  unfold execGaleDownTimer
  with_reducible repeat' first | assumption | apply linkRetry_kept cl | apply KeptO.next | apply KeptO.ite | apply Kept.ite

theorem linkDown_kept {P : State → Prop} (cl : Closed P) {s : State} (h : Kept P s) (l : Nat) : Kept P (State.linkDown s l) := by
  unfold State.linkDown
  with_reducible repeat' first | assumption | apply linkAgainst_kept cl | apply leaveUp_kept cl | apply Kept.ite

theorem execGaleLinkLoss_kept {P : State → Prop} (cl : Closed P) {s : State} (h : Kept P s) (l signal am : Nat) : KeptO P (execGaleLinkLoss l signal am s) := by
  unfold execGaleLinkLoss
  with_reducible repeat' first | assumption | apply put_kept cl | apply linkDown_kept cl | apply KeptO.next | (extract_lets +onlyGivenNames x; refine (fun (_ : Kept P x) => ?_ : Kept P x → _) ?_; clear_value x; on_goal 2 => unfold x) | (extract_lets +onlyGivenNames x; clear_value x)

theorem flitDiscard_kept {P : State → Prop} (cl : Closed P) {s : State} (h : Kept P s) (l : Nat) : Kept P (State.flitDiscard s l) := by
  unfold State.flitDiscard
  with_reducible repeat' first | assumption | apply setLink_kept cl | (extract_lets +onlyGivenNames x; refine (fun (_ : Kept P x) => ?_ : Kept P x → _) ?_; clear_value x; on_goal 2 => unfold x) | (extract_lets +onlyGivenNames x; clear_value x) | fail_if_no_progress apply Kept.fields cl

theorem flitAck_kept {P : State → Prop} (cl : Closed P) {s : State} (h : Kept P s) (l ack : Nat) : Kept P (State.flitAck s l ack) := by
  unfold State.flitAck
  with_reducible repeat' first | assumption | apply setLink_kept cl | (extract_lets +onlyGivenNames x; refine (fun (_ : Kept P x) => ?_ : Kept P x → _) ?_; clear_value x; on_goal 2 => unfold x) | (extract_lets +onlyGivenNames x; clear_value x) | fail_if_no_progress apply Kept.fields cl | split

theorem flitCredit_kept {P : State → Prop} (cl : Closed P) {s : State} (h : Kept P s) (l : Nat) (seen : List Nat) : Kept P (State.flitCredit s l seen).1 := by
  unfold State.flitCredit
  with_reducible repeat' first | assumption | apply setLink_kept cl | apply Kept.ite | apply Kept.foldl | apply Kept.iteFst | apply Kept.foldlFst | apply Kept.ofFst (by assumption) | intro _ _ _ | (extract_lets +onlyGivenNames x; refine (fun (_ : Kept P x) => ?_ : Kept P x → _) ?_; clear_value x; on_goal 2 => unfold x) | (extract_lets +onlyGivenNames x; refine (fun (_ : Kept P x.1) => ?_ : Kept P x.1 → _) ?_; clear_value x; on_goal 2 => unfold x) | (extract_lets +onlyGivenNames x; clear_value x) | fail_if_no_progress apply Kept.fields cl

theorem replayLink_kept {P : State → Prop} (cl : Closed P) {s : State} (h : Kept P s) (l : Nat) : Kept P (State.replayLink s l) := by
  unfold State.replayLink
  with_reducible repeat' first | assumption | apply addSat_kept cl | apply setLink_kept cl | apply sendFlit_kept cl | apply Kept.foldl | intro _ _ _ | (extract_lets +onlyGivenNames x; refine (fun (_ : Kept P x) => ?_ : Kept P x → _) ?_; clear_value x; on_goal 2 => unfold x) | (extract_lets +onlyGivenNames x; clear_value x) | fail_if_no_progress apply Kept.fields cl

theorem replayDue_kept {P : State → Prop} (cl : Closed P) {s : State} (h : Kept P s) (l : Nat) : Kept P (State.replayDue s l) := by
  unfold State.replayDue
  with_reducible repeat' first | assumption | apply linkDown_kept cl | apply raiseLink_kept cl | apply replayLink_kept cl | apply Kept.ite

theorem flitTake_kept {P : State → Prop} (cl : Closed P) {s : State} (h : Kept P s) (l vc : Nat) (sop eop : Bool) (payload : List Nat) : Kept P (State.flitTake s l vc sop eop payload) := by
  unfold State.flitTake
  with_reducible repeat' first | assumption | apply put_kept cl | apply setLink_kept cl | apply send_kept cl | apply Kept.ite | (extract_lets +onlyGivenNames x; refine (fun (_ : Kept P x) => ?_ : Kept P x → _) ?_; clear_value x; on_goal 2 => unfold x) | (extract_lets +onlyGivenNames x; clear_value x) | fail_if_no_progress apply Kept.fields cl

theorem execGaleDataFlit_kept {P : State → Prop} (cl : Closed P) {s : State} (h : Kept P s) (l : Nat) (bytes : List Nat) : KeptO P (execGaleDataFlit l bytes s) := by
  unfold execGaleDataFlit
  with_reducible repeat' first | assumption | apply flitDiscard_kept cl | apply addSat_kept cl | apply setLink_kept cl | apply linkDown_kept cl | apply flitAck_kept cl | apply flitCredit_kept cl | apply raiseLink_kept cl | apply replayDue_kept cl | apply pump_kept cl | apply flitTake_kept cl | apply KeptO.next | apply KeptO.ite | apply Kept.ite | apply Kept.iteFst | apply Kept.ofFst (by assumption) | (extract_lets +onlyGivenNames x; refine (fun (_ : Kept P x) => ?_ : Kept P x → _) ?_; clear_value x; on_goal 2 => unfold x) | (extract_lets +onlyGivenNames x; refine (fun (_ : Kept P x.1) => ?_ : Kept P x.1 → _) ?_; clear_value x; on_goal 2 => unfold x) | (extract_lets +onlyGivenNames x; clear_value x) | fail_if_no_progress apply Kept.fields cl

theorem execGaleReplayTimeout_kept {P : State → Prop} (cl : Closed P) {s : State} (h : Kept P s) (l : Nat) : KeptO P (execGaleReplayTimeout l s) := by
  unfold execGaleReplayTimeout
  with_reducible repeat' first | assumption | apply replayDue_kept cl | apply KeptO.next | apply KeptO.ite | apply Kept.ite

theorem execGaleFecSecond_kept {P : State → Prop} (cl : Closed P) {s : State} (h : Kept P s) (l corrected uncorrectable : Nat) : KeptO P (execGaleFecSecond l corrected uncorrectable s) := by
  unfold execGaleFecSecond
  with_reducible repeat' first | assumption | apply addSat_kept cl | apply linkDown_kept cl | apply raiseLink_kept cl | apply KeptO.next | apply KeptO.ite | apply Kept.ite | (extract_lets +onlyGivenNames x; refine (fun (_ : Kept P x) => ?_ : Kept P x → _) ?_; clear_value x; on_goal 2 => unfold x) | (extract_lets +onlyGivenNames x; clear_value x)

theorem misdirected_kept {P : State → Prop} (cl : Closed P) {s : State} (h : Kept P s) (l dcnd : Nat) (usable : Bool) : Kept P (State.misdirected s l dcnd usable) := by
  unfold State.misdirected
  with_reducible repeat' first | assumption | apply addSat_kept cl | apply raiseLink_kept cl | apply setLink_kept cl | apply Kept.ite | (extract_lets +onlyGivenNames x; refine (fun (_ : Kept P x) => ?_ : Kept P x → _) ?_; clear_value x; on_goal 2 => unfold x) | (extract_lets +onlyGivenNames x; clear_value x) | fail_if_no_progress apply Kept.fields cl

theorem receive_kept {P : State → Prop} (cl : Closed P) {s : State} (h : Kept P s) (l : Nat) (p : GalePacket) : Kept P (State.receive s l p).1 := by
  unfold State.receive
  with_reducible repeat' first | assumption | apply misdirected_kept cl | apply setConduit_kept cl | apply cndTransmit_kept cl | apply Kept.ite | apply Kept.iteFst | apply Kept.ofFst (by assumption) | (extract_lets +onlyGivenNames x; refine (fun (_ : Kept P x) => ?_ : Kept P x → _) ?_; clear_value x; on_goal 2 => unfold x) | (extract_lets +onlyGivenNames x; refine (fun (_ : Kept P x.1) => ?_ : Kept P x.1 → _) ?_; clear_value x; on_goal 2 => unfold x) | (extract_lets +onlyGivenNames x; clear_value x) | fail_if_no_progress apply Kept.fields cl | split

theorem execOpenMsg_kept {P : State → Prop} (cl : Closed P) {s : State} (h : Kept P s) (l : Nat) (p : GalePacket) : KeptO P (execOpenMsg l p s) := by
  unfold execOpenMsg
  with_reducible repeat' first | assumption | apply receive_kept cl | apply put_kept cl | apply setConduit_kept cl | apply cndTransmit_kept cl | apply cndEnd_kept cl | apply KeptO.next | apply KeptO.ite | apply Kept.ite | apply Kept.iteFst | apply Kept.ofFst (by assumption) | (extract_lets +onlyGivenNames x; refine (fun (_ : Kept P x) => ?_ : Kept P x → _) ?_; clear_value x; on_goal 2 => unfold x) | (extract_lets +onlyGivenNames x; refine (fun (_ : Kept P x.1) => ?_ : Kept P x.1 → _) ?_; clear_value x; on_goal 2 => unfold x) | (extract_lets +onlyGivenNames x; clear_value x) | split

theorem inOrder_kept {P : State → Prop} (cl : Closed P) {s : State} (h : Kept P s) (c : Nat) (p : GalePacket) : Kept P (State.inOrder s c p).1 := by
  unfold State.inOrder
  with_reducible repeat' first | assumption | apply cndAck_kept cl | apply setConduit_kept cl | apply Kept.ite | apply Kept.iteFst | apply Kept.ofFst (by assumption) | (extract_lets +onlyGivenNames x; refine (fun (_ : Kept P x) => ?_ : Kept P x → _) ?_; clear_value x; on_goal 2 => unfold x) | (extract_lets +onlyGivenNames x; refine (fun (_ : Kept P x.1) => ?_ : Kept P x.1 → _) ?_; clear_value x; on_goal 2 => unfold x) | (extract_lets +onlyGivenNames x; clear_value x) | fail_if_no_progress apply Kept.fields cl

theorem accept_kept {P : State → Prop} (cl : Closed P) {s : State} (h : Kept P s) (c : Nat) (p : GalePacket) : Kept P (State.accept s c p) := by
  unfold State.accept
  with_reducible repeat' first | assumption | apply setConduit_kept cl | (extract_lets +onlyGivenNames x; refine (fun (_ : Kept P x) => ?_ : Kept P x → _) ?_; clear_value x; on_goal 2 => unfold x) | (extract_lets +onlyGivenNames x; clear_value x)

theorem execCloseMsg_kept {P : State → Prop} (cl : Closed P) {s : State} (h : Kept P s) (l : Nat) (p : GalePacket) : KeptO P (execCloseMsg l p s) := by
  unfold execCloseMsg
  with_reducible repeat' first | assumption | apply receive_kept cl | apply inOrder_kept cl | apply cndEnd_kept cl | apply cndAck_kept cl | apply accept_kept cl | apply KeptO.next | apply KeptO.ite | apply Kept.ite | apply Kept.iteFst | apply Kept.ofFst (by assumption) | (extract_lets +onlyGivenNames x; refine (fun (_ : Kept P x) => ?_ : Kept P x → _) ?_; clear_value x; on_goal 2 => unfold x) | (extract_lets +onlyGivenNames x; refine (fun (_ : Kept P x.1) => ?_ : Kept P x.1 → _) ?_; clear_value x; on_goal 2 => unfold x) | (extract_lets +onlyGivenNames x; clear_value x) | split

theorem remoteRefused_kept {P : State → Prop} (cl : Closed P) {s : State} (h : Kept P s) (c : Nat) : Kept P (State.remoteRefused s c) := by
  unfold State.remoteRefused
  with_reducible repeat' first | assumption | apply discardPass_kept cl | apply raiseCnd_kept cl

theorem collAcked_kept {P : State → Prop} (cl : Closed P) {s : State} (h : Kept P s) (c psn : Nat) : Kept P (State.collAcked s c psn) := by
  unfold State.collAcked
  with_reducible repeat' first | assumption | apply collWake_kept cl | apply collPrune_kept cl | apply setColl_kept cl | apply Kept.ite | apply Kept.foldl | intro _ _ _ | (extract_lets +onlyGivenNames x; refine (fun (_ : Kept P x) => ?_ : Kept P x → _) ?_; clear_value x; on_goal 2 => unfold x) | (extract_lets +onlyGivenNames x; clear_value x) | fail_if_no_progress apply Kept.fields cl

theorem cndDone_kept {P : State → Prop} (cl : Closed P) {s : State} (h : Kept P s) (c : Nat) (p : GalePacket) (status : Nat) : Kept P (State.cndDone s c p status) := by
  unfold State.cndDone
  with_reducible repeat' first | assumption | apply setConduit_kept cl | apply remoteRefused_kept cl | apply answerWrite_kept cl | apply answerRead_kept cl | apply tick_kept cl | apply put_kept cl | apply collAcked_kept cl | apply cndEnd_kept cl | apply Kept.ite | apply Kept.foldl | intro _ _ _ | (extract_lets +onlyGivenNames x; refine (fun (_ : Kept P x) => ?_ : Kept P x → _) ?_; clear_value x; on_goal 2 => unfold x) | (extract_lets +onlyGivenNames x; clear_value x) | fail_if_no_progress apply Kept.fields cl | split

theorem cndAdmit_kept {P : State → Prop} (cl : Closed P) {s : State} (h : Kept P s) (c st a2 : Nat) : Kept P (State.cndAdmit c st a2 s) := by
  induction a2 generalizing s with
  | zero =>
    unfold State.cndAdmit
    with_reducible repeat' first | assumption | apply cndTransmit_kept cl | apply setConduit_kept cl | apply Kept.ite | (extract_lets +onlyGivenNames x; refine (fun (_ : Kept P x) => ?_ : Kept P x → _) ?_; clear_value x; on_goal 2 => unfold x) | (extract_lets +onlyGivenNames x; clear_value x) | fail_if_no_progress apply Kept.fields cl | split
  | succ n ih =>
    unfold State.cndAdmit
    with_reducible repeat' first | assumption | apply ih | apply cndTransmit_kept cl | apply setConduit_kept cl | apply Kept.ite | (extract_lets +onlyGivenNames x; refine (fun (_ : Kept P x) => ?_ : Kept P x → _) ?_; clear_value x; on_goal 2 => unfold x) | (extract_lets +onlyGivenNames x; clear_value x) | fail_if_no_progress apply Kept.fields cl | split

theorem execAckMsg_kept {P : State → Prop} (cl : Closed P) {s : State} (h : Kept P s) (l : Nat) (p : GalePacket) : KeptO P (execAckMsg l p s) := by
  unfold execAckMsg
  with_reducible repeat' first | assumption | apply receive_kept cl | apply setConduit_kept cl | apply cndDone_kept cl | apply cndResend_kept cl | apply cndAdmit_kept cl | apply cndClosing_kept cl | apply KeptO.next | apply KeptO.ite | apply Kept.ite | apply Kept.foldl | apply Kept.iteFst | apply Kept.foldlFst | apply Kept.ofFst (by assumption) | intro _ _ _ | (extract_lets +onlyGivenNames x; refine (fun (_ : Kept P x) => ?_ : Kept P x → _) ?_; clear_value x; on_goal 2 => unfold x) | (extract_lets +onlyGivenNames x; refine (fun (_ : Kept P x.1) => ?_ : Kept P x.1 → _) ?_; clear_value x; on_goal 2 => unfold x) | (extract_lets +onlyGivenNames x; clear_value x) | split

end Sys2Proof.Machine
end

