-- ==== Sys2Proof/Laws/KeptOps6.lean ====
section
/-! SUPPORT. Part 6 of 7 of the lemmas X_kept, one per operation and per command (see Laws/Kept.lean), in an order where each comes after those it cites. -/

set_option linter.unusedTactic false
set_option linter.unreachableTactic false
set_option linter.unusedVariables false

namespace Sys2Proof.Machine

open Sys2Proof

theorem takeNext_kept {P : State → Prop} (cl : Closed P) {s : State} (h : Kept P s) (l : Nat) (p : GalePacket) : Kept P (State.takeNext s l p).1 := by
  unfold State.takeNext
  extract_lets r
  have h1 : Kept P r.1 := receive_kept cl h _ _
  clear_value r
  split
  · exact h1
  · rename_i c _
    have hq : Kept P (r.1.inOrder c p).1 := inOrder_kept cl h1 _ _
    generalize r.1.inOrder c p = q at hq
    obtain ⟨t, b⟩ := q
    split
    · exact h1
    · cases b with
      | true => exact hq
      | false => exact hq

theorem execPutMsg_kept {P : State → Prop} (cl : Closed P) {s : State} (h : Kept P s) (l : Nat) (p : GalePacket) : KeptO P (execPutMsg l p s) := by
  unfold execPutMsg
  with_reducible repeat' first | assumption | apply takeNext_kept cl | apply accept_kept cl | apply cndAck_kept cl | apply addSat_kept cl | apply edgeWrite_kept cl | apply cndOp_kept cl | apply KeptO.next | apply KeptO.ite | apply Kept.ite | apply Kept.iteFst | apply Kept.ofFst (by assumption) | (extract_lets +onlyGivenNames x; refine (fun (_ : Kept P x) => ?_ : Kept P x → _) ?_; clear_value x; on_goal 2 => unfold x) | (extract_lets +onlyGivenNames x; refine (fun (_ : Kept P x.1) => ?_ : Kept P x.1 → _) ?_; clear_value x; on_goal 2 => unfold x) | (extract_lets +onlyGivenNames x; clear_value x) | split

theorem execGetReq_kept {P : State → Prop} (cl : Closed P) {s : State} (h : Kept P s) (l : Nat) (p : GalePacket) : KeptO P (execGetReq l p s) := by
  unfold execGetReq
  with_reducible repeat' first | assumption | apply takeNext_kept cl | apply cndAckEvery_kept cl | apply accept_kept cl | apply addSat_kept cl | apply cndSend_kept cl | apply edgeRead_kept cl | apply cndOp_kept cl | apply KeptO.next | apply KeptO.ite | apply Kept.ite | apply Kept.iteFst | apply Kept.ofFst (by assumption) | (extract_lets +onlyGivenNames x; refine (fun (_ : Kept P x) => ?_ : Kept P x → _) ?_; clear_value x; on_goal 2 => unfold x) | (extract_lets +onlyGivenNames x; refine (fun (_ : Kept P x.1) => ?_ : Kept P x.1 → _) ?_; clear_value x; on_goal 2 => unfold x) | (extract_lets +onlyGivenNames x; clear_value x) | split

theorem execGetResp_kept {P : State → Prop} (cl : Closed P) {s : State} (h : Kept P s) (l : Nat) (p : GalePacket) : KeptO P (execGetResp l p s) := by
  unfold execGetResp
  with_reducible repeat' first | assumption | apply takeNext_kept cl | apply cndAckEvery_kept cl | apply accept_kept cl | apply setConduit_kept cl | apply remoteRefused_kept cl | apply answerRead_kept cl | apply KeptO.next | apply KeptO.ite | apply Kept.ite | apply Kept.iteFst | apply Kept.ofFst (by assumption) | (extract_lets +onlyGivenNames x; refine (fun (_ : Kept P x) => ?_ : Kept P x → _) ?_; clear_value x; on_goal 2 => unfold x) | (extract_lets +onlyGivenNames x; refine (fun (_ : Kept P x.1) => ?_ : Kept P x.1 → _) ?_; clear_value x; on_goal 2 => unfold x) | (extract_lets +onlyGivenNames x; clear_value x) | split

theorem execSendMsg_kept {P : State → Prop} (cl : Closed P) {s : State} (h : Kept P s) (l : Nat) (p : GalePacket) : KeptO P (execSendMsg l p s) := by
  unfold execSendMsg
  with_reducible repeat' first | assumption | apply takeNext_kept cl | apply cndAck_kept cl | apply accept_kept cl | apply cndAckEvery_kept cl | apply edgeWrite_kept cl | apply cndOp_kept cl | apply KeptO.next | apply KeptO.ite | apply Kept.ite | apply Kept.iteFst | apply Kept.ofFst (by assumption) | (extract_lets +onlyGivenNames x; refine (fun (_ : Kept P x) => ?_ : Kept P x → _) ?_; clear_value x; on_goal 2 => unfold x) | (extract_lets +onlyGivenNames x; refine (fun (_ : Kept P x.1) => ?_ : Kept P x.1 → _) ?_; clear_value x; on_goal 2 => unfold x) | (extract_lets +onlyGivenNames x; clear_value x) | split

theorem collArrive_kept {P : State → Prop} (cl : Closed P) {s : State} (h : Kept P s) (l : Nat) (p : GalePacket) (up : Bool) : Kept P (State.collArrive s l p up) := by
  unfold State.collArrive
  with_reducible repeat' first | assumption | apply takeNext_kept cl | apply collTake_kept cl | apply cndAckEvery_kept cl | apply accept_kept cl | apply cndAck_kept cl | apply setColl_kept cl | apply raiseCnd_kept cl | apply addSat_kept cl | apply Kept.ite | apply Kept.foldl | apply Kept.iteFst | apply Kept.foldlFst | apply Kept.ofFst (by assumption) | intro _ _ _ | (extract_lets +onlyGivenNames x; refine (fun (_ : Kept P x) => ?_ : Kept P x → _) ?_; clear_value x; on_goal 2 => unfold x) | (extract_lets +onlyGivenNames x; refine (fun (_ : Kept P x.1) => ?_ : Kept P x.1 → _) ?_; clear_value x; on_goal 2 => unfold x) | (extract_lets +onlyGivenNames x; clear_value x) | fail_if_no_progress apply Kept.fields cl | split

theorem execCollUp_kept {P : State → Prop} (cl : Closed P) {s : State} (h : Kept P s) (l : Nat) (p : GalePacket) : KeptO P (execCollUp l p s) := by
  unfold execCollUp
  with_reducible repeat' first | assumption | apply collArrive_kept cl | apply KeptO.next | (extract_lets +onlyGivenNames x; refine (fun (_ : Kept P x) => ?_ : Kept P x → _) ?_; clear_value x; on_goal 2 => unfold x) | (extract_lets +onlyGivenNames x; clear_value x) | fail_if_no_progress apply Kept.fields cl

theorem execCollDown_kept {P : State → Prop} (cl : Closed P) {s : State} (h : Kept P s) (l : Nat) (p : GalePacket) : KeptO P (execCollDown l p s) := by
  unfold execCollDown
  with_reducible repeat' first | assumption | apply collArrive_kept cl | apply KeptO.next | (extract_lets +onlyGivenNames x; refine (fun (_ : Kept P x) => ?_ : Kept P x → _) ?_; clear_value x; on_goal 2 => unfold x) | (extract_lets +onlyGivenNames x; clear_value x) | fail_if_no_progress apply Kept.fields cl

theorem execKeepalive_kept {P : State → Prop} (cl : Closed P) {s : State} (h : Kept P s) (l : Nat) (p : GalePacket) : KeptO P (execKeepalive l p s) := by
  unfold execKeepalive
  with_reducible repeat' first | assumption | apply receive_kept cl | apply KeptO.next | apply Kept.ofFst (by assumption) | (extract_lets +onlyGivenNames x; refine (fun (_ : Kept P x) => ?_ : Kept P x → _) ?_; clear_value x; on_goal 2 => unfold x) | (extract_lets +onlyGivenNames x; refine (fun (_ : Kept P x.1) => ?_ : Kept P x.1 → _) ?_; clear_value x; on_goal 2 => unfold x) | (extract_lets +onlyGivenNames x; clear_value x) | fail_if_no_progress apply Kept.fields cl

theorem execConduitRto_kept {P : State → Prop} (cl : Closed P) {s : State} (h : Kept P s) (c st : Nat) : KeptO P (execConduitRto c st s) := by
  unfold execConduitRto
  with_reducible repeat' first | assumption | apply cndEnd_kept cl | apply cndResend_kept cl | apply setConduit_kept cl | apply KeptO.next | apply KeptO.ite | apply Kept.ite | (extract_lets +onlyGivenNames x; refine (fun (_ : Kept P x) => ?_ : Kept P x → _) ?_; clear_value x; on_goal 2 => unfold x) | (extract_lets +onlyGivenNames x; clear_value x) | fail_if_no_progress apply Kept.fields cl

theorem execConduitOpenTimer_kept {P : State → Prop} (cl : Closed P) {s : State} (h : Kept P s) (c : Nat) : KeptO P (execConduitOpenTimer c s) := by
  unfold execConduitOpenTimer
  with_reducible repeat' first | assumption | apply cndTransmit_kept cl | apply KeptO.next | apply KeptO.ite | apply Kept.ite

theorem execConduitKeepaliveTimer_kept {P : State → Prop} (cl : Closed P) {s : State} (h : Kept P s) (c : Nat) : KeptO P (execConduitKeepaliveTimer c s) := by
  unfold execConduitKeepaliveTimer
  with_reducible repeat' first | assumption | apply cndTransmit_kept cl | apply KeptO.next | apply KeptO.ite | apply Kept.ite

theorem execConduitDeadLimit_kept {P : State → Prop} (cl : Closed P) {s : State} (h : Kept P s) (c : Nat) : KeptO P (execConduitDeadLimit c s) := by
  unfold execConduitDeadLimit
  with_reducible repeat' first | assumption | apply cndEnd_kept cl | apply KeptO.next | apply KeptO.ite | apply Kept.ite

theorem execConduitNolinkLimit_kept {P : State → Prop} (cl : Closed P) {s : State} (h : Kept P s) (c : Nat) : KeptO P (execConduitNolinkLimit c s) := by
  unfold execConduitNolinkLimit
  with_reducible repeat' first | assumption | apply cndEnd_kept cl | apply KeptO.next | apply KeptO.ite | apply Kept.ite

theorem execConduitRnrDelay_kept {P : State → Prop} (cl : Closed P) {s : State} (h : Kept P s) (c : Nat) : KeptO P (execConduitRnrDelay c s) := by
  unfold execConduitRnrDelay
  with_reducible repeat' first | assumption | apply cndTransmit_kept cl | apply addSat_kept cl | apply setConduit_kept cl | apply KeptO.next | apply Kept.foldl | intro _ _ _ | (extract_lets +onlyGivenNames x; refine (fun (_ : Kept P x) => ?_ : Kept P x → _) ?_; clear_value x; on_goal 2 => unfold x) | (extract_lets +onlyGivenNames x; clear_value x) | split

theorem execConduitAckTimer_kept {P : State → Prop} (cl : Closed P) {s : State} (h : Kept P s) (c st : Nat) : KeptO P (execConduitAckTimer c st s) := by
  unfold execConduitAckTimer
  with_reducible repeat' first | assumption | apply cndAck_kept cl | apply KeptO.next | apply KeptO.ite | apply Kept.ite

theorem execCollTimeout_kept {P : State → Prop} (cl : Closed P) {s : State} (h : Kept P s) (e t : Nat) : KeptO P (execCollTimeout e t s) := by
  unfold execCollTimeout
  with_reducible repeat' first | assumption | apply abortPass_kept cl | apply record_kept cl | apply KeptO.next | apply KeptO.ite | apply Kept.ite

theorem execModuleInsert_kept {P : State → Prop} (cl : Closed P) {s : State} (h : Kept P s) (k : Nat) (m : ModuleId) : KeptO P (execModuleInsert k m s) := by
  unfold execModuleInsert
  with_reducible repeat' first | assumption | apply setModule_kept cl | apply moduleIdentify_kept cl | apply moduleState_kept cl | apply KeptO.next | apply KeptO.ite | apply Kept.ite | (extract_lets +onlyGivenNames x; refine (fun (_ : Kept P x) => ?_ : Kept P x → _) ?_; clear_value x; on_goal 2 => unfold x) | (extract_lets +onlyGivenNames x; clear_value x)

theorem execModuleRemove_kept {P : State → Prop} (cl : Closed P) {s : State} (h : Kept P s) (k : Nat) : KeptO P (execModuleRemove k s) := by
  unfold execModuleRemove
  with_reducible repeat' first | assumption | apply setModule_kept cl | apply moduleState_kept cl | apply raiseModule_kept cl | apply put_kept cl | apply linkDown_kept cl | apply setLinkSt_kept cl | apply linkAgainst_kept cl | apply KeptO.next | apply KeptO.ite | apply Kept.ite | apply Kept.foldl | intro _ _ _ | (extract_lets +onlyGivenNames x; refine (fun (_ : Kept P x) => ?_ : Kept P x → _) ?_; clear_value x; on_goal 2 => unfold x) | (extract_lets +onlyGivenNames x; clear_value x)

theorem execModuleInterrupt_kept {P : State → Prop} (cl : Closed P) {s : State} (h : Kept P s) (k : Nat) (f : ModuleFlag) : KeptO P (execModuleInterrupt k f s) := by
  unfold execModuleInterrupt
  with_reducible repeat' first | assumption | apply moduleState_kept cl | apply raiseModule_kept cl | apply KeptO.next | apply KeptO.ite | apply Kept.ite | split

theorem lifeRead_kept {P : State → Prop} (cl : Closed P) {s : State} (h : Kept P s) (k : Nat) (page : List Nat) : Kept P (State.lifeRead s k page) := by
  unfold State.lifeRead
  with_reducible repeat' first | assumption | apply put_kept cl | apply setModule_kept cl | apply raiseModule_kept cl | apply Kept.ite | apply Kept.foldl | intro _ _ _ | (extract_lets +onlyGivenNames x; refine (fun (_ : Kept P x) => ?_ : Kept P x → _) ?_; clear_value x; on_goal 2 => unfold x) | (extract_lets +onlyGivenNames x; clear_value x) | fail_if_no_progress apply Kept.fields cl

theorem authFail_kept {P : State → Prop} (cl : Closed P) {s : State} (h : Kept P s) (k result : Nat) : Kept P (State.authFail s k result) := by
  unfold State.authFail
  with_reducible repeat' first | assumption | apply setModule_kept cl | apply addSat_kept cl | apply put_kept cl | apply moduleLinks_kept cl | apply moduleState_kept cl | apply raiseModule_kept cl | (extract_lets +onlyGivenNames x; refine (fun (_ : Kept P x) => ?_ : Kept P x → _) ?_; clear_value x; on_goal 2 => unfold x) | (extract_lets +onlyGivenNames x; clear_value x) | fail_if_no_progress apply Kept.fields cl

theorem execModuleAuthAnswer_kept {P : State → Prop} (cl : Closed P) {s : State} (h : Kept P s) (k : Nat) (cert sig page : List Nat) : KeptO P (execModuleAuthAnswer k cert sig page s) := by
  unfold execModuleAuthAnswer
  with_reducible repeat' first | assumption | apply lifeRead_kept cl | apply authFail_kept cl | apply setModule_kept cl | apply moduleState_kept cl | apply put_kept cl | apply moduleLinks_kept cl | apply KeptO.next | apply KeptO.ite | apply Kept.ite | (extract_lets +onlyGivenNames x; refine (fun (_ : Kept P x) => ?_ : Kept P x → _) ?_; clear_value x; on_goal 2 => unfold x) | (extract_lets +onlyGivenNames x; clear_value x) | split

theorem execModuleAuthTimeout_kept {P : State → Prop} (cl : Closed P) {s : State} (h : Kept P s) (k : Nat) : KeptO P (execModuleAuthTimeout k s) := by
  unfold execModuleAuthTimeout
  with_reducible repeat' first | assumption | apply authFail_kept cl | apply KeptO.next | apply KeptO.ite | apply Kept.ite

theorem execModuleReauthTimer_kept {P : State → Prop} (cl : Closed P) {s : State} (h : Kept P s) (k : Nat) : KeptO P (execModuleReauthTimer k s) := by
  unfold execModuleReauthTimer
  with_reducible repeat' first | assumption | apply authStart_kept cl | apply KeptO.next | apply KeptO.ite | apply Kept.ite | (extract_lets +onlyGivenNames x; refine (fun (_ : Kept P x) => ?_ : Kept P x → _) ?_; clear_value x; on_goal 2 => unfold x) | (extract_lets +onlyGivenNames x; clear_value x)

theorem execModuleLifeRead_kept {P : State → Prop} (cl : Closed P) {s : State} (h : Kept P s) (k : Nat) (page : List Nat) : KeptO P (execModuleLifeRead k page s) := by
  unfold execModuleLifeRead
  with_reducible repeat' first | assumption | apply lifeRead_kept cl | apply KeptO.next | apply KeptO.ite | apply Kept.ite | (extract_lets +onlyGivenNames x; refine (fun (_ : Kept P x) => ?_ : Kept P x → _) ?_; clear_value x; on_goal 2 => unfold x) | (extract_lets +onlyGivenNames x; clear_value x)

theorem barShow_kept {P : State → Prop} (cl : Closed P) {s : State} (h : Kept P s) : Kept P (State.barShow s) := by
  unfold State.barShow
  with_reducible repeat' first | assumption | apply put_kept cl

theorem execInputTurnOn_kept {P : State → Prop} (cl : Closed P) {s : State} (h : Kept P s) : KeptO P (execInputTurnOn s) := by
  unfold execInputTurnOn
  with_reducible repeat' first | assumption | apply barShow_kept cl | apply put_kept cl | apply KeptO.next | apply KeptO.ite | apply Kept.ite

theorem execInputTurnOff_kept {P : State → Prop} (cl : ClosedAll P) {s : State} (h : Kept P s) : KeptO P (execInputTurnOff s) := by
  unfold execInputTurnOff
  with_reducible repeat' first | assumption | apply put_kept cl.1 | apply applyReset_kept cl | apply setReg_kept cl.1 | apply KeptO.next | apply KeptO.ite | apply Kept.ite | (extract_lets +onlyGivenNames x; refine (fun (_ : Kept P x) => ?_ : Kept P x → _) ?_; clear_value x; on_goal 2 => unfold x) | (extract_lets +onlyGivenNames x; clear_value x) | fail_if_no_progress apply Kept.fields cl.1

theorem raiseInput_kept {P : State → Prop} (cl : Closed P) {s : State} (h : Kept P s) (code unit action : Nat) : Kept P (State.raiseInput s code unit action) := by
  unfold State.raiseInput
  with_reducible repeat' first | assumption | apply raisePower_kept cl

theorem execLowInputWarning_kept {P : State → Prop} (cl : Closed P) {s : State} (h : Kept P s) : KeptO P (execLowInputWarning s) := by
  unfold execLowInputWarning
  with_reducible repeat' first | assumption | apply raiseInput_kept cl | apply put_kept cl | apply KeptO.next | apply KeptO.ite | apply Kept.ite

theorem execHighInputWarning_kept {P : State → Prop} (cl : Closed P) {s : State} (h : Kept P s) : KeptO P (execHighInputWarning s) := by
  unfold execHighInputWarning
  with_reducible repeat' first | assumption | apply raiseInput_kept cl | apply KeptO.next | apply KeptO.ite | apply Kept.ite | (extract_lets +onlyGivenNames x; refine (fun (_ : Kept P x) => ?_ : Kept P x → _) ?_; clear_value x; on_goal 2 => unfold x) | (extract_lets +onlyGivenNames x; clear_value x) | fail_if_no_progress apply Kept.fields cl

theorem execOvervoltageTrip_kept {P : State → Prop} (cl : ClosedAll P) {s : State} (h : Kept P s) : KeptO P (execOvervoltageTrip s) := by
  unfold execOvervoltageTrip
  with_reducible repeat' first | assumption | apply barShow_kept cl.1 | apply raisePower_kept cl.1 | apply resetBy_kept cl | apply KeptO.next | apply KeptO.ite | apply Kept.ite | (extract_lets +onlyGivenNames x; refine (fun (_ : Kept P x) => ?_ : Kept P x → _) ?_; clear_value x; on_goal 2 => unfold x) | (extract_lets +onlyGivenNames x; clear_value x) | fail_if_no_progress apply Kept.fields cl.1

theorem execPwrokRelease_kept {P : State → Prop} (cl : ClosedAll P) {s : State} (h : Kept P s) : KeptO P (execPwrokRelease s) := by
  unfold execPwrokRelease
  with_reducible repeat' first | assumption | apply put_kept cl.1 | apply progress_kept cl | apply goDown_kept cl.1 | apply raiseInput_kept cl.1 | apply KeptO.next | apply KeptO.ite | apply Kept.ite | (extract_lets +onlyGivenNames x; refine (fun (_ : Kept P x) => ?_ : Kept P x → _) ?_; clear_value x; on_goal 2 => unfold x) | (extract_lets +onlyGivenNames x; clear_value x) | fail_if_no_progress apply Kept.fields cl.1

theorem execBarLoss_kept {P : State → Prop} (cl : Closed P) {s : State} (h : Kept P s) (b : Nat) (tripped : Bool) : KeptO P (execBarLoss b tripped s) := by
  unfold execBarLoss
  with_reducible repeat' first | assumption | apply barShow_kept cl | apply raiseInput_kept cl | apply KeptO.next | apply KeptO.ite | apply Kept.ite | (extract_lets +onlyGivenNames x; refine (fun (_ : Kept P x) => ?_ : Kept P x → _) ?_; clear_value x; on_goal 2 => unfold x) | (extract_lets +onlyGivenNames x; clear_value x) | fail_if_no_progress apply Kept.fields cl

theorem execBarRestore_kept {P : State → Prop} (cl : Closed P) {s : State} (h : Kept P s) (b : Nat) : KeptO P (execBarRestore b s) := by
  unfold execBarRestore
  with_reducible repeat' first | assumption | apply barShow_kept cl | apply KeptO.next | apply KeptO.ite | apply Kept.ite | (extract_lets +onlyGivenNames x; refine (fun (_ : Kept P x) => ?_ : Kept P x → _) ?_; clear_value x; on_goal 2 => unfold x) | (extract_lets +onlyGivenNames x; clear_value x) | fail_if_no_progress apply Kept.fields cl

theorem execBarImbalanceCheck_kept {P : State → Prop} (cl : Closed P) {s : State} (h : Kept P s) : KeptO P (execBarImbalanceCheck s) := by
  unfold execBarImbalanceCheck
  with_reducible repeat' first | assumption | apply raiseInput_kept cl | apply KeptO.next | apply KeptO.ite | apply Kept.ite | (extract_lets +onlyGivenNames x; refine (fun (_ : Kept P x) => ?_ : Kept P x → _) ?_; clear_value x; on_goal 2 => unfold x) | (extract_lets +onlyGivenNames x; clear_value x) | fail_if_no_progress apply Kept.fields cl | split

theorem setForced_kept {P : State → Prop} (cl : Closed P) {s : State} (h : Kept P s) (sites : List Nat) (inForced : Bool) (segs : List Nat) : Kept P (State.setForced s sites inForced segs) := by
  unfold State.setForced
  with_reducible repeat' first | assumption | apply block_kept cl | apply Kept.foldl | intro _ _ _ | (extract_lets +onlyGivenNames x; refine (fun (_ : Kept P x) => ?_ : Kept P x → _) ?_; clear_value x; on_goal 2 => unfold x) | (extract_lets +onlyGivenNames x; clear_value x) | fail_if_no_progress apply Kept.fields cl

theorem execInputBackstop_kept {P : State → Prop} (cl : Closed P) {s : State} (h : Kept P s) : KeptO P (execInputBackstop s) := by
  unfold execInputBackstop
  with_reducible repeat' first | assumption | apply setForced_kept cl | apply put_kept cl | apply raiseInput_kept cl | apply KeptO.next | apply KeptO.ite | apply Kept.ite | (extract_lets +onlyGivenNames x; refine (fun (_ : Kept P x) => ?_ : Kept P x → _) ?_; clear_value x; on_goal 2 => unfold x) | (extract_lets +onlyGivenNames x; clear_value x)

theorem execBackstopRelease_kept {P : State → Prop} (cl : Closed P) {s : State} (h : Kept P s) : KeptO P (execBackstopRelease s) := by
  unfold execBackstopRelease
  with_reducible repeat' first | assumption | apply put_kept cl | apply setForced_kept cl | apply KeptO.next | apply KeptO.ite | apply Kept.ite

theorem execSegmentOverload_kept {P : State → Prop} (cl : Closed P) {s : State} (h : Kept P s) (g : Nat) : KeptO P (execSegmentOverload g s) := by
  unfold execSegmentOverload
  with_reducible repeat' first | assumption | apply raiseInput_kept cl | apply setForced_kept cl | apply KeptO.next | apply KeptO.ite | apply Kept.ite

theorem execSegmentOverloadRelease_kept {P : State → Prop} (cl : Closed P) {s : State} (h : Kept P s) (g : Nat) : KeptO P (execSegmentOverloadRelease g s) := by
  unfold execSegmentOverloadRelease
  with_reducible repeat' first | assumption | apply setForced_kept cl | apply KeptO.next | apply KeptO.ite | apply Kept.ite

theorem execSegmentOn_kept {P : State → Prop} (cl : ClosedAll P) {s : State} (h : Kept P s) (g : Nat) : KeptO P (execSegmentOn g s) := by
  unfold execSegmentOn
  with_reducible repeat' first | assumption | apply progress_kept cl | apply put_kept cl.1 | apply KeptO.next | apply KeptO.ite | apply Kept.ite

theorem supplyLost_kept {P : State → Prop} (cl : ClosedAll P) {s : State} (h : Kept P s) (node : Nat) : Kept P (State.supplyLost s node) := by
  unfold State.supplyLost
  with_reducible repeat' first | assumption | apply domainDown_kept cl | apply Kept.foldl | intro _ _ _

theorem segLost_kept {P : State → Prop} (cl : ClosedAll P) {s : State} (h : Kept P s) (g : Nat) : Kept P (State.segLost s g) := by
  unfold State.segLost
  with_reducible repeat' first | assumption | apply abortPass_kept cl.1 | apply raiseInput_kept cl.1 | apply fence_kept cl.1 | apply supplyLost_kept cl | apply moduleState_kept cl.1 | apply raiseModule_kept cl.1 | apply setModule_kept cl.1 | apply resetBy_kept cl | apply raisePower_kept cl.1 | apply Kept.ite | apply Kept.foldl | intro _ _ _ | (extract_lets +onlyGivenNames x; refine (fun (_ : Kept P x) => ?_ : Kept P x → _) ?_; clear_value x; on_goal 2 => unfold x) | (extract_lets +onlyGivenNames x; clear_value x) | fail_if_no_progress apply Kept.fields cl.1

theorem segTrip_kept {P : State → Prop} (cl : ClosedAll P) {s : State} (h : Kept P s) (g cause : Nat) : Kept P (State.segTrip s g cause) := by
  unfold State.segTrip
  with_reducible repeat' first | assumption | apply put_kept cl.1 | apply addSat_kept cl.1 | apply segShow_kept cl.1 | apply segLost_kept cl | apply Kept.ite | (extract_lets +onlyGivenNames x; refine (fun (_ : Kept P x) => ?_ : Kept P x → _) ?_; clear_value x; on_goal 2 => unfold x) | (extract_lets +onlyGivenNames x; clear_value x)

theorem execSegmentSoftstartTimeout_kept {P : State → Prop} (cl : ClosedAll P) {s : State} (h : Kept P s) (g : Nat) : KeptO P (execSegmentSoftstartTimeout g s) := by
  unfold execSegmentSoftstartTimeout
  with_reducible repeat' first | assumption | apply segTrip_kept cl | apply raiseInput_kept cl.1 | apply KeptO.next | apply KeptO.ite | apply Kept.ite

theorem execSegmentTrip_kept {P : State → Prop} (cl : ClosedAll P) {s : State} (h : Kept P s) (g cause : Nat) : KeptO P (execSegmentTrip g cause s) := by
  unfold execSegmentTrip
  with_reducible repeat' first | assumption | apply segTrip_kept cl | apply KeptO.next | apply KeptO.ite | apply Kept.ite

theorem execLsrInputSwitchOpen_kept {P : State → Prop} (cl : ClosedAll P) {s : State} (h : Kept P s) (node : Nat) : KeptO P (execLsrInputSwitchOpen node s) := by
  unfold execLsrInputSwitchOpen
  with_reducible repeat' first | assumption | apply raiseDomain_kept cl.1 | apply put_kept cl.1 | apply fence_kept cl.1 | apply supplyLost_kept cl | apply KeptO.next | apply KeptO.ite | apply Kept.ite | (extract_lets +onlyGivenNames x; refine (fun (_ : Kept P x) => ?_ : Kept P x → _) ?_; clear_value x; on_goal 2 => unfold x) | (extract_lets +onlyGivenNames x; clear_value x) | fail_if_no_progress apply Kept.fields cl.1

theorem execSenseFault_kept {P : State → Prop} (cl : Closed P) {s : State} (h : Kept P s) (node d : Nat) : KeptO P (execSenseFault node d s) := by
  unfold execSenseFault
  with_reducible repeat' first | assumption | apply raiseDomain_kept cl | apply put_kept cl | apply KeptO.next | apply KeptO.ite | apply Kept.ite | (extract_lets +onlyGivenNames x; refine (fun (_ : Kept P x) => ?_ : Kept P x → _) ?_; clear_value x; on_goal 2 => unfold x) | (extract_lets +onlyGivenNames x; clear_value x) | fail_if_no_progress apply Kept.fields cl

theorem execDomainUndervoltage_kept {P : State → Prop} (cl : Closed P) {s : State} (h : Kept P s) (node d : Nat) : KeptO P (execDomainUndervoltage node d s) := by
  unfold execDomainUndervoltage
  with_reducible repeat' first | assumption | apply discardPass_kept cl | apply raiseDomain_kept cl | apply unitLeaves_kept cl | apply KeptO.next | apply KeptO.ite | apply Kept.ite | (extract_lets +onlyGivenNames x; refine (fun (_ : Kept P x) => ?_ : Kept P x → _) ?_; clear_value x; on_goal 2 => unfold x) | (extract_lets +onlyGivenNames x; clear_value x) | fail_if_no_progress apply Kept.fields cl

theorem domainLost_kept {P : State → Prop} (cl : ClosedAll P) {s : State} (h : Kept P s) (node d trigger : Nat) : Kept P (State.domainLost s node d trigger) := by
  unfold State.domainLost
  with_reducible repeat' first | assumption | apply fence_kept cl.1 | apply domainDown_kept cl | apply Kept.ite

theorem execDomainOvervoltage_kept {P : State → Prop} (cl : ClosedAll P) {s : State} (h : Kept P s) (node d : Nat) : KeptO P (execDomainOvervoltage node d s) := by
  unfold execDomainOvervoltage
  with_reducible repeat' first | assumption | apply domainLost_kept cl | apply raiseDomain_kept cl.1 | apply KeptO.next | apply KeptO.ite | apply Kept.ite

theorem setFailed_kept {P : State → Prop} (cl : Closed P) {s : State} (h : Kept P s) (node d : Nat) (rail mask : Nat) : Kept P (State.setFailed s node d rail mask) := by
  unfold State.setFailed
  with_reducible repeat' first | assumption | apply put_kept cl | apply putSat_kept cl | apply Kept.ite | (extract_lets +onlyGivenNames x; refine (fun (_ : Kept P x) => ?_ : Kept P x → _) ?_; clear_value x; on_goal 2 => unfold x) | (extract_lets +onlyGivenNames x; clear_value x) | fail_if_no_progress apply Kept.fields cl

theorem hubDegraded_kept {P : State → Prop} (cl : ClosedAll P) {s : State} (h : Kept P s) : Kept P (State.hubDegraded s) := by
  unfold State.hubDegraded
  with_reducible repeat' first | assumption | apply resetBy_kept cl | apply Kept.ite | (extract_lets +onlyGivenNames x; refine (fun (_ : Kept P x) => ?_ : Kept P x → _) ?_; clear_value x; on_goal 2 => unfold x) | (extract_lets +onlyGivenNames x; clear_value x) | fail_if_no_progress apply Kept.fields cl.1

theorem execPhaseFailure_kept {P : State → Prop} (cl : ClosedAll P) {s : State} (h : Kept P s) (node d rail : Nat) (phases : List Nat) : KeptO P (execPhaseFailure node d rail phases s) := by
  unfold execPhaseFailure
  with_reducible repeat' first | assumption | apply setFailed_kept cl.1 | apply raisePower_kept cl.1 | apply hubDegraded_kept cl | apply unitLeaves_kept cl.1 | apply domainLost_kept cl | apply KeptO.next | apply KeptO.ite | apply Kept.ite | apply Kept.foldl | intro _ _ _ | (extract_lets +onlyGivenNames x; refine (fun (_ : Kept P x) => ?_ : Kept P x → _) ?_; clear_value x; on_goal 2 => unfold x) | (extract_lets +onlyGivenNames x; clear_value x) | fail_if_no_progress apply Kept.fields cl.1

theorem execDomainOverCap_kept {P : State → Prop} (cl : Closed P) {s : State} (h : Kept P s) (node d : Nat) : KeptO P (execDomainOverCap node d s) := by
  unfold execDomainOverCap
  with_reducible repeat' first | assumption | apply abortPass_kept cl | apply raiseDomain_kept cl | apply unitLeaves_kept cl | apply KeptO.next | apply KeptO.ite | apply Kept.ite | (extract_lets +onlyGivenNames x; refine (fun (_ : Kept P x) => ?_ : Kept P x → _) ?_; clear_value x; on_goal 2 => unfold x) | (extract_lets +onlyGivenNames x; clear_value x)

theorem execLsrHot_kept {P : State → Prop} (cl : Closed P) {s : State} (h : Kept P s) (node : Nat) : KeptO P (execLsrHot node s) := by
  unfold execLsrHot
  with_reducible repeat' first | assumption | apply raiseDomain_kept cl | apply KeptO.next | apply KeptO.ite | apply Kept.ite | (extract_lets +onlyGivenNames x; refine (fun (_ : Kept P x) => ?_ : Kept P x → _) ?_; clear_value x; on_goal 2 => unfold x) | (extract_lets +onlyGivenNames x; clear_value x) | fail_if_no_progress apply Kept.fields cl

theorem execPowerupApproval_kept {P : State → Prop} (cl : Closed P) {s : State} (h : Kept P s) (g : Nat) : KeptO P (execPowerupApproval g s) := by
  unfold execPowerupApproval
  with_reducible repeat' first | assumption | apply raiseDomain_kept cl | apply put_kept cl | apply dropReq_kept cl | apply KeptO.next | apply KeptO.refused | apply KeptO.ite | apply Kept.ite | split

theorem rowUp_kept {P : State → Prop} (cl : Closed P) {s : State} (h : Kept P s) (site row : Nat) : Kept P (State.rowUp s site row) := by
  unfold State.rowUp
  with_reducible repeat' first | assumption | apply put_kept cl | apply Kept.ite | apply Kept.foldl | intro _ _ _ | (extract_lets +onlyGivenNames x; refine (fun (_ : Kept P x) => ?_ : Kept P x → _) ?_; clear_value x; on_goal 2 => unfold x) | (extract_lets +onlyGivenNames x; clear_value x)

theorem domainUp_kept {P : State → Prop} (cl : Closed P) {s : State} (h : Kept P s) (node d : Nat) : Kept P (State.domainUp s node d) := by
  unfold State.domainUp
  extract_lets was p s1 s2 s3
  have h1 : Kept P s1 := Kept.fields cl h
  have h2 : Kept P s2 := put_kept cl h1 _ _
  have h3 : Kept P s3 := vcDown_kept cl (mapStates_kept cl h2 _) _
  clear_value s3 s2
  split
  · split
    · exact rowUp_kept cl h2 _ _
    · exact rowUp_kept cl h2 _ _
    · exact Kept.foldl h2 (fun t v k => put_kept cl k _ _)
    · split
      · exact h2
      · exact Kept.foldl h3 (fun t v k => put_kept cl k _ _)
    · split
      · exact put_kept cl h2 _ _
      · exact h2
    · exact h2
  · split
    · split
      · exact Kept.foldl h2 (fun t v k => Kept.ite (put_kept cl k _ _) k)
      · exact h2
    · split
      · exact guestState_kept cl h2 _ _
      · exact h2

theorem execRampEndCheck_kept {P : State → Prop} (cl : ClosedAll P) {s : State} (h : Kept P s) (node d : Nat) (ok : Bool) : KeptO P (execRampEndCheck node d ok s) := by
  unfold execRampEndCheck
  with_reducible repeat' first | assumption | apply progress_kept cl | apply domainUp_kept cl.1 | apply raiseDomain_kept cl.1 | apply domainDown_kept cl | apply unitLeaves_kept cl.1 | apply KeptO.next | apply KeptO.ite | apply Kept.ite | (extract_lets +onlyGivenNames x; refine (fun (_ : Kept P x) => ?_ : Kept P x → _) ?_; clear_value x; on_goal 2 => unfold x) | (extract_lets +onlyGivenNames x; clear_value x) | fail_if_no_progress apply Kept.fields cl.1

theorem execSoftstartRetry_kept {P : State → Prop} (cl : Closed P) {s : State} (h : Kept P s) (node d : Nat) : KeptO P (execSoftstartRetry node d s) := by
  unfold execSoftstartRetry
  with_reducible repeat' first | assumption | apply requestDomain_kept cl | apply KeptO.next | apply KeptO.ite | apply Kept.ite | (extract_lets +onlyGivenNames x; refine (fun (_ : Kept P x) => ?_ : Kept P x → _) ?_; clear_value x; on_goal 2 => unfold x) | (extract_lets +onlyGivenNames x; clear_value x) | fail_if_no_progress apply Kept.fields cl

theorem execPowerupDeferredTimeout_kept {P : State → Prop} (cl : Closed P) {s : State} (h : Kept P s) (node d : Nat) : KeptO P (execPowerupDeferredTimeout node d s) := by
  unfold execPowerupDeferredTimeout
  with_reducible repeat' first | assumption | apply raiseDomain_kept cl | apply setReqs_kept cl | apply KeptO.next | apply KeptO.ite | apply Kept.ite | (extract_lets +onlyGivenNames x; refine (fun (_ : Kept P x) => ?_ : Kept P x → _) ?_; clear_value x; on_goal 2 => unfold x) | (extract_lets +onlyGivenNames x; clear_value x) | fail_if_no_progress apply Kept.fields cl

theorem meterInput_kept {P : State → Prop} (cl : Closed P) {s : State} (h : Kept P s) (m : MeterSample) : Kept P (State.meterInput s m) := by
  unfold State.meterInput
  with_reducible repeat' first | assumption | apply put_kept cl | apply putSat_kept cl | apply barShow_kept cl | apply raiseInput_kept cl | apply Kept.ite | (extract_lets +onlyGivenNames x; refine (fun (_ : Kept P x) => ?_ : Kept P x → _) ?_; clear_value x; on_goal 2 => unfold x) | (extract_lets +onlyGivenNames x; clear_value x) | fail_if_no_progress apply Kept.fields cl | split

theorem meterSegment_kept {P : State → Prop} (cl : Closed P) {s : State} (h : Kept P s) (r : SegReading) : Kept P (State.meterSegment s r) := by
  unfold State.meterSegment
  with_reducible repeat' first | assumption | apply putSat_kept cl | apply put_kept cl | apply Kept.ite | (extract_lets +onlyGivenNames x; refine (fun (_ : Kept P x) => ?_ : Kept P x → _) ?_; clear_value x; on_goal 2 => unfold x) | (extract_lets +onlyGivenNames x; clear_value x) | fail_if_no_progress apply Kept.fields cl

theorem meterRing_kept {P : State → Prop} (cl : Closed P) {s : State} (h : Kept P s) (p mw : Nat) : Kept P (State.meterRing s p mw) := by
  unfold State.meterRing
  with_reducible repeat' first | assumption | apply putSat_kept cl | apply Kept.ite | (extract_lets +onlyGivenNames x; refine (fun (_ : Kept P x) => ?_ : Kept P x → _) ?_; clear_value x; on_goal 2 => unfold x) | (extract_lets +onlyGivenNames x; clear_value x) | fail_if_no_progress apply Kept.fields cl

theorem telShow_kept {P : State → Prop} (cl : Closed P) {s : State} (h : Kept P s) (t : Option Telemetry) : Kept P (State.telShow s t) := by
  unfold State.telShow
  with_reducible repeat' first | assumption | apply put_kept cl | apply setReg_kept cl | apply Kept.ite | (extract_lets +onlyGivenNames x; refine (fun (_ : Kept P x) => ?_ : Kept P x → _) ?_; clear_value x; on_goal 2 => unfold x) | (extract_lets +onlyGivenNames x; clear_value x) | split

theorem execMeterSample_kept {P : State → Prop} (cl : ClosedAll P) {s : State} (h : Kept P s) (m : MeterSample) : KeptO P (execMeterSample m s) := by
  unfold execMeterSample
  with_reducible repeat' first | assumption | apply meterInput_kept cl.1 | apply meterSegment_kept cl.1 | apply meterRing_kept cl.1 | apply progress_kept cl | apply telShow_kept cl.1 | apply KeptO.next | apply KeptO.ite | apply Kept.ite | apply Kept.foldl | intro _ _ _ | (extract_lets +onlyGivenNames x; refine (fun (_ : Kept P x) => ?_ : Kept P x → _) ?_; clear_value x; on_goal 2 => unfold x) | (extract_lets +onlyGivenNames x; clear_value x) | fail_if_no_progress apply Kept.fields cl.1

theorem execSnapshotTimer_kept {P : State → Prop} (cl : Closed P) {s : State} (h : Kept P s) : KeptO P (execSnapshotTimer s) := by
  unfold execSnapshotTimer
  with_reducible repeat' first | assumption | apply snapshot_kept cl | apply KeptO.next | apply KeptO.ite | apply Kept.ite

theorem noteEnergy_kept {P : State → Prop} (cl : Closed P) {s : State} (h : Kept P s) (node : Nat) : Kept P (State.noteEnergy s node) := by
  unfold State.noteEnergy
  with_reducible repeat' first | assumption | (extract_lets +onlyGivenNames x; refine (fun (_ : Kept P x) => ?_ : Kept P x → _) ?_; clear_value x; on_goal 2 => unfold x) | (extract_lets +onlyGivenNames x; clear_value x) | fail_if_no_progress apply Kept.fields cl

theorem setSpot_kept {P : State → Prop} (cl : Closed P) {s : State} (h : Kept P s) (node spot : Nat) (x : Spot) : Kept P (State.setSpot s node spot x) := by
  unfold State.setSpot
  with_reducible repeat' first | assumption | (extract_lets +onlyGivenNames x; refine (fun (_ : Kept P x) => ?_ : Kept P x → _) ?_; clear_value x; on_goal 2 => unfold x) | (extract_lets +onlyGivenNames x; clear_value x) | fail_if_no_progress apply Kept.fields cl

theorem spotFail_kept {P : State → Prop} (cl : Closed P) {s : State} (h : Kept P s) (r : SpotReading) : Kept P (State.spotFail s r) := by
  unfold State.spotFail
  with_reducible repeat' first | assumption | apply setSpot_kept cl | apply raiseThermal_kept cl | apply Kept.ite | (extract_lets +onlyGivenNames x; refine (fun (_ : Kept P x) => ?_ : Kept P x → _) ?_; clear_value x; on_goal 2 => unfold x) | (extract_lets +onlyGivenNames x; clear_value x) | fail_if_no_progress apply Kept.fields cl | split

theorem spotPair_kept {P : State → Prop} (cl : Closed P) {s : State} (h : Kept P s) (r : SpotReading) (now : Nat) : Kept P (State.spotPair s r now) := by
  unfold State.spotPair
  with_reducible repeat' first | assumption | apply setSpot_kept cl | apply raiseThermal_kept cl | apply Kept.ite | (extract_lets +onlyGivenNames x; refine (fun (_ : Kept P x) => ?_ : Kept P x → _) ?_; clear_value x; on_goal 2 => unfold x) | (extract_lets +onlyGivenNames x; clear_value x) | fail_if_no_progress apply Kept.fields cl | split

theorem hotEntry_kept {P : State → Prop} (cl : Closed P) {s : State} (h : Kept P s) (node spot : Nat) : Kept P (State.hotEntry s node spot) := by
  unfold State.hotEntry
  with_reducible repeat' first | assumption | apply setDemand_kept cl | apply raiseThermal_kept cl | apply Kept.ite | (extract_lets +onlyGivenNames x; refine (fun (_ : Kept P x) => ?_ : Kept P x → _) ?_; clear_value x; on_goal 2 => unfold x) | (extract_lets +onlyGivenNames x; clear_value x) | fail_if_no_progress apply Kept.fields cl

theorem ringCrit_kept {P : State → Prop} (cl : ClosedAll P) {s : State} (h : Kept P s) (node spot : Nat) : Kept P (State.ringCrit s node spot) := by
  unfold State.ringCrit
  with_reducible repeat' first | assumption | apply resetBy_kept cl | apply raiseThermal_kept cl.1 | apply hbmLeave_kept cl.1 | apply put_kept cl.1 | apply guestLeave_kept cl.1 | apply fence_kept cl.1 | apply Kept.ite | (extract_lets +onlyGivenNames x; refine (fun (_ : Kept P x) => ?_ : Kept P x → _) ?_; clear_value x; on_goal 2 => unfold x) | (extract_lets +onlyGivenNames x; clear_value x)

theorem spotStep_kept {P : State → Prop} (cl : ClosedAll P) {s : State} (h : Kept P s) (r : SpotReading) : Kept P (State.spotStep s r) := by
  unfold State.spotStep
  with_reducible repeat' first | assumption | apply spotFail_kept cl.1 | apply spotPair_kept cl.1 | apply setSpot_kept cl.1 | apply raiseThermal_kept cl.1 | apply hotEntry_kept cl.1 | apply stackCrit_kept cl | apply ringCrit_kept cl | apply Kept.ite | (extract_lets +onlyGivenNames x; refine (fun (_ : Kept P x) => ?_ : Kept P x → _) ?_; clear_value x; on_goal 2 => unfold x) | (extract_lets +onlyGivenNames x; clear_value x) | fail_if_no_progress apply Kept.fields cl.1

theorem thermShow_kept {P : State → Prop} (cl : Closed P) {s : State} (h : Kept P s) (node : Nat) : Kept P (State.thermShow s node) := by
  unfold State.thermShow
  with_reducible repeat' first | assumption | apply setReg_kept cl | apply put_kept cl | apply Kept.ite | (extract_lets +onlyGivenNames x; refine (fun (_ : Kept P x) => ?_ : Kept P x → _) ?_; clear_value x; on_goal 2 => unfold x) | (extract_lets +onlyGivenNames x; clear_value x)

theorem gatingEnd_kept {P : State → Prop} (cl : Closed P) {s : State} (h : Kept P s) (site : Nat) : Kept P (State.gatingEnd s site) := by
  unfold State.gatingEnd
  with_reducible repeat' first | assumption | apply requestAll_kept cl | apply gatedShow_kept cl | apply put_kept cl | apply setDemand_kept cl | (extract_lets +onlyGivenNames x; refine (fun (_ : Kept P x) => ?_ : Kept P x → _) ?_; clear_value x; on_goal 2 => unfold x) | (extract_lets +onlyGivenNames x; clear_value x) | fail_if_no_progress apply Kept.fields cl

theorem stackStep_kept {P : State → Prop} (cl : Closed P) {s : State} (h : Kept P s) (site : Nat) : Kept P (State.stackStep s site) := by
  unfold State.stackStep
  with_reducible repeat' first | assumption | apply setHeat_kept cl | apply gatingEnd_kept cl | apply Kept.ite | (extract_lets +onlyGivenNames x; refine (fun (_ : Kept P x) => ?_ : Kept P x → _) ?_; clear_value x; on_goal 2 => unfold x) | (extract_lets +onlyGivenNames x; clear_value x) | fail_if_no_progress apply Kept.fields cl

theorem domainDemand_kept {P : State → Prop} (cl : Closed P) {s : State} (h : Kept P s) (site : Nat) (ps : List DomainPower) : Kept P (State.domainDemand s site ps) := by
  unfold State.domainDemand
  with_reducible repeat' first | assumption | apply setDemand_kept cl | apply Kept.ite | (extract_lets +onlyGivenNames x; refine (fun (_ : Kept P x) => ?_ : Kept P x → _) ?_; clear_value x; on_goal 2 => unfold x) | (extract_lets +onlyGivenNames x; clear_value x) | fail_if_no_progress apply Kept.fields cl

theorem pairShow_kept {P : State → Prop} (cl : Closed P) {s : State} (h : Kept P s) : Kept P (State.pairShow s) := by
  unfold State.pairShow
  with_reducible repeat' first | assumption | apply setReg_kept cl | apply put_kept cl | apply Kept.ite | (extract_lets +onlyGivenNames x; refine (fun (_ : Kept P x) => ?_ : Kept P x → _) ?_; clear_value x; on_goal 2 => unfold x) | (extract_lets +onlyGivenNames x; clear_value x)

theorem guestSpots_kept {P : State → Prop} (cl : ClosedAll P) {s : State} (h : Kept P s) : Kept P (State.guestSpots s) := by
  unfold State.guestSpots
  with_reducible repeat' first | assumption | apply noteEnergy_kept cl.1 | apply raiseThermal_kept cl.1 | apply setSpot_kept cl.1 | apply thermShow_kept cl.1 | apply spotStep_kept cl | apply Kept.ite | apply Kept.foldl | intro _ _ _ | (extract_lets +onlyGivenNames x; refine (fun (_ : Kept P x) => ?_ : Kept P x → _) ?_; clear_value x; on_goal 2 => unfold x) | (extract_lets +onlyGivenNames x; clear_value x) | fail_if_no_progress apply Kept.fields cl.1

theorem execSensorSample_kept {P : State → Prop} (cl : ClosedAll P) {s : State} (h : Kept P s) (readings : List SpotReading) (powers : List DomainPower) : KeptO P (execSensorSample readings powers s) := by
  unfold execSensorSample
  with_reducible repeat' first | assumption | apply noteEnergy_kept cl.1 | apply spotStep_kept cl | apply thermShow_kept cl.1 | apply stackStep_kept cl.1 | apply domainDemand_kept cl.1 | apply thermStatus_kept cl.1 | apply pairShow_kept cl.1 | apply guestSpots_kept cl | apply KeptO.next | apply KeptO.ite | apply Kept.ite | apply Kept.foldl | intro _ _ _ | (extract_lets +onlyGivenNames x; refine (fun (_ : Kept P x) => ?_ : Kept P x → _) ?_; clear_value x; on_goal 2 => unfold x) | (extract_lets +onlyGivenNames x; clear_value x) | fail_if_no_progress apply Kept.fields cl.1

theorem execThermalDemandStep_kept {P : State → Prop} (cl : Closed P) {s : State} (h : Kept P s) (site : Nat) (fall : Bool) : KeptO P (execThermalDemandStep site fall s) := by
  unfold execThermalDemandStep
  with_reducible repeat' first | assumption | apply setDemand_kept cl | apply KeptO.next | apply KeptO.ite | apply Kept.ite | (extract_lets +onlyGivenNames x; refine (fun (_ : Kept P x) => ?_ : Kept P x → _) ?_; clear_value x; on_goal 2 => unfold x) | (extract_lets +onlyGivenNames x; clear_value x) | fail_if_no_progress apply Kept.fields cl

theorem flowPair_kept {P : State → Prop} (cl : Closed P) {s : State} (h : Kept P s) (a b fdp : Nat) : Kept P (State.flowPair s a b fdp) := by
  unfold State.flowPair
  with_reducible repeat' first | assumption | apply put_kept cl | apply raiseThermal_kept cl | apply Kept.ite | (extract_lets +onlyGivenNames x; refine (fun (_ : Kept P x) => ?_ : Kept P x → _) ?_; clear_value x; on_goal 2 => unfold x) | (extract_lets +onlyGivenNames x; clear_value x) | fail_if_no_progress apply Kept.fields cl

theorem heatLimited_kept {P : State → Prop} (cl : Closed P) {s : State} (h : Kept P s) : Kept P (State.heatLimited s) := by
  unfold State.heatLimited
  with_reducible repeat' first | assumption | apply put_kept cl | apply raiseThermal_kept cl | apply Kept.ite | (extract_lets +onlyGivenNames x; refine (fun (_ : Kept P x) => ?_ : Kept P x → _) ?_; clear_value x; on_goal 2 => unfold x) | (extract_lets +onlyGivenNames x; clear_value x) | fail_if_no_progress apply Kept.fields cl

theorem heatCapLow_kept {P : State → Prop} (cl : Closed P) {s : State} (h : Kept P s) : Kept P (State.heatCapLow s) := by
  unfold State.heatCapLow
  with_reducible repeat' first | assumption | apply put_kept cl | apply goDown_kept cl | apply raiseThermal_kept cl | apply Kept.ite | (extract_lets +onlyGivenNames x; refine (fun (_ : Kept P x) => ?_ : Kept P x → _) ?_; clear_value x; on_goal 2 => unfold x) | (extract_lets +onlyGivenNames x; clear_value x) | fail_if_no_progress apply Kept.fields cl

theorem execCoolantSample_kept {P : State → Prop} (cl : ClosedAll P) {s : State} (h : Kept P s) (r : CoolantReading) : KeptO P (execCoolantSample r s) := by
  unfold execCoolantSample
  with_reducible repeat' first | assumption | apply flowPair_kept cl.1 | apply put_kept cl.1 | apply putSat_kept cl.1 | apply warn_kept cl.1 | apply emergency_kept cl | apply heatLimited_kept cl.1 | apply progress_kept cl | apply recovery_kept cl | apply flowRequest_kept cl.1 | apply heatCapLow_kept cl.1 | apply KeptO.next | apply KeptO.ite | apply Kept.ite | apply Kept.foldl | intro _ _ _ | (extract_lets +onlyGivenNames x; refine (fun (_ : Kept P x) => ?_ : Kept P x → _) ?_; clear_value x; on_goal 2 => unfold x) | (extract_lets +onlyGivenNames x; clear_value x) | fail_if_no_progress apply Kept.fields cl.1

theorem execEmergencyEfuseCheck_kept {P : State → Prop} (cl : ClosedAll P) {s : State} (h : Kept P s) : KeptO P (execEmergencyEfuseCheck s) := by
  unfold execEmergencyEfuseCheck
  with_reducible repeat' first | assumption | apply barShow_kept cl.1 | apply resetBy_kept cl | apply KeptO.next | apply KeptO.ite | apply Kept.ite | (extract_lets +onlyGivenNames x; refine (fun (_ : Kept P x) => ?_ : Kept P x → _) ?_; clear_value x; on_goal 2 => unfold x) | (extract_lets +onlyGivenNames x; clear_value x) | fail_if_no_progress apply Kept.fields cl.1

theorem rateShow_kept {P : State → Prop} (cl : Closed P) {s : State} (h : Kept P s) (target lim : Nat) : Kept P (State.rateShow s target lim) := by
  unfold State.rateShow
  with_reducible repeat' first | assumption | apply put_kept cl | apply putSat_kept cl | (extract_lets +onlyGivenNames x; refine (fun (_ : Kept P x) => ?_ : Kept P x → _) ?_; clear_value x; on_goal 2 => unfold x) | (extract_lets +onlyGivenNames x; clear_value x)

theorem rateTick_kept {P : State → Prop} (cl : Closed P) {s : State} (h : Kept P s) (de : Nat) : Kept P (State.rateTick s de) := by
  unfold State.rateTick
  with_reducible repeat' first | assumption | apply rateShow_kept cl | apply Kept.ite | (extract_lets +onlyGivenNames x; refine (fun (_ : Kept P x) => ?_ : Kept P x → _) ?_; clear_value x; on_goal 2 => unfold x) | (extract_lets +onlyGivenNames x; clear_value x) | fail_if_no_progress apply Kept.fields cl

theorem sectorTick_kept {P : State → Prop} (cl : Closed P) {s : State} (h : Kept P s) (g : Nat) : Kept P (State.sectorTick s g) := by
  unfold State.sectorTick
  with_reducible repeat' first | assumption | apply setDemand_kept cl | apply Kept.ite | apply Kept.foldl | intro _ _ _ | (extract_lets +onlyGivenNames x; refine (fun (_ : Kept P x) => ?_ : Kept P x → _) ?_; clear_value x; on_goal 2 => unfold x) | (extract_lets +onlyGivenNames x; clear_value x) | fail_if_no_progress apply Kept.fields cl

theorem debtTick_kept {P : State → Prop} (cl : Closed P) {s : State} (h : Kept P s) : Kept P (State.debtTick s) := by
  unfold State.debtTick
  with_reducible repeat' first | assumption | apply setDemand_kept cl | apply Kept.ite | apply Kept.foldl | intro _ _ _ | (extract_lets +onlyGivenNames x; refine (fun (_ : Kept P x) => ?_ : Kept P x → _) ?_; clear_value x; on_goal 2 => unfold x) | (extract_lets +onlyGivenNames x; clear_value x) | fail_if_no_progress apply Kept.fields cl

theorem execUpdraftTick_kept {P : State → Prop} (cl : ClosedAll P) {s : State} (h : Kept P s) : KeptO P (execUpdraftTick s) := by
  unfold execUpdraftTick
  with_reducible repeat' first | assumption | apply rateTick_kept cl.1 | apply sectorTick_kept cl.1 | apply debtTick_kept cl.1 | apply progress_kept cl | apply ungateShow_kept cl.1 | apply KeptO.next | apply KeptO.ite | apply Kept.ite | apply Kept.foldl | intro _ _ _ | (extract_lets +onlyGivenNames x; refine (fun (_ : Kept P x) => ?_ : Kept P x → _) ?_; clear_value x; on_goal 2 => unfold x) | (extract_lets +onlyGivenNames x; clear_value x)

theorem execSectorIdleGate_kept {P : State → Prop} (cl : ClosedAll P) {s : State} (h : Kept P s) : KeptO P (execSectorIdleGate s) := by
  unfold execSectorIdleGate
  with_reducible repeat' first | assumption | apply powerDownAll_kept cl | apply put_kept cl.1 | apply KeptO.next | apply KeptO.ite | apply Kept.ite | apply Kept.foldl | intro _ _ _ | (extract_lets +onlyGivenNames x; refine (fun (_ : Kept P x) => ?_ : Kept P x → _) ?_; clear_value x; on_goal 2 => unfold x) | (extract_lets +onlyGivenNames x; clear_value x)

theorem ptpUnlock_kept {P : State → Prop} (cl : Closed P) {s : State} (h : Kept P s) : Kept P (State.ptpUnlock s) := by
  unfold State.ptpUnlock
  with_reducible repeat' first | assumption | apply put_kept cl | apply raiseClk_kept cl | apply Kept.ite | (extract_lets +onlyGivenNames x; refine (fun (_ : Kept P x) => ?_ : Kept P x → _) ?_; clear_value x; on_goal 2 => unfold x) | (extract_lets +onlyGivenNames x; clear_value x) | fail_if_no_progress apply Kept.fields cl

theorem refLost_kept {P : State → Prop} (cl : Closed P) {s : State} (h : Kept P s) : Kept P (State.refLost s) := by
  unfold State.refLost
  with_reducible repeat' first | assumption | apply srcShow_kept cl | apply addSat_kept cl | apply put_kept cl | apply raiseClk_kept cl | apply commitHazard_kept cl | apply ptpUnlock_kept cl | (extract_lets +onlyGivenNames x; refine (fun (_ : Kept P x) => ?_ : Kept P x → _) ?_; clear_value x; on_goal 2 => unfold x) | (extract_lets +onlyGivenNames x; clear_value x) | fail_if_no_progress apply Kept.fields cl

theorem refRestored_kept {P : State → Prop} (cl : Closed P) {s : State} (h : Kept P s) : Kept P (State.refRestored s) := by
  unfold State.refRestored
  with_reducible repeat' first | assumption | apply srcShow_kept cl | apply put_kept cl | apply raiseClk_kept cl | apply Kept.ite | (extract_lets +onlyGivenNames x; refine (fun (_ : Kept P x) => ?_ : Kept P x → _) ?_; clear_value x; on_goal 2 => unfold x) | (extract_lets +onlyGivenNames x; clear_value x) | fail_if_no_progress apply Kept.fields cl

theorem execRefWindow_kept {P : State → Prop} (cl : Closed P) {s : State} (h : Kept P s) (edges : Nat) : KeptO P (execRefWindow edges s) := by
  unfold execRefWindow
  with_reducible repeat' first | assumption | apply put_kept cl | apply putSat_kept cl | apply refLost_kept cl | apply refRestored_kept cl | apply KeptO.next | apply KeptO.ite | apply Kept.ite | (extract_lets +onlyGivenNames x; refine (fun (_ : Kept P x) => ?_ : Kept P x → _) ?_; clear_value x; on_goal 2 => unfold x) | (extract_lets +onlyGivenNames x; clear_value x) | fail_if_no_progress apply Kept.fields cl

theorem execHoldoverExpiry_kept {P : State → Prop} (cl : ClosedAll P) {s : State} (h : Kept P s) : KeptO P (execHoldoverExpiry s) := by
  unfold execHoldoverExpiry
  with_reducible repeat' first | assumption | apply raiseClk_kept cl.1 | apply put_kept cl.1 | apply progress_kept cl | apply goDown_kept cl.1 | apply KeptO.next | apply KeptO.ite | apply Kept.ite | (extract_lets +onlyGivenNames x; refine (fun (_ : Kept P x) => ?_ : Kept P x → _) ?_; clear_value x; on_goal 2 => unfold x) | (extract_lets +onlyGivenNames x; clear_value x)

theorem linksTrain_kept {P : State → Prop} (cl : Closed P) {s : State} (h : Kept P s) (site : Nat) : Kept P (State.linksTrain s site) := by
  unfold State.linksTrain
  with_reducible repeat' first | assumption | apply linkState_kept cl | apply Kept.ite | apply Kept.foldl | intro _ _ _ | split

theorem calibrate_kept {P : State → Prop} (cl : Closed P) {s : State} (h : Kept P s) (d : LinkDelay) : Kept P (State.calibrate s d) := by
  unfold State.calibrate
  with_reducible repeat' first | assumption | apply linkFail_kept cl | apply put_kept cl | apply Kept.ite | (extract_lets +onlyGivenNames x; refine (fun (_ : Kept P x) => ?_ : Kept P x → _) ?_; clear_value x; on_goal 2 => unfold x) | (extract_lets +onlyGivenNames x; clear_value x) | fail_if_no_progress apply Kept.fields cl

theorem coupleAll_kept {P : State → Prop} (cl : Closed P) {s : State} (h : Kept P s) (site : Nat) : Kept P (State.coupleAll s site) := by
  unfold State.coupleAll
  with_reducible repeat' first | assumption | apply put_kept cl | (extract_lets +onlyGivenNames x; refine (fun (_ : Kept P x) => ?_ : Kept P x → _) ?_; clear_value x; on_goal 2 => unfold x) | (extract_lets +onlyGivenNames x; clear_value x)

theorem unlockedShow_kept {P : State → Prop} (cl : Closed P) {s : State} (h : Kept P s) : Kept P (State.unlockedShow s) := by
  unfold State.unlockedShow
  with_reducible repeat' first | assumption | apply putSat_kept cl

theorem nodesStart_kept {P : State → Prop} (cl : Closed P) {s : State} (h : Kept P s) (unlocked : List Nat) : Kept P (State.nodesStart s unlocked) := by
  unfold State.nodesStart
  with_reducible repeat' first | assumption | apply coupleAll_kept cl | apply put_kept cl | apply unlockedShow_kept cl | apply raiseClk_kept cl | apply Kept.ite | apply Kept.foldl | intro _ _ _ | (extract_lets +onlyGivenNames x; refine (fun (_ : Kept P x) => ?_ : Kept P x → _) ?_; clear_value x; on_goal 2 => unfold x) | (extract_lets +onlyGivenNames x; clear_value x) | fail_if_no_progress apply Kept.fields cl

theorem execBillowStart_kept {P : State → Prop} (cl : ClosedAll P) {s : State} (h : Kept P s) (unlocked : List Nat) (delays : List LinkDelay) : KeptO P (execBillowStart unlocked delays s) := by
  unfold execBillowStart
  with_reducible repeat' first | assumption | apply put_kept cl.1 | apply linksTrain_kept cl.1 | apply calibrate_kept cl.1 | apply progress_kept cl | apply mccRestart_kept cl.1 | apply nodesStart_kept cl.1 | apply KeptO.next | apply KeptO.ite | apply Kept.ite | apply Kept.foldl | intro _ _ _ | (extract_lets +onlyGivenNames x; refine (fun (_ : Kept P x) => ?_ : Kept P x → _) ?_; clear_value x; on_goal 2 => unfold x) | (extract_lets +onlyGivenNames x; clear_value x)

theorem edgeLost_kept {P : State → Prop} (cl : Closed P) {s : State} (h : Kept P s) (site d : Nat) : Kept P (State.edgeLost s site d) := by
  unfold State.edgeLost
  with_reducible repeat' first | assumption | apply put_kept cl | apply raiseClk_kept cl | (extract_lets +onlyGivenNames x; refine (fun (_ : Kept P x) => ?_ : Kept P x → _) ?_; clear_value x; on_goal 2 => unfold x) | (extract_lets +onlyGivenNames x; clear_value x)

theorem execClockEdgeLoss_kept {P : State → Prop} (cl : Closed P) {s : State} (h : Kept P s) (site d : Nat) (answers : Bool) : KeptO P (execClockEdgeLoss site d answers s) := by
  unfold execClockEdgeLoss
  with_reducible repeat' first | assumption | apply edgeLost_kept cl | apply verifySoon_kept cl | apply fence_kept cl | apply KeptO.next | apply KeptO.ite | apply Kept.ite | (extract_lets +onlyGivenNames x; refine (fun (_ : Kept P x) => ?_ : Kept P x → _) ?_; clear_value x; on_goal 2 => unfold x) | (extract_lets +onlyGivenNames x; clear_value x) | split

theorem execSeamSlip_kept {P : State → Prop} (cl : Closed P) {s : State} (h : Kept P s) (site port : Nat) : KeptO P (execSeamSlip site port s) := by
  unfold execSeamSlip
  with_reducible repeat' first | assumption | apply addSat_kept cl | apply abortPass_kept cl | apply raiseClk_kept cl | apply verifySoon_kept cl | apply bothEnds_kept cl | apply put_kept cl | apply KeptO.next | apply KeptO.ite | apply Kept.ite | (extract_lets +onlyGivenNames x; refine (fun (_ : Kept P x) => ?_ : Kept P x → _) ?_; clear_value x; on_goal 2 => unfold x) | (extract_lets +onlyGivenNames x; clear_value x) | fail_if_no_progress apply Kept.fields cl

theorem execBeaconSend_kept {P : State → Prop} (cl : Closed P) {s : State} (h : Kept P s) : KeptO P (execBeaconSend s) := by
  unfold execBeaconSend
  with_reducible repeat' first | assumption | apply send_kept cl | apply KeptO.next | apply KeptO.ite | apply Kept.ite | apply Kept.foldl | intro _ _ _ | (extract_lets +onlyGivenNames x; refine (fun (_ : Kept P x) => ?_ : Kept P x → _) ?_; clear_value x; on_goal 2 => unfold x) | (extract_lets +onlyGivenNames x; clear_value x) | fail_if_no_progress apply Kept.fields cl

theorem execBeacon_kept {P : State → Prop} (cl : Closed P) {s : State} (h : Kept P s) (site d : Nat) (launch hops own : Nat) (crcOk : Bool) : KeptO P (execBeacon site d launch hops own crcOk s) := by
  unfold execBeacon
  with_reducible repeat' first | assumption | apply put_kept cl | apply send_kept cl | apply raiseClk_kept cl | apply addSat_kept cl | apply KeptO.next | apply KeptO.ite | apply Kept.ite | apply Kept.foldl | intro _ _ _ | (extract_lets +onlyGivenNames x; refine (fun (_ : Kept P x) => ?_ : Kept P x → _) ?_; clear_value x; on_goal 2 => unfold x) | (extract_lets +onlyGivenNames x; clear_value x) | fail_if_no_progress apply Kept.fields cl

theorem execBeaconLoss_kept {P : State → Prop} (cl : Closed P) {s : State} (h : Kept P s) (site : Nat) : KeptO P (execBeaconLoss site s) := by
  unfold execBeaconLoss
  with_reducible repeat' first | assumption | apply raiseClk_kept cl | apply addSat_kept cl | apply put_kept cl | apply KeptO.next | apply KeptO.ite | apply Kept.ite | (extract_lets +onlyGivenNames x; refine (fun (_ : Kept P x) => ?_ : Kept P x → _) ?_; clear_value x; on_goal 2 => unfold x) | (extract_lets +onlyGivenNames x; clear_value x) | fail_if_no_progress apply Kept.fields cl

theorem execOpSlewStart_kept {P : State → Prop} (cl : Closed P) {s : State} (h : Kept P s) : KeptO P (execOpSlewStart s) := by
  unfold execOpSlewStart
  with_reducible repeat' first | assumption | apply KeptO.next | apply KeptO.ite | apply Kept.ite | (extract_lets +onlyGivenNames x; refine (fun (_ : Kept P x) => ?_ : Kept P x → _) ?_; clear_value x; on_goal 2 => unfold x) | (extract_lets +onlyGivenNames x; clear_value x) | fail_if_no_progress apply Kept.fields cl | split

theorem execOpSettleCheck_kept {P : State → Prop} (cl : Closed P) {s : State} (h : Kept P s) (unsettled : List (Nat × Nat)) : KeptO P (execOpSettleCheck unsettled s) := by
  unfold execOpSettleCheck
  with_reducible repeat' first | assumption | apply commitAbort_kept cl | apply raiseClk_kept cl | apply KeptO.next | apply KeptO.ite | apply Kept.ite | (extract_lets +onlyGivenNames x; refine (fun (_ : Kept P x) => ?_ : Kept P x → _) ?_; clear_value x; on_goal 2 => unfold x) | (extract_lets +onlyGivenNames x; clear_value x) | split

theorem execOpLinkPause_kept {P : State → Prop} (cl : Closed P) {s : State} (h : Kept P s) : KeptO P (execOpLinkPause s) := by
  unfold execOpLinkPause
  with_reducible repeat' first | assumption | apply KeptO.next | apply KeptO.ite | apply Kept.ite | (extract_lets +onlyGivenNames x; refine (fun (_ : Kept P x) => ?_ : Kept P x → _) ?_; clear_value x; on_goal 2 => unfold x) | (extract_lets +onlyGivenNames x; clear_value x) | fail_if_no_progress apply Kept.fields cl

theorem padsApply_kept {P : State → Prop} (cl : Closed P) {s : State} (h : Kept P s) : Kept P (State.padsApply s) := by
  unfold State.padsApply
  with_reducible repeat' first | assumption | apply put_kept cl | apply Kept.foldl | intro _ _ _ | (extract_lets +onlyGivenNames x; refine (fun (_ : Kept P x) => ?_ : Kept P x → _) ?_; clear_value x; on_goal 2 => unfold x) | (extract_lets +onlyGivenNames x; clear_value x)

theorem execOpRelock_kept {P : State → Prop} (cl : Closed P) {s : State} (h : Kept P s) (unlocked : List Nat) : KeptO P (execOpRelock unlocked s) := by
  unfold execOpRelock
  with_reducible repeat' first | assumption | apply padsApply_kept cl | apply put_kept cl | apply edgeLost_kept cl | apply verifySoon_kept cl | apply fence_kept cl | apply unlockedShow_kept cl | apply KeptO.next | apply KeptO.ite | apply Kept.ite | apply Kept.foldl | intro _ _ _ | (extract_lets +onlyGivenNames x; refine (fun (_ : Kept P x) => ?_ : Kept P x → _) ?_; clear_value x; on_goal 2 => unfold x) | (extract_lets +onlyGivenNames x; clear_value x) | fail_if_no_progress apply Kept.fields cl | split

theorem execOpDetectResume_kept {P : State → Prop} (cl : Closed P) {s : State} (h : Kept P s) : KeptO P (execOpDetectResume s) := by
  unfold execOpDetectResume
  with_reducible repeat' first | assumption | apply KeptO.next | apply KeptO.ite | apply Kept.ite | (extract_lets +onlyGivenNames x; refine (fun (_ : Kept P x) => ?_ : Kept P x → _) ?_; clear_value x; on_goal 2 => unfold x) | (extract_lets +onlyGivenNames x; clear_value x) | fail_if_no_progress apply Kept.fields cl

theorem execPtpAnnounce_kept {P : State → Prop} (cl : Closed P) {s : State} (h : Kept P s) (port : Nat) (m : PtpMsg) (dataset : List Nat) (utc : Int) : KeptO P (execPtpAnnounce port m dataset utc s) := by
  unfold execPtpAnnounce
  with_reducible repeat' first | assumption | apply setPtp_kept cl | apply put_kept cl | apply KeptO.next | apply KeptO.ite | apply Kept.ite | apply Kept.foldl | intro _ _ _ | (extract_lets +onlyGivenNames x; refine (fun (_ : Kept P x) => ?_ : Kept P x → _) ?_; clear_value x; on_goal 2 => unfold x) | (extract_lets +onlyGivenNames x; clear_value x) | fail_if_no_progress apply Kept.fields cl

theorem execPtpDelayResp_kept {P : State → Prop} (cl : Closed P) {s : State} (h : Kept P s) (port : Nat) (m : PtpMsg) : KeptO P (execPtpDelayResp port m s) := by
  unfold execPtpDelayResp
  with_reducible repeat' first | assumption | apply setPtp_kept cl | apply KeptO.next | apply KeptO.ite | apply Kept.ite | (extract_lets +onlyGivenNames x; refine (fun (_ : Kept P x) => ?_ : Kept P x → _) ?_; clear_value x; on_goal 2 => unfold x) | (extract_lets +onlyGivenNames x; clear_value x) | split

theorem execPtpLoss_kept {P : State → Prop} (cl : Closed P) {s : State} (h : Kept P s) : KeptO P (execPtpLoss s) := by
  unfold execPtpLoss
  with_reducible repeat' first | assumption | apply ptpUnlock_kept cl | apply put_kept cl | apply setPtp_kept cl | apply KeptO.next | apply KeptO.ite | apply Kept.ite | (extract_lets +onlyGivenNames x; refine (fun (_ : Kept P x) => ?_ : Kept P x → _) ?_; clear_value x; on_goal 2 => unfold x) | (extract_lets +onlyGivenNames x; clear_value x) | fail_if_no_progress apply Kept.fields cl

theorem execDawnCrystalLoss_kept {P : State → Prop} (cl : Closed P) {s : State} (h : Kept P s) : KeptO P (execDawnCrystalLoss s) := by
  unfold execDawnCrystalLoss
  with_reducible repeat' first | assumption | apply put_kept cl | apply raiseClk_kept cl | apply KeptO.next | apply KeptO.ite | apply Kept.ite | (extract_lets +onlyGivenNames x; refine (fun (_ : Kept P x) => ?_ : Kept P x → _) ?_; clear_value x; on_goal 2 => unfold x) | (extract_lets +onlyGivenNames x; clear_value x) | fail_if_no_progress apply Kept.fields cl

theorem execImageLoad_kept {P : State → Prop} (cl : Closed P) {s : State} (h : Kept P s) (who : Requester) : KeptO P (execImageLoad who s) := by
  unfold execImageLoad
  with_reducible repeat' first | assumption | apply atHub_kept cl | apply imageLoad_kept cl | apply KeptO.next

theorem stageErrors_kept {P : State → Prop} (cl : Closed P) {s : State} (h : Kept P s) (a : Option (Nat × Nat)) (ues : List Nat) : Kept P (State.stageErrors s a ues) := by
  unfold State.stageErrors
  with_reducible repeat' first | assumption | apply hbmUncorrectable_kept cl | apply Kept.ite | apply Kept.foldl | intro _ _ _

theorem execImageReadDone_kept {P : State → Prop} (cl : Closed P) {s : State} (h : Kept P s) (ues : List Nat) : KeptO P (execImageReadDone ues s) := by
  unfold execImageReadDone
  with_reducible repeat' first | assumption | apply stageErrors_kept cl | apply loadFail_kept cl | apply ovcState_kept cl | apply put_kept cl | apply KeptO.next | apply KeptO.ite | apply Kept.ite | (extract_lets +onlyGivenNames x; refine (fun (_ : Kept P x) => ?_ : Kept P x → _) ?_; clear_value x; on_goal 2 => unfold x) | (extract_lets +onlyGivenNames x; clear_value x) | split

theorem darkServing_kept {P : State → Prop} (cl : Closed P) {s : State} (h : Kept P s) (b : List Nat) : Kept P (State.darkServing s b) := by
  unfold State.darkServing
  with_reducible repeat' first | assumption | apply raiseInput_kept cl | apply Kept.ite | apply Kept.foldl | intro _ _ _

theorem execImageCheckDone_kept {P : State → Prop} (cl : Closed P) {s : State} (h : Kept P s) (ues : List Nat) : KeptO P (execImageCheckDone ues s) := by
  unfold execImageCheckDone
  with_reducible repeat' first | assumption | apply stageErrors_kept cl | apply hbmUncorrectable_kept cl | apply darkServing_kept cl | apply loadFail_kept cl | apply ovcState_kept cl | apply armNow_kept cl | apply KeptO.next | apply KeptO.ite | apply Kept.ite | apply Kept.foldl | intro _ _ _ | (extract_lets +onlyGivenNames x; refine (fun (_ : Kept P x) => ?_ : Kept P x → _) ?_; clear_value x; on_goal 2 => unfold x) | (extract_lets +onlyGivenNames x; clear_value x) | fail_if_no_progress apply Kept.fields cl | split

theorem execImageAbandon_kept {P : State → Prop} (cl : Closed P) {s : State} (h : Kept P s) (who : Requester) : KeptO P (execImageAbandon who s) := by
  unfold execImageAbandon
  with_reducible repeat' first | assumption | apply atHub_kept cl | apply imageAbandon_kept cl | apply KeptO.next

theorem execArm_kept {P : State → Prop} (cl : Closed P) {s : State} (h : Kept P s) (node nak : Nat) : KeptO P (execArm node nak s) := by
  unfold execArm
  with_reducible repeat' first | assumption | apply send_kept cl | apply KeptO.next | apply KeptO.ite | apply Kept.ite | (extract_lets +onlyGivenNames x; refine (fun (_ : Kept P x) => ?_ : Kept P x → _) ?_; clear_value x; on_goal 2 => unfold x) | (extract_lets +onlyGivenNames x; clear_value x) | fail_if_no_progress apply Kept.fields cl

theorem execArmAck_kept {P : State → Prop} (cl : Closed P) {s : State} (h : Kept P s) (node : Nat) : KeptO P (execArmAck node s) := by
  unfold execArmAck
  with_reducible repeat' first | assumption | apply addSat_kept cl | apply KeptO.next | apply KeptO.ite | apply Kept.ite | (extract_lets +onlyGivenNames x; refine (fun (_ : Kept P x) => ?_ : Kept P x → _) ?_; clear_value x; on_goal 2 => unfold x) | (extract_lets +onlyGivenNames x; clear_value x) | fail_if_no_progress apply Kept.fields cl

theorem execNak_kept {P : State → Prop} (cl : Closed P) {s : State} (h : Kept P s) (node code : Nat) : KeptO P (execNak node code s) := by
  unfold execNak
  with_reducible repeat' first | assumption | apply commitAbort_kept cl | apply raiseUnit_kept cl | apply KeptO.next | apply KeptO.ite | apply Kept.ite

theorem confirmAll_kept {P : State → Prop} (cl : Closed P) {s : State} (h : Kept P s) : Kept P (State.confirmAll s) := by
  unfold State.confirmAll
  with_reducible repeat' first | assumption | apply put_kept cl | apply unitMessage_kept cl | apply Kept.foldl | intro _ _ _ | (extract_lets +onlyGivenNames x; refine (fun (_ : Kept P x) => ?_ : Kept P x → _) ?_; clear_value x; on_goal 2 => unfold x) | (extract_lets +onlyGivenNames x; clear_value x) | fail_if_no_progress apply Kept.fields cl

theorem execArmDecide_kept {P : State → Prop} (cl : Closed P) {s : State} (h : Kept P s) : KeptO P (execArmDecide s) := by
  unfold execArmDecide
  with_reducible repeat' first | assumption | apply raiseUnit_kept cl | apply commitAbort_kept cl | apply confirmAll_kept cl | apply raiseClk_kept cl | apply darkServing_kept cl | apply put_kept cl | apply record_kept cl | apply KeptO.next | apply KeptO.ite | apply Kept.ite | apply Kept.foldl | intro _ _ _ | (extract_lets +onlyGivenNames x; refine (fun (_ : Kept P x) => ?_ : Kept P x → _) ?_; clear_value x; on_goal 2 => unfold x) | (extract_lets +onlyGivenNames x; clear_value x) | split

theorem execConfirm_kept {P : State → Prop} (cl : Closed P) {s : State} (h : Kept P s) (node : Nat) : KeptO P (execConfirm node s) := by
  unfold execConfirm
  with_reducible repeat' first | assumption | apply KeptO.next | apply KeptO.ite | apply Kept.ite | (extract_lets +onlyGivenNames x; refine (fun (_ : Kept P x) => ?_ : Kept P x → _) ?_; clear_value x; on_goal 2 => unfold x) | (extract_lets +onlyGivenNames x; clear_value x) | fail_if_no_progress apply Kept.fields cl

theorem execAbort_kept {P : State → Prop} (cl : Closed P) {s : State} (h : Kept P s) (node : Nat) : KeptO P (execAbort node s) := by
  unfold execAbort
  with_reducible repeat' first | assumption | apply KeptO.next | (extract_lets +onlyGivenNames x; refine (fun (_ : Kept P x) => ?_ : Kept P x → _) ?_; clear_value x; on_goal 2 => unfold x) | (extract_lets +onlyGivenNames x; clear_value x) | fail_if_no_progress apply Kept.fields cl

theorem opSwitch_kept {P : State → Prop} (cl : Closed P) {s : State} (h : Kept P s) (target t : Nat) : Kept P (State.opSwitch s target t) := by
  unfold State.opSwitch
  with_reducible repeat' first | assumption | apply addSat_kept cl | apply put_kept cl | apply hubEvent_kept cl | apply mccRestart_kept cl | (extract_lets +onlyGivenNames x; refine (fun (_ : Kept P x) => ?_ : Kept P x → _) ?_; clear_value x; on_goal 2 => unfold x) | (extract_lets +onlyGivenNames x; clear_value x) | fail_if_no_progress apply Kept.fields cl

theorem bringGelat_kept {P : State → Prop} (cl : ClosedAll P) {s : State} (h : Kept P s) (x : Nat) : Kept P (State.bringGelat s x) := by
  unfold State.bringGelat
  with_reducible repeat' first | assumption | apply domainUp_kept cl.1 | apply put_kept cl.1 | apply clearGelat_kept cl | apply Kept.ite | apply Kept.foldl | intro _ _ _ | (extract_lets +onlyGivenNames x; refine (fun (_ : Kept P x) => ?_ : Kept P x → _) ?_; clear_value x; on_goal 2 => unfold x) | (extract_lets +onlyGivenNames x; clear_value x)

theorem roleDomains_kept {P : State → Prop} (cl : ClosedAll P) {s : State} (h : Kept P s) : Kept P (State.roleDomains s) := by
  unfold State.roleDomains
  with_reducible repeat' first | assumption | apply bringGelat_kept cl | apply powerDownAll_kept cl | apply requestAll_kept cl.1 | apply Kept.ite | apply Kept.foldl | intro _ _ _ | (extract_lets +onlyGivenNames x; refine (fun (_ : Kept P x) => ?_ : Kept P x → _) ?_; clear_value x; on_goal 2 => unfold x) | (extract_lets +onlyGivenNames x; clear_value x)

theorem substitute_kept {P : State → Prop} (cl : Closed P) {s : State} (h : Kept P s) (g : Nat) : Kept P (State.substitute s g) := by
  unfold State.substitute
  with_reducible repeat' first | assumption | apply put_kept cl | (extract_lets +onlyGivenNames x; refine (fun (_ : Kept P x) => ?_ : Kept P x → _) ?_; clear_value x; on_goal 2 => unfold x) | (extract_lets +onlyGivenNames x; clear_value x) | split

end Sys2Proof.Machine
end

