-- ==== Sys2Proof/Laws/KeptOps7.lean ====
section
/-! SUPPORT. Part 7 of 7 of the lemmas X_kept, one per operation and per command (see Laws/Kept.lean), in an order where each comes after those it cites. -/

set_option linter.unusedTactic false
set_option linter.unreachableTactic false
set_option linter.unusedVariables false

namespace Sys2Proof.Machine

open Sys2Proof

theorem rowSpares_kept {P : State → Prop} (cl : Closed P) {s : State} (h : Kept P s) (w site : Nat) : Kept P (State.rowSpares s w site) := by
  unfold State.rowSpares
  with_reducible repeat' first | assumption | apply writeRowMap_kept cl | apply Kept.ite | (extract_lets +onlyGivenNames x; refine (fun (_ : Kept P x) => ?_ : Kept P x → _) ?_; clear_value x; on_goal 2 => unfold x) | (extract_lets +onlyGivenNames x; clear_value x)

theorem rolesApply_kept {P : State → Prop} (cl : ClosedAll P) {s : State} (h : Kept P s) (map : List Nat) : Kept P (State.rolesApply s map) := by
  unfold State.rolesApply
  with_reducible repeat' first | assumption | apply retireStack_kept cl | apply substitute_kept cl.1 | apply put_kept cl.1 | apply rowSpares_kept cl.1 | apply Kept.foldl | intro _ _ _ | (extract_lets +onlyGivenNames x; refine (fun (_ : Kept P x) => ?_ : Kept P x → _) ?_; clear_value x; on_goal 2 => unfold x) | (extract_lets +onlyGivenNames x; clear_value x) | fail_if_no_progress apply Kept.fields cl.1 | split

theorem treesApply_kept {P : State → Prop} (cl : Closed P) {s : State} (h : Kept P s) (b : List Nat) : Kept P (State.treesApply s b) := by
  unfold State.treesApply
  with_reducible repeat' first | assumption | apply setReg_kept cl | apply treeBad_kept cl | apply Kept.foldl | intro _ _ _ | (extract_lets +onlyGivenNames x; refine (fun (_ : Kept P x) => ?_ : Kept P x → _) ?_; clear_value x; on_goal 2 => unfold x) | (extract_lets +onlyGivenNames x; clear_value x)

theorem routesWrite_kept {P : State → Prop} (cl : Closed P) {s : State} (h : Kept P s) (b : List Nat) : Kept P (State.routesWrite s b) := by
  unfold State.routesWrite
  with_reducible repeat' first | assumption | apply setReg_kept cl | apply Kept.foldl | intro _ _ _ | (extract_lets +onlyGivenNames x; refine (fun (_ : Kept P x) => ?_ : Kept P x → _) ?_; clear_value x; on_goal 2 => unfold x) | (extract_lets +onlyGivenNames x; clear_value x)

theorem tablesApply_kept {P : State → Prop} (cl : Closed P) {s : State} (h : Kept P s) (base : Nat) : Kept P (State.tablesApply s base) := by
  unfold State.tablesApply
  with_reducible repeat' first | assumption | apply put_kept cl | apply treesApply_kept cl | apply routesWrite_kept cl | apply setReg_kept cl | apply Kept.ite | apply Kept.foldl | intro _ _ _ | (extract_lets +onlyGivenNames x; refine (fun (_ : Kept P x) => ?_ : Kept P x → _) ?_; clear_value x; on_goal 2 => unfold x) | (extract_lets +onlyGivenNames x; clear_value x) | fail_if_no_progress apply Kept.fields cl | split

theorem storeArea_kept {P : State → Prop} (cl : ClosedAll P) {s : State} (h : Kept P s) (p : Nat) (data : List Nat) : Kept P (State.storeArea s p data) := by
  unfold State.storeArea
  with_reducible repeat' first | assumption | apply storeKey_kept cl | apply Kept.foldl | intro _ _ _

theorem setLoader_kept {P : State → Prop} (cl : ClosedAll P) {s : State} (h : Kept P s) (site : Nat) (l : Loader) : Kept P (State.setLoader s site l) := by
  unfold State.setLoader
  with_reducible repeat' first | assumption | apply storeArea_kept cl

theorem loadTcm_kept {P : State → Prop} (cl : Closed P) {s : State} (h : Kept P s) (site : Nat) (fw : List Nat) : Kept P (State.loadTcm s site fw) := by
  unfold State.loadTcm
  with_reducible repeat' first | assumption | apply setControl_kept cl | apply Kept.foldl | intro _ _ _ | (extract_lets +onlyGivenNames x; refine (fun (_ : Kept P x) => ?_ : Kept P x → _) ?_; clear_value x; on_goal 2 => unfold x) | (extract_lets +onlyGivenNames x; clear_value x) | fail_if_no_progress apply Kept.fields cl

theorem loaderDigest_kept {P : State → Prop} (cl : ClosedAll P) {s : State} (h : Kept P s) (site : Nat) (l : Loader) (size : Nat) (want : List Nat) : Kept P (State.loaderDigest s site l size want) := by
  unfold State.loaderDigest
  with_reducible repeat' first | assumption | apply loadTcm_kept cl.1 | apply setLoader_kept cl | apply raiseReset_kept cl.1 | apply addSat_kept cl.1 | apply Kept.ite | (extract_lets +onlyGivenNames x; refine (fun (_ : Kept P x) => ?_ : Kept P x → _) ?_; clear_value x; on_goal 2 => unfold x) | (extract_lets +onlyGivenNames x; clear_value x) | fail_if_no_progress apply Kept.fields cl.1

theorem loaderBlock_kept {P : State → Prop} (cl : ClosedAll P) {s : State} (h : Kept P s) (site : Nat) (header data : List Nat) : Kept P (State.loaderBlock s site header data) := by
  unfold State.loaderBlock
  with_reducible repeat' first | assumption | apply storeArea_kept cl | apply setLoader_kept cl | apply loaderDigest_kept cl | apply Kept.ite | (extract_lets +onlyGivenNames x; refine (fun (_ : Kept P x) => ?_ : Kept P x → _) ?_; clear_value x; on_goal 2 => unfold x) | (extract_lets +onlyGivenNames x; clear_value x) | fail_if_no_progress apply Kept.fields cl.1

theorem fwDeliver_kept {P : State → Prop} (cl : ClosedAll P) {s : State} (h : Kept P s) (fw digest : List Nat) (x : Nat) : Kept P (State.fwDeliver s fw digest x) := by
  unfold State.fwDeliver
  with_reducible repeat' first | assumption | apply loaderBlock_kept cl | apply loadTcm_kept cl.1 | apply Kept.ite | apply Kept.foldl | intro _ _ _

theorem fwShow_kept {P : State → Prop} (cl : Closed P) {s : State} (h : Kept P s) : Kept P (State.fwShow s) := by
  unfold State.fwShow
  with_reducible repeat' first | assumption | apply putSat_kept cl | apply setReg_kept cl | apply Kept.ite | apply Kept.foldl | intro _ _ _ | (extract_lets +onlyGivenNames x; refine (fun (_ : Kept P x) => ?_ : Kept P x → _) ?_; clear_value x; on_goal 2 => unfold x) | (extract_lets +onlyGivenNames x; clear_value x)

theorem firmwareApply_kept {P : State → Prop} (cl : ClosedAll P) {s : State} (h : Kept P s) (base len id : Nat) (lost : List Nat) : Kept P (State.firmwareApply s base len id lost) := by
  unfold State.firmwareApply
  with_reducible repeat' first | assumption | apply fwTake_kept cl.1 | apply raiseReset_kept cl.1 | apply fwDeliver_kept cl | apply fence_kept cl.1 | apply fwTreeRestore_kept cl.1 | apply startUnits_kept cl | apply hubEvent_kept cl.1 | apply fwShow_kept cl.1 | apply Kept.ite | apply Kept.foldl | intro _ _ _ | (extract_lets +onlyGivenNames x; refine (fun (_ : Kept P x) => ?_ : Kept P x → _) ?_; clear_value x; on_goal 2 => unfold x) | (extract_lets +onlyGivenNames x; clear_value x) | fail_if_no_progress apply Kept.fields cl.1

theorem imageLoaded_kept {P : State → Prop} (cl : Closed P) {s : State} (h : Kept P s) (base len id : Nat) : Kept P (State.imageLoaded s base len id) := by
  unfold State.imageLoaded
  with_reducible repeat' first | assumption | apply verifyRoutes_kept cl | apply record_kept cl | apply put_kept cl | apply sparesShow_kept cl | apply ovcState_kept cl | apply Kept.ite | (extract_lets +onlyGivenNames x; refine (fun (_ : Kept P x) => ?_ : Kept P x → _) ?_; clear_value x; on_goal 2 => unfold x) | (extract_lets +onlyGivenNames x; clear_value x) | fail_if_no_progress apply Kept.fields cl

theorem weightsApply_kept {P : State → Prop} (cl : ClosedAll P) {s : State} (h : Kept P s) (base : Nat) (ues : List Nat) : Kept P (State.weightsApply s base ues) := by
  unfold State.weightsApply
  with_reducible repeat' first | assumption | apply hbmUncorrectable_kept cl.1 | apply sliceApply_kept cl | apply Kept.ite | apply Kept.foldl | intro _ _ _ | (extract_lets +onlyGivenNames x; refine (fun (_ : Kept P x) => ?_ : Kept P x → _) ?_; clear_value x; on_goal 2 => unfold x) | (extract_lets +onlyGivenNames x; clear_value x) | fail_if_no_progress apply Kept.fields cl.1

theorem imageApply_kept {P : State → Prop} (cl : ClosedAll P) {s : State} (h : Kept P s) (lost ues : List Nat) : Kept P (State.imageApply s lost ues) := by
  unfold State.imageApply
  split
  · exact h
  · extract_lets id first s1 p s2 s3 s4 q s5 s6
    have h1 : Kept P s1 := ovcState_kept cl.1 h _
    have h2 : Kept P s2 := by
      unfold s2
      split
      · exact Kept.fields cl.1 h1
      · exact h1
    have h3 : Kept P s3 := roleDomains_kept cl (rolesApply_kept cl h2 _)
    have h4 : Kept P s4 := tablesApply_kept cl.1 h3 _
    have h5 : Kept P s5 := firmwareApply_kept cl (Kept.fields cl.1 h4) _ _ _ _
    have h6 : Kept P s6 := Kept.foldl h5 (fun t d k => powerDownAll_kept cl k _ _)
    exact imageLoaded_kept cl.1 (weightsApply_kept cl h6 _ _) _ _ _

theorem execCommit_kept {P : State → Prop} (cl : ClosedAll P) {s : State} (h : Kept P s) (lost ues : List Nat) : KeptO P (execCommit lost ues s) := by
  unfold execCommit
  with_reducible repeat' first | assumption | apply put_kept cl.1 | apply opSwitch_kept cl.1 | apply imageApply_kept cl | apply readyRefresh_kept cl.1 | apply endHold_kept cl.1 | apply armNow_kept cl.1 | apply KeptO.next | apply KeptO.ite | apply Kept.ite | (extract_lets +onlyGivenNames x; refine (fun (_ : Kept P x) => ?_ : Kept P x → _) ?_; clear_value x; on_goal 2 => unfold x) | (extract_lets +onlyGivenNames x; clear_value x) | fail_if_no_progress apply Kept.fields cl.1

theorem execReport_kept {P : State → Prop} (cl : Closed P) {s : State} (h : Kept P s) (node : Nat) (applied : Bool) : KeptO P (execReport node applied s) := by
  unfold execReport
  with_reducible repeat' first | assumption | apply commitMissed_kept cl | apply KeptO.next | apply KeptO.ite | apply Kept.ite | (extract_lets +onlyGivenNames x; refine (fun (_ : Kept P x) => ?_ : Kept P x → _) ?_; clear_value x; on_goal 2 => unfold x) | (extract_lets +onlyGivenNames x; clear_value x) | fail_if_no_progress apply Kept.fields cl

theorem execPowerOn_kept {P : State → Prop} (cl : ClosedAll P) {s : State} (h : Kept P s) : KeptO P (execPowerOn s) := by
  unfold execPowerOn
  with_reducible repeat' first | assumption | apply cause_kept cl.1 | apply put_kept cl.1 | apply send_kept cl.1 | apply resetState_kept cl | apply applyReset_kept cl | apply KeptO.next | (extract_lets +onlyGivenNames x; refine (fun (_ : Kept P x) => ?_ : Kept P x → _) ?_; clear_value x; on_goal 2 => unfold x) | (extract_lets +onlyGivenNames x; clear_value x) | fail_if_no_progress apply Kept.fields cl.1 | fail_if_no_progress apply Kept.isobarMk cl

theorem execPerstAssert_kept {P : State → Prop} (cl : ClosedAll P) {s : State} (h : Kept P s) : KeptO P (execPerstAssert s) := by
  unfold execPerstAssert
  with_reducible repeat' first | assumption | apply resetBy_kept cl | apply KeptO.next | apply KeptO.ite | apply Kept.ite | (extract_lets +onlyGivenNames x; refine (fun (_ : Kept P x) => ?_ : Kept P x → _) ?_; clear_value x; on_goal 2 => unfold x) | (extract_lets +onlyGivenNames x; clear_value x) | fail_if_no_progress apply Kept.fields cl.1

theorem execPerstLong_kept {P : State → Prop} (cl : ClosedAll P) {s : State} (h : Kept P s) : KeptO P (execPerstLong s) := by
  unfold execPerstLong
  with_reducible repeat' first | assumption | apply resetBy_kept cl | apply KeptO.next | apply KeptO.ite | apply Kept.ite

theorem bootRecord_kept {P : State → Prop} (cl : Closed P) {s : State} (h : Kept P s) : Kept P (State.bootRecord s) := by
  unfold State.bootRecord
  with_reducible repeat' first | assumption | apply record_kept cl | apply put_kept cl | apply Kept.ite | (extract_lets +onlyGivenNames x; refine (fun (_ : Kept P x) => ?_ : Kept P x → _) ?_; clear_value x; on_goal 2 => unfold x) | (extract_lets +onlyGivenNames x; clear_value x) | fail_if_no_progress apply Kept.fields cl

theorem enterDoldrums_kept {P : State → Prop} (cl : ClosedAll P) {s : State} (h : Kept P s) : Kept P (State.enterDoldrums s) := by
  unfold State.enterDoldrums
  with_reducible repeat' first | assumption | apply put_kept cl.1 | apply closeWindow_kept cl.1 | apply addSat_kept cl.1 | apply raiseReset_kept cl.1 | apply bootRecord_kept cl.1 | apply Kept.ite | apply Kept.foldl | intro _ _ _ | (extract_lets +onlyGivenNames x; refine (fun (_ : Kept P x) => ?_ : Kept P x → _) ?_; clear_value x; on_goal 2 => unfold x) | (extract_lets +onlyGivenNames x; clear_value x) | fail_if_no_progress apply Kept.fields cl.1 | fail_if_no_progress apply Kept.isobarMk cl

theorem openWindow_kept {P : State → Prop} (cl : Closed P) {s : State} (h : Kept P s) : Kept P (State.openWindow s) := by
  unfold State.openWindow
  with_reducible repeat' first | assumption | apply put_kept cl | (extract_lets +onlyGivenNames x; refine (fun (_ : Kept P x) => ?_ : Kept P x → _) ?_; clear_value x; on_goal 2 => unfold x) | (extract_lets +onlyGivenNames x; clear_value x) | fail_if_no_progress apply Kept.fields cl

theorem releaseReset_kept {P : State → Prop} (cl : ClosedAll P) {s : State} (h : Kept P s) : Kept P (State.releaseReset s) := by
  unfold State.releaseReset
  with_reducible repeat' first | assumption | apply enterDoldrums_kept cl | apply bootRecord_kept cl.1 | apply openWindow_kept cl.1 | apply Kept.ite | (extract_lets +onlyGivenNames x; refine (fun (_ : Kept P x) => ?_ : Kept P x → _) ?_; clear_value x; on_goal 2 => unfold x) | (extract_lets +onlyGivenNames x; clear_value x) | fail_if_no_progress apply Kept.fields cl.1 | split

theorem execPerstRelease_kept {P : State → Prop} (cl : ClosedAll P) {s : State} (h : Kept P s) : KeptO P (execPerstRelease s) := by
  unfold execPerstRelease
  with_reducible repeat' first | assumption | apply put_kept cl.1 | apply releaseReset_kept cl | apply KeptO.next | apply KeptO.ite | apply Kept.ite | (extract_lets +onlyGivenNames x; refine (fun (_ : Kept P x) => ?_ : Kept P x → _) ?_; clear_value x; on_goal 2 => unfold x) | (extract_lets +onlyGivenNames x; clear_value x) | fail_if_no_progress apply Kept.fields cl.1

theorem execHubWatchdogExpiry_kept {P : State → Prop} (cl : ClosedAll P) {s : State} (h : Kept P s) : KeptO P (execHubWatchdogExpiry s) := by
  unfold execHubWatchdogExpiry
  with_reducible repeat' first | assumption | apply resetBy_kept cl | apply put_kept cl.1 | apply KeptO.next | apply KeptO.ite | apply Kept.ite

theorem execHubFatal_kept {P : State → Prop} (cl : ClosedAll P) {s : State} (h : Kept P s) : KeptO P (execHubFatal s) := by
  unfold execHubFatal
  with_reducible repeat' first | assumption | apply resetBy_kept cl | apply KeptO.next | apply KeptO.ite | apply Kept.ite

theorem execStartWindowExpiry_kept {P : State → Prop} (cl : ClosedAll P) {s : State} (h : Kept P s) : KeptO P (execStartWindowExpiry s) := by
  unfold execStartWindowExpiry
  with_reducible repeat' first | assumption | apply resetBy_kept cl | apply closeWindow_kept cl.1 | apply failStart_kept cl.1 | apply KeptO.next | apply KeptO.ite | apply Kept.ite

theorem execResetStretchEnd_kept {P : State → Prop} (cl : ClosedAll P) {s : State} (h : Kept P s) : KeptO P (execResetStretchEnd s) := by
  unfold execResetStretchEnd
  with_reducible repeat' first | assumption | apply releaseReset_kept cl | apply KeptO.next | apply KeptO.ite | apply Kept.ite | (extract_lets +onlyGivenNames x; refine (fun (_ : Kept P x) => ?_ : Kept P x → _) ?_; clear_value x; on_goal 2 => unfold x) | (extract_lets +onlyGivenNames x; clear_value x) | fail_if_no_progress apply Kept.fields cl.1

theorem execRstoRelease_kept {P : State → Prop} (cl : Closed P) {s : State} (h : Kept P s) : KeptO P (execRstoRelease s) := by
  unfold execRstoRelease
  with_reducible repeat' first | assumption | apply send_kept cl | apply KeptO.next | apply KeptO.ite | apply Kept.ite | (extract_lets +onlyGivenNames x; refine (fun (_ : Kept P x) => ?_ : Kept P x → _) ?_; clear_value x; on_goal 2 => unfold x) | (extract_lets +onlyGivenNames x; clear_value x) | fail_if_no_progress apply Kept.fields cl

theorem startHub_kept {P : State → Prop} (cl : ClosedAll P) {s : State} (h : Kept P s) : Kept P (State.startHub s) := by
  unfold State.startHub
  with_reducible repeat' first | assumption | apply put_kept cl.1 | apply putSat_kept cl.1 | apply enterDoldrums_kept cl | apply openWindow_kept cl.1 | apply srcShow_kept cl.1 | apply bootRecord_kept cl.1 | apply setPstate_kept cl.1 | apply Kept.ite | (extract_lets +onlyGivenNames x; refine (fun (_ : Kept P x) => ?_ : Kept P x → _) ?_; clear_value x; on_goal 2 => unfold x) | (extract_lets +onlyGivenNames x; clear_value x)

theorem execStandbyStart_kept {P : State → Prop} (cl : ClosedAll P) {s : State} (h : Kept P s) : KeptO P (execStandbyStart s) := by
  unfold execStandbyStart
  with_reducible repeat' first | assumption | apply startHub_kept cl | apply put_kept cl.1 | apply KeptO.next | apply KeptO.ite | apply Kept.ite

theorem execTransitionTimeout_kept {P : State → Prop} (cl : Closed P) {s : State} (h : Kept P s) : KeptO P (execTransitionTimeout s) := by
  unfold execTransitionTimeout
  with_reducible repeat' first | assumption | apply startTransition_kept cl | apply raiseReset_kept cl | apply KeptO.next | apply KeptO.ite | apply Kept.ite | split

theorem execRetain_kept {P : State → Prop} (cl : Closed P) {s : State} (h : Kept P s) (site : Nat) : KeptO P (execRetain site s) := by
  unfold execRetain
  with_reducible repeat' first | assumption | apply setDie_kept cl | apply KeptO.next | apply KeptO.ite | apply Kept.ite | (extract_lets +onlyGivenNames x; refine (fun (_ : Kept P x) => ?_ : Kept P x → _) ?_; clear_value x; on_goal 2 => unfold x) | (extract_lets +onlyGivenNames x; clear_value x) | fail_if_no_progress apply Kept.fields cl

theorem execResume_kept {P : State → Prop} (cl : Closed P) {s : State} (h : Kept P s) (site : Nat) : KeptO P (execResume site s) := by
  unfold execResume
  with_reducible repeat' first | assumption | apply setDie_kept cl | apply KeptO.next | apply KeptO.ite | apply Kept.ite | (extract_lets +onlyGivenNames x; refine (fun (_ : Kept P x) => ?_ : Kept P x → _) ?_; clear_value x; on_goal 2 => unfold x) | (extract_lets +onlyGivenNames x; clear_value x) | fail_if_no_progress apply Kept.fields cl

theorem execFwBcast_kept {P : State → Prop} (cl : ClosedAll P) {s : State} (h : Kept P s) (who : Requester) (value : Nat) (ues : List Nat) : KeptO P (execFwBcast who value ues s) := by
  unfold execFwBcast
  with_reducible repeat' first | assumption | apply atHub_kept cl.1 | apply fwCtrl_kept cl | apply hbmUncorrectable_kept cl.1 | apply KeptO.next | apply KeptO.ite | apply Kept.ite | apply Kept.foldl | intro _ _ _

theorem execFwUnicast_kept {P : State → Prop} (cl : ClosedAll P) {s : State} (h : Kept P s) (who : Requester) (value : Nat) : KeptO P (execFwUnicast who value s) := by
  unfold execFwUnicast
  with_reducible repeat' first | assumption | apply atHub_kept cl.1 | apply fwCtrl_kept cl | apply KeptO.next | apply KeptO.ite | apply Kept.ite

theorem execFwStart_kept {P : State → Prop} (cl : ClosedAll P) {s : State} (h : Kept P s) (who : Requester) (value : Nat) : KeptO P (execFwStart who value s) := by
  unfold execFwStart
  with_reducible repeat' first | assumption | apply atHub_kept cl.1 | apply fwCtrl_kept cl | apply KeptO.next | apply KeptO.ite | apply Kept.ite

theorem execFwRoundDone_kept {P : State → Prop} (cl : Closed P) {s : State} (h : Kept P s) : KeptO P (execFwRoundDone s) := by
  unfold execFwRoundDone
  with_reducible repeat' first | assumption | apply hubEvent_kept cl | apply put_kept cl | apply fwShow_kept cl | apply KeptO.next | apply KeptO.ite | apply Kept.ite

theorem execFwBlock_kept {P : State → Prop} (cl : ClosedAll P) {s : State} (h : Kept P s) (site : Nat) (header data : List Nat) : KeptO P (execFwBlock site header data s) := by
  unfold execFwBlock
  with_reducible repeat' first | assumption | apply loaderBlock_kept cl | apply KeptO.next | apply KeptO.ite | apply Kept.ite

theorem execSpareInitDone_kept {P : State → Prop} (cl : ClosedAll P) {s : State} (h : Kept P s) (spare : Nat) : KeptO P (execSpareInitDone spare s) := by
  unfold execSpareInitDone
  with_reducible repeat' first | assumption | apply put_kept cl.1 | apply clearGelat_kept cl | apply sparesShow_kept cl.1 | apply copyFrom_kept cl | apply KeptO.next | apply KeptO.ite | apply Kept.ite | (extract_lets +onlyGivenNames x; refine (fun (_ : Kept P x) => ?_ : Kept P x → _) ?_; clear_value x; on_goal 2 => unfold x) | (extract_lets +onlyGivenNames x; clear_value x) | split

theorem goldenRows_kept {P : State → Prop} (cl : ClosedAll P) {s : State} (h : Kept P s) (w : Swap) (n : Nat) : Kept P (State.goldenRows s w n) := by
  unfold State.goldenRows
  with_reducible repeat' first | assumption | apply storeKey_kept cl | apply Kept.ite | apply Kept.foldl | intro _ _ _ | (extract_lets +onlyGivenNames x; refine (fun (_ : Kept P x) => ?_ : Kept P x → _) ?_; clear_value x; on_goal 2 => unfold x) | (extract_lets +onlyGivenNames x; clear_value x) | split

theorem copySlice_kept {P : State → Prop} (cl : ClosedAll P) {s : State} (h : Kept P s) (w : Swap) (m : Manifest) (ues : List Nat) : Kept P (State.copySlice s w m ues) := by
  unfold State.copySlice
  with_reducible repeat' first | assumption | apply eccUncorrectable_kept cl.1 | apply hbmUncorrectable_kept cl.1 | apply copyBytes_kept cl | apply goldenRows_kept cl | apply Kept.ite | apply Kept.foldl | intro _ _ _ | (extract_lets +onlyGivenNames x; refine (fun (_ : Kept P x) => ?_ : Kept P x → _) ?_; clear_value x; on_goal 2 => unfold x) | (extract_lets +onlyGivenNames x; clear_value x)

theorem execSpareCopyDone_kept {P : State → Prop} (cl : ClosedAll P) {s : State} (h : Kept P s) (spare : Nat) (ues : List Nat) : KeptO P (execSpareCopyDone spare ues s) := by
  unfold execSpareCopyDone
  with_reducible repeat' first | assumption | apply copySlice_kept cl | apply sparesShow_kept cl.1 | apply copyAgain_kept cl | apply copyShow_kept cl.1 | apply restore_kept cl | apply KeptO.next | apply KeptO.ite | apply Kept.ite | (extract_lets +onlyGivenNames x; refine (fun (_ : Kept P x) => ?_ : Kept P x → _) ?_; clear_value x; on_goal 2 => unfold x) | (extract_lets +onlyGivenNames x; clear_value x) | split

theorem execSpareIn_kept {P : State → Prop} (cl : Closed P) {s : State} (h : Kept P s) (spare : Nat) : KeptO P (execSpareIn spare s) := by
  unfold execSpareIn
  with_reducible repeat' first | assumption | apply swapHandle_kept cl | apply KeptO.next | apply KeptO.ite | apply Kept.ite | apply Kept.foldl | intro _ _ _ | (extract_lets +onlyGivenNames x; refine (fun (_ : Kept P x) => ?_ : Kept P x → _) ?_; clear_value x; on_goal 2 => unfold x) | (extract_lets +onlyGivenNames x; clear_value x) | split

theorem execSpareReady_kept {P : State → Prop} (cl : ClosedAll P) {s : State} (h : Kept P s) (spare : Nat) : KeptO P (execSpareReady spare s) := by
  unfold execSpareReady
  with_reducible repeat' first | assumption | apply addSat_kept cl.1 | apply dropSwap_kept cl.1 | apply verifyRoutes_kept cl.1 | apply raiseSpare_kept cl.1 | apply readyRefresh_kept cl.1 | apply armNow_kept cl.1 | apply takeRetires_kept cl | apply sparesShow_kept cl.1 | apply KeptO.next | apply KeptO.ite | apply Kept.ite | (extract_lets +onlyGivenNames x; refine (fun (_ : Kept P x) => ?_ : Kept P x → _) ?_; clear_value x; on_goal 2 => unfold x) | (extract_lets +onlyGivenNames x; clear_value x) | split

theorem execSpareReadyTimeout_kept {P : State → Prop} (cl : ClosedAll P) {s : State} (h : Kept P s) (spare : Nat) : KeptO P (execSpareReadyTimeout spare s) := by
  unfold execSpareReadyTimeout
  with_reducible repeat' first | assumption | apply swapEnds_kept cl | apply KeptO.next | apply KeptO.ite | apply Kept.ite | split

theorem execHostDone_kept {P : State → Prop} (cl : ClosedAll P) {s : State} (h : Kept P s) (who : Requester) (spare : Nat) : KeptO P (execHostDone who spare s) := by
  unfold execHostDone
  with_reducible repeat' first | assumption | apply atHub_kept cl.1 | apply hostDone_kept cl | apply put_kept cl.1 | apply KeptO.next

theorem execSpareAbandon_kept {P : State → Prop} (cl : ClosedAll P) {s : State} (h : Kept P s) (who : Requester) (spare : Nat) : KeptO P (execSpareAbandon who spare s) := by
  unfold execSpareAbandon
  with_reducible repeat' first | assumption | apply atHub_kept cl.1 | apply spareAbandon_kept cl | apply put_kept cl.1 | apply KeptO.next

theorem execHostLimitExpiry_kept {P : State → Prop} (cl : ClosedAll P) {s : State} (h : Kept P s) (spare : Nat) : KeptO P (execHostLimitExpiry spare s) := by
  unfold execHostLimitExpiry
  with_reducible repeat' first | assumption | apply swapEnds_kept cl | apply KeptO.next | apply KeptO.ite | apply Kept.ite | split

theorem execPcieLinkUp_kept {P : State → Prop} (cl : Closed P) {s : State} (h : Kept P s) (speed width : Nat) (flit : Bool) : KeptO P (execPcieLinkUp speed width flit s) := by
  unfold execPcieLinkUp
  with_reducible repeat' first | assumption | apply put_kept cl | apply raiseHost_kept cl | apply KeptO.next | apply KeptO.ite | apply Kept.ite | (extract_lets +onlyGivenNames x; refine (fun (_ : Kept P x) => ?_ : Kept P x → _) ?_; clear_value x; on_goal 2 => unfold x) | (extract_lets +onlyGivenNames x; clear_value x)

theorem execPcieLinkDown_kept {P : State → Prop} (cl : Closed P) {s : State} (h : Kept P s) : KeptO P (execPcieLinkDown s) := by
  unfold execPcieLinkDown
  with_reducible repeat' first | assumption | apply put_kept cl | apply addSat_kept cl | apply KeptO.next | apply KeptO.ite | apply Kept.ite | (extract_lets +onlyGivenNames x; refine (fun (_ : Kept P x) => ?_ : Kept P x → _) ?_; clear_value x; on_goal 2 => unfold x) | (extract_lets +onlyGivenNames x; clear_value x) | fail_if_no_progress apply Kept.fields cl

theorem execBusMasterEnableChange_kept {P : State → Prop} (cl : Closed P) {s : State} (h : Kept P s) (on : Bool) : KeptO P (execBusMasterEnableChange on s) := by
  unfold execBusMasterEnableChange
  with_reducible repeat' first | assumption | apply put_kept cl | apply writeRecords_kept cl | apply heldOut_kept cl | apply KeptO.next | apply KeptO.ite | apply Kept.ite | (extract_lets +onlyGivenNames x; refine (fun (_ : Kept P x) => ?_ : Kept P x → _) ?_; clear_value x; on_goal 2 => unfold x) | (extract_lets +onlyGivenNames x; clear_value x)

theorem execHostReadTimeout_kept {P : State → Prop} (cl : ClosedAll P) {s : State} (h : Kept P s) (tag : Nat) : KeptO P (execHostReadTimeout tag s) := by
  unfold execHostReadTimeout
  with_reducible repeat' first | assumption | apply hostReadEnd_kept cl | apply KeptO.next

theorem bar4Ones_kept {P : State → Prop} (cl : Closed P) {s : State} (h : Kept P s) (offset n : Nat) (ep : Bool) : Kept P (State.bar4Ones s offset n ep) := by
  unfold State.bar4Ones
  with_reducible repeat' first | assumption | apply send_kept cl

theorem execBar4Access_kept {P : State → Prop} (cl : Closed P) {s : State} (h : Kept P s) (write : Bool) (offset n : Nat) (data : List Nat) (poison : Bool) : KeptO P (execBar4Access write offset n data poison s) := by
  unfold execBar4Access
  with_reducible repeat' first | assumption | apply raiseHost_kept cl | apply bar4Ones_kept cl | apply ppaInvalid_kept cl | apply issue_kept cl | apply KeptO.next | apply KeptO.fault | apply KeptO.ite | apply Kept.ite | apply Kept.foldl | apply Kept.iteFst | apply Kept.foldlFst | apply Kept.ofFst (by assumption) | intro _ _ _ | (extract_lets +onlyGivenNames x; refine (fun (_ : Kept P x) => ?_ : Kept P x → _) ?_; clear_value x; on_goal 2 => unfold x) | (extract_lets +onlyGivenNames x; refine (fun (_ : Kept P x.1) => ?_ : Kept P x.1 → _) ?_; clear_value x; on_goal 2 => unfold x) | (extract_lets +onlyGivenNames x; clear_value x) | fail_if_no_progress apply Kept.fields cl

theorem execIrqHoldoffEnd_kept {P : State → Prop} (cl : Closed P) {s : State} (h : Kept P s) (v : Nat) : KeptO P (execIrqHoldoffEnd v s) := by
  unfold execIrqHoldoffEnd
  with_reducible repeat' first | assumption | apply trigger_kept cl | apply KeptO.next | apply KeptO.ite | apply Kept.ite | (extract_lets +onlyGivenNames x; refine (fun (_ : Kept P x) => ?_ : Kept P x → _) ?_; clear_value x; on_goal 2 => unfold x) | (extract_lets +onlyGivenNames x; clear_value x) | fail_if_no_progress apply Kept.fields cl

theorem msixReleaseAll_kept {P : State → Prop} (cl : Closed P) {s : State} (h : Kept P s) : Kept P (State.msixReleaseAll s) := by
  unfold State.msixReleaseAll
  with_reducible repeat' first | assumption | apply msixRelease_kept cl | apply Kept.foldl | intro _ _ _

theorem execMsixUnmask_kept {P : State → Prop} (cl : Closed P) {s : State} (h : Kept P s) (w : MsixWrite) : KeptO P (execMsixUnmask w s) := by
  unfold execMsixUnmask
  with_reducible repeat' first | assumption | apply msixWrite_kept cl | apply msixReleaseAll_kept cl | apply put_kept cl | apply KeptO.next | apply KeptO.ite | apply Kept.ite | (extract_lets +onlyGivenNames x; refine (fun (_ : Kept P x) => ?_ : Kept P x → _) ?_; clear_value x; on_goal 2 => unfold x) | (extract_lets +onlyGivenNames x; clear_value x) | fail_if_no_progress apply Kept.fields cl | split

theorem execMgmtRead_kept {P : State → Prop} (cl : ClosedAll P) {s : State} (h : Kept P s) (port : Nat) (data : List Nat) : KeptO P (execMgmtRead port data s) := by
  unfold execMgmtRead
  with_reducible repeat' first | assumption | apply mgmtRequest_kept cl | apply KeptO.next

theorem execMgmtWrite_kept {P : State → Prop} (cl : ClosedAll P) {s : State} (h : Kept P s) (port : Nat) (data : List Nat) : KeptO P (execMgmtWrite port data s) := by
  unfold execMgmtWrite
  with_reducible repeat' first | assumption | apply mgmtRequest_kept cl | apply KeptO.next

theorem execCperAck_kept {P : State → Prop} (cl : Closed P) {s : State} (h : Kept P s) (port : Nat) (data : List Nat) : KeptO P (execCperAck port data s) := by
  unfold execCperAck
  with_reducible repeat' first | assumption | apply KeptO.next | apply KeptO.ite | apply Kept.ite | (extract_lets +onlyGivenNames x; refine (fun (_ : Kept P x) => ?_ : Kept P x → _) ?_; clear_value x; on_goal 2 => unfold x) | (extract_lets +onlyGivenNames x; clear_value x) | fail_if_no_progress apply Kept.fields cl | split

theorem execCperResend_kept {P : State → Prop} (cl : Closed P) {s : State} (h : Kept P s) (seq : Nat) : KeptO P (execCperResend seq s) := by
  unfold execCperResend
  with_reducible repeat' first | assumption | apply raiseHost_kept cl | apply addSat_kept cl | apply cperSend_kept cl | apply KeptO.next | apply KeptO.ite | apply Kept.ite | (extract_lets +onlyGivenNames x; refine (fun (_ : Kept P x) => ?_ : Kept P x → _) ?_; clear_value x; on_goal 2 => unfold x) | (extract_lets +onlyGivenNames x; clear_value x) | fail_if_no_progress apply Kept.fields cl | split

theorem execMgmtPortDown_kept {P : State → Prop} (cl : Closed P) {s : State} (h : Kept P s) (port : Nat) : KeptO P (execMgmtPortDown port s) := by
  unfold execMgmtPortDown
  with_reducible repeat' first | assumption | apply put_kept cl | apply mgmtState_kept cl | apply raiseHost_kept cl | apply setMgmtPort_kept cl | apply KeptO.next | apply KeptO.ite | apply Kept.ite | (extract_lets +onlyGivenNames x; refine (fun (_ : Kept P x) => ?_ : Kept P x → _) ?_; clear_value x; on_goal 2 => unfold x) | (extract_lets +onlyGivenNames x; clear_value x) | fail_if_no_progress apply Kept.fields cl

theorem addV6_kept {P : State → Prop} (cl : Closed P) {s : State} (h : Kept P s) (p a : Nat) : Kept P (State.addV6 s p a) := by
  unfold State.addV6
  with_reducible repeat' first | assumption | apply setMgmtPort_kept cl | apply Kept.ite | (extract_lets +onlyGivenNames x; refine (fun (_ : Kept P x) => ?_ : Kept P x → _) ?_; clear_value x; on_goal 2 => unfold x) | (extract_lets +onlyGivenNames x; clear_value x) | fail_if_no_progress apply Kept.fields cl

theorem execMgmtPortUp_kept {P : State → Prop} (cl : Closed P) {s : State} (h : Kept P s) (port fec : Nat) : KeptO P (execMgmtPortUp port fec s) := by
  unfold execMgmtPortUp
  with_reducible repeat' first | assumption | apply put_kept cl | apply mgmtState_kept cl | apply dhcpStart_kept cl | apply addV6_kept cl | apply KeptO.next | apply KeptO.ite | apply Kept.ite | (extract_lets +onlyGivenNames x; refine (fun (_ : Kept P x) => ?_ : Kept P x → _) ?_; clear_value x; on_goal 2 => unfold x) | (extract_lets +onlyGivenNames x; clear_value x)

theorem execEchoRequest_kept {P : State → Prop} (cl : Closed P) {s : State} (h : Kept P s) (port : Nat) (v6 : Bool) (dst : Nat) (data : List Nat) : KeptO P (execEchoRequest port v6 dst data s) := by
  unfold execEchoRequest
  with_reducible repeat' first | assumption | apply send_kept cl | apply KeptO.next | apply KeptO.ite | apply Kept.ite | (extract_lets +onlyGivenNames x; refine (fun (_ : Kept P x) => ?_ : Kept P x → _) ?_; clear_value x; on_goal 2 => unfold x) | (extract_lets +onlyGivenNames x; clear_value x)

theorem execSmbRead_kept {P : State → Prop} (cl : Closed P) {s : State} (h : Kept P s) (who : Requester) (value : Nat) : KeptO P (execSmbRead who value s) := by
  unfold execSmbRead
  with_reducible repeat' first | assumption | apply atHub_kept cl | apply smbCmd_kept cl | apply KeptO.next | apply KeptO.ite | apply Kept.ite

theorem execSmbReadDone_kept {P : State → Prop} (cl : Closed P) {s : State} (h : Kept P s) (ok : Bool) (data : List Nat) : KeptO P (execSmbReadDone ok data s) := by
  unfold execSmbReadDone
  split
  · exact KeptO.next h
  · extract_lets q s1 d s2
    have h1 : Kept P s1 := put_kept cl (Kept.fields cl h) _ _
    have h2 : Kept P s2 := put_kept cl h1 _ _
    clear_value s2
    split
    · exact KeptO.next (moduleState_kept cl (raiseModule_kept cl (put_kept cl h1 _ _) _ _) _ _)
    · exact KeptO.next (Kept.foldl h2 (fun t v k => put_kept cl k _ _))

theorem execGuestSidebandTimeout_kept {P : State → Prop} (cl : ClosedAll P) {s : State} (h : Kept P s) (g : Nat) : KeptO P (execGuestSidebandTimeout g s) := by
  unfold execGuestSidebandTimeout
  with_reducible repeat' first | assumption | apply guestDark_kept cl | apply KeptO.next | apply KeptO.ite | apply Kept.ite

theorem execGuestTrainDone_kept {P : State → Prop} (cl : Closed P) {s : State} (h : Kept P s) (g : Nat) (ok : Bool) (rate width : Nat) : KeptO P (execGuestTrainDone g ok rate width s) := by
  unfold execGuestTrainDone
  with_reducible repeat' first | assumption | apply setGuest_kept cl | apply guestState_kept cl | apply put_kept cl | apply guestLoss_kept cl | apply KeptO.next | apply KeptO.ite | apply Kept.ite | (extract_lets +onlyGivenNames x; refine (fun (_ : Kept P x) => ?_ : Kept P x → _) ?_; clear_value x; on_goal 2 => unfold x) | (extract_lets +onlyGivenNames x; clear_value x) | fail_if_no_progress apply Kept.fields cl

theorem execGuestRetry_kept {P : State → Prop} (cl : ClosedAll P) {s : State} (h : Kept P s) (who : Requester) (g value : Nat) : KeptO P (execGuestRetry who g value s) := by
  unfold execGuestRetry
  with_reducible repeat' first | assumption | apply atHub_kept cl.1 | apply guestCtrl_kept cl | apply KeptO.next | apply KeptO.ite | apply Kept.ite

theorem execGuestEnableWrite_kept {P : State → Prop} (cl : ClosedAll P) {s : State} (h : Kept P s) (who : Requester) (g value : Nat) : KeptO P (execGuestEnableWrite who g value s) := by
  unfold execGuestEnableWrite
  with_reducible repeat' first | assumption | apply atHub_kept cl.1 | apply guestCtrl_kept cl | apply KeptO.next | apply KeptO.ite | apply Kept.ite

theorem guestViolation_kept {P : State → Prop} (cl : Closed P) {s : State} (h : Kept P s) (g : Nat) : Kept P (State.guestViolation s g) := by
  unfold State.guestViolation
  with_reducible repeat' first | assumption | apply addSat_kept cl | apply raiseGuest_kept cl | apply setGuest_kept cl | apply Kept.ite | (extract_lets +onlyGivenNames x; refine (fun (_ : Kept P x) => ?_ : Kept P x → _) ?_; clear_value x; on_goal 2 => unfold x) | (extract_lets +onlyGivenNames x; clear_value x) | fail_if_no_progress apply Kept.fields cl

theorem guestFrame_kept {P : State → Prop} (cl : Closed P) {s : State} (h : Kept P s) (g : Nat) (f : GuestFrame) : Kept P (State.guestFrame s g f) := by
  unfold State.guestFrame
  with_reducible repeat' first | assumption | apply guestViolation_kept cl | apply setGuest_kept cl | apply addSat_kept cl | apply answerWrite_kept cl | apply answerRead_kept cl | apply guestSend_kept cl | apply Kept.ite | (extract_lets +onlyGivenNames x; refine (fun (_ : Kept P x) => ?_ : Kept P x → _) ?_; clear_value x; on_goal 2 => unfold x) | (extract_lets +onlyGivenNames x; clear_value x) | fail_if_no_progress apply Kept.fields cl | split

theorem execGuestRdata_kept {P : State → Prop} (cl : Closed P) {s : State} (h : Kept P s) (g : Nat) (f : GuestFrame) : KeptO P (execGuestRdata g f s) := by
  unfold execGuestRdata
  with_reducible repeat' first | assumption | apply guestFrame_kept cl | apply KeptO.next | apply KeptO.ite | apply Kept.ite

theorem execGuestWack_kept {P : State → Prop} (cl : Closed P) {s : State} (h : Kept P s) (g tag : Nat) (err : Bool) : KeptO P (execGuestWack g tag err s) := by
  unfold execGuestWack
  with_reducible repeat' first | assumption | apply guestFrame_kept cl | apply KeptO.next | apply KeptO.ite | apply Kept.ite

theorem execGuestTempReport_kept {P : State → Prop} (cl : ClosedAll P) {s : State} (h : Kept P s) (g : Nat) (temp : Int) : KeptO P (execGuestTempReport g temp s) := by
  unfold execGuestTempReport
  with_reducible repeat' first | assumption | apply setGuest_kept cl.1 | apply thermStatus_kept cl.1 | apply thermShow_kept cl.1 | apply spotStep_kept cl | apply KeptO.next | apply KeptO.ite | apply Kept.ite | (extract_lets +onlyGivenNames x; refine (fun (_ : Kept P x) => ?_ : Kept P x → _) ?_; clear_value x; on_goal 2 => unfold x) | (extract_lets +onlyGivenNames x; clear_value x) | fail_if_no_progress apply Kept.fields cl.1

theorem execGuestTimeout_kept {P : State → Prop} (cl : Closed P) {s : State} (h : Kept P s) (g tag : Nat) : KeptO P (execGuestTimeout g tag s) := by
  unfold execGuestTimeout
  with_reducible repeat' first | assumption | apply addSat_kept cl | apply guestPoison_kept cl | apply setGuest_kept cl | apply raiseGuest_kept cl | apply KeptO.next | apply KeptO.ite | apply Kept.ite | (extract_lets +onlyGivenNames x; refine (fun (_ : Kept P x) => ?_ : Kept P x → _) ?_; clear_value x; on_goal 2 => unfold x) | (extract_lets +onlyGivenNames x; clear_value x) | split

theorem execGuestLinkLoss_kept {P : State → Prop} (cl : Closed P) {s : State} (h : Kept P s) (g : Nat) : KeptO P (execGuestLinkLoss g s) := by
  unfold execGuestLinkLoss
  with_reducible repeat' first | assumption | apply guestLoss_kept cl | apply KeptO.next | apply KeptO.ite | apply Kept.ite

theorem execGuestRetrainTimer_kept {P : State → Prop} (cl : Closed P) {s : State} (h : Kept P s) (g : Nat) : KeptO P (execGuestRetrainTimer g s) := by
  unfold execGuestRetrainTimer
  with_reducible repeat' first | assumption | apply setGuest_kept cl | apply guestState_kept cl | apply put_kept cl | apply KeptO.next | apply KeptO.ite | apply Kept.ite | (extract_lets +onlyGivenNames x; refine (fun (_ : Kept P x) => ?_ : Kept P x → _) ?_; clear_value x; on_goal 2 => unfold x) | (extract_lets +onlyGivenNames x; clear_value x) | fail_if_no_progress apply Kept.fields cl

theorem loaded_kept {P : State → Prop} (cl : Closed P) {s : State} (h : Kept P s) (site c : Nat) (a n v : Nat) : Kept P (State.loaded s site c a n v) := by
  unfold State.loaded
  with_reducible repeat' first | assumption | apply send_kept cl

theorem tcmEcc_kept {P : State → Prop} (cl : Closed P) {s : State} (h : Kept P s) (site c : Nat) (itcm : Bool) (e : Ecc) : Kept P (State.tcmEcc s site c itcm e) := by
  unfold State.tcmEcc
  with_reducible repeat' first | assumption | apply addSat_kept cl | apply Kept.ite

theorem coreTarget_kept {P : State → Prop} (cl : Closed P) {s : State} (h : Kept P s) (site p : Nat) (write : Bool) : Kept P (State.coreTarget s site p write).2 := by
  unfold State.coreTarget
  with_reducible repeat' first | assumption | apply rwtLookup_kept cl | apply Kept.ite | apply Kept.iteSnd | apply Kept.ofSnd (by assumption) | (extract_lets +onlyGivenNames x; refine (fun (_ : Kept P x) => ?_ : Kept P x → _) ?_; clear_value x; on_goal 2 => unfold x) | (extract_lets +onlyGivenNames x; refine (fun (_ : Kept P x.2) => ?_ : Kept P x.2 → _) ?_; clear_value x; on_goal 2 => unfold x) | (extract_lets +onlyGivenNames x; clear_value x) | split

theorem panelLoad_kept {P : State → Prop} (cl : Closed P) {s : State} (h : Kept P s) (site c : Nat) (p n : Nat) (e : Ecc) : Kept P (State.panelLoad s site c p n e) := by
  unfold State.panelLoad
  with_reducible repeat' first | assumption | apply readFor_kept cl | apply consumed_kept cl | apply coreFault_kept cl | apply loaded_kept cl | apply coreTarget_kept cl | apply ppaInvalid_kept cl | apply issue_kept cl | apply Kept.ite | apply Kept.iteFst | apply Kept.ofFst (by assumption) | apply Kept.iteSnd | apply Kept.ofSnd (by assumption) | (extract_lets +onlyGivenNames x; refine (fun (_ : Kept P x) => ?_ : Kept P x → _) ?_; clear_value x; on_goal 2 => unfold x) | (extract_lets +onlyGivenNames x; refine (fun (_ : Kept P x.1) => ?_ : Kept P x.1 → _) ?_; clear_value x; on_goal 2 => unfold x) | (extract_lets +onlyGivenNames x; refine (fun (_ : Kept P x.2) => ?_ : Kept P x.2 → _) ?_; clear_value x; on_goal 2 => unfold x) | (extract_lets +onlyGivenNames x; clear_value x) | split

theorem coreLoad_kept {P : State → Prop} (cl : Closed P) {s : State} (h : Kept P s) (site c : Nat) (a n : Nat) (e : Ecc) : Kept P (State.coreLoad s site c a n e) := by
  unfold State.coreLoad
  with_reducible repeat' first | assumption | apply coreFault_kept cl | apply stateAfter_kept cl | apply execTcmUncorrectable_kept cl | apply loaded_kept cl | apply tcmEcc_kept cl | apply tick_kept cl | apply regRead_kept cl | apply panelLoad_kept cl | apply Kept.ofNext (by assumption) | apply Kept.ite | apply Kept.iteSnd | apply Kept.ofSnd (by assumption) | (extract_lets +onlyGivenNames x; refine (fun (_ : Kept P x) => ?_ : Kept P x → _) ?_; clear_value x; on_goal 2 => unfold x) | (extract_lets +onlyGivenNames x; refine (fun (_ : Kept P x.2) => ?_ : Kept P x.2 → _) ?_; clear_value x; on_goal 2 => unfold x) | (extract_lets +onlyGivenNames x; clear_value x) | split

theorem mailboxStore_kept {P : State → Prop} (cl : Closed P) {s : State} (h : Kept P s) (site c : Nat) (off v : Nat) : Kept P (State.mailboxStore s site c off v) := by
  unfold State.mailboxStore
  with_reducible repeat' first | assumption | apply stateAfter_kept cl | apply execMbxHeadRemove_kept cl | apply setControl_kept cl | apply execMbxSend_kept cl | apply Kept.ofNext (by assumption) | apply Kept.ite | (extract_lets +onlyGivenNames x; refine (fun (_ : Kept P x) => ?_ : Kept P x → _) ?_; clear_value x; on_goal 2 => unfold x) | (extract_lets +onlyGivenNames x; clear_value x) | fail_if_no_progress apply Kept.fields cl

theorem timerStore_kept {P : State → Prop} (cl : Closed P) {s : State} (h : Kept P s) (site c : Nat) (off v : Nat) : Kept P (State.timerStore s site c off v) := by
  unfold State.timerStore
  with_reducible repeat' first | assumption | apply setControl_kept cl | (extract_lets +onlyGivenNames x; refine (fun (_ : Kept P x) => ?_ : Kept P x → _) ?_; clear_value x; on_goal 2 => unfold x) | (extract_lets +onlyGivenNames x; clear_value x) | fail_if_no_progress apply Kept.fields cl | split

theorem panelStore_kept {P : State → Prop} (cl : ClosedAll P) {s : State} (h : Kept P s) (site c : Nat) (p n v : Nat) : Kept P (State.panelStore s site c p n v) := by
  unfold State.panelStore
  with_reducible repeat' first | assumption | apply writeMem_kept cl | apply coreTarget_kept cl.1 | apply ppaInvalid_kept cl.1 | apply issue_kept cl.1 | apply setControl_kept cl.1 | apply Kept.ite | apply Kept.iteFst | apply Kept.ofFst (by assumption) | apply Kept.iteSnd | apply Kept.ofSnd (by assumption) | (extract_lets +onlyGivenNames x; refine (fun (_ : Kept P x) => ?_ : Kept P x → _) ?_; clear_value x; on_goal 2 => unfold x) | (extract_lets +onlyGivenNames x; refine (fun (_ : Kept P x.1) => ?_ : Kept P x.1 → _) ?_; clear_value x; on_goal 2 => unfold x) | (extract_lets +onlyGivenNames x; refine (fun (_ : Kept P x.2) => ?_ : Kept P x.2 → _) ?_; clear_value x; on_goal 2 => unfold x) | (extract_lets +onlyGivenNames x; clear_value x) | fail_if_no_progress apply Kept.fields cl.1 | split

theorem coreStore_kept {P : State → Prop} (cl : ClosedAll P) {s : State} (h : Kept P s) (site c : Nat) (a n v : Nat) : Kept P (State.coreStore s site c a n v) := by
  unfold State.coreStore
  with_reducible repeat' first | assumption | apply coreFault_kept cl.1 | apply setControl_kept cl.1 | apply stateAfter_kept cl.1 | apply execVcoProgWrite_kept cl.1 | apply scratchWrite_kept cl.1 | apply mailboxStore_kept cl.1 | apply timerStore_kept cl.1 | apply regWrite_kept cl | apply panelStore_kept cl | apply Kept.ofNext (by assumption) | apply Kept.ite | (extract_lets +onlyGivenNames x; refine (fun (_ : Kept P x) => ?_ : Kept P x → _) ?_; clear_value x; on_goal 2 => unfold x) | (extract_lets +onlyGivenNames x; clear_value x) | fail_if_no_progress apply Kept.fields cl.1 | split

theorem coreAtomic_kept {P : State → Prop} (cl : Closed P) {s : State} (h : Kept P s) (site c : Nat) (op a : Nat) (n v : Nat) (e : Ecc) : Kept P (State.coreAtomic s site c op a n v e) := by
  unfold State.coreAtomic
  with_reducible repeat' first | assumption | apply coreFault_kept cl | apply stateAfter_kept cl | apply execTcmUncorrectable_kept cl | apply tcmEcc_kept cl | apply loaded_kept cl | apply setControl_kept cl | apply Kept.ofNext (by assumption) | apply Kept.ite | (extract_lets +onlyGivenNames x; refine (fun (_ : Kept P x) => ?_ : Kept P x → _) ?_; clear_value x; on_goal 2 => unfold x) | (extract_lets +onlyGivenNames x; clear_value x) | fail_if_no_progress apply Kept.fields cl | split

theorem execCcoLocalAccess_kept {P : State → Prop} (cl : ClosedAll P) {s : State} (h : Kept P s) (site c : Nat) (a : CoreAccess) (e : Ecc) : KeptO P (execCcoLocalAccess site c a e s) := by
  unfold execCcoLocalAccess
  with_reducible repeat' first | assumption | apply coreLoad_kept cl.1 | apply coreStore_kept cl | apply coreAtomic_kept cl.1 | apply setControl_kept cl.1 | apply KeptO.next | apply KeptO.ite | apply Kept.ite | (extract_lets +onlyGivenNames x; refine (fun (_ : Kept P x) => ?_ : Kept P x → _) ?_; clear_value x; on_goal 2 => unfold x) | (extract_lets +onlyGivenNames x; clear_value x) | split

theorem execPtpFollowUp_kept {P : State → Prop} (cl : Closed P) {s : State} (h : Kept P s) (port : Nat) (m : PtpMsg) : KeptO P (execPtpFollowUp port m s) := by
  unfold execPtpFollowUp
  with_reducible repeat' first | assumption | apply ptpMeasure_kept cl | apply KeptO.next | apply KeptO.ite | apply Kept.ite | split

theorem execPtpDelayReqTimer_kept {P : State → Prop} (cl : Closed P) {s : State} (h : Kept P s) : KeptO P (execPtpDelayReqTimer s) := by
  unfold execPtpDelayReqTimer
  with_reducible repeat' first | assumption | apply setPtp_kept cl | apply send_kept cl | apply KeptO.next | apply KeptO.ite | apply Kept.ite | (extract_lets +onlyGivenNames x; refine (fun (_ : Kept P x) => ?_ : Kept P x → _) ?_; clear_value x; on_goal 2 => unfold x) | (extract_lets +onlyGivenNames x; clear_value x) | split

theorem dhcpRequest_kept {P : State → Prop} (cl : Closed P) {s : State} (h : Kept P s) (p addr server : Nat) : Kept P (State.dhcpRequest s p addr server) := by
  unfold State.dhcpRequest
  with_reducible repeat' first | assumption | apply send_kept cl

theorem execDhcpReply_kept {P : State → Prop} (cl : Closed P) {s : State} (h : Kept P s) (port : Nat) (m : DhcpMsg) : KeptO P (execDhcpReply port m s) := by
  unfold execDhcpReply
  with_reducible repeat' first | assumption | apply dhcpRequest_kept cl | apply setMgmtPort_kept cl | apply bind_kept cl | apply dhcpStart_kept cl | apply KeptO.next | apply KeptO.ite | apply Kept.ite | (extract_lets +onlyGivenNames x; refine (fun (_ : Kept P x) => ?_ : Kept P x → _) ?_; clear_value x; on_goal 2 => unfold x) | (extract_lets +onlyGivenNames x; clear_value x) | fail_if_no_progress apply Kept.fields cl

theorem execDhcpLeaseTimer_kept {P : State → Prop} (cl : Closed P) {s : State} (h : Kept P s) (port : Nat) : KeptO P (execDhcpLeaseTimer port s) := by
  unfold execDhcpLeaseTimer
  with_reducible repeat' first | assumption | apply dhcpRequest_kept cl | apply setMgmtPort_kept cl | apply dhcpStart_kept cl | apply bind_kept cl | apply KeptO.next | apply KeptO.ite | apply Kept.ite | (extract_lets +onlyGivenNames x; refine (fun (_ : Kept P x) => ?_ : Kept P x → _) ?_; clear_value x; on_goal 2 => unfold x) | (extract_lets +onlyGivenNames x; clear_value x) | fail_if_no_progress apply Kept.fields cl

theorem execArpRequest_kept {P : State → Prop} (cl : Closed P) {s : State} (h : Kept P s) (port target : Nat) : KeptO P (execArpRequest port target s) := by
  unfold execArpRequest
  with_reducible repeat' first | assumption | apply send_kept cl | apply KeptO.next | apply KeptO.ite | apply Kept.ite

theorem execNeighborDiscovery_kept {P : State → Prop} (cl : Closed P) {s : State} (h : Kept P s) (port : Nat) (m : NdMessage) : KeptO P (execNeighborDiscovery port m s) := by
  unfold execNeighborDiscovery
  with_reducible repeat' first | assumption | apply send_kept cl | apply setMgmtPort_kept cl | apply addV6_kept cl | apply KeptO.next | apply KeptO.ite | apply Kept.ite | (extract_lets +onlyGivenNames x; refine (fun (_ : Kept P x) => ?_ : Kept P x → _) ?_; clear_value x; on_goal 2 => unfold x) | (extract_lets +onlyGivenNames x; clear_value x) | split

theorem execPutMergeWindow_kept {P : State → Prop} (cl : Closed P) {s : State} (h : Kept P s) (c : Nat) : KeptO P (execPutMergeWindow c s) := by
  unfold execPutMergeWindow
  with_reducible repeat' first | assumption | apply cndFlush_kept cl | apply KeptO.next

theorem execCollPackWindow_kept {P : State → Prop} (cl : Closed P) {s : State} (h : Kept P s) (e t : Nat) : KeptO P (execCollPackWindow e t s) := by
  unfold execCollPackWindow
  with_reducible repeat' first | assumption | apply collSend_kept cl | apply KeptO.next

theorem execForwardedClockReturn_kept {P : State → Prop} (cl : Closed P) {s : State} (h : Kept P s) (site d : Nat) : KeptO P (execForwardedClockReturn site d s) := by
  unfold execForwardedClockReturn
  with_reducible repeat' first | assumption | apply put_kept cl | apply KeptO.next | apply KeptO.ite | apply Kept.ite | (extract_lets +onlyGivenNames x; refine (fun (_ : Kept P x) => ?_ : Kept P x → _) ?_; clear_value x; on_goal 2 => unfold x) | (extract_lets +onlyGivenNames x; clear_value x)

theorem exec_kept {P : State → Prop} (cl : ClosedAll P) {s : State} (hk : Kept P s) (i : Instr) : KeptO P (exec i s) := by
  cases i with
  | registerWrite who addr bytes value => exact execRegisterWrite_kept cl hk who addr bytes value
  | discovery => exact execDiscovery_kept cl.1 hk
  | discoveryProbe site p => exact execDiscoveryProbe_kept cl.1 hk site p
  | discoveryCollectClose endTick => exact execDiscoveryCollectClose_kept cl hk endTick
  | meshLinkUp a b verA verB => exact execMeshLinkUp_kept cl.1 hk a b verA verB
  | discLogRead who bytes half => exact execDiscLogRead_kept cl.1 hk who bytes half
  | arrayNop site a => exact execArrayNop_kept cl.1 hk site a
  | loadw site a found => exact execLoadw_kept cl.1 hk site a found
  | stream site a => exact execStream_kept cl.1 hk site a
  | drain site a => exact execDrain_kept cl.1 hk site a
  | zero site a => exact execZero_kept cl.1 hk site a
  | setfmt site a => exact execSetfmt_kept cl.1 hk site a
  | loop site a => exact execLoop_kept cl.1 hk site a
  | arrayEnd site a => exact execArrayEnd_kept cl.1 hk site a
  | ucodeInvalidOpcode site a => exact execUcodeInvalidOpcode_kept cl.1 hk site a
  | arrayEntry site feed slot faults => exact execArrayEntry_kept cl.1 hk site feed slot faults
  | bankLoadDone site a => exact execBankLoadDone_kept cl.1 hk site a
  | drainRowRead site a => exact execDrainRowRead_kept cl.1 hk site a
  | accRowZero site a => exact execAccRowZero_kept cl.1 hk site a
  | outputRecordHandoff site row => exact execOutputRecordHandoff_kept cl hk site row
  | mxaThrottleWrite who site value => exact execMxaThrottleWrite_kept cl.1 hk who site value
  | mxaRowmapWrite who site value => exact execMxaRowmapWrite_kept cl.1 hk who site value
  | rerunGo who site a value => exact execRerunGo_kept cl.1 hk who site a value
  | rowGo who site value => exact execRowGo_kept cl.1 hk who site value
  | ucodeWrite who site j value => exact execUcodeWrite_kept cl.1 hk who site j value
  | vecNop site v f => exact execVecNop_kept cl.1 hk site v f
  | vecEnd site v f => exact execVecEnd_kept cl.1 hk site v f
  | fadd site v f => exact execFadd_kept cl.1 hk site v f
  | fsub site v f => exact execFsub_kept cl.1 hk site v f
  | fmul site v f => exact execFmul_kept cl.1 hk site v f
  | fma site v f => exact execFma_kept cl.1 hk site v f
  | fmin site v f => exact execFmin_kept cl.1 hk site v f
  | fmax site v f => exact execFmax_kept cl.1 hk site v f
  | funOp site v f => exact execFunOp_kept cl.1 hk site v f
  | ftr site v f => exact execFtr_kept cl.1 hk site v f
  | iadd site v f => exact execIadd_kept cl.1 hk site v f
  | isub site v f => exact execIsub_kept cl.1 hk site v f
  | imul site v f => exact execImul_kept cl.1 hk site v f
  | ilog site v f => exact execIlog_kept cl.1 hk site v f
  | cvt site v f => exact execCvt_kept cl.1 hk site v f
  | fcmp site v f => exact execFcmp_kept cl.1 hk site v f
  | icmp site v f => exact execIcmp_kept cl.1 hk site v f
  | sel site v f => exact execSel_kept cl.1 hk site v f
  | bcast site v f => exact execBcast_kept cl.1 hk site v f
  | perm site v f => exact execPerm_kept cl.1 hk site v f
  | lshift site v f => exact execLshift_kept cl.1 hk site v f
  | rsum site v f => exact execRsum_kept cl.1 hk site v f
  | rmax site v f => exact execRmax_kept cl.1 hk site v f
  | vld site v f => exact execVld_kept cl.1 hk site v f
  | vldsc site v f => exact execVldsc_kept cl.1 hk site v f
  | vst site v f => exact execVst_kept cl.1 hk site v f
  | exld site v f => exact execExld_kept cl.1 hk site v f
  | sli site v f => exact execSli_kept cl.1 hk site v f
  | sadd site v f => exact execSadd_kept cl.1 hk site v f
  | bnz site v f => exact execBnz_kept cl.1 hk site v f
  | jmp site v f => exact execJmp_kept cl.1 hk site v f
  | twait site v f => exact execTwait_kept cl.1 hk site v f
  | tsig site v f => exact execTsig_kept cl.1 hk site v f
  | vecInvalidOpcode site v f => exact execVecInvalidOpcode_kept cl.1 hk site v f
  | vcoGo who site v value => exact execVcoGo_kept cl.1 hk who site v value
  | vcoProgWrite site v j value => exact execVcoProgWrite_kept cl.1 hk site v j value
  | vcoModeWrite who site value => exact execVcoModeWrite_kept cl.1 hk who site value
  | ccoFwWrite who site c value => exact execCcoFwWrite_kept cl.1 hk who site c value
  | ccoBootTimeout site c => exact execCcoBootTimeout_kept cl.1 hk site c
  | ccoWdogKick who site c => exact execCcoWdogKick_kept cl.1 hk who site c
  | ccoWatchdogExpiry site c => exact execCcoWatchdogExpiry_kept cl.1 hk site c
  | ccoFatalWrite who site c value => exact execCcoFatalWrite_kept cl.1 hk who site c value
  | tcmUncorrectable site c itcm => exact execTcmUncorrectable_kept cl.1 hk site c itcm
  | ccoMbxInPush who site c value => exact execCcoMbxInPush_kept cl.1 hk who site c value
  | hubMessageEnqueue site c => exact execHubMessageEnqueue_kept cl.1 hk site c
  | mbxHeadRemove site c => exact execMbxHeadRemove_kept cl.1 hk site c
  | mbxSend site c dest => exact execMbxSend_kept cl.1 hk site c dest
  | ccoMbxOutPop who site c value => exact execCcoMbxOutPop_kept cl.1 hk who site c value
  | sweepFaultReport site unit => exact execSweepFaultReport_kept cl.1 hk site unit
  | sqDoorbell who q value => exact execSqDoorbell_kept cl.1 hk who q value
  | updraftDecision => exact execUpdraftDecision_kept cl.1 hk
  | passBegin site => exact execPassBegin_kept cl.1 hk site
  | sweepStart site => exact execSweepStart_kept cl.1 hk site
  | sweepDone site => exact execSweepDone_kept cl.1 hk site
  | passEnd => exact execPassEnd_kept cl.1 hk
  | passAbort site => exact execPassAbort_kept cl hk site
  | quiet site => exact execQuiet_kept cl.1 hk site
  | clear site => exact execClear_kept cl.1 hk site
  | empty site fails => exact execEmpty_kept cl hk site fails
  | drainStuckTimeout site => exact execDrainStuckTimeout_kept cl hk site
  | completionWrite q => exact execCompletionWrite_kept cl.1 hk q
  | sqEnable who q value => exact execSqEnable_kept cl.1 hk who q value
  | sqAbort who q => exact execSqAbort_kept cl.1 hk who q
  | sqFlush who q => exact execSqFlush_kept cl.1 hk who q
  | sqCqConfig who q base value => exact execSqCqConfig_kept cl.1 hk who q base value
  | cqHeadWrite who q value => exact execCqHeadWrite_kept cl.1 hk who q value
  | descriptorListAdmit who site value => exact execDescriptorListAdmit_kept cl.1 hk who site value
  | descriptorSourceStart site d => exact execDescriptorSourceStart_kept cl.1 hk site d
  | descriptorSinkStart site d => exact execDescriptorSinkStart_kept cl.1 hk site d
  | descriptorSinkComplete site d => exact execDescriptorSinkComplete_kept cl.1 hk site d
  | engineRun site d sink ecc => exact execEngineRun_kept cl hk site d sink ecc
  | dscMissTimeout site ch => exact execDscMissTimeout_kept cl.1 hk site ch
  | dscStall site => exact execDscStall_kept cl.1 hk site
  | gelatWriteCommit site writes => exact execGelatWriteCommit_kept cl hk site writes
  | scrubRead site w a => exact execScrubRead_kept cl.1 hk site w a
  | gltErrLogRead who site bytes half => exact execGltErrLogRead_kept cl.1 hk who site bytes half
  | gltRepairRetry who site => exact execGltRepairRetry_kept cl.1 hk who site
  | exitScrubDone site found fails => exact execExitScrubDone_kept cl hk site found fails
  | gelatInitDone site => exact execGelatInitDone_kept cl hk site
  | bhtWrite who site h k value => exact execBhtWrite_kept cl.1 hk who site h k value
  | hbmTrain stack r => exact execHbmTrain_kept cl.1 hk stack r
  | goldenPatrolRead stack e => exact execGoldenPatrolRead_kept cl.1 hk stack e
  | dpdGoldWrite who stack value => exact execDpdGoldWrite_kept cl.1 hk who stack value
  | gatherBlockRead node tag ei eb => exact execGatherBlockRead_kept cl.1 hk node tag ei eb
  | hubRwtWrite who e value => exact execHubRwtWrite_kept cl.1 hk who e value
  | hubRwtSync who value => exact execHubRwtSync_kept cl.1 hk who value
  | rwtSyncDone => exact execRwtSyncDone_kept cl.1 hk
  | routerHeadFlit node port p ce ue => exact execRouterHeadFlit_kept cl.1 hk node port p ce ue
  | read p ecc => exact execRead_kept cl.1 hk p ecc
  | write p => exact execWrite_kept cl hk p
  | mwrite node p => exact execMwrite_kept cl hk node p
  | msg p => exact execMsg_kept cl.1 hk p
  | rdata p => exact execRdata_kept cl.1 hk p
  | wack p => exact execWack_kept cl.1 hk p
  | contrib p => exact execContrib_kept cl hk p
  | mshDeadlock node port channel lane => exact execMshDeadlock_kept cl.1 hk node port channel lane
  | mshRspTimeout node tag => exact execMshRspTimeout_kept cl.1 hk node tag
  | mshRedTimeout site t seq => exact execMshRedTimeout_kept cl.1 hk site t seq
  | linkLossDetect site port answers => exact execLinkLossDetect_kept cl.1 hk site port answers
  | mshVerify who value => exact execMshVerify_kept cl.1 hk who value
  | widthToken site port good spares token => exact execWidthToken_kept cl.1 hk site port good spares token
  | widthTokenTimeout site port => exact execWidthTokenTimeout_kept cl.1 hk site port
  | routeTableWrite who node j value mcast => exact execRouteTableWrite_kept cl.1 hk who node j value mcast
  | treeEntryWrite who site t value => exact execTreeEntryWrite_kept cl.1 hk who site t value
  | redDrainWrite who site value => exact execRedDrainWrite_kept cl.1 hk who site value
  | mshEventRead who bytes half => exact execMshEventRead_kept cl.1 hk who bytes half
  | tileCompare site a => exact execTileCompare_kept cl hk site a
  | voteCprimeDone site => exact execVoteCprimeDone_kept cl hk site
  | voteDecide site => exact execVoteDecide_kept cl hk site
  | voteTimeout site => exact execVoteTimeout_kept cl hk site
  | sdgVoteLogRead who bytes half => exact execSdgVoteLogRead_kept cl.1 hk who bytes half
  | barRdSeqWrite who value => exact execBarRdSeqWrite_kept cl.1 hk who value
  | linkEnable who l value => exact execLinkEnable_kept cl.1 hk who l value
  | galRetrain who l => exact execGalRetrain_kept cl.1 hk who l
  | galePmaDone l => exact execGalePmaDone_kept cl.1 hk l
  | galePcsDone l => exact execGalePcsDone_kept cl.1 hk l
  | galeFlitLock l => exact execGaleFlitLock_kept cl.1 hk l
  | param l f peer => exact execParam_kept cl.1 hk l f peer
  | galeAttemptFail l => exact execGaleAttemptFail_kept cl.1 hk l
  | galeDownTimer l => exact execGaleDownTimer_kept cl.1 hk l
  | galeLinkLoss l signal am => exact execGaleLinkLoss_kept cl.1 hk l signal am
  | galeDataFlit l bytes => exact execGaleDataFlit_kept cl.1 hk l bytes
  | galeReplayTimeout l => exact execGaleReplayTimeout_kept cl.1 hk l
  | galeFecSecond l corrected uncorrectable => exact execGaleFecSecond_kept cl.1 hk l corrected uncorrectable
  | openMsg l p => exact execOpenMsg_kept cl.1 hk l p
  | closeMsg l p => exact execCloseMsg_kept cl.1 hk l p
  | ackMsg l p => exact execAckMsg_kept cl.1 hk l p
  | putMsg l p => exact execPutMsg_kept cl.1 hk l p
  | getReq l p => exact execGetReq_kept cl.1 hk l p
  | getResp l p => exact execGetResp_kept cl.1 hk l p
  | sendMsg l p => exact execSendMsg_kept cl.1 hk l p
  | collUp l p => exact execCollUp_kept cl.1 hk l p
  | collDown l p => exact execCollDown_kept cl.1 hk l p
  | keepalive l p => exact execKeepalive_kept cl.1 hk l p
  | conduitRto c st => exact execConduitRto_kept cl.1 hk c st
  | conduitOpenTimer c => exact execConduitOpenTimer_kept cl.1 hk c
  | conduitKeepaliveTimer c => exact execConduitKeepaliveTimer_kept cl.1 hk c
  | conduitDeadLimit c => exact execConduitDeadLimit_kept cl.1 hk c
  | conduitNolinkLimit c => exact execConduitNolinkLimit_kept cl.1 hk c
  | conduitRnrDelay c => exact execConduitRnrDelay_kept cl.1 hk c
  | conduitAckTimer c st => exact execConduitAckTimer_kept cl.1 hk c st
  | conduitCfgWrite who c reg value => exact execConduitCfgWrite_kept cl.1 hk who c reg value
  | conduitSendGo who c value => exact execConduitSendGo_kept cl.1 hk who c value
  | rxHeadWrite who c value => exact execRxHeadWrite_kept cl.1 hk who c value
  | galPanelWrite who value => exact execGalPanelWrite_kept cl.1 hk who value
  | collSlotWrite who e t k value => exact execCollSlotWrite_kept cl.1 hk who e t k value
  | collTimeout e t => exact execCollTimeout_kept cl.1 hk e t
  | moduleInsert k m => exact execModuleInsert_kept cl.1 hk k m
  | moduleRemove k => exact execModuleRemove_kept cl.1 hk k
  | moduleInterrupt k f => exact execModuleInterrupt_kept cl.1 hk k f
  | moduleAuthAnswer k cert sig page => exact execModuleAuthAnswer_kept cl.1 hk k cert sig page
  | moduleAuthTimeout k => exact execModuleAuthTimeout_kept cl.1 hk k
  | moduleReauthTimer k => exact execModuleReauthTimer_kept cl.1 hk k
  | moduleLifeRead k page => exact execModuleLifeRead_kept cl.1 hk k page
  | lenQuiesce who k => exact execLenQuiesce_kept cl.1 hk who k
  | lenResume who k => exact execLenResume_kept cl.1 hk who k
  | inputTurnOn => exact execInputTurnOn_kept cl.1 hk
  | inputTurnOff => exact execInputTurnOff_kept cl hk
  | lowInputWarning => exact execLowInputWarning_kept cl.1 hk
  | highInputWarning => exact execHighInputWarning_kept cl.1 hk
  | overvoltageTrip => exact execOvervoltageTrip_kept cl hk
  | pwrokRelease => exact execPwrokRelease_kept cl hk
  | barLoss b tripped => exact execBarLoss_kept cl.1 hk b tripped
  | barRestore b => exact execBarRestore_kept cl.1 hk b
  | barImbalanceCheck => exact execBarImbalanceCheck_kept cl.1 hk
  | inputBackstop => exact execInputBackstop_kept cl.1 hk
  | backstopRelease => exact execBackstopRelease_kept cl.1 hk
  | segmentOverload g => exact execSegmentOverload_kept cl.1 hk g
  | segmentOverloadRelease g => exact execSegmentOverloadRelease_kept cl.1 hk g
  | segmentOn g => exact execSegmentOn_kept cl hk g
  | segmentSoftstartTimeout g => exact execSegmentSoftstartTimeout_kept cl hk g
  | segmentTrip g cause => exact execSegmentTrip_kept cl hk g cause
  | lsrInputSwitchOpen node => exact execLsrInputSwitchOpen_kept cl hk node
  | senseFault node d => exact execSenseFault_kept cl.1 hk node d
  | domainUndervoltage node d => exact execDomainUndervoltage_kept cl.1 hk node d
  | domainOvervoltage node d => exact execDomainOvervoltage_kept cl hk node d
  | phaseFailure node d rail phases => exact execPhaseFailure_kept cl hk node d rail phases
  | domainOverCap node d => exact execDomainOverCap_kept cl.1 hk node d
  | lsrHot node => exact execLsrHot_kept cl.1 hk node
  | powerupApproval g => exact execPowerupApproval_kept cl.1 hk g
  | rampEndCheck node d ok => exact execRampEndCheck_kept cl hk node d ok
  | softstartRetry node d => exact execSoftstartRetry_kept cl.1 hk node d
  | powerupDeferredTimeout node d => exact execPowerupDeferredTimeout_kept cl.1 hk node d
  | meterSample m => exact execMeterSample_kept cl hk m
  | snapshotTimer => exact execSnapshotTimer_kept cl.1 hk
  | pwrSnap who value => exact execPwrSnap_kept cl.1 hk who value
  | pwrEventRead who bytes half => exact execPwrEventRead_kept cl.1 hk who bytes half
  | pwrInputMaxRead who bytes half => exact execPwrInputMaxRead_kept cl.1 hk who bytes half
  | sensorSample readings powers => exact execSensorSample_kept cl hk readings powers
  | thermalDemandStep site fall => exact execThermalDemandStep_kept cl.1 hk site fall
  | coolantSample r => exact execCoolantSample_kept cl hk r
  | emergencyEfuseCheck => exact execEmergencyEfuseCheck_kept cl hk
  | thmEmergClear who value => exact execThmEmergClear_kept cl.1 hk who value
  | clearSuspect who value => exact execClearSuspect_kept cl.1 hk who value
  | thmEventRead who bytes half => exact execThmEventRead_kept cl.1 hk who bytes half
  | updraftTick => exact execUpdraftTick_kept cl hk
  | sectorIdleGate => exact execSectorIdleGate_kept cl hk
  | refWindow edges => exact execRefWindow_kept cl.1 hk edges
  | holdoverExpiry => exact execHoldoverExpiry_kept cl hk
  | billowStart unlocked delays => exact execBillowStart_kept cl hk unlocked delays
  | clockEdgeLoss site d answers => exact execClockEdgeLoss_kept cl.1 hk site d answers
  | seamSlip site port => exact execSeamSlip_kept cl.1 hk site port
  | beaconSend => exact execBeaconSend_kept cl.1 hk
  | beacon site d launch hops own crcOk => exact execBeacon_kept cl.1 hk site d launch hops own crcOk
  | beaconLoss site => exact execBeaconLoss_kept cl.1 hk site
  | opChangeRequest who value => exact execOpChangeRequest_kept cl.1 hk who value
  | opSlewStart => exact execOpSlewStart_kept cl.1 hk
  | opSettleCheck unsettled => exact execOpSettleCheck_kept cl.1 hk unsettled
  | opLinkPause => exact execOpLinkPause_kept cl.1 hk
  | opRelock unlocked => exact execOpRelock_kept cl.1 hk unlocked
  | opDetectResume => exact execOpDetectResume_kept cl.1 hk
  | ptpSync port m => exact execPtpSync_kept cl.1 hk port m
  | ptpAnnounce port m dataset utc => exact execPtpAnnounce_kept cl.1 hk port m dataset utc
  | ptpDelayResp port m => exact execPtpDelayResp_kept cl.1 hk port m
  | ptpLoss => exact execPtpLoss_kept cl.1 hk
  | ptpEnable who value => exact execPtpEnable_kept cl.1 hk who value
  | dawnCrystalLoss => exact execDawnCrystalLoss_kept cl.1 hk
  | isbCountRead who bytes half => exact execIsbCountRead_kept cl.1 hk who bytes half
  | clkEventRead who bytes half => exact execClkEventRead_kept cl.1 hk who bytes half
  | imageLoad who => exact execImageLoad_kept cl.1 hk who
  | imageReadDone ues => exact execImageReadDone_kept cl.1 hk ues
  | imageCheckDone ues => exact execImageCheckDone_kept cl.1 hk ues
  | imageAbandon who => exact execImageAbandon_kept cl.1 hk who
  | arm node nak => exact execArm_kept cl.1 hk node nak
  | armAck node => exact execArmAck_kept cl.1 hk node
  | nak node code => exact execNak_kept cl.1 hk node code
  | armDecide => exact execArmDecide_kept cl.1 hk
  | confirm node => exact execConfirm_kept cl.1 hk node
  | abort node => exact execAbort_kept cl.1 hk node
  | commit lost ues => exact execCommit_kept cl hk lost ues
  | report node applied => exact execReport_kept cl.1 hk node applied
  | reportDeadline => exact execReportDeadline_kept cl.1 hk
  | powerOn => exact execPowerOn_kept cl hk
  | perstAssert => exact execPerstAssert_kept cl hk
  | perstLong => exact execPerstLong_kept cl hk
  | perstRelease => exact execPerstRelease_kept cl hk
  | resetRequest who value => exact execResetRequest_kept cl hk who value
  | hubWatchdogExpiry => exact execHubWatchdogExpiry_kept cl hk
  | hubFatal => exact execHubFatal_kept cl hk
  | startWindowExpiry => exact execStartWindowExpiry_kept cl hk
  | doldrumsExit who value => exact execDoldrumsExit_kept cl hk who value
  | resetStretchEnd => exact execResetStretchEnd_kept cl hk
  | rstoRelease => exact execRstoRelease_kept cl.1 hk
  | standbyStart => exact execStandbyStart_kept cl hk
  | powerStateRequest who value => exact execPowerStateRequest_kept cl.1 hk who value
  | transitionTimeout => exact execTransitionTimeout_kept cl.1 hk
  | retain site => exact execRetain_kept cl.1 hk site
  | resume site => exact execResume_kept cl.1 hk site
  | rstPark who value => exact execRstPark_kept cl.1 hk who value
  | fwBcast who value ues => exact execFwBcast_kept cl hk who value ues
  | fwUnicast who value => exact execFwUnicast_kept cl hk who value
  | fwStart who value => exact execFwStart_kept cl hk who value
  | fwRoundDone => exact execFwRoundDone_kept cl.1 hk
  | fwBlock site header data => exact execFwBlock_kept cl hk site header data
  | spareInitDone spare => exact execSpareInitDone_kept cl hk spare
  | spareCopyDone spare ues => exact execSpareCopyDone_kept cl hk spare ues
  | spareIn spare => exact execSpareIn_kept cl.1 hk spare
  | spareReady spare => exact execSpareReady_kept cl hk spare
  | spareReadyTimeout spare => exact execSpareReadyTimeout_kept cl hk spare
  | hostDone who spare => exact execHostDone_kept cl hk who spare
  | spareAbandon who spare => exact execSpareAbandon_kept cl hk who spare
  | hostLimitExpiry spare => exact execHostLimitExpiry_kept cl hk spare
  | spareLogRead who bytes half => exact execSpareLogRead_kept cl.1 hk who bytes half
  | pcieLinkUp speed width flit => exact execPcieLinkUp_kept cl.1 hk speed width flit
  | pcieLinkDown => exact execPcieLinkDown_kept cl.1 hk
  | busMasterEnableChange on => exact execBusMasterEnableChange_kept cl.1 hk on
  | hostReadCompletion tag ok data => exact execHostReadCompletion_kept cl hk tag ok data
  | hostReadTimeout tag => exact execHostReadTimeout_kept cl hk tag
  | bar4Access write offset n data poison => exact execBar4Access_kept cl.1 hk write offset n data poison
  | b4apWrite who j value => exact execB4apWrite_kept cl.1 hk who j value
  | irqHoldoffEnd v => exact execIrqHoldoffEnd_kept cl.1 hk v
  | msixUnmask w => exact execMsixUnmask_kept cl.1 hk w
  | mgmtRead port data => exact execMgmtRead_kept cl hk port data
  | mgmtWrite port data => exact execMgmtWrite_kept cl hk port data
  | mgmtKeyWrite who k value => exact execMgmtKeyWrite_kept cl.1 hk who k value
  | cperAck port data => exact execCperAck_kept cl.1 hk port data
  | cperResend seq => exact execCperResend_kept cl.1 hk seq
  | mgmtPortDown port => exact execMgmtPortDown_kept cl.1 hk port
  | mgmtPortUp port fec => exact execMgmtPortUp_kept cl.1 hk port fec
  | echoRequest port v6 dst data => exact execEchoRequest_kept cl.1 hk port v6 dst data
  | smbRead who value => exact execSmbRead_kept cl.1 hk who value
  | smbReadDone ok data => exact execSmbReadDone_kept cl.1 hk ok data
  | guestSidebandUp g block => exact execGuestSidebandUp_kept cl hk g block
  | guestSidebandTimeout g => exact execGuestSidebandTimeout_kept cl hk g
  | guestTrainDone g ok rate width => exact execGuestTrainDone_kept cl.1 hk g ok rate width
  | guestRetry who g value => exact execGuestRetry_kept cl hk who g value
  | guestEnableWrite who g value => exact execGuestEnableWrite_kept cl hk who g value
  | guestRdata g f => exact execGuestRdata_kept cl.1 hk g f
  | guestWack g tag err => exact execGuestWack_kept cl.1 hk g tag err
  | guestTempReport g temp => exact execGuestTempReport_kept cl hk g temp
  | guestTimeout g tag => exact execGuestTimeout_kept cl.1 hk g tag
  | guestLinkLoss g => exact execGuestLinkLoss_kept cl.1 hk g
  | guestRetrainTimer g => exact execGuestRetrainTimer_kept cl.1 hk g
  | registerRead who addr bytes => exact execRegisterRead_kept cl.1 hk who addr bytes
  | ccoLocalAccess site c a ecc => exact execCcoLocalAccess_kept cl hk site c a ecc
  | mtimecmpInterrupt site c => exact execMtimecmpInterrupt_kept cl.1 hk site c
  | ptpFollowUp port m => exact execPtpFollowUp_kept cl.1 hk port m
  | ptpDelayReqTimer => exact execPtpDelayReqTimer_kept cl.1 hk
  | dhcpReply port m => exact execDhcpReply_kept cl.1 hk port m
  | dhcpLeaseTimer port => exact execDhcpLeaseTimer_kept cl.1 hk port
  | arpRequest port target => exact execArpRequest_kept cl.1 hk port target
  | neighborDiscovery port m => exact execNeighborDiscovery_kept cl.1 hk port m
  | putMergeWindow c => exact execPutMergeWindow_kept cl.1 hk c
  | collPackWindow e t => exact execCollPackWindow_kept cl.1 hk e t
  | forwardedClockReturn site d => exact execForwardedClockReturn_kept cl.1 hk site d

theorem step_kept {P : State → Prop} (cl : ClosedAll P) {s : State} (c : Instr) (l : List Instr) (e : s.pending = c :: l) (h : Kept P { s with pending := l }) : KeptO P (step s) := by
  unfold step
  rw [e]
  exact exec_kept cl h c

end Sys2Proof.Machine
end

