-- ==== Sys2Proof/Laws/Frames.lean ====
section
/-! SUPPORT. Properties of states that the operations keep, as the lemmas of Laws/Kept.lean want them: what a command leaves alone where it touches neither
memory nor the Isobar count, and the canonical form. -/

namespace Sys2Proof.Machine

open Sys2Proof

/-- The queue, memory and the Isobar count stand as they do in s0. -/
def Still (s0 t : State) : Prop := t.pending = s0.pending ∧ t.memory = s0.memory ∧ t.isobar = s0.isobar

theorem still_refl (s : State) : Still s s := ⟨rfl, rfl, rfl⟩

theorem closed_still (s0 : State) : Closed (Still s0) where
  upd h := h
  setReg _ _ h := h

theorem mem_putKey {α : Type} (m : List (Nat × α)) (a : Nat) (x : α) {p : Nat × α} (h : p ∈ putKey m a x) : p = (a, x) ∨ p ∈ m := by
  induction m with
  | nil => simpa [putKey] using h
  | cons q m ih =>
    obtain ⟨k, v⟩ := q
    simp only [putKey] at h
    split at h
    · rcases List.mem_cons.mp h with h | h
      · exact .inl h
      · exact .inr (List.mem_cons_of_mem _ h)
    · split at h
      · rcases List.mem_cons.mp h with h | h
        · exact .inl h
        · exact .inr h
      · rcases List.mem_cons.mp h with h | h
        · exact .inr (h ▸ List.mem_cons_self)
        · rcases ih h with h | h
          · exact .inl h
          · exact .inr (List.mem_cons_of_mem _ h)

/-- A map in rising order stays so when a key is put. -/
theorem rising_putKey {α : Type} (m : List (Nat × α)) (a : Nat) (x : α) (h : Rising m) : Rising (putKey m a x) := by
  induction m with
  | nil => exact List.pairwise_singleton _ _
  | cons p m ih =>
    obtain ⟨k, v⟩ := p
    obtain ⟨h1, h2⟩ := List.pairwise_cons.mp h
    simp only [putKey]
    split
    · rename_i e; exact List.pairwise_cons.mpr ⟨fun q hq => e ▸ h1 q hq, h2⟩
    · split
      · rename_i e l
        refine List.pairwise_cons.mpr ⟨fun q hq => ?_, h⟩
        rcases List.mem_cons.mp hq with rfl | hq
        · exact l
        · exact Nat.lt_trans l (h1 q hq)
      · rename_i e l
        refine List.pairwise_cons.mpr ⟨fun q hq => ?_, ih h2⟩
        rcases mem_putKey _ _ _ hq with rfl | hq
        · exact Nat.lt_of_le_of_ne (Nat.le_of_not_gt l) e
        · exact h1 q hq

/-- A map in rising order stays so when entries are dropped. -/
theorem rising_filter {α : Type} (p : Nat × α → Bool) (m : List (Nat × α)) (h : Rising m) : Rising (m.filter p) := List.Pairwise.filter p h

/-- The queue stands as it does in s0, and the data are in canonical form. -/
def Formed (s0 t : State) : Prop := t.pending = s0.pending ∧ t.Canonical

theorem closedAll_formed (s0 : State) : ClosedAll (Formed s0) where
  upd h := h
  setReg _ _ h := ⟨h.1, h.2.1, rising_putKey _ _ _ h.2.2⟩
  isobar h := h
  memory h w := ⟨h.1, w h.2.1, h.2.2⟩
  regs h := ⟨h.1, h.2.1, rising_filter _ _ h.2.2⟩

end Sys2Proof.Machine
end

