-- ==== Sys2Proof/Laws/State.lean ====
section
/-! SUPPORT. The small lemmas of State: maps by key, the bits of a register, what a read of a register gives after a write, and what each basic update
leaves alone, one lemma per field. No later proof unfolds a record update. -/

namespace Sys2Proof.Machine

open Sys2Proof

/-! ## Maps by key -/

@[simp] theorem look_putKey_same {α : Type} (m : List (Nat × α)) (a : Nat) (x : α) : look (putKey m a x) a = some x := by
  induction m with
  | nil => simp [putKey, look]
  | cons p m ih =>
    obtain ⟨k, v⟩ := p
    simp only [putKey]
    split
    · simp [look]
    · split
      · simp [look]
      · simp [look, *]

theorem look_putKey_other {α : Type} (m : List (Nat × α)) {a b : Nat} (x : α) (h : b ≠ a) : look (putKey m a x) b = look m b := by
  induction m with
  | nil => simp [putKey, look, Ne.symm h]
  | cons p m ih =>
    obtain ⟨k, v⟩ := p
    simp only [putKey]
    split
    · subst k; simp [look, Ne.symm h]
    · split
      · simp [look, Ne.symm h]
      · simp [look, ih]

/-! ## Bits of a register -/

theorem getLsbD_fieldMask (hi lo i : Nat) : (fieldMask hi lo).getLsbD i = (decide (i < 64) && decide (lo ≤ i) && decide (i < hi + 1)) := by
  simp only [fieldMask, BitVec.getLsbD_shiftLeft, BitVec.getLsbD_setWidth, BitVec.getLsbD_allOnes]
  by_cases h : i < 64
  · by_cases k : lo ≤ i
    · have : i - lo < 64 := by omega
      by_cases l : i < hi + 1
      · have : i - lo < hi + 1 - lo := by omega
        simp [*]
      · have : ¬ i - lo < hi + 1 - lo := by omega
        simp [h, k, l, this]
    · have l : i < lo := by omega
      simp [h, k, l]
  · simp [h]

theorem getLsbD_withField (v : Word) (hi lo x i : Nat) : (withField v hi lo x).getLsbD i =
    (decide (i < 64) && if lo ≤ i ∧ i < hi + 1 then x.testBit (i - lo) else v.getLsbD i) := by
  simp only [withField, BitVec.getLsbD_or, BitVec.getLsbD_and, BitVec.getLsbD_not, getLsbD_fieldMask, BitVec.getLsbD_shiftLeft,
    BitVec.getLsbD_setWidth, BitVec.getLsbD_ofNat]
  by_cases h : i < 64
  · by_cases k : lo ≤ i
    · by_cases l : i < hi + 1
      · have : i - lo < hi + 1 - lo := by omega
        have : i - lo < 64 := by omega
        simp [Nat.not_lt.mpr k, *]
      · have : ¬ i - lo < hi + 1 - lo := by omega
        simp [h, k, l, this]
    · have l : i < lo := by omega
      simp [h, k, l]
  · have : ¬ i < 64 := h
    simp [h, BitVec.getLsbD_of_ge v i (by omega)]

/-- The field that was written reads what was written, reduced to its width. -/
theorem fieldOf_withField_same (v : Word) {hi lo : Nat} (x : Nat) (h : hi < 64) :
    fieldOf (withField v hi lo x) hi lo = x % 2 ^ (hi + 1 - lo) := by
  apply Nat.eq_of_testBit_eq
  intro i
  rw [fieldOf, BitVec.testBit_toNat, BitVec.getLsbD_extractLsb', getLsbD_withField, Nat.testBit_mod_two_pow]
  by_cases k : i < hi + 1 - lo
  · have : lo + i < 64 := by omega
    have : lo + i < hi + 1 := by omega
    simp [*]
  · simp [k]

/-- A field with no bit in common with the one written is unchanged. -/
theorem fieldOf_withField_other (v : Word) {hi lo hi' lo' : Nat} (x : Nat) (h : hi' < 64) (d : hi < lo' ∨ hi' < lo) :
    fieldOf (withField v hi lo x) hi' lo' = fieldOf v hi' lo' := by
  apply Nat.eq_of_testBit_eq
  intro i
  rw [fieldOf, fieldOf, BitVec.testBit_toNat, BitVec.testBit_toNat, BitVec.getLsbD_extractLsb', BitVec.getLsbD_extractLsb', getLsbD_withField]
  by_cases k : i < hi' + 1 - lo'
  · have h1 : lo' + i < 64 := by omega
    have h2 : ¬ (lo ≤ lo' + i ∧ lo' + i < hi + 1) := by omega
    rw [if_neg h2]
    simp [k, h1]
  · simp [k]

/-! ## Reads after writes -/

@[simp] theorem reg_setReg_same (s : State) (a : Nat) (w : Word) : (s.setReg a w).reg a = w := by
  simp [State.reg, State.setReg]

theorem reg_setReg_other (s : State) {a b : Nat} (w : Word) (h : b ≠ a) : (s.setReg a w).reg b = s.reg b := by
  simp [State.reg, State.setReg, look_putKey_other _ _ h]

theorem reg_put_other (s : State) (l : Loc) (n : Nat) {b : Nat} (h : b ≠ l.addr) : (s.put l n).reg b = s.reg b :=
  reg_setReg_other _ _ h

theorem reg_put_same (s : State) (l : Loc) (n : Nat) : (s.put l n).reg l.addr = withField (s.reg l.addr) l.hi l.lo n :=
  reg_setReg_same _ _ _

/-- A field reads what was put there, reduced to its width. -/
theorem get_put_same (s : State) (l : Loc) (n : Nat) (h : l.hi < 64) : (s.put l n).get l = n % 2 ^ (l.hi + 1 - l.lo) := by
  rw [State.get, reg_put_same, fieldOf_withField_same _ _ h]

/-- A field of another register is unchanged. -/
theorem get_put_other (s : State) {l m : Loc} (n : Nat) (h : m.addr ≠ l.addr) : (s.put l n).get m = s.get m := by
  rw [State.get, State.get, reg_put_other _ _ _ h]

/-- A field with no bit in common with the one put is unchanged. -/
theorem get_put_disjoint (s : State) {l m : Loc} (n : Nat) (h : m.hi < 64) (d : l.hi < m.lo ∨ m.hi < l.lo) : (s.put l n).get m = s.get m := by
  by_cases k : m.addr = l.addr
  · rw [State.get, State.get, k, reg_put_same, fieldOf_withField_other _ _ h d]
  · exact get_put_other _ _ k

/-! ## What the basic updates leave alone -/

@[simp] theorem setReg_pending (s : State) (a : Nat) (w : Word) : (s.setReg a w).pending = s.pending := rfl
@[simp] theorem setReg_isobar (s : State) (a : Nat) (w : Word) : (s.setReg a w).isobar = s.isobar := rfl
@[simp] theorem setReg_logs (s : State) (a : Nat) (w : Word) : (s.setReg a w).logs = s.logs := rfl
@[simp] theorem setReg_out (s : State) (a : Nat) (w : Word) : (s.setReg a w).out = s.out := rfl
@[simp] theorem setReg_fresh (s : State) (a : Nat) (w : Word) : (s.setReg a w).fresh = s.fresh := rfl
@[simp] theorem setReg_baro (s : State) (a : Nat) (w : Word) : (s.setReg a w).baro = s.baro := rfl
@[simp] theorem setReg_retire (s : State) (a : Nat) (w : Word) : (s.setReg a w).retire = s.retire := rfl
@[simp] theorem setReg_retired (s : State) (a : Nat) (w : Word) : (s.setReg a w).retired = s.retired := rfl
@[simp] theorem setReg_arrays (s : State) (a : Nat) (w : Word) : (s.setReg a w).arrays = s.arrays := rfl
@[simp] theorem setReg_vectors (s : State) (a : Nat) (w : Word) : (s.setReg a w).vectors = s.vectors := rfl
@[simp] theorem setReg_controls (s : State) (a : Nat) (w : Word) : (s.setReg a w).controls = s.controls := rfl
@[simp] theorem setReg_replays (s : State) (a : Nat) (w : Word) : (s.setReg a w).replays = s.replays := rfl
@[simp] theorem setReg_votes (s : State) (a : Nat) (w : Word) : (s.setReg a w).votes = s.votes := rfl
@[simp] theorem setReg_arrayRetire (s : State) (a : Nat) (w : Word) : (s.setReg a w).arrayRetire = s.arrayRetire := rfl
@[simp] theorem setReg_dies (s : State) (a : Nat) (w : Word) : (s.setReg a w).dies = s.dies := rfl
@[simp] theorem setReg_pass (s : State) (a : Nat) (w : Word) : (s.setReg a w).pass = s.pass := rfl
@[simp] theorem setReg_completions (s : State) (a : Nat) (w : Word) : (s.setReg a w).completions = s.completions := rfl
@[simp] theorem setReg_phases (s : State) (a : Nat) (w : Word) : (s.setReg a w).phases = s.phases := rfl
@[simp] theorem setReg_slots (s : State) (a : Nat) (w : Word) : (s.setReg a w).slots = s.slots := rfl
@[simp] theorem setReg_memory (s : State) (a : Nat) (w : Word) : (s.setReg a w).memory = s.memory := rfl
@[simp] theorem setReg_poison (s : State) (a : Nat) (w : Word) : (s.setReg a w).poison = s.poison := rfl
@[simp] theorem setReg_gelats (s : State) (a : Nat) (w : Word) : (s.setReg a w).gelats = s.gelats := rfl
@[simp] theorem setReg_hbms (s : State) (a : Nat) (w : Word) : (s.setReg a w).hbms = s.hbms := rfl
@[simp] theorem setReg_rwtCache (s : State) (a : Nat) (w : Word) : (s.setReg a w).rwtCache = s.rwtCache := rfl
@[simp] theorem setReg_rwtStale (s : State) (a : Nat) (w : Word) : (s.setReg a w).rwtStale = s.rwtStale := rfl
@[simp] theorem setReg_requests (s : State) (a : Nat) (w : Word) : (s.setReg a w).requests = s.requests := rfl
@[simp] theorem setReg_partials (s : State) (a : Nat) (w : Word) : (s.setReg a w).partials = s.partials := rfl
@[simp] theorem setReg_redWait (s : State) (a : Nat) (w : Word) : (s.setReg a w).redWait = s.redWait := rfl
@[simp] theorem setReg_links (s : State) (a : Nat) (w : Word) : (s.setReg a w).links = s.links := rfl
@[simp] theorem setReg_verifyPending (s : State) (a : Nat) (w : Word) : (s.setReg a w).verifyPending = s.verifyPending := rfl
@[simp] theorem setReg_disc (s : State) (a : Nat) (w : Word) : (s.setReg a w).disc = s.disc := rfl
@[simp] theorem setReg_image (s : State) (a : Nat) (w : Word) : (s.setReg a w).image = s.image := rfl
@[simp] theorem setReg_rst (s : State) (a : Nat) (w : Word) : (s.setReg a w).rst = s.rst := rfl
@[simp] theorem setReg_trans (s : State) (a : Nat) (w : Word) : (s.setReg a w).trans = s.trans := rfl
@[simp] theorem setReg_gale (s : State) (a : Nat) (w : Word) : (s.setReg a w).gale = s.gale := rfl
@[simp] theorem setReg_conduits (s : State) (a : Nat) (w : Word) : (s.setReg a w).conduits = s.conduits := rfl
@[simp] theorem setReg_colls (s : State) (a : Nat) (w : Word) : (s.setReg a w).colls = s.colls := rfl
@[simp] theorem setReg_modules (s : State) (a : Nat) (w : Word) : (s.setReg a w).modules = s.modules := rfl
@[simp] theorem setReg_power (s : State) (a : Nat) (w : Word) : (s.setReg a w).power = s.power := rfl
@[simp] theorem setReg_demands (s : State) (a : Nat) (w : Word) : (s.setReg a w).demands = s.demands := rfl
@[simp] theorem setReg_thermal (s : State) (a : Nat) (w : Word) : (s.setReg a w).thermal = s.thermal := rfl
@[simp] theorem setReg_updraft (s : State) (a : Nat) (w : Word) : (s.setReg a w).updraft = s.updraft := rfl
@[simp] theorem setReg_guests (s : State) (a : Nat) (w : Word) : (s.setReg a w).guests = s.guests := rfl
@[simp] theorem setReg_spares (s : State) (a : Nat) (w : Word) : (s.setReg a w).spares = s.spares := rfl
@[simp] theorem setReg_clock (s : State) (a : Nat) (w : Word) : (s.setReg a w).clock = s.clock := rfl
@[simp] theorem setReg_commit (s : State) (a : Nat) (w : Word) : (s.setReg a w).commit = s.commit := rfl
@[simp] theorem setReg_fw (s : State) (a : Nat) (w : Word) : (s.setReg a w).fw = s.fw := rfl
@[simp] theorem setReg_host (s : State) (a : Nat) (w : Word) : (s.setReg a w).host = s.host := rfl
@[simp] theorem setReg_mgmt (s : State) (a : Nat) (w : Word) : (s.setReg a w).mgmt = s.mgmt := rfl

@[simp] theorem put_pending (s : State) (l : Loc) (n : Nat) : (s.put l n).pending = s.pending := rfl
@[simp] theorem put_isobar (s : State) (l : Loc) (n : Nat) : (s.put l n).isobar = s.isobar := rfl
@[simp] theorem put_logs (s : State) (l : Loc) (n : Nat) : (s.put l n).logs = s.logs := rfl
@[simp] theorem put_out (s : State) (l : Loc) (n : Nat) : (s.put l n).out = s.out := rfl
@[simp] theorem put_fresh (s : State) (l : Loc) (n : Nat) : (s.put l n).fresh = s.fresh := rfl
@[simp] theorem put_baro (s : State) (l : Loc) (n : Nat) : (s.put l n).baro = s.baro := rfl
@[simp] theorem put_retire (s : State) (l : Loc) (n : Nat) : (s.put l n).retire = s.retire := rfl
@[simp] theorem put_retired (s : State) (l : Loc) (n : Nat) : (s.put l n).retired = s.retired := rfl
@[simp] theorem put_arrays (s : State) (l : Loc) (n : Nat) : (s.put l n).arrays = s.arrays := rfl
@[simp] theorem put_vectors (s : State) (l : Loc) (n : Nat) : (s.put l n).vectors = s.vectors := rfl
@[simp] theorem put_controls (s : State) (l : Loc) (n : Nat) : (s.put l n).controls = s.controls := rfl
@[simp] theorem put_replays (s : State) (l : Loc) (n : Nat) : (s.put l n).replays = s.replays := rfl
@[simp] theorem put_votes (s : State) (l : Loc) (n : Nat) : (s.put l n).votes = s.votes := rfl
@[simp] theorem put_arrayRetire (s : State) (l : Loc) (n : Nat) : (s.put l n).arrayRetire = s.arrayRetire := rfl
@[simp] theorem put_dies (s : State) (l : Loc) (n : Nat) : (s.put l n).dies = s.dies := rfl
@[simp] theorem put_pass (s : State) (l : Loc) (n : Nat) : (s.put l n).pass = s.pass := rfl
@[simp] theorem put_completions (s : State) (l : Loc) (n : Nat) : (s.put l n).completions = s.completions := rfl
@[simp] theorem put_phases (s : State) (l : Loc) (n : Nat) : (s.put l n).phases = s.phases := rfl
@[simp] theorem put_slots (s : State) (l : Loc) (n : Nat) : (s.put l n).slots = s.slots := rfl
@[simp] theorem put_memory (s : State) (l : Loc) (n : Nat) : (s.put l n).memory = s.memory := rfl
@[simp] theorem put_poison (s : State) (l : Loc) (n : Nat) : (s.put l n).poison = s.poison := rfl
@[simp] theorem put_gelats (s : State) (l : Loc) (n : Nat) : (s.put l n).gelats = s.gelats := rfl
@[simp] theorem put_hbms (s : State) (l : Loc) (n : Nat) : (s.put l n).hbms = s.hbms := rfl
@[simp] theorem put_rwtCache (s : State) (l : Loc) (n : Nat) : (s.put l n).rwtCache = s.rwtCache := rfl
@[simp] theorem put_rwtStale (s : State) (l : Loc) (n : Nat) : (s.put l n).rwtStale = s.rwtStale := rfl
@[simp] theorem put_requests (s : State) (l : Loc) (n : Nat) : (s.put l n).requests = s.requests := rfl
@[simp] theorem put_partials (s : State) (l : Loc) (n : Nat) : (s.put l n).partials = s.partials := rfl
@[simp] theorem put_redWait (s : State) (l : Loc) (n : Nat) : (s.put l n).redWait = s.redWait := rfl
@[simp] theorem put_links (s : State) (l : Loc) (n : Nat) : (s.put l n).links = s.links := rfl
@[simp] theorem put_verifyPending (s : State) (l : Loc) (n : Nat) : (s.put l n).verifyPending = s.verifyPending := rfl
@[simp] theorem put_disc (s : State) (l : Loc) (n : Nat) : (s.put l n).disc = s.disc := rfl
@[simp] theorem put_image (s : State) (l : Loc) (n : Nat) : (s.put l n).image = s.image := rfl
@[simp] theorem put_rst (s : State) (l : Loc) (n : Nat) : (s.put l n).rst = s.rst := rfl
@[simp] theorem put_trans (s : State) (l : Loc) (n : Nat) : (s.put l n).trans = s.trans := rfl
@[simp] theorem put_gale (s : State) (l : Loc) (n : Nat) : (s.put l n).gale = s.gale := rfl
@[simp] theorem put_conduits (s : State) (l : Loc) (n : Nat) : (s.put l n).conduits = s.conduits := rfl
@[simp] theorem put_colls (s : State) (l : Loc) (n : Nat) : (s.put l n).colls = s.colls := rfl
@[simp] theorem put_modules (s : State) (l : Loc) (n : Nat) : (s.put l n).modules = s.modules := rfl
@[simp] theorem put_power (s : State) (l : Loc) (n : Nat) : (s.put l n).power = s.power := rfl
@[simp] theorem put_demands (s : State) (l : Loc) (n : Nat) : (s.put l n).demands = s.demands := rfl
@[simp] theorem put_thermal (s : State) (l : Loc) (n : Nat) : (s.put l n).thermal = s.thermal := rfl
@[simp] theorem put_updraft (s : State) (l : Loc) (n : Nat) : (s.put l n).updraft = s.updraft := rfl
@[simp] theorem put_guests (s : State) (l : Loc) (n : Nat) : (s.put l n).guests = s.guests := rfl
@[simp] theorem put_spares (s : State) (l : Loc) (n : Nat) : (s.put l n).spares = s.spares := rfl
@[simp] theorem put_clock (s : State) (l : Loc) (n : Nat) : (s.put l n).clock = s.clock := rfl
@[simp] theorem put_commit (s : State) (l : Loc) (n : Nat) : (s.put l n).commit = s.commit := rfl
@[simp] theorem put_fw (s : State) (l : Loc) (n : Nat) : (s.put l n).fw = s.fw := rfl
@[simp] theorem put_host (s : State) (l : Loc) (n : Nat) : (s.put l n).host = s.host := rfl
@[simp] theorem put_mgmt (s : State) (l : Loc) (n : Nat) : (s.put l n).mgmt = s.mgmt := rfl

@[simp] theorem send_pending (s : State) (m : Sent) : (s.send m).pending = s.pending := rfl
@[simp] theorem send_isobar (s : State) (m : Sent) : (s.send m).isobar = s.isobar := rfl
@[simp] theorem send_regs (s : State) (m : Sent) : (s.send m).regs = s.regs := rfl
@[simp] theorem send_logs (s : State) (m : Sent) : (s.send m).logs = s.logs := rfl
@[simp] theorem send_fresh (s : State) (m : Sent) : (s.send m).fresh = s.fresh := rfl
@[simp] theorem send_baro (s : State) (m : Sent) : (s.send m).baro = s.baro := rfl
@[simp] theorem send_retire (s : State) (m : Sent) : (s.send m).retire = s.retire := rfl
@[simp] theorem send_retired (s : State) (m : Sent) : (s.send m).retired = s.retired := rfl
@[simp] theorem send_arrays (s : State) (m : Sent) : (s.send m).arrays = s.arrays := rfl
@[simp] theorem send_vectors (s : State) (m : Sent) : (s.send m).vectors = s.vectors := rfl
@[simp] theorem send_controls (s : State) (m : Sent) : (s.send m).controls = s.controls := rfl
@[simp] theorem send_replays (s : State) (m : Sent) : (s.send m).replays = s.replays := rfl
@[simp] theorem send_votes (s : State) (m : Sent) : (s.send m).votes = s.votes := rfl
@[simp] theorem send_arrayRetire (s : State) (m : Sent) : (s.send m).arrayRetire = s.arrayRetire := rfl
@[simp] theorem send_dies (s : State) (m : Sent) : (s.send m).dies = s.dies := rfl
@[simp] theorem send_pass (s : State) (m : Sent) : (s.send m).pass = s.pass := rfl
@[simp] theorem send_completions (s : State) (m : Sent) : (s.send m).completions = s.completions := rfl
@[simp] theorem send_phases (s : State) (m : Sent) : (s.send m).phases = s.phases := rfl
@[simp] theorem send_slots (s : State) (m : Sent) : (s.send m).slots = s.slots := rfl
@[simp] theorem send_memory (s : State) (m : Sent) : (s.send m).memory = s.memory := rfl
@[simp] theorem send_poison (s : State) (m : Sent) : (s.send m).poison = s.poison := rfl
@[simp] theorem send_gelats (s : State) (m : Sent) : (s.send m).gelats = s.gelats := rfl
@[simp] theorem send_hbms (s : State) (m : Sent) : (s.send m).hbms = s.hbms := rfl
@[simp] theorem send_rwtCache (s : State) (m : Sent) : (s.send m).rwtCache = s.rwtCache := rfl
@[simp] theorem send_rwtStale (s : State) (m : Sent) : (s.send m).rwtStale = s.rwtStale := rfl
@[simp] theorem send_requests (s : State) (m : Sent) : (s.send m).requests = s.requests := rfl
@[simp] theorem send_partials (s : State) (m : Sent) : (s.send m).partials = s.partials := rfl
@[simp] theorem send_redWait (s : State) (m : Sent) : (s.send m).redWait = s.redWait := rfl
@[simp] theorem send_links (s : State) (m : Sent) : (s.send m).links = s.links := rfl
@[simp] theorem send_verifyPending (s : State) (m : Sent) : (s.send m).verifyPending = s.verifyPending := rfl
@[simp] theorem send_disc (s : State) (m : Sent) : (s.send m).disc = s.disc := rfl
@[simp] theorem send_image (s : State) (m : Sent) : (s.send m).image = s.image := rfl
@[simp] theorem send_rst (s : State) (m : Sent) : (s.send m).rst = s.rst := rfl
@[simp] theorem send_trans (s : State) (m : Sent) : (s.send m).trans = s.trans := rfl
@[simp] theorem send_gale (s : State) (m : Sent) : (s.send m).gale = s.gale := rfl
@[simp] theorem send_conduits (s : State) (m : Sent) : (s.send m).conduits = s.conduits := rfl
@[simp] theorem send_colls (s : State) (m : Sent) : (s.send m).colls = s.colls := rfl
@[simp] theorem send_modules (s : State) (m : Sent) : (s.send m).modules = s.modules := rfl
@[simp] theorem send_power (s : State) (m : Sent) : (s.send m).power = s.power := rfl
@[simp] theorem send_demands (s : State) (m : Sent) : (s.send m).demands = s.demands := rfl
@[simp] theorem send_thermal (s : State) (m : Sent) : (s.send m).thermal = s.thermal := rfl
@[simp] theorem send_updraft (s : State) (m : Sent) : (s.send m).updraft = s.updraft := rfl
@[simp] theorem send_guests (s : State) (m : Sent) : (s.send m).guests = s.guests := rfl
@[simp] theorem send_spares (s : State) (m : Sent) : (s.send m).spares = s.spares := rfl
@[simp] theorem send_clock (s : State) (m : Sent) : (s.send m).clock = s.clock := rfl
@[simp] theorem send_commit (s : State) (m : Sent) : (s.send m).commit = s.commit := rfl
@[simp] theorem send_fw (s : State) (m : Sent) : (s.send m).fw = s.fw := rfl
@[simp] theorem send_host (s : State) (m : Sent) : (s.send m).host = s.host := rfl
@[simp] theorem send_mgmt (s : State) (m : Sent) : (s.send m).mgmt = s.mgmt := rfl

@[simp] theorem reg_send (s : State) (m : Sent) (a : Nat) : (s.send m).reg a = s.reg a := rfl
@[simp] theorem get_send (s : State) (m : Sent) (l : Loc) : (s.send m).get l = s.get l := rfl
@[simp] theorem flag_send (s : State) (m : Sent) (l : Loc) : (s.send m).flag l = s.flag l := rfl
@[simp] theorem send_out (s : State) (m : Sent) : (s.send m).out = m :: s.out := rfl

end Sys2Proof.Machine
end

