-- ==== Sys2Proof/Tests/Slice0.lean ====
section
/-! SUPPORT. Tests: for each obligation that has hypotheses a concrete state and operands that meet them, clause by clause and with boundary
values; an ill-formed command for each check of WellFormed; and a few single steps and worked examples with values from the spec. -/

namespace Sys2Proof.Tests

open Sys2Proof Sys2Proof.Machine

set_option Elab.async false

/-! ## States for the tests -/

/-- The reset state with fields of registers set. -/
def withFields (l : List (Loc × Nat)) : State := l.foldl (fun s p => s.put p.1 p.2) {}

/-- The panel in SERVING with discovery done and the stack of site 3 present and powered, with further register fields set. -/
def panel (l : List (Loc × Nat)) : State :=
  withFields ([(RST_STATUS.PSTATE, 4), (HUB_PASS.STATE, 0), (HUB_DISC_STATUS.DONE, 1), (siteOkBit 3, 1)] ++ (below 6).map (fun d => (domainLoc 3 d, 3)) ++ l)

/-- The panel with nothing further set. -/
def ready : State := panel []

/-- Array 0 of site 3 stands in RUN at PC 0, whose microcode word is w. -/
def arrayAt (w : Nat) (x : ArrayState) (l : List (Loc × Nat)) : State :=
  { panel ([(MXA_STATUS.STATE 3 0, 1), (⟨MXA_UCODE.REG 3 0, 63, 0⟩, w)] ++ l) with arrays := [(arrayKey 3 0, x)] }

/-- Vector core 0 of site 3 stands in RUN at PC 0, whose word is w. -/
def vectorAt (w : Nat) : State :=
  { panel [(VCO_STATUS.STATE 3 0, 1), (VCO_MODE.PAIRED 3, 0)] with vectors := [(vectorKey 3 0, { prog := [(0, word w)] })] }

/-- Control core 0 of site 3 is READY. -/
def coreAt (x : ControlState) : State := { panel [(CCO_STATUS.STATE 3 0, 2)] with controls := [(controlKey 3 0, x)] }

/-- A descriptor of one run of n bytes from srcT to dstT. -/
def descOf (srcT dstT n : Nat) : Desc :=
  { srcT := srcT, dstT := dstT, ndim := 1, after := false, early := false, sv := 0, sarg := 0, darg := 0, afmt := 1, mxa := false, ch := 0, rsv := false,
    shandle := 0, saddr := 0, dhandle := 0, daddr := 0, counts := [n], cvt := 0, swait := 0, dwait := 0, signal := 0, sstrides := [], dstrides := [] }

/-- Site 3 with one stream. -/
def dieAt (x : Stream) (l : List (Loc × Nat)) : State := { panel l with dies := [(3, { streams := [x], sweepRunning := true })] }

/-- An open site takes the host's access at every address. -/
theorem siteOpen_all (s : State) (site : Nat) (h1 : s.flag HUB_DISC_STATUS.DONE = true) (h2 : s.powered site = true)
    (h3 : s.retired.contains site = false) (h4 : s.spareWaits site = false) (a : Nat) : s.siteOpen .host a site = true := by
  unfold State.siteOpen State.siteDark
  rw [h1, h2, h3, h4]
  simp

/-! ## Well-formedness -/

/-- validStack, validNodeNo, validArray, validVector, validCore, validConduit, validQueue, validLink, validStream: each admits the value at its bound and refuses the one beyond. -/
theorem test_wellFormed_0 :
    [.quiet 168, .armAck 212, .stream 3 17, .fadd 3 3 .none, .ccoBootTimeout 3 1, .conduitOpenTimer 511, .completionWrite 3, .galePmaDone 95, .conduitRto 0 2].map wellFormed = List.replicate 9 true ∧
    [.quiet 84, .armAck 213, .stream 3 18, .fadd 3 4 .none, .ccoBootTimeout 3 2, .conduitOpenTimer 512, .completionWrite 4, .galePmaDone 96, .conduitRto 0 3].map wellFormed = List.replicate 9 false := by
  decide +kernel

/-- validTree, validEdge, validWindow, validHbm, validHandle, validBhtWord, validRow, validSize, validHalf: each admits the value at its bound and refuses the one beyond. -/
theorem test_wellFormed_1 :
    [.collTimeout 0 63, .collTimeout 23 0, .hubRwtWrite .host 4095 0, .dpdGoldWrite .host 31 0, .bhtWrite .host 3 255 0 0, .bhtWrite .host 3 0 3 0, .outputRecordHandoff 3 1, .discLogRead .host 8 0, .discLogRead .host 4 1].map wellFormed = List.replicate 9 true ∧
    [.collTimeout 0 64, .collTimeout 24 0, .hubRwtWrite .host 4096 0, .dpdGoldWrite .host 32 0, .bhtWrite .host 3 256 0 0, .bhtWrite .host 3 0 4 0, .outputRecordHandoff 3 2, .discLogRead .host 9 0, .discLogRead .host 8 1].map wellFormed = List.replicate 9 false := by
  decide +kernel

/-- validChannel, validDest, validSegment, validGuest, validRouterPort, validMgmtPort, validModule, validCollWord, validKeyWord: each admits the value at its bound and refuses the one beyond. -/
theorem test_wellFormed_2 :
    [.dscMissTimeout 3 3, .mbxSend 3 0 255, .segmentOn 20, .guestLinkLoss 3, .widthTokenTimeout 3 11, .mgmtPortDown 1, .moduleRemove 11, .collSlotWrite .host 0 0 3 0, .mgmtKeyWrite .host 3 0].map wellFormed = List.replicate 9 true ∧
    [.dscMissTimeout 3 4, .mbxSend 3 0 256, .segmentOn 21, .guestLinkLoss 4, .widthTokenTimeout 3 12, .mgmtPortDown 2, .moduleRemove 12, .collSlotWrite .host 0 0 4 0, .mgmtKeyWrite .host 4 0].map wellFormed = List.replicate 9 false := by
  decide +kernel

/-- validDirection, validDomain, validLane, validBar, validUcode, validProg, validRoute, validAperture, validCndReg: each admits the value at its bound and refuses the one beyond. -/
theorem test_wellFormed_3 :
    [.clockEdgeLoss 3 3 true, .senseFault 3 5, .mshDeadlock 3 0 0 1, .barRestore 1, .ucodeWrite .host 3 511 0, .vcoProgWrite 3 0 4095 0, .routeTableWrite .host 3 15 0 true, .b4apWrite .host 15 0, .conduitCfgWrite .host 0 3 0].map wellFormed = List.replicate 9 true ∧
    [.clockEdgeLoss 3 4 true, .senseFault 3 6, .mshDeadlock 3 0 0 2, .barRestore 2, .ucodeWrite .host 3 512 0, .vcoProgWrite 3 0 4096 0, .routeTableWrite .host 3 0 0 true, .b4apWrite .host 16 0, .conduitCfgWrite .host 0 4 0].map wellFormed = List.replicate 9 false := by
  decide +kernel

/-- validCode, validCause, validIrq, validBytes, validWords, validPort, validWho, validPacket, validGale: each admits the value at its bound and refuses the one beyond. -/
theorem test_wellFormed_4 :
    [.nak 3 65535, .segmentTrip 0 15, .irqHoldoffEnd 255, .smbReadDone true [255], .fwBlock 3 [2 ^ 64 - 1] [], .meshLinkUp ⟨3, 1⟩ ⟨4, 3⟩ 2 2, .imageLoad (.core 3 1), .wack { src := 3, dst := 4, type := 8, tag := 4095 }, .keepalive 0 { dpanel := 1, spanel := 1, dcnd := 511, type := 10, stream := 0, len := 0 }].map wellFormed = List.replicate 9 true ∧
    [.nak 3 65536, .segmentTrip 0 16, .irqHoldoffEnd 256, .smbReadDone true [256], .fwBlock 3 [2 ^ 64] [], .meshLinkUp ⟨213, 1⟩ ⟨4, 3⟩ 2 2, .imageLoad (.core 84 1), .wack { src := 3, dst := 4, type := 8, tag := 4096 }, .keepalive 0 { dpanel := 1, spanel := 1, dcnd := 512, type := 10, stream := 0, len := 0 }].map wellFormed = List.replicate 9 false := by
  decide +kernel

/-- validFeed, validUnit, validAccess, validProbe, validMeter, validValue: each admits the value at its bound and refuses the one beyond. -/
theorem test_wellFormed_5 :
    [.arrayEntry 3 (.rerun 17) 0 [], .sweepFaultReport 3 (.vector 3), .ccoLocalAccess 3 0 (.load 0 8) .clean, .discoveryProbe 3 { hport := 11, hops := [(0, 3)], entry := 2, ring := [] }, .meterSample { vinA := 0, vinB := 0, ia := 0, ib := 0, pwrok := true, rings := [(43, 0)] }, .registerWrite .host 0 8 (2 ^ 64 - 1)].map wellFormed = List.replicate 6 true ∧
    [.arrayEntry 3 (.rerun 18) 0 [], .sweepFaultReport 3 (.vector 4), .ccoLocalAccess 3 0 (.load 0 3) .clean, .discoveryProbe 3 { hport := 11, hops := [(0, 4)], entry := 2, ring := [] }, .meterSample { vinA := 0, vinB := 0, ia := 0, ib := 0, pwrok := true, rings := [(44, 0)] }, .registerWrite .host 0 8 (2 ^ 64)].map wellFormed = List.replicate 6 false := by
  decide +kernel

/-! ## Each statement has states and operands that meet its hypotheses -/

/-- The hypotheses of ArraySequencerCommandsComplete (part 1) can be met. -/
theorem witness_ArraySequencerCommandsComplete_0 :
    (∃ (s : State) (site : Nat) (a : Nat), s.arrayAt site a 0) ∧
    (∃ (s : State) (site : Nat) (a : Nat) (w : Nat), s.arrayAt site a 3 ∧ s.ucodeWord site a = w ∧ rowsError (bits w 40 32) (bits w 23 16) = none ∧ (s.array site a).fmtSet = true ∧ (bit w 47 = true → (s.array site a).loadedSinceSwap = true) ∧ (bit w 47 = false → s.flag (bankValid site a (s.get (MXA_STATUS.ACTIVE_BANK site a))) = true)) ∧
    (∃ (s : State) (site : Nat) (a : Nat) (w : Nat), s.arrayAt site a 4 ∧ s.ucodeWord site a = w ∧ bits w 44 42 = 1 ∧ rowsError (bits w 40 32) (bits w 23 16) = none) ∧
    (∃ (s : State) (site : Nat) (a : Nat) (w : Nat), s.arrayAt site a 5 ∧ s.ucodeWord site a = w ∧ rowsError (bits w 40 32) (bits w 23 16) = none) ∧
    (∃ (s : State) (site : Nat) (a : Nat) (w : Nat), s.arrayAt site a 6 ∧ s.ucodeWord site a = w ∧ formatPairOk (bits w 59 56) (bits w 55 52) (bit w 51) (bit w 50) = true ∧ ((s.array site a).fmtSet = true → s.get (MXA_FMT.ANCHOR site a) = bits w 31 16)) ∧
    (∃ (s : State) (site : Nat) (a : Nat) (n : Nat) (w : Nat), s.arrayAt site a 7 ∧ s.ucodeWord site a = w ∧ s.loopOk site a w = true ∧ (s.array site a).loop = some (s.get (MXA_STATUS.PC site a), n)) ∧
    (∃ (s : State) (site : Nat) (a : Nat), s.arrayAt site a 0xF ∧ (s.array site a).work = []) :=
  ⟨⟨(arrayAt 0x0 {} []), 3, 0, by decide +kernel⟩,
   ⟨(arrayAt 0x3000010000000000 { fmtSet := true } [(MXA_STATUS.BANK0_VALID 3 0, 1)]), 3, 0, 0x3000010000000000, by decide +kernel⟩,
   ⟨(arrayAt 0x4000050000000000 {} []), 3, 0, 0x4000050000000000, by decide +kernel⟩,
   ⟨(arrayAt 0x5000000100ff0000 {} []), 3, 0, 0x5000000100ff0000, by decide +kernel⟩,
   ⟨(arrayAt 0x6110000000000000 {} []), 3, 0, 0x6110000000000000, by decide +kernel⟩,
   ⟨(arrayAt 0 { loop := some (1, 0) } [(MXA_STATUS.PC 3 0, 1), (⟨MXA_UCODE.REG 3 1, 63, 0⟩, 0x7000000000000001)]), 3, 0, 0, 0x7000000000000001, by decide +kernel⟩,
   ⟨(arrayAt 0xf000000000000000 {} []), 3, 0, by decide +kernel⟩⟩

/-- The hypotheses of ArraySequencerCommandsComplete (part 2) can be met. -/
theorem witness_ArraySequencerCommandsComplete_1 :
    ∃ (s : State) (site : Nat) (a : Nat), s.arrayAt site a 2 :=
  ⟨(arrayAt 0x2000000000000000 {} []), 3, 0, by decide +kernel⟩

/-- The hypotheses of ArrayEventCommandsComplete can be met. -/
theorem witness_ArrayEventCommandsComplete :
    (∃ (s : State) (site : Nat) (a : Nat) (t : BankTile), (s.array site a).load = some t ∧ t.tritBad = false) ∧
    (∃ (s : State) (site : Nat) (a : Nat) (w : Nat) (row : Nat), s.arrayAt site a 1 ∧ s.ucodeWord site a = w ∧ (s.array site a).load = none ∧ s.loadwRow site a w = (row, true)) ∧
    (∃ (s : State) (site : Nat) (a : Nat) (i : Nat) (w : Work), indexOf? (fun (w : Work) => w.kind.isZero) (s.array site a).work = some i ∧ (s.array site a).work[i]? = some w ∧ blocks (s.array site a).work i (w.base + w.done) (fun k => !k.isZero) = false) ∧
    (∃ (s : State) (site : Nat) (a : Nat) (i : Nat) (dest : Nat) (base : Nat) (count : Nat) (done : Nat), indexOf? (fun (w : Work) => w.kind.isDrain) (s.array site a).work = some i ∧ (s.array site a).work[i]? = some ⟨.drain dest false, base, count, done⟩ ∧ blocks (s.array site a).work i (base + done) (fun k => !k.isDrain) = false ∧ (s.array site a).held.length < 16) ∧
    (∃ (s : State) (t : State) (site : Nat) (row : Nat) (k : Option (Nat × Nat)) (l : List (Option (Nat × Nat))), (s.rowArrays site row).map (fun a => (s.array site a).held.head?.map (fun h => (h.dest, h.row))) = k :: l ∧ l.all (fun x => x == k) = true ∧ k ≠ none ∧ s.handAll site (s.rowArrays site row) = some t) ∧
    (∃ (s : State) (site : Nat) (slot : Nat) (feed : EntryFeed), (s.feedArrays site feed).isEmpty = false ∧ (s.feedArrays site feed).any (fun a => s.entryLack site a == .stream) = false ∧ s.get (MXA_SLOT.SLOT site) ≤ slot ∧ lookD 0 (s.die site).slots (feedKey feed) ≤ slot ∧ slotBlocked ((s.reachSlot site slot).get (MXA_THROTTLE.BLOCK site)) slot = false ∧ (s.feedArrays site feed).any (fun a => (s.reachSlot site slot).entryLack site a != .nothing) = false ∧ ∃ (v : ChainVector) (t : State), (s.reachSlot site slot).feedVector site feed = some (v, t)) :=
  ⟨⟨(arrayAt 0 { load := some {} } []), 3, 0, {}, by decide +kernel⟩,
   ⟨(arrayAt 0x1050000000000000 {} [(⟨BHT_ENTRY.REG 3 5 0, 63, 0⟩, 1 * 2 ^ 60 + mkPpa 0 3 0), (⟨BHT_ENTRY.REG 3 5 1, 63, 0⟩, 0x100000)]), 3, 0, 0x1050000000000000, 0, by decide +kernel⟩,
   ⟨(arrayAt 0 { work := [⟨.zero, 255, 1, 0⟩] } []), 3, 0, 0, ⟨.zero, 255, 1, 0⟩, by decide +kernel⟩,
   ⟨(arrayAt 0 { work := [⟨.drain 1 false, 0, 256, 255⟩] } []), 3, 0, 0, 1, 0, 256, 255, by decide +kernel⟩,
   ⟨{ ((panel []).setReg (MXA_ROWMAP.REG 3) 0x80008#64) with arrays := (below 8).map (fun a => (arrayKey 3 a, ({ held := [⟨2, 7, [], false⟩] } : ArrayState))) }, ((State.handAll ({ ((panel []).setReg (MXA_ROWMAP.REG 3) 0x80008#64) with arrays := (below 8).map (fun a => (arrayKey 3 a, ({ held := [⟨2, 7, [], false⟩] } : ArrayState))) }) 3 (below 8)).getD (panel [])), 3, 0, some (2, 7), List.replicate 7 (some (2, 7)), by decide +kernel⟩,
   ⟨{ dieAt { desc := descOf 0 4 1000, sweep := 0, index := 0, sbase := 0, dbase := 0, snkStarted := true, queue := [.data (List.replicate 600 0) false] } [(MXA_STATUS.STATE 3 0, 1)] with arrays := [(arrayKey 3 0, ({ work := [⟨.stream false, 0, 1, 0⟩] } : ArrayState))] }, 3, 0, .rerun 0, by decide +kernel, by decide +kernel, by decide +kernel, by decide +kernel, by decide +kernel, by decide +kernel, ((State.feedVector ({ dieAt { desc := descOf 0 4 1000, sweep := 0, index := 0, sbase := 0, dbase := 0, snkStarted := true, queue := [.data (List.replicate 600 0) false] } [(MXA_STATUS.STATE 3 0, 1)] with arrays := [(arrayKey 3 0, ({ work := [⟨.stream false, 0, 1, 0⟩] } : ArrayState))] }) 3 (.rerun 0)).getD (⟨0, false, [], false⟩, panel [])).1, ((State.feedVector ({ dieAt { desc := descOf 0 4 1000, sweep := 0, index := 0, sbase := 0, dbase := 0, snkStarted := true, queue := [.data (List.replicate 600 0) false] } [(MXA_STATUS.STATE 3 0, 1)] with arrays := [(arrayKey 3 0, ({ work := [⟨.stream false, 0, 1, 0⟩] } : ArrayState))] }) 3 (.rerun 0)).getD (⟨0, false, [], false⟩, panel [])).2, by decide +kernel⟩⟩

/-- The hypotheses of ArrayRegisterCommandsComplete can be met. -/
theorem witness_ArrayRegisterCommandsComplete :
    (∃ (s : State) (who : Requester) (site : Nat), s.siteOpen who (MXA_THROTTLE.REG site) site ∧ s.updraft.en = true) ∧
    (∃ (s : State) (who : Requester) (site : Nat), s.siteOpen who (MXA_ROWMAP.REG site) site ∧ s.fwOwned who site = false) ∧
    (∃ (s : State) (who : Requester) (site : Nat), s.siteOpen who (MXA_ROWMAP.REG site) site ∧ s.fwOwned who site = true) ∧
    (∃ (s : State) (who : Requester) (site : Nat) (a : Nat) (value : Nat), s.siteOpen who (MXA_CTRL.REG site a) site ∧ s.fwOwned who site = false ∧ bit value 16 = true ∧ (let t := s.put (MXA_CTRL.RERUN_PC site a) (bits value 8 0)
      t.get (MXA_STATUS.STATE site a) = 4 ∧ t.rowOn site (arrayRow a) = true)) ∧
    (∃ (s : State) (who : Requester) (site : Nat), s.siteOpen who (MXA_ROWCTL.REG site) site ∧ s.fwOwned who site = false) ∧
    (∃ (s : State) (who : Requester) (site : Nat) (i : Nat), s.siteOpen who (MXA_UCODE.REG site i) site ∧ s.fwOwned who site = false ∧ (∀ a < 18, s.get (MXA_STATUS.STATE site a) ≠ 1 ∧ s.get (MXA_STATUS.STATE site a) ≠ 2)) :=
  ⟨⟨ready, .host, 3, by decide +kernel⟩,
   ⟨ready, .host, 3, by decide +kernel⟩,
   ⟨(coreAt {}), .host, 3, by decide +kernel⟩,
   ⟨(panel [(MXA_STATUS.STATE 3 8, 4)]), .host, 3, 8, 0x10000, by decide +kernel⟩,
   ⟨ready, .host, 3, by decide +kernel⟩,
   ⟨ready, .host, 3, 0, by decide +kernel⟩⟩

/-- The hypotheses of VectorArithmeticCommandsComplete (part 1) can be met. -/
theorem witness_VectorArithmeticCommandsComplete_0 :
    (∃ (s : State) (site : Nat) (v : Nat) (r : VecResult), s.vectorAt site v 0x02 ∧ binary laneAdd (s.vector site v) (decodeVec (s.vecWord site v)) = VecOut.done r) ∧
    (∃ (s : State) (site : Nat) (v : Nat) (r : VecResult), s.vectorAt site v 0x03 ∧ binary laneSub (s.vector site v) (decodeVec (s.vecWord site v)) = VecOut.done r) ∧
    (∃ (s : State) (site : Nat) (v : Nat) (r : VecResult), s.vectorAt site v 0x04 ∧ binary laneMul (s.vector site v) (decodeVec (s.vecWord site v)) = VecOut.done r) ∧
    (∃ (s : State) (site : Nat) (v : Nat) (r : VecResult), s.vectorAt site v 0x05 ∧ vecFma (s.vector site v) (decodeVec (s.vecWord site v)) = VecOut.done r) ∧
    (∃ (s : State) (site : Nat) (v : Nat) (r : VecResult), s.vectorAt site v 0x06 ∧ binary laneMin (s.vector site v) (decodeVec (s.vecWord site v)) = VecOut.done r) ∧
    (∃ (s : State) (site : Nat) (v : Nat) (r : VecResult), s.vectorAt site v 0x07 ∧ binary laneMax (s.vector site v) (decodeVec (s.vecWord site v)) = VecOut.done r) ∧
    (∃ (s : State) (site : Nat) (v : Nat) (r : VecResult), s.vectorAt site v 0x08 ∧ unary (laneFun (decodeVec (s.vecWord site v)).fn) (s.vector site v) (decodeVec (s.vecWord site v)) = VecOut.done r) :=
  ⟨⟨(vectorAt 0x822180000000000), 3, 0, _, by decide +kernel, rfl⟩,
   ⟨(vectorAt 0xc22180000000000), 3, 0, _, by decide +kernel, rfl⟩,
   ⟨(vectorAt 0x1022180000000000), 3, 0, _, by decide +kernel, rfl⟩,
   ⟨(vectorAt 0x1422180000000000), 3, 0, _, by decide +kernel, rfl⟩,
   ⟨(vectorAt 0x1822180000000000), 3, 0, _, by decide +kernel, rfl⟩,
   ⟨(vectorAt 0x1c22180000000000), 3, 0, _, by decide +kernel, rfl⟩,
   ⟨(vectorAt 0x2022000000000000), 3, 0, _, by decide +kernel, rfl⟩⟩

/-- The hypotheses of VectorArithmeticCommandsComplete (part 2) can be met. -/
theorem witness_VectorArithmeticCommandsComplete_1 :
    (∃ (s : State) (site : Nat) (v : Nat) (r : VecResult), s.vectorAt site v 0x09 ∧ unary (laneFtr (decodeVec (s.vecWord site v)).fn) (s.vector site v) (decodeVec (s.vecWord site v)) = VecOut.done r) ∧
    (∃ (s : State) (site : Nat) (v : Nat) (r : VecResult), s.vectorAt site v 0x10 ∧ binary (· + ·) (s.vector site v) (decodeVec (s.vecWord site v)) = VecOut.done r) ∧
    (∃ (s : State) (site : Nat) (v : Nat) (r : VecResult), s.vectorAt site v 0x11 ∧ binary (· - ·) (s.vector site v) (decodeVec (s.vecWord site v)) = VecOut.done r) ∧
    (∃ (s : State) (site : Nat) (v : Nat) (r : VecResult), s.vectorAt site v 0x12 ∧ binary (· * ·) (s.vector site v) (decodeVec (s.vecWord site v)) = VecOut.done r) ∧
    (∃ (s : State) (site : Nat) (v : Nat) (r : VecResult), s.vectorAt site v 0x13 ∧ binary (laneLog (decodeVec (s.vecWord site v)).fn) (s.vector site v) (decodeVec (s.vecWord site v)) = VecOut.done r) ∧
    (∃ (s : State) (site : Nat) (v : Nat) (r : VecResult), s.vectorAt site v 0x14 ∧ unary (laneCvt (decodeVec (s.vecWord site v)).fn) (s.vector site v) (decodeVec (s.vecWord site v)) = VecOut.done r) ∧
    (∃ (s : State) (site : Nat) (v : Nat) (r : VecResult), s.vectorAt site v 0x18 ∧ compare (fcmpHolds (decodeVec (s.vecWord site v)).fn) (s.vector site v) (decodeVec (s.vecWord site v)) = VecOut.done r) :=
  ⟨⟨(vectorAt 0x2422000000000000), 3, 0, _, by decide +kernel, rfl⟩,
   ⟨(vectorAt 0x4022180000000000), 3, 0, _, by decide +kernel, rfl⟩,
   ⟨(vectorAt 0x4422180000000000), 3, 0, _, by decide +kernel, rfl⟩,
   ⟨(vectorAt 0x4822180000000000), 3, 0, _, by decide +kernel, rfl⟩,
   ⟨(vectorAt 0x4c22180000000000), 3, 0, _, by decide +kernel, rfl⟩,
   ⟨(vectorAt 0x5022000000000000), 3, 0, _, by decide +kernel, rfl⟩,
   ⟨(vectorAt 0x6022180000000000), 3, 0, _, by decide +kernel, rfl⟩⟩

/-- The hypotheses of VectorArithmeticCommandsComplete (part 3) can be met. -/
theorem witness_VectorArithmeticCommandsComplete_2 :
    (∃ (s : State) (site : Nat) (v : Nat) (r : VecResult), s.vectorAt site v 0x19 ∧ compare (icmpHolds (decodeVec (s.vecWord site v)).fn) (s.vector site v) (decodeVec (s.vecWord site v)) = VecOut.done r) ∧
    (∃ (s : State) (site : Nat) (v : Nat) (r : VecResult), s.vectorAt site v 0x1A ∧ vecSel (s.vector site v) (decodeVec (s.vecWord site v)) = VecOut.done r) ∧
    (∃ (s : State) (site : Nat) (v : Nat) (r : VecResult), s.vectorAt site v 0x20 ∧ vecBcast (s.vector site v) (decodeVec (s.vecWord site v)) = VecOut.done r) ∧
    (∃ (s : State) (site : Nat) (v : Nat) (r : VecResult), s.vectorAt site v 0x21 ∧ vecPerm (s.vector site v) (decodeVec (s.vecWord site v)) = VecOut.done r) ∧
    (∃ (s : State) (site : Nat) (v : Nat) (r : VecResult), s.vectorAt site v 0x22 ∧ vecLshift (s.vector site v) (decodeVec (s.vecWord site v)) = VecOut.done r) ∧
    (∃ (s : State) (site : Nat) (v : Nat) (r : VecResult), s.vectorAt site v 0x28 ∧ reduce laneAdd (zeroLane true) (s.vector site v) (decodeVec (s.vecWord site v)) = VecOut.done r) ∧
    (∃ (s : State) (site : Nat) (v : Nat) (r : VecResult), s.vectorAt site v 0x29 ∧ reduce laneMax (infLane true) (s.vector site v) (decodeVec (s.vecWord site v)) = VecOut.done r) :=
  ⟨⟨(vectorAt 0x6422180000000000), 3, 0, _, by decide +kernel, rfl⟩,
   ⟨(vectorAt 0x6822180000000000), 3, 0, _, by decide +kernel, rfl⟩,
   ⟨(vectorAt 0x8020000000000000), 3, 0, _, by decide +kernel, rfl⟩,
   ⟨(vectorAt 0x8422180000000000), 3, 0, _, by decide +kernel, rfl⟩,
   ⟨(vectorAt 0x8822000000000000), 3, 0, _, by decide +kernel, rfl⟩,
   ⟨(vectorAt 0xa022000000000000), 3, 0, _, by decide +kernel, rfl⟩,
   ⟨(vectorAt 0xa422000000000000), 3, 0, _, by decide +kernel, rfl⟩⟩

/-- The hypotheses of VectorControlCommandsComplete (part 1) can be met. -/
theorem witness_VectorControlCommandsComplete_0 :
    (∃ (s : State) (site : Nat) (v : Nat), s.vectorAt site v 0x00) ∧
    (∃ (s : State) (site : Nat) (v : Nat), s.vectorAt site v 0x01) ∧
    (∃ (s : State) (site : Nat) (v : Nat) (r : VecResult), s.vectorAt site v 0x30 ∧ vecVld (s.vector site v) (decodeVec (s.vecWord site v)) = VecOut.done r) ∧
    (∃ (s : State) (site : Nat) (v : Nat) (r : VecResult), s.vectorAt site v 0x31 ∧ vecVldsc (s.vector site v) (decodeVec (s.vecWord site v)) = VecOut.done r) ∧
    (∃ (s : State) (site : Nat) (v : Nat) (r : VecResult), s.vectorAt site v 0x32 ∧ vecVst (s.vector site v) (decodeVec (s.vecWord site v)) = VecOut.done r) ∧
    (∃ (s : State) (site : Nat) (v : Nat) (r : VecResult), s.vectorAt site v 0x33 ∧ vecExld (s.vector site v) (decodeVec (s.vecWord site v)) = VecOut.done r) ∧
    (∃ (s : State) (site : Nat) (v : Nat) (r : VecResult), s.vectorAt site v 0x38 ∧ vecSli (s.vector site v) (decodeVec (s.vecWord site v)) = VecOut.done r) :=
  ⟨⟨(vectorAt 0x0), 3, 0, by decide +kernel⟩,
   ⟨(vectorAt 0x400000000000000), 3, 0, by decide +kernel⟩,
   ⟨(vectorAt 0xc000000000000000), 3, 0, _, by decide +kernel, rfl⟩,
   ⟨(vectorAt 0xc400000000000000), 3, 0, _, by decide +kernel, rfl⟩,
   ⟨(vectorAt 0xc800000000000000), 3, 0, _, by decide +kernel, rfl⟩,
   ⟨(vectorAt 0xcc00000000000000), 3, 0, _, by decide +kernel, rfl⟩,
   ⟨(vectorAt 0xe020000000000005), 3, 0, _, by decide +kernel, rfl⟩⟩

/-- The hypotheses of VectorControlCommandsComplete (part 2) can be met. -/
theorem witness_VectorControlCommandsComplete_1 :
    (∃ (s : State) (site : Nat) (v : Nat) (r : VecResult), s.vectorAt site v 0x39 ∧ vecSadd (s.vector site v) (decodeVec (s.vecWord site v)) = VecOut.done r) ∧
    (∃ (s : State) (site : Nat) (v : Nat) (r : VecResult), s.vectorAt site v 0x3A ∧ vecBnz (s.vector site v) (decodeVec (s.vecWord site v)) = VecOut.done r) ∧
    (∃ (s : State) (site : Nat) (v : Nat), s.vectorAt site v 0x3B) ∧
    (∃ (s : State) (site : Nat) (v : Nat), s.vectorAt site v 0x3C ∧ 0 < (decodeVec (s.vecWord site v)).imm ∧ (decodeVec (s.vecWord site v)).imm ≤ nth 0 (s.vecTokens site v) (decodeVec (s.vecWord site v)).fn) ∧
    (∃ (s : State) (site : Nat) (v : Nat), s.vectorAt site v 0x3C ∧ nth 0 (s.vecTokens site v) (decodeVec (s.vecWord site v)).fn < (decodeVec (s.vecWord site v)).imm) ∧
    (∃ (s : State) (site : Nat) (v : Nat), s.vectorAt site v 0x3D) ∧
    (∃ (s : State) (site : Nat) (v : Nat), s.vecRuns site v = true ∧ (s.vector site v).pcPast = false ∧ s.paired site = false ∧ (decodeVec (s.vecWord site v)).ok = false) :=
  ⟨⟨(vectorAt 0xe4220000ffffffff), 3, 0, _, by decide +kernel, rfl⟩,
   ⟨(vectorAt 0xe800000000000000), 3, 0, _, by decide +kernel, rfl⟩,
   ⟨(vectorAt 0xec00000000000000), 3, 0, by decide +kernel⟩,
   ⟨{ vectorAt 0xf000000000000001 with regs := ((vectorAt 0xf000000000000001).put (vecToken 3 0 0) 1).regs }, 3, 0, by decide +kernel⟩,
   ⟨(vectorAt 0xf000000000000001), 3, 0, by decide +kernel⟩,
   ⟨(vectorAt 0xf400000000000000), 3, 0, by decide +kernel⟩,
   ⟨(vectorAt 0xFC00000000000000), 3, 0, by decide +kernel⟩⟩

/-- The hypotheses of VectorRegisterCommandsComplete can be met. -/
theorem witness_VectorRegisterCommandsComplete :
    (∃ (s : State) (who : Requester) (site : Nat) (v : Nat) (value : Nat), s.siteOpen who (VCO_CTRL.REG site v) site ∧ s.fwOwned who site = false ∧ bit value 16 = true ∧ (let t := s.put (VCO_CTRL.START_PC site v) (bits value 11 0)
      (t.paired site && v % 2 == 1) = false ∧ t.vcOn site = true ∧ t.get (VCO_STATUS.STATE site v) = 0)) ∧
    (∃ (s : State) (site : Nat) (v : Nat), s.get (VCO_STATUS.STATE site v) ≠ 1 ∧ s.get (VCO_STATUS.STATE site v) ≠ 2) ∧
    (∃ (s : State) (site : Nat) (v : Nat), s.get (VCO_STATUS.STATE site v) = 1) ∧
    (∃ (s : State) (who : Requester) (site : Nat), s.siteOpen who (VCO_MODE.REG site) site ∧ s.fwOwned who site = false) :=
  ⟨⟨(panel []), .host, 3, 0, 0x10FFF, by decide +kernel⟩,
   ⟨ready, 3, 0, by decide +kernel⟩,
   ⟨(vectorAt 0), 3, 0, by decide +kernel⟩,
   ⟨ready, .host, 3, by decide +kernel⟩⟩

/-- The hypotheses of ControlCoreCommandsComplete (part 1) can be met. -/
theorem witness_ControlCoreCommandsComplete_0 :
    (∃ (s : State) (site : Nat) (c : Nat) (value : Nat), s.siteOpen (.core site c) (CCO_FW.REG site c) site ∧ s.coreRuns site c = true ∧ bit value 0 = true) ∧
    (∃ (s : State) (site : Nat) (c : Nat), s.get (CCO_STATUS.STATE site c) = 1) ∧
    (∃ (s : State) (site : Nat) (c : Nat), s.siteOpen (.core site c) (CCO_WDOG_KICK.REG site c) site) ∧
    (∃ (s : State) (site : Nat) (c : Nat), s.coreRuns site c = true) ∧
    (∃ (s : State) (site : Nat) (c : Nat) (value : Nat), s.siteOpen (.core site c) (CCO_FATAL.REG site c) site ∧ s.coreRuns site c = true ∧ bits value 15 0 ≠ 0) ∧
    (∃ (s : State) (site : Nat) (c : Nat), s.coreRuns site c = true) ∧
    (∃ (s : State) (site : Nat) (a : Nat), s.get (MXA_STATUS.STATE site a) = 3 ∧ s.coreRuns site 0 = true) :=
  ⟨⟨(coreAt {}), 3, 0, 1, by decide +kernel⟩,
   ⟨(panel [(CCO_STATUS.STATE 3 0, 1)]), 3, 0, by decide +kernel⟩,
   ⟨ready, 3, 0, by decide +kernel⟩,
   ⟨(coreAt {}), 3, 0, by decide +kernel⟩,
   ⟨(coreAt {}), 3, 0, 0xFFFF, by decide +kernel⟩,
   ⟨(coreAt {}), 3, 0, by decide +kernel⟩,
   ⟨(panel [(CCO_STATUS.STATE 3 0, 2), (MXA_STATUS.STATE 3 17, 3)]), 3, 17, by decide +kernel⟩⟩

/-- The hypotheses of ControlCoreCommandsComplete (part 2) can be met. -/
theorem witness_ControlCoreCommandsComplete_1 :
    (∃ (s : State) (site : Nat) (v : Nat), s.get (VCO_STATUS.STATE site v) = 3 ∧ s.coreRuns site 0 = true) ∧
    (∃ (s : State) (site : Nat) (c : Nat), c < 2 ∧ s.coreRuns site c = true ∧ (s.control site c).mtimecmp ≤ s.isobar) ∧
    (∃ (s : State) (site : Nat) (c : Nat) (n : Nat), c < 2 ∧ s.coreRuns site c = true ∧ s.coreWaits site c = false ∧ (n = 1 ∨ n = 2 ∨ n = 4 ∨ n = 8)) ∧
    (∃ (s : State) (site : Nat) (c : Nat), c < 2 ∧ s.coreRuns site c = true ∧ s.coreWaits site c = false) :=
  ⟨⟨(panel [(CCO_STATUS.STATE 3 0, 2), (VCO_STATUS.STATE 3 3, 3)]), 3, 3, by decide +kernel⟩,
   ⟨{ coreAt { mtimecmp := 5 } with isobar := 5 }, 3, 0, by decide +kernel⟩,
   ⟨(coreAt {}), 3, 0, 8, by decide +kernel⟩,
   ⟨(coreAt {}), 3, 0, by decide +kernel⟩⟩

/-- The hypotheses of MailboxCommandsComplete can be met. -/
theorem witness_MailboxCommandsComplete :
    (∃ (s : State) (who : Requester) (site : Nat) (c : Nat) (value : Nat), s.siteOpen who (CCO_MBX_IN_PUSH.REG site c) site ∧ bit value 0 = true) ∧
    (∃ (s : State) (site : Nat) (c : Nat) (m : Message) (l : List Message), (s.control site c).hubHeld = m :: l ∧ (s.control site c).inq.length < 16) ∧
    (∃ (s : State) (site : Nat) (c : Nat), (let m := withSource (s.control site c).staged (2 * site + c)
      0x40 ≤ messageType m ∧ (s.control site c).outq.length < 16)) ∧
    (∃ (s : State) (who : Requester) (site : Nat) (c : Nat) (value : Nat), s.siteOpen who (CCO_MBX_OUT_POP.REG site c) site ∧ bit value 0 = true ∧ (s.control site c).outq.isEmpty = false) :=
  ⟨⟨ready, .host, 3, 0, 1, by decide +kernel⟩,
   ⟨(coreAt { hubHeld := [[0#64]], inq := List.replicate 15 [0#64] }), 3, 0, [0#64], [], by decide +kernel⟩,
   ⟨(coreAt { outStage := [(0, 0x4000000000000000#64)] }), 3, 0, by decide +kernel⟩,
   ⟨(coreAt { outq := [[0#64]] }), .host, 3, 0, 1, by decide +kernel⟩⟩

/-- The hypotheses of QueueCommandsComplete (part 1) can be met. -/
theorem witness_QueueCommandsComplete_0 :
    (∃ (s : State) (value : Nat), s.hubOpen ∧ bits value 15 0 < 1024) ∧
    (∃ (s : State) (value : Nat), s.hubOpen ∧ 1024 ≤ bits value 15 0) ∧
    (∃ (s : State), s.hubOpen) ∧
    (∃ (s : State), s.hubOpen) ∧
    (∃ (s : State), s.hubOpen) ∧
    (∃ (s : State) (q : Nat) (value : Nat), s.hubOpen ∧ s.flag (SQ_CTRL.ENABLE q) = false ∧ bits value 11 0 = 0) ∧
    (∃ (s : State), s.hubOpen) :=
  ⟨⟨ready, 1023, by decide +kernel⟩,
   ⟨ready, 1024, by decide +kernel⟩,
   ⟨ready, by decide +kernel⟩,
   ⟨ready, by decide +kernel⟩,
   ⟨ready, by decide +kernel⟩,
   ⟨ready, 0, 0, by decide +kernel⟩,
   ⟨ready, by decide +kernel⟩⟩

/-- The hypotheses of QueueCommandsComplete (part 2) can be met. -/
theorem witness_QueueCommandsComplete_1 :
    (∃ (s : State) (q : Nat) (value : Nat), s.hubOpen ∧ bits value 15 0 < 2 ^ s.get (SQ_CTRL.CQ_LOG2 q)) ∧
    (∃ (s : State) (q : Nat) (i : Nat) (c : Completion), indexOf? (fun (c : Completion) => c.queue == q) s.completions = some i ∧ s.completions[i]? = some c ∧ s.ringFull q = false) :=
  ⟨⟨ready, 0, 0, by decide +kernel⟩,
   ⟨{ panel [(HUB_PCIE.BME, 1), (SQ_CTRL.CQ_LOG2 0, 4), (CQ_PTR.TAIL 0, 14)] with completions := [⟨0, [], false, true⟩] }, 0, 0, ⟨0, [], false, true⟩, by decide +kernel⟩⟩

/-- The hypotheses of PassCommandsComplete (part 1) can be met. -/
theorem witness_PassCommandsComplete_0 :
    (∃ (s : State) (site : Nat), s.get HUB_PASS.STATE = 2 ∧ s.pass.parts.contains site = true ∧ s.pass.begun.contains site = false) ∧
    (∃ (s : State) (site : Nat), s.get HUB_PASS.STATE = 3 ∧ s.pass.aborting = false ∧ s.get HUB_PASS.SWEEP < s.passSweeps ∧ s.waiters.contains site = true ∧ s.pass.started.contains site = false ∧ s.pass.started.isEmpty = false) ∧
    (∃ (s : State) (site : Nat), s.get HUB_PASS.STATE = 3 ∧ s.pass.aborting = false ∧ s.pass.started.contains site = true ∧ s.pass.reported.contains site = false ∧ s.sweepOver site = true) ∧
    (∃ (s : State), s.get HUB_PASS.STATE = 3 ∧ s.pass.aborting = false ∧ s.pass.sweepsDone = s.passSweeps) ∧
    (∃ (s : State) (site : Nat), s.pass.running = true ∧ s.pass.aborting = true ∧ s.pass.parts.contains site = true ∧ (s.die site).stopped = false) ∧
    (∃ (s : State) (site : Nat), s.get HUB_PASS.STATE = 4 ∧ s.pass.parts.contains site = true ∧ s.pass.quiet.contains site = false ∧ s.siteQuiet site = true ∧ (s.pass.aborting = true → (s.die site).stopped = true)) ∧
    (∃ (s : State) (site : Nat), s.get HUB_PASS.STATE = 4 ∧ s.pass.cleared = true ∧ s.pass.parts.contains site = true ∧ s.pass.empty.contains site = false) :=
  ⟨⟨{ panel ((HUB_PASS.STATE, 2) :: []) with pass := { parts := [3] } }, 3, by decide +kernel⟩,
   ⟨{ panel ((HUB_PASS.STATE, 3) :: []) with pass := { parts := [3, 4], started := [3] }, image := { area := some (mkPpa 1 0 0, 0x2000) }, memory := [(mkPpa 1 0 256, 8), (mkPpa 1 0 265, 16), (mkPpa 1 0 272, 96), (mkPpa 1 0 0x1000, 1), (mkPpa 1 0 0x1008, 32)] }, 4, by decide +kernel⟩,
   ⟨{ panel ((HUB_PASS.STATE, 3) :: []) with pass := { parts := [3], started := [3] } }, 3, by decide +kernel⟩,
   ⟨{ panel ((HUB_PASS.STATE, 3) :: []) with pass := { sweepsDone := 0 } }, by decide +kernel⟩,
   ⟨{ panel ((HUB_PASS.STATE, 3) :: []) with pass := { running := true, aborting := true, parts := [3] } }, 3, by decide +kernel⟩,
   ⟨{ panel ((HUB_PASS.STATE, 4) :: []) with pass := { parts := [3] } }, 3, by decide +kernel⟩,
   ⟨{ panel ((HUB_PASS.STATE, 4) :: []) with pass := { parts := [3], cleared := true } }, 3, by decide +kernel⟩⟩

/-- The hypotheses of PassCommandsComplete (part 2) can be met. -/
theorem witness_PassCommandsComplete_1 :
    (∃ (s : State) (site : Nat), s.get HUB_PASS.STATE = 4 ∧ s.pass.empty.contains site = true ∧ s.pass.taken.contains site = false) ∧
    (∃ (s : State) (site : Nat), s.get HUB_PASS.STATE = 4 ∧ s.pass.running = true ∧ s.waiters.contains site = true ∧ s.pass.cleared = false ∧ s.pass.quiet.contains site = false) ∧
    (∃ (s : State), s.hubRuns = true ∧ s.doldrums = false ∧ s.pass.running = false ∧ s.ungateShow.admissionWait = 7) ∧
    (∃ (s : State), s.hubRuns = true ∧ s.doldrums = false ∧ s.pass.running = false ∧ s.ungateShow.admissionWait ≠ 7) :=
  ⟨⟨{ panel ((HUB_PASS.STATE, 4) :: []) with pass := { parts := [3], empty := [3] } }, 3, by decide +kernel⟩,
   ⟨{ panel ((HUB_PASS.STATE, 4) :: []) with pass := { parts := [3], running := true } }, 3, by decide +kernel⟩,
   ⟨{ panel [] with power := { hubFailed := true } }, by decide +kernel⟩,
   ⟨ready, by decide +kernel⟩⟩

/-- The hypotheses of DescriptorCommandsComplete (part 1) can be met. -/
theorem witness_DescriptorCommandsComplete_0 :
    (∃ (s : State) (site : Nat) (c : Nat) (value : Nat) (l : List Stream), s.siteOpen (.core site c) (STR_LIST.REG site) site ∧ bits value 40 32 ≠ 0 ∧ s.listOk site (bits value 31 0) (bits value 40 32) (bits value 63 48) = true ∧ s.checkList site c (bits value 31 0) (bits value 63 48) (s.die site).admitted (bits value 40 32) 0 [] = .inl l) ∧
    (∃ (s : State) (site : Nat) (d : Nat) (x : Stream), (s.die site).stream d = some x ∧ s.sourceMay site x = true) ∧
    (∃ (s : State) (site : Nat) (d : Nat) (x : Stream), (s.die site).stream d = some x ∧ s.sinkMay site x = true) ∧
    (∃ (s : State) (site : Nat) (d : Nat) (x : Stream), (s.die site).stream d = some x ∧ s.sinkDone site x = true ∧ (s.die site).stopped = false) ∧
    (∃ (s : State) (site : Nat) (d : Nat) (x : Stream), (s.die site).stream d = some x ∧ (s.die site).stopped = false ∧ x.halted = false ∧ x.snkStarted = true) ∧
    (∃ (s : State) (site : Nat) (d : Nat) (x : Stream), (s.die site).stream d = some x ∧ (s.die site).stopped = false ∧ x.halted = false ∧ x.srcStarted = true) ∧
    (∃ (s : State) (site : Nat) (ch : Nat), (s.die site).streams.any (fun x => x.halted && x.desc.ch == ch) = true) :=
  ⟨⟨{ panel [(CCO_STATUS.STATE 3 0, 2)] with controls := [(controlKey 3 0, { tcm := [(0x100006, 0x20), (0x100007, 0x65), (0x100018, 64)] })] }, 3, 0, 0x100100000, (match State.checkList ({ panel [(CCO_STATUS.STATE 3 0, 2)] with controls := [(controlKey 3 0, { tcm := [(0x100006, 0x20), (0x100007, 0x65), (0x100018, 64)] })] }) 3 0 0x100000 0 0 1 0 [] with | .inl l => l | .inr _ => []), by decide +kernel⟩,
   ⟨(dieAt { desc := descOf 0 1 64, sweep := 0, index := 0, sbase := 0, dbase := 0 } []), 3, 0, { desc := descOf 0 1 64, sweep := 0, index := 0, sbase := 0, dbase := 0 }, by decide +kernel⟩,
   ⟨(dieAt { desc := descOf 0 1 64, sweep := 0, index := 0, sbase := 0, dbase := 0 } []), 3, 0, { desc := descOf 0 1 64, sweep := 0, index := 0, sbase := 0, dbase := 0 }, by decide +kernel⟩,
   ⟨(dieAt { desc := descOf 0 1 64, sweep := 0, index := 0, sbase := 0, dbase := 0, snkStarted := true, snkPos := 64 } []), 3, 0, { desc := descOf 0 1 64, sweep := 0, index := 0, sbase := 0, dbase := 0, snkStarted := true, snkPos := 64 }, by decide +kernel⟩,
   ⟨(dieAt { desc := descOf 0 1 64, sweep := 0, index := 0, sbase := 0, dbase := 0, srcStarted := true, snkStarted := true } []), 3, 0, { desc := descOf 0 1 64, sweep := 0, index := 0, sbase := 0, dbase := 0, srcStarted := true, snkStarted := true }, by decide +kernel⟩,
   ⟨(dieAt { desc := descOf 0 1 64, sweep := 0, index := 0, sbase := 0, dbase := 0, srcStarted := true, snkStarted := true } []), 3, 0, { desc := descOf 0 1 64, sweep := 0, index := 0, sbase := 0, dbase := 0, srcStarted := true, snkStarted := true }, by decide +kernel⟩,
   ⟨(dieAt { desc := descOf 0 1 64, sweep := 0, index := 0, sbase := 0, dbase := 0, halted := true } []), 3, 0, by decide +kernel⟩⟩

/-- The hypotheses of DescriptorCommandsComplete (part 2) can be met. -/
theorem witness_DescriptorCommandsComplete_1 :
    ∃ (s : State) (site : Nat), (s.die site).sweepRunning = true ∧ (s.die site).stopped = false ∧ (s.die site).streams.any (fun x => x.halted) = false :=
  ⟨(dieAt { desc := descOf 0 1 64, sweep := 0, index := 0, sbase := 0, dbase := 0 } []), 3, by decide +kernel⟩

/-- The hypotheses of GelatCommandsComplete can be met. -/
theorem witness_GelatCommandsComplete :
    (∃ (s : State) (site : Nat), s.gelatUp site = true ∧ s.flag (GLT_CTRL.SCRUB_EN site) = true) ∧
    (∃ (s : State) (who : Requester) (site : Nat) (half : Nat), s.siteOpen who (GLT_ERR_LOG.REG site + 4 * half) site) ∧
    (∃ (s : State) (who : Requester) (site : Nat), s.siteOpen who (GLT_REPAIR.REG site) site ∧ (s.gelat site).held = []) ∧
    (∃ (s : State) (site : Nat), s.flag (GLT_STATUS.EXIT_SCRUB site) = true) ∧
    (∃ (s : State) (site : Nat), s.gelatUp site = true) ∧
    (∃ (s : State) (c : Nat) (site : Nat) (h : Nat) (k : Nat), s.siteOpen (.core site c) (BHT_ENTRY.REG site h k) site ∧ s.betweenPasses = true) ∧
    (∃ (s : State) (who : Requester) (site : Nat) (h : Nat) (k : Nat), s.siteOpen who (BHT_ENTRY.REG site h k) site ∧ s.betweenPasses = false) :=
  ⟨⟨(panel [(GLT_CTRL.SCRUB_EN 3, 1)]), 3, by decide +kernel⟩,
   ⟨ready, .host, 3, 0, by decide +kernel⟩,
   ⟨ready, .host, 3, by decide +kernel⟩,
   ⟨(panel [(GLT_STATUS.EXIT_SCRUB 3, 1)]), 3, by decide +kernel⟩,
   ⟨ready, 3, by decide +kernel⟩,
   ⟨ready, 0, 3, 511, 3, by decide +kernel⟩,
   ⟨(panel [(HUB_PASS.STATE, 2)]), .host, 3, 511, 3, by decide +kernel⟩⟩

/-- The hypotheses of HbmAndRelocationCommandsComplete can be met. -/
theorem witness_HbmAndRelocationCommandsComplete :
    (∃ (s : State) (stack : Nat), s.get (hbmStateLoc stack) = 1 ∧ stack < 32) ∧
    (∃ (s : State) (stack : Nat), stack < 32 ∧ s.goldenLocked stack = true ∧ s.hbmUp stack = true ∧ (let lo := s.get ⟨DPD_GOLD.REG (stack / 2) (stack % 2), 14, 0⟩ * 0x200000
      let hi := s.get ⟨DPD_GOLD.REG (stack / 2) (stack % 2), 46, 32⟩ * 0x200000
      lo ≤ (s.hbm stack).patrol ∧ (s.hbm stack).patrol + 64 < hi)) ∧
    (∃ (s : State), s.hubOpen ∧ s.betweenPasses = true) ∧
    (∃ (s : State) (node : Nat) (tag : Nat) (site : Nat) (h : Nat) (o : Nat) (r : Request) (x : Handle), s.requests.find? (fun r => r.node == node && r.tag == tag && !r.write) = some r ∧ r.view = some (site, h, o) ∧ s.handle site h = some x ∧ x.kind = 3 ∧ s.hbmUp (ppaSite x.base) = false) ∧
    (∃ (s : State), s.hubOpen) ∧
    (∃ (s : State) (value : Nat), s.hubOpen ∧ bit value 0 = true) ∧
    (∃ (s : State), s.flag HUB_RWT_SYNC.SYNC = true ∧ (∀ r ∈ s.requests, ∀ e, r.rwt = some e → s.rwtStale.contains e = false)) :=
  ⟨⟨(panel [(hbmStateLoc 31, 1)]), 31, by decide +kernel⟩,
   ⟨(panel [(⟨DPD_GOLD.REG 0 0, 63, 63⟩, 1), (⟨DPD_GOLD.REG 0 0, 46, 32⟩, 1), (hbmStateLoc 0, 2)]), 0, by decide +kernel⟩,
   ⟨ready, by decide +kernel⟩,
   ⟨{ panel [(⟨BHT_ENTRY.REG 3 5 0, 63, 0⟩, 3 * 2 ^ 60 + 2 ^ 57 + mkPpa 1 0 0), (⟨BHT_ENTRY.REG 3 5 1, 63, 0⟩, 64), (⟨BHT_ENTRY.REG 3 5 2, 63, 0⟩, mkPpa 1 0 64), (⟨BHT_ENTRY.REG 3 5 3, 63, 0⟩, 6 * 2 ^ 32 + 1)] with requests := [{ node := 3, tag := 7, use := .engine 0 false, dst := 190, write := false, ppa := mkPpa 1 0 0, bytes := 64, view := some (3, 5, 0) }] }, 3, 7, 3, 5, 0, { node := 3, tag := 7, use := .engine 0 false, dst := 190, write := false, ppa := mkPpa 1 0 0, bytes := 64, view := some (3, 5, 0) }, ⟨3, 0, true, mkPpa 1 0 0, 64, mkPpa 1 0 64, 6, 1⟩, by decide +kernel⟩,
   ⟨ready, by decide +kernel⟩,
   ⟨ready, 1, by decide +kernel⟩,
   ⟨(panel [(HUB_RWT_SYNC.SYNC, 1)]), ⟨by decide +kernel, fun _ h => by cases h⟩⟩⟩

/-- The hypotheses of MeshRouterCommandsComplete (part 1) can be met. -/
theorem witness_MeshRouterCommandsComplete_0 :
    (∃ (s : State) (node : Nat) (port : Nat) (ce : Nat) (p : Packet), node < 169 ∧ node ≠ 84 ∧ (s.linkCorrected node port ce).packetInvalid node p = false ∧ p.type ≠ 3 ∧ p.dst = node) ∧
    (∃ (s : State) (node : Nat) (port : Nat) (ce : Nat) (o : Nat) (p : Packet), node < 169 ∧ node ≠ 84 ∧ (let t := s.linkCorrected node port ce
      t.packetInvalid node p = false ∧ p.type ≠ 3 ∧ p.dst ≠ node ∧ t.fenced p.dst = false ∧ t.choosePort node p.dst = some o)) ∧
    (∃ (node : Nat), node < 169 ∧ node ≠ 84) ∧
    (∃ (s : State) (site : Nat) (t : Nat) (seq : Nat), (lookD [] s.partials (partialKey site t)).any (fun p => p.seq == seq) = true) ∧
    (∃ (s : State) (site : Nat) (port : Nat), s.get (SIT_LINK.STATE site port) = 3 ∧ s.clock.pause = 0) ∧
    (∃ (s : State) (site : Nat) (port : Nat) (n : Nat) (d : Nat), s.get (SIT_LINK.STATE site port) = 3 ∧ s.clock.pause = 0 ∧ neighbour site port = some (n, d) ∧ n ≠ 84) ∧
    (∃ (s : State) (value : Nat), s.hubOpen ∧ bit value 2 = true) :=
  ⟨⟨ready, 4, 0, 0, { src := 3, dst := 4, type := 4 }, by decide +kernel⟩,
   ⟨(panel [(rteLoc 3 4, 0x8011), (SIT_LINK.STATE 3 1, 3)]), 3, 0, 0, 1, { src := 3, dst := 4, type := 4 }, by decide +kernel⟩,
   ⟨3, by decide +kernel⟩,
   ⟨{ panel [] with partials := [(partialKey 3 0, [⟨9, [], 0, false, 1⟩])] }, 3, 0, 9, by decide +kernel⟩,
   ⟨(panel [(SIT_LINK.STATE 3 0, 3)]), 3, 0, by decide +kernel⟩,
   ⟨(panel [(SIT_LINK.STATE 3 1, 3)]), 3, 1, 4, 3, by decide +kernel⟩,
   ⟨ready, 4, by decide +kernel⟩⟩

/-- The hypotheses of MeshRouterCommandsComplete (part 2) can be met. -/
theorem witness_MeshRouterCommandsComplete_1 :
    (∃ (s : State) (site : Nat) (port : Nat) (good : Nat) (token : Nat), (s.get (SIT_LINK.STATE site port) = 1 ∨ s.get (SIT_LINK.STATE site port) = 2) ∧ (decodeToken token).ok = true ∧ widthOf (popCount 8 good) ≠ 0 ∧ (lookD {} s.links (linkKey site port)).round = 1 ∧ (decodeToken token).width = widthOf (popCount 8 good)) ∧
    (∃ (s : State) (site : Nat) (port : Nat), (s.get (SIT_LINK.STATE site port) = 1 ∨ s.get (SIT_LINK.STATE site port) = 2)) ∧
    (∃ (s : State) (who : Requester) (site : Nat) (i : Nat), site ≠ 84 ∧ s.siteOpen who (SIT_RTE.REG site i) site ∧ s.betweenPasses = true) ∧
    (∃ (s : State), s.hubOpen ∧ s.betweenPasses = true) ∧
    (∃ (s : State) (who : Requester) (site : Nat) (t : Nat), s.siteOpen who (SIT_TREE_W0.REG site t) site ∧ s.betweenPasses = true) ∧
    (∃ (s : State) (who : Requester) (site : Nat) (value : Nat), s.siteOpen who (SIT_RED_DRAIN.REG site) site ∧ s.fwOwned who site = false ∧ s.betweenPasses = true ∧ bit value 15 = false) ∧
    (∃ (s : State), s.hubOpen) :=
  ⟨⟨(panel [(SIT_LINK.STATE 3 0, 1)]), 3, 0, 0xFF, (encodeToken 0xFF 3 1), by decide +kernel⟩,
   ⟨(panel [(SIT_LINK.STATE 3 0, 2)]), 3, 0, by decide +kernel⟩,
   ⟨ready, .host, 3, 0, by decide +kernel⟩,
   ⟨ready, by decide +kernel⟩,
   ⟨ready, .host, 3, 0, by decide +kernel⟩,
   ⟨ready, .host, 3, 0, by decide +kernel⟩,
   ⟨ready, by decide +kernel⟩⟩

/-- The hypotheses of MeshPacketCommandsComplete can be met. -/
theorem witness_MeshPacketCommandsComplete :
    (∃ (s : State) (p : Packet), s.endpointDrop p.dst p = none ∧ p.dst < 169 ∧ p.dst ≠ 84 ∧ ppaSpace p.ppa = 0 ∧ ppaSite p.ppa = p.dst) ∧
    (∃ (s : State) (node : Nat) (p : Packet), node < 169 ∧ node ≠ 84 ∧ s.powered node = true ∧ ppaSpace p.ppa = 0 ∧ s.retired.contains node = false) ∧
    (∃ (s : State) (p : Packet), s.endpointDrop p.dst p = none ∧ p.dst < 169 ∧ p.dst ≠ 84) ∧
    (∃ (s : State) (p : Packet) (r : Request), s.answers p.dst = true ∧ s.requests.find? (fun r => r.node == p.dst && r.tag == p.tag && !r.write) = some r) ∧
    (∃ (s : State) (p : Packet) (r : Request), s.answers p.dst = true ∧ s.requests.find? (fun r => r.node == p.dst && r.tag == p.tag && r.write) = some r ∧ r.left = 1) ∧
    (∃ (s : State) (node : Nat) (tag : Nat) (r : Request), s.requests.find? (fun r => r.node == node && r.tag == tag) = some r ∧ r.write = true) ∧
    (∃ (s : State) (p : Packet), s.endpointDrop p.dst p = none ∧ p.dst < 169 ∧ stackSite p.src = false) :=
  ⟨⟨ready, { src := 4, dst := 3, type := 1, bytes := 64, ppa := mkPpa 0 3 0 }, by decide +kernel⟩,
   ⟨ready, 3, { src := 4, dst := 3, type := 4, bytes := 64, ppa := mkPpa 0 5 0 }, by decide +kernel⟩,
   ⟨ready, { src := 4, dst := 3, type := 9 }, by decide +kernel⟩,
   ⟨{ panel [] with requests := [{ node := 3, tag := 7, use := .core 0, dst := 4, write := false, ppa := mkPpa 0 4 0, bytes := 8 }] }, { src := 4, dst := 3, type := 8, tag := 7 }, { node := 3, tag := 7, use := .core 0, dst := 4, write := false, ppa := mkPpa 0 4 0, bytes := 8 }, by decide +kernel⟩,
   ⟨{ panel [] with requests := [{ node := 3, tag := 7, use := .core 0, dst := 4, write := true, ppa := mkPpa 0 4 0, bytes := 8 }] }, { src := 4, dst := 3, type := 8, tag := 7 }, { node := 3, tag := 7, use := .core 0, dst := 4, write := true, ppa := mkPpa 0 4 0, bytes := 8 }, by decide +kernel⟩,
   ⟨{ panel [] with requests := [{ node := 3, tag := 7, use := .core 0, dst := 4, write := true, ppa := mkPpa 0 4 0, bytes := 8 }] }, 3, 7, { node := 3, tag := 7, use := .core 0, dst := 4, write := true, ppa := mkPpa 0 4 0, bytes := 8 }, by decide +kernel⟩,
   ⟨ready, { src := 169, dst := 3, type := 12, len := 8 }, by decide +kernel⟩⟩

/-- The hypotheses of RegisterAccessesComplete can be met. -/
theorem witness_RegisterAccessesComplete :
    (∃ (s : State) (who : Requester) (addr : Nat) (value : Nat) (d : RegDesc), addr + 8 ≤ barEnd ∧ msixArea addr = false ∧ slotKey addr = none ∧ addr % 8 = 0 ∧ addr ≠ ISB_COUNT.REG ∧ regOf addr = some d ∧ ownWrite who d addr value s = none ∧ s.hubOpen ∧ siteWindow addr = false ∧ d.base ≠ RST_FW_SRC.REG ∧ d.base ≠ RST_FW_LEN.REG ∧ d.base ≠ OVC_SRC.REG ∧ d.base ≠ OVC_LEN.REG) ∧
    (∃ (s : State) (who : Requester) (addr : Nat) (value : Nat) (d : RegDesc), addr + 8 ≤ barEnd ∧ msixArea addr = false ∧ slotKey addr = none ∧ addr % 8 = 0 ∧ addr ≠ ISB_COUNT.REG ∧ regOf addr = some d ∧ ownWrite who d addr value s = none ∧ s.hubRuns = true ∧ siteWindow addr = true ∧ s.siteOpen who addr (siteOfAddr addr) ∧ d.base ≠ RST_FW_SRC.REG ∧ d.base ≠ RST_FW_LEN.REG ∧ d.base ≠ OVC_SRC.REG ∧ d.base ≠ OVC_LEN.REG) ∧
    (∃ (s : State) (addr : Nat) (bytes : Nat), 0x4010000 ≤ addr ∧ addr < 0x4050000 ∧ addr % 64 + bytes ≤ 64 ∧ s.hubRuns = true ∧ s.doldrums = false) ∧
    (∃ (s : State) (addr : Nat) (bytes : Nat), addr < barEnd ∧ addr + bytes ≤ barEnd ∧ msixArea addr = false ∧ slotKey addr = none ∧ s.hubRuns = true ∧ (bytes ≠ 8 ∨ addr % 8 ≠ 0)) ∧
    (∃ (s : State) (who : Requester) (addr : Nat) (bytes : Nat) (d : RegDesc), addr + bytes ≤ barEnd ∧ msixArea addr = false ∧ slotKey addr = none ∧ (bytes = 4 ∨ bytes = 8) ∧ addr % bytes = 0 ∧ regOf (addr / 8 * 8) = some d ∧ ownRead who d addr bytes s = none ∧ s.hubOpen ∧ siteWindow addr = false) ∧
    (∃ (s : State) (who : Requester) (addr : Nat) (bytes : Nat) (d : RegDesc), addr + bytes ≤ barEnd ∧ msixArea addr = false ∧ slotKey addr = none ∧ (bytes = 4 ∨ bytes = 8) ∧ addr % bytes = 0 ∧ regOf (addr / 8 * 8) = some d ∧ ownRead who d addr bytes s = none ∧ s.hubRuns = true ∧ siteWindow addr = true ∧ s.siteOpen who addr (siteOfAddr addr)) ∧
    (∃ (s : State) (addr : Nat) (bytes : Nat), addr < barEnd ∧ addr + bytes ≤ barEnd ∧ s.hubRuns = true ∧ ((bytes ≠ 4 ∧ bytes ≠ 8) ∨ addr % bytes ≠ 0)) :=
  ⟨⟨ready, .host, MSH_CFG.REG, 5, ((regOf MSH_CFG.REG).get (by decide +kernel)), by decide +kernel, by decide +kernel, by decide +kernel, by decide +kernel, by decide +kernel, by decide +kernel, Option.isNone_iff_eq_none.mp (by decide +kernel), by decide +kernel, by decide +kernel, by decide +kernel, by decide +kernel, by decide +kernel, by decide +kernel⟩,
   ⟨ready, .host, (MXA_WBASE.REG 3 17), 5, ((regOf (MXA_WBASE.REG 3 17)).get (by decide +kernel)), by decide +kernel, by decide +kernel, by decide +kernel, by decide +kernel, by decide +kernel, by decide +kernel, Option.isNone_iff_eq_none.mp (by decide +kernel), by decide +kernel, by decide +kernel, by decide +kernel, by decide +kernel, by decide +kernel, by decide +kernel, by decide +kernel⟩,
   ⟨ready, 0x404FFFC, 4, by decide +kernel⟩,
   ⟨ready, (barEnd - 4), 4, by decide +kernel⟩,
   ⟨ready, .host, (MSH_CFG.REG + 4), 4, ((regOf MSH_CFG.REG).get (by decide +kernel)), by decide +kernel, by decide +kernel, by decide +kernel, by decide +kernel, by decide +kernel, by decide +kernel, Option.isNone_iff_eq_none.mp (by decide +kernel), by decide +kernel, by decide +kernel⟩,
   ⟨ready, .host, (MXA_WBASE.REG 3 17), 4, ((regOf (MXA_WBASE.REG 3 17)).get (by decide +kernel)), by decide +kernel, by decide +kernel, by decide +kernel, by decide +kernel, by decide +kernel, by decide +kernel, Option.isNone_iff_eq_none.mp (by decide +kernel), by decide +kernel, by decide +kernel, by decide +kernel⟩,
   ⟨ready, (barEnd - 2), 2, by decide +kernel⟩⟩

/-- The hypotheses of DiscoveryCommandsComplete can be met. -/
theorem witness_DiscoveryCommandsComplete :
    (∃ (s : State), s.hubRuns = true ∧ s.flag CLK_STATUS.BILLOW_RUN = true ∧ s.flag HUB_DISC_STATUS.RUNNING = false ∧ s.flag HUB_DISC_STATUS.DONE = false) ∧
    (∃ (s : State) (site : Nat) (place : Nat × Nat) (p : Probe), probePlace p = some place ∧ s.flag HUB_DISC_STATUS.RUNNING = true ∧ stackSite site = true ∧ s.domainOn site 3 = true ∧ s.flag (CLK_SITE.LOCK site) = true ∧ look s.disc.reached site = none) ∧
    (∃ (s : State), s.flag HUB_DISC_STATUS.RUNNING = true) ∧
    (∃ (s : State) (a : PortRef) (b : PortRef) (verA : Nat) (verB : Nat), linkEnds a b = true ∧ s.portUp a.node a.port = true ∧ (verA = 2 ∨ verA = 3) ∧ (verB = 2 ∨ verB = 3)) ∧
    (∃ (s : State), s.hubOpen) :=
  ⟨⟨(withFields [(CLK_STATUS.BILLOW_RUN, 1)]), by decide +kernel⟩,
   ⟨(withFields ([(HUB_DISC_STATUS.RUNNING, 1), (CLK_SITE.LOCK 57, 1)] ++ (below 6).map (fun d => (domainLoc 57 d, 3)))), 57, (57, 0), { hport := 0, hops := [], entry := 2, ring := [] }, by decide +kernel⟩,
   ⟨(withFields [(HUB_DISC_STATUS.RUNNING, 1)]), by decide +kernel⟩,
   ⟨(withFields [(SIT_LINK.STATE 3 1, 3)]), ⟨3, 1⟩, ⟨4, 3⟩, 2, 3, by decide +kernel⟩,
   ⟨ready, by decide +kernel⟩⟩

/-- The hypotheses of SundogCommandsComplete can be met. -/
theorem witness_SundogCommandsComplete :
    (∃ (s : State) (site : Nat) (a : Nat) (t : Tile) (ts : List Tile), (s.array site a).tiles = t :: ts ∧ t.closed = true ∧ t.parity = false ∧ popCount 256 t.marks ≠ t.entries ∧ t.o = t.c ∧ t.replay = none ∧ (s.setArray site a { s.array site a with tiles := ts }).flag SDG_STATUS.CHECK_ACTIVE = true) ∧
    (∃ (s : State) (site : Nat) (a : Nat) (t : Tile) (ts : List Tile), (s.array site a).tiles = t :: ts ∧ t.closed = true ∧ t.parity = false ∧ popCount 256 t.marks ≠ t.entries ∧ t.o ≠ t.c ∧ (s.setArray site a { s.array site a with tiles := ts }).flag SDG_STATUS.CHECK_ACTIVE = true) ∧
    (∃ (s : State) (site : Nat) (h : Nat), h = s.voteWord site 0x100 ∧ bit h 63 = true ∧ s.gelatUp site = true) ∧
    (∃ (s : State) (site : Nat) (cp : Nat) (v : Vote) (vs : List Vote) (rr : Nat), s.siteVotes site = v :: vs ∧ v.rr = some rr ∧ s.cPrime site = some cp) ∧
    (∃ (s : State) (site : Nat) (v : Vote) (vs : List Vote), s.siteVotes site = v :: vs) ∧
    (∃ (s : State), s.hubOpen) ∧
    (∃ (s : State) (value : Nat) (r : List Word), s.hubRuns = true ∧ look s.baro (value % 2 ^ 64) = some r) :=
  ⟨⟨{ panel [(SDG_STATUS.CHECK_ACTIVE, 1)] with arrays := [(arrayKey 3 0, ({ tiles := [{ closed := true, count := 1, entries := 3, o := 5, c := 5 }] } : ArrayState))] }, 3, 0, { closed := true, count := 1, entries := 3, o := 5, c := 5 }, [], by decide +kernel⟩,
   ⟨{ panel [(SDG_STATUS.CHECK_ACTIVE, 1)] with arrays := [(arrayKey 3 0, ({ tiles := [{ closed := true, count := 1, entries := 3, o := 5, c := 6 }] } : ArrayState))] }, 3, 0, { closed := true, count := 1, entries := 3, o := 5, c := 6 }, [], by decide +kernel⟩,
   ⟨((panel []).writeOwn 3 0x100 [0x8000000000000000]), 3, 0x8000000000000000, by decide +kernel⟩,
   ⟨{ (panel []).writeOwn 3 0x80 [0x8000000000000000] with votes := [(3, [{ array := 0, tile := {}, partner := 4, rerun := 20, bank := 0, rr := some 5 }])] }, 3, 0, { array := 0, tile := {}, partner := 4, rerun := 20, bank := 0, rr := some 5 }, [], 5, by decide +kernel⟩,
   ⟨{ panel [] with votes := [(3, [{ array := 0, tile := {}, partner := 4, rerun := 20, bank := 0, rr := some 5 }])] }, 3, { array := 0, tile := {}, partner := 4, rerun := 20, bank := 0, rr := some 5 }, [], by decide +kernel⟩,
   ⟨ready, by decide +kernel⟩,
   ⟨{ panel [] with baro := [(7, [0#64])] }, 7, [0#64], by decide +kernel⟩⟩

/-- The hypotheses of GaleLinkCommandsComplete (part 1) can be met. -/
theorem witness_GaleLinkCommandsComplete_0 :
    (∃ (s : State) (l : Nat) (value : Nat), s.hubOpen ∧ bit value 0 = true ∧ bit value 1 = false ∧ (let t := (s.put (GAL_LCTRL.REPLAY_TO l) (Nat.max 1 (bits value 63 48))).put (GAL_LCTRL.FEC_LIMIT l) (Nat.max 1 (bits value 47 32))
      let u := (((t.setLink l (t.link l)).put (GAL_LCTRL.LOOPBACK_OK l) (bits value 3 3)).put (GAL_LCTRL.FALLBACK_EN l) (bits value 2 2)).put (GAL_LCTRL.EN l) (bits value 0 0)
      u.linkSt l = 0)) ∧
    (∃ (s : State), s.hubOpen) ∧
    (∃ (s : State) (l : Nat), s.linkSt l = 2) ∧
    (∃ (s : State) (l : Nat), s.linkSt l = 3) ∧
    (∃ (s : State) (l : Nat), s.linkSt l = 4) ∧
    (∃ (s : State) (l : Nat) (f : ParamFlit), s.linkSt l = 5 ∧ s.paramOk l f = true) ∧
    (∃ (s : State) (l : Nat) (f : ParamFlit), s.linkSt l = 5 ∧ s.paramOk l f = false) :=
  ⟨⟨(panel [(GAL_LSTATUS.STATE 0, 0)]), 0, 1, by decide +kernel⟩,
   ⟨ready, by decide +kernel⟩,
   ⟨{ panel [(GAL_LSTATUS.STATE 0, 2)] with gale := [] }, 0, by decide +kernel⟩,
   ⟨{ panel [(GAL_LSTATUS.STATE 0, 3)] with gale := [] }, 0, by decide +kernel⟩,
   ⟨{ panel [(GAL_LSTATUS.STATE 0, 4)] with gale := [] }, 0, by decide +kernel⟩,
   ⟨{ panel [(GAL_LSTATUS.STATE 0, 5)] with gale := [] }, 0, { version := 1, rate := 1, panel := 7, link := 0, credits := [32, 32, 32] }, by decide +kernel⟩,
   ⟨{ panel [(GAL_LSTATUS.STATE 0, 5)] with gale := [] }, 0, { version := 2, rate := 1, panel := 7, link := 0, credits := [32, 32, 32] }, by decide +kernel⟩⟩

/-- The hypotheses of GaleLinkCommandsComplete (part 2) can be met. -/
theorem witness_GaleLinkCommandsComplete_1 :
    (∃ (s : State) (l : Nat), 2 ≤ s.linkSt l ∧ s.linkSt l ≤ 5) ∧
    (∃ (s : State) (l : Nat), s.linkSt l = 7) ∧
    (∃ (s : State) (l : Nat) (h : Nat) (bytes : List Nat), h = ofLe (bytes.take 8) ∧ s.linkSt l = 6 ∧ ofLe ((bytes.drop 252).take 4) = crc32 crcEthernet (bytes.take 252) ∧ bit h 37 = false ∧ bits h 63 62 ≠ 1 ∧ (let r := ((s.setLink l { s.link l with crcRun := 0 }).flitAck l (bits h 49 38)).flitCredit l [bits h 24 17, bits h 16 9, bits h 8 1]
      r.2 = true)) ∧
    (∃ (s : State) (l : Nat) (bytes : List Nat), s.linkSt l = 6 ∧ ofLe ((bytes.drop 252).take 4) ≠ crc32 crcEthernet (bytes.take 252) ∧ (let t := (s.addSat (GAL_LLERR.CRC l) 1).flitDiscard l
      (t.link l).crcRun < 3)) ∧
    (∃ (s : State) (l : Nat), s.linkSt l = 6 ∧ (s.link l).unacked.isEmpty = false) ∧
    (∃ (s : State) (l : Nat) (corrected : Nat) (uncorrectable : Nat), (let t := (s.addSat (GAL_FEC.CORRECTED l) corrected).addSat (GAL_FEC.UNCORR l) uncorrectable
      t.linkSt l = 6 ∧ t.get (GAL_LCTRL.FEC_LIMIT l) < uncorrectable ∧ uncorrectable ≤ 16 * t.get (GAL_LCTRL.FEC_LIMIT l))) ∧
    (∃ (s : State) (value : Nat), s.hubOpen ∧ (let t := s.put GAL_PANEL.COLL_LIMIT (Nat.max 1 (bits value 31 0))
      (t.gale.map (·.1)).all (fun l => t.linkSt l == 0 || t.linkSt l == 8 || t.linkSt l == 9) = true)) :=
  ⟨⟨{ panel [(GAL_LSTATUS.STATE 0, 5)] with gale := [] }, 0, by decide +kernel⟩,
   ⟨{ panel [(GAL_LSTATUS.STATE 0, 7)] with gale := [] }, 0, by decide +kernel⟩,
   ⟨{ panel [(GAL_LSTATUS.STATE 0, 6)] with gale := [] }, 0, 0, (List.replicate 252 0 ++ leBytes 4 (crc32 crcEthernet (List.replicate 252 0))), by decide +kernel⟩,
   ⟨{ panel [(GAL_LSTATUS.STATE 0, 6)] with gale := [(0, { crcRun := 1 })] }, 0, (List.replicate 256 0), by decide +kernel⟩,
   ⟨{ panel [(GAL_LSTATUS.STATE 0, 6)] with gale := [(0, { unacked := [⟨0, true, true, 5, []⟩] })] }, 0, by decide +kernel⟩,
   ⟨((withFields [(GAL_LSTATUS.STATE 0, 6), (GAL_LCTRL.FEC_LIMIT 0, 2)])), 0, 5, 3, by decide +kernel⟩,
   ⟨(panel []), 2, by decide +kernel⟩⟩

/-- The hypotheses of ConduitPacketsComplete can be met. -/
theorem witness_ConduitPacketsComplete :
    (∃ (s : State) (t : State) (l : Nat) (c : Nat) (p : GalePacket), s.receive l { p with type := 1 } = (t, some c) ∧ t.cndState c = 1) ∧
    (∃ (s : State) (t : State) (u : State) (l : Nat) (c : Nat) (p : GalePacket), s.receive l { p with type := 2 } = (t, some c) ∧ t.cndState c ≠ 1 ∧ t.inOrder c { p with type := 2 } = (u, true)) ∧
    (∃ (s : State) (t : State) (l : Nat) (c : Nat) (i : Nat) (p : GalePacket), s.receive l { p with type := 3 } = (t, some c) ∧ t.cndState c ≠ 1 ∧ statusOf p.status = 0 ∧ indexOf? (fun (q : GalePacket) => q.psn == p.apsn) ((t.conduit c).txs p.stream).unacked = some i) ∧
    (∃ (s : State) (t : State) (l : Nat) (c : Nat) (p : GalePacket), s.takeNext l { p with type := 4 } = (t, some c) ∧ (let u := t.accept c { p with type := 4 }
      u.windowCheck c p.offset p.len true = 0)) ∧
    (∃ (s : State) (t : State) (l : Nat) (c : Nat) (p : GalePacket), s.takeNext l { p with type := 5 } = (t, some c) ∧ (let u := (t.accept c { p with type := 5 }).cndAckEvery c 0
      u.windowCheck c p.offset p.len false = 0)) ∧
    (∃ (s : State) (t : State) (l : Nat) (c : Nat) (p : GalePacket) (a : MeshAsk), s.takeNext l { p with type := 6 } = (t, some c) ∧ statusOf p.status = 0 ∧ (let u := (t.accept c { p with type := 6 }).cndAckEvery c 1
      look (u.conduit c).gets p.ref = some a ∧ p.data.length = a.bytes)) ∧
    (∃ (s : State) (t : State) (l : Nat) (c : Nat) (tail : Nat) (p : GalePacket), s.takeNext l { p with type := 7 } = (t, some c) ∧ t.get (GAL_CND_RX.LOG2 c) ≠ 0 ∧ tail = (t.get (GAL_CND_RX.TAIL c) + ((t.conduit c).ops.filter (fun o => o.kind == 2 || o.kind == 3)).length) % 2 ^ t.get (GAL_CND_RX.LOG2 c) ∧ (tail + 1) % 2 ^ t.get (GAL_CND_RX.LOG2 c) ≠ t.get (GAL_CND_RX.HEAD c)) :=
  ⟨⟨{ panel [(GAL_LSTATUS.STATE 0, 6), (GAL_PANEL.ID, 9), (GAL_CND_STATE.STATE 0, 1), (GAL_CND_CFG.EDGE 0, 0), (GAL_CND_CFG.LINKS 0, 1), (GAL_CND_CFG.PEER_PANEL 0, 7), (ringOkBit (edgeNode 0 - 169), 1)] with conduits := [(0, ({} : Conduit))] }, (({ panel [(GAL_LSTATUS.STATE 0, 6), (GAL_PANEL.ID, 9), (GAL_CND_STATE.STATE 0, 1), (GAL_CND_CFG.EDGE 0, 0), (GAL_CND_CFG.LINKS 0, 1), (GAL_CND_CFG.PEER_PANEL 0, 7), (ringOkBit (edgeNode 0 - 169), 1)] with conduits := [(0, ({} : Conduit))] } : State).receive 0 { dpanel := 9, spanel := 7, dcnd := 0, type := 1, stream := 0, len := 0 }).1, 0, 0, { dpanel := 9, spanel := 7, dcnd := 0, type := 1, stream := 0, len := 0 }, by decide +kernel⟩,
   ⟨{ panel [(GAL_LSTATUS.STATE 0, 6), (GAL_PANEL.ID, 9), (GAL_CND_STATE.STATE 0, 2), (GAL_CND_CFG.EDGE 0, 0), (GAL_CND_CFG.LINKS 0, 1), (GAL_CND_CFG.PEER_PANEL 0, 7), (ringOkBit (edgeNode 0 - 169), 1)] with conduits := [(0, ({} : Conduit))] }, (({ panel [(GAL_LSTATUS.STATE 0, 6), (GAL_PANEL.ID, 9), (GAL_CND_STATE.STATE 0, 2), (GAL_CND_CFG.EDGE 0, 0), (GAL_CND_CFG.LINKS 0, 1), (GAL_CND_CFG.PEER_PANEL 0, 7), (ringOkBit (edgeNode 0 - 169), 1)] with conduits := [(0, ({} : Conduit))] } : State).receive 0 { dpanel := 9, spanel := 7, dcnd := 0, type := 2, stream := 0, len := 0 }).1, (((({ panel [(GAL_LSTATUS.STATE 0, 6), (GAL_PANEL.ID, 9), (GAL_CND_STATE.STATE 0, 2), (GAL_CND_CFG.EDGE 0, 0), (GAL_CND_CFG.LINKS 0, 1), (GAL_CND_CFG.PEER_PANEL 0, 7), (ringOkBit (edgeNode 0 - 169), 1)] with conduits := [(0, ({} : Conduit))] } : State).receive 0 { dpanel := 9, spanel := 7, dcnd := 0, type := 2, stream := 0, len := 0 }).1).inOrder 0 { dpanel := 9, spanel := 7, dcnd := 0, type := 2, stream := 0, len := 0 }).1, 0, 0, { dpanel := 9, spanel := 7, dcnd := 0, type := 2, stream := 0, len := 0 }, by decide +kernel⟩,
   ⟨{ panel [(GAL_LSTATUS.STATE 0, 6), (GAL_PANEL.ID, 9), (GAL_CND_STATE.STATE 0, 2), (GAL_CND_CFG.EDGE 0, 0), (GAL_CND_CFG.LINKS 0, 1), (GAL_CND_CFG.PEER_PANEL 0, 7), (ringOkBit (edgeNode 0 - 169), 1)] with conduits := [(0, ({ tx := [{ unacked := [{ dpanel := 9, spanel := 7, dcnd := 0, type := 4, stream := 0, len := 8 }] }, {}, {}] } : Conduit))] }, (({ panel [(GAL_LSTATUS.STATE 0, 6), (GAL_PANEL.ID, 9), (GAL_CND_STATE.STATE 0, 2), (GAL_CND_CFG.EDGE 0, 0), (GAL_CND_CFG.LINKS 0, 1), (GAL_CND_CFG.PEER_PANEL 0, 7), (ringOkBit (edgeNode 0 - 169), 1)] with conduits := [(0, ({ tx := [{ unacked := [{ dpanel := 9, spanel := 7, dcnd := 0, type := 4, stream := 0, len := 8 }] }, {}, {}] } : Conduit))] } : State).receive 0 { dpanel := 9, spanel := 7, dcnd := 0, type := 3, stream := 0, len := 0 }).1, 0, 0, 0, { dpanel := 9, spanel := 7, dcnd := 0, type := 3, stream := 0, len := 0 }, by decide +kernel⟩,
   ⟨{ panel [(GAL_LSTATUS.STATE 0, 6), (GAL_PANEL.ID, 9), (GAL_CND_STATE.STATE 0, 2), (GAL_CND_CFG.EDGE 0, 0), (GAL_CND_CFG.LINKS 0, 1), (GAL_CND_CFG.PEER_PANEL 0, 7), (ringOkBit (edgeNode 0 - 169), 1), (GAL_CND_WBASE.W 0, 1), (GAL_CND_WSIZE.SIZE 0, 4096)] with conduits := [(0, ({} : Conduit))] }, (({ panel [(GAL_LSTATUS.STATE 0, 6), (GAL_PANEL.ID, 9), (GAL_CND_STATE.STATE 0, 2), (GAL_CND_CFG.EDGE 0, 0), (GAL_CND_CFG.LINKS 0, 1), (GAL_CND_CFG.PEER_PANEL 0, 7), (ringOkBit (edgeNode 0 - 169), 1), (GAL_CND_WBASE.W 0, 1), (GAL_CND_WSIZE.SIZE 0, 4096)] with conduits := [(0, ({} : Conduit))] } : State).takeNext 0 { dpanel := 9, spanel := 7, dcnd := 0, type := 4, stream := 0, len := 4096 }).1, 0, 0, { dpanel := 9, spanel := 7, dcnd := 0, type := 4, stream := 0, len := 4096 }, by decide +kernel⟩,
   ⟨{ panel [(GAL_LSTATUS.STATE 0, 6), (GAL_PANEL.ID, 9), (GAL_CND_STATE.STATE 0, 2), (GAL_CND_CFG.EDGE 0, 0), (GAL_CND_CFG.LINKS 0, 1), (GAL_CND_CFG.PEER_PANEL 0, 7), (ringOkBit (edgeNode 0 - 169), 1), (GAL_CND_WBASE.R 0, 1), (GAL_CND_WSIZE.SIZE 0, 4096)] with conduits := [(0, ({} : Conduit))] }, (({ panel [(GAL_LSTATUS.STATE 0, 6), (GAL_PANEL.ID, 9), (GAL_CND_STATE.STATE 0, 2), (GAL_CND_CFG.EDGE 0, 0), (GAL_CND_CFG.LINKS 0, 1), (GAL_CND_CFG.PEER_PANEL 0, 7), (ringOkBit (edgeNode 0 - 169), 1), (GAL_CND_WBASE.R 0, 1), (GAL_CND_WSIZE.SIZE 0, 4096)] with conduits := [(0, ({} : Conduit))] } : State).takeNext 0 { dpanel := 9, spanel := 7, dcnd := 0, type := 5, stream := 0, len := 1 }).1, 0, 0, { dpanel := 9, spanel := 7, dcnd := 0, type := 5, stream := 0, len := 1 }, by decide +kernel⟩,
   ⟨{ panel [(GAL_LSTATUS.STATE 0, 6), (GAL_PANEL.ID, 9), (GAL_CND_STATE.STATE 0, 2), (GAL_CND_CFG.EDGE 0, 0), (GAL_CND_CFG.LINKS 0, 1), (GAL_CND_CFG.PEER_PANEL 0, 7), (ringOkBit (edgeNode 0 - 169), 1)] with conduits := [(0, ({ gets := [(0, ⟨3, 5, 2, 0⟩)] } : Conduit))] }, (({ panel [(GAL_LSTATUS.STATE 0, 6), (GAL_PANEL.ID, 9), (GAL_CND_STATE.STATE 0, 2), (GAL_CND_CFG.EDGE 0, 0), (GAL_CND_CFG.LINKS 0, 1), (GAL_CND_CFG.PEER_PANEL 0, 7), (ringOkBit (edgeNode 0 - 169), 1)] with conduits := [(0, ({ gets := [(0, ⟨3, 5, 2, 0⟩)] } : Conduit))] } : State).takeNext 0 { dpanel := 9, spanel := 7, dcnd := 0, type := 6, stream := 1, len := 2, data := [1, 2] }).1, 0, 0, { dpanel := 9, spanel := 7, dcnd := 0, type := 6, stream := 1, len := 2, data := [1, 2] }, ⟨3, 5, 2, 0⟩, by decide +kernel⟩,
   ⟨{ panel [(GAL_LSTATUS.STATE 0, 6), (GAL_PANEL.ID, 9), (GAL_CND_STATE.STATE 0, 2), (GAL_CND_CFG.EDGE 0, 0), (GAL_CND_CFG.LINKS 0, 1), (GAL_CND_CFG.PEER_PANEL 0, 7), (ringOkBit (edgeNode 0 - 169), 1), (GAL_CND_RX.LOG2 0, 4)] with conduits := [(0, ({} : Conduit))] }, (({ panel [(GAL_LSTATUS.STATE 0, 6), (GAL_PANEL.ID, 9), (GAL_CND_STATE.STATE 0, 2), (GAL_CND_CFG.EDGE 0, 0), (GAL_CND_CFG.LINKS 0, 1), (GAL_CND_CFG.PEER_PANEL 0, 7), (ringOkBit (edgeNode 0 - 169), 1), (GAL_CND_RX.LOG2 0, 4)] with conduits := [(0, ({} : Conduit))] } : State).takeNext 0 { dpanel := 9, spanel := 7, dcnd := 0, type := 7, stream := 2, len := 4080 }).1, 0, 0, 0, { dpanel := 9, spanel := 7, dcnd := 0, type := 7, stream := 2, len := 4080 }, by decide +kernel⟩⟩

/-- The hypotheses of ConduitCommandsComplete (part 1) can be met. -/
theorem witness_ConduitCommandsComplete_0 :
    (∃ (s : State) (c : Nat) (st : Nat), (s.cndState c = 2 ∨ s.cndState c = 3) ∧ ((s.conduit c).txs st).unacked.isEmpty = false ∧ (s.conduit c).rnr = none ∧ ((s.conduit c).txs st).timeouts + 1 < s.get GAL_TIMERS.RETRIES) ∧
    (∃ (s : State) (c : Nat) (st : Nat), (s.cndState c = 2 ∨ s.cndState c = 3) ∧ ((s.conduit c).txs st).unacked.isEmpty = false ∧ (s.conduit c).rnr = none ∧ s.get GAL_TIMERS.RETRIES ≤ ((s.conduit c).txs st).timeouts + 1) ∧
    (∃ (s : State) (c : Nat), s.cndState c = 1) ∧
    (∃ (s : State) (c : Nat), s.cndState c = 2) ∧
    (∃ (s : State) (c : Nat), (s.cndState c = 2 ∨ s.cndState c = 3) ∧ s.cndLink c = none) ∧
    (∃ (s : State) (c : Nat) (st : Nat) (ref : Nat), (s.conduit c).rnr = some (st, ref)) ∧
    (∃ (s : State) (c : Nat) (st : Nat), (s.cndState c = 2 ∨ s.cndState c = 3) ∧ 0 < ((s.conduit c).rxs st).since) :=
  ⟨⟨{ panel [(GAL_LSTATUS.STATE 0, 6), (GAL_PANEL.ID, 9), (GAL_CND_STATE.STATE 0, 3), (GAL_CND_CFG.EDGE 0, 0), (GAL_CND_CFG.LINKS 0, 1), (GAL_CND_CFG.PEER_PANEL 0, 7), (ringOkBit (edgeNode 0 - 169), 1), (GAL_TIMERS.RETRIES, 7)] with conduits := [(0, ({ tx := [{ unacked := [{ dpanel := 9, spanel := 7, dcnd := 0, type := 4, stream := 0, len := 8 }] }, {}, {}] } : Conduit))] }, 0, 0, by decide +kernel⟩,
   ⟨{ panel [(GAL_LSTATUS.STATE 0, 6), (GAL_PANEL.ID, 9), (GAL_CND_STATE.STATE 0, 2), (GAL_CND_CFG.EDGE 0, 0), (GAL_CND_CFG.LINKS 0, 1), (GAL_CND_CFG.PEER_PANEL 0, 7), (ringOkBit (edgeNode 0 - 169), 1), (GAL_TIMERS.RETRIES, 8)] with conduits := [(0, ({ tx := [{ unacked := [{ dpanel := 9, spanel := 7, dcnd := 0, type := 4, stream := 0, len := 8 }], timeouts := 7 }, {}, {}] } : Conduit))] }, 0, 0, by decide +kernel⟩,
   ⟨{ panel [(GAL_LSTATUS.STATE 0, 6), (GAL_PANEL.ID, 9), (GAL_CND_STATE.STATE 0, 1), (GAL_CND_CFG.EDGE 0, 0), (GAL_CND_CFG.LINKS 0, 1), (GAL_CND_CFG.PEER_PANEL 0, 7), (ringOkBit (edgeNode 0 - 169), 1)] with conduits := [(0, ({} : Conduit))] }, 0, by decide +kernel⟩,
   ⟨{ panel [(GAL_LSTATUS.STATE 0, 6), (GAL_PANEL.ID, 9), (GAL_CND_STATE.STATE 0, 2), (GAL_CND_CFG.EDGE 0, 0), (GAL_CND_CFG.LINKS 0, 1), (GAL_CND_CFG.PEER_PANEL 0, 7), (ringOkBit (edgeNode 0 - 169), 1)] with conduits := [(0, ({} : Conduit))] }, 0, by decide +kernel⟩,
   ⟨{ panel [(GAL_LSTATUS.STATE 0, 7), (GAL_PANEL.ID, 9), (GAL_CND_STATE.STATE 0, 3), (GAL_CND_CFG.EDGE 0, 0), (GAL_CND_CFG.LINKS 0, 1), (GAL_CND_CFG.PEER_PANEL 0, 7), (ringOkBit (edgeNode 0 - 169), 1)] with conduits := [(0, ({} : Conduit))] }, 0, by decide +kernel⟩,
   ⟨{ panel [(GAL_LSTATUS.STATE 0, 6), (GAL_PANEL.ID, 9), (GAL_CND_STATE.STATE 0, 2), (GAL_CND_CFG.EDGE 0, 0), (GAL_CND_CFG.LINKS 0, 1), (GAL_CND_CFG.PEER_PANEL 0, 7), (ringOkBit (edgeNode 0 - 169), 1)] with conduits := [(0, ({ rnr := some (2, 4) } : Conduit))] }, 0, 2, 4, by decide +kernel⟩,
   ⟨{ panel [(GAL_LSTATUS.STATE 0, 6), (GAL_PANEL.ID, 9), (GAL_CND_STATE.STATE 0, 2), (GAL_CND_CFG.EDGE 0, 0), (GAL_CND_CFG.LINKS 0, 1), (GAL_CND_CFG.PEER_PANEL 0, 7), (ringOkBit (edgeNode 0 - 169), 1)] with conduits := [(0, ({ rx := [{ since := 1 }, {}, {}] } : Conduit))] }, 0, 0, by decide +kernel⟩⟩

/-- The hypotheses of ConduitCommandsComplete (part 2) can be met. -/
theorem witness_ConduitCommandsComplete_1 :
    (∃ (s : State) (e : Nat) (t : Nat) (value : Nat), s.hubOpen ∧ s.betweenPasses = true ∧ ((State.slotBad e (below 64) 0
      (s.put (GAL_COLL_W2.DEST e t) (bits value 55 0))).activeSlots.filter (fun p => p.1 == e && ((State.slotBad e (below 64) 0
      (s.put (GAL_COLL_W2.DEST e t) (bits value 55 0))).collTree e p.2).bad)) = []) ∧
    (∃ (s : State) (e : Nat) (t : Nat), s.collActive e t = true ∧ s.collIdle e t = false) ∧
    (∃ (s : State) (c : Nat), s.hubOpen ∧ (s.cndState c = 0 ∨ s.cndState c = 4)) ∧
    (∃ (s : State) (c : Nat), s.hubOpen ∧ (s.cndState c = 0 ∨ s.cndState c = 4)) ∧
    (∃ (s : State), s.hubOpen ∧ s.betweenPasses = true) ∧
    (∃ (s : State) (c : Nat), s.hubOpen ∧ s.cndState c ≠ 0 ∧ s.cndState c ≠ 4) ∧
    (∃ (s : State) (c : Nat) (value : Nat), s.hubOpen ∧ bit value 63 = true ∧ (let t := s.put (GAL_CND_SCTL.LEN c) (bits value 11 0)
      t.flag (GAL_CND_SCTL.BUSY c) = false ∧ 1 ≤ bits value 11 0 ∧ bits value 11 0 ≤ 4080 ∧ t.cndState c = 2 ∧ ppaSpace (t.get (GAL_CND_SEND.SRC c)) ≤ 1 ∧ t.memValid (t.get (GAL_CND_SEND.SRC c)) = true ∧ t.memValid (t.get (GAL_CND_SEND.SRC c) + bits value 11 0 - 1) = true)) :=
  ⟨⟨ready, 0, 0, 0, by decide +kernel⟩,
   ⟨{ panel [(GAL_COLL_W3.STATE 0 0, 1)] with colls := [(collKey 0 0, { recs := [{ seq := 0 }] })] }, 0, 0, by decide +kernel⟩,
   ⟨{ panel [(GAL_LSTATUS.STATE 0, 6), (GAL_PANEL.ID, 9), (GAL_CND_STATE.STATE 0, 0), (GAL_CND_CFG.EDGE 0, 0), (GAL_CND_CFG.LINKS 0, 1), (GAL_CND_CFG.PEER_PANEL 0, 7), (ringOkBit (edgeNode 0 - 169), 1)] with conduits := [(0, ({} : Conduit))] }, 0, by decide +kernel⟩,
   ⟨{ panel [(GAL_LSTATUS.STATE 0, 6), (GAL_PANEL.ID, 9), (GAL_CND_STATE.STATE 0, 4), (GAL_CND_CFG.EDGE 0, 0), (GAL_CND_CFG.LINKS 0, 1), (GAL_CND_CFG.PEER_PANEL 0, 7), (ringOkBit (edgeNode 0 - 169), 1)] with conduits := [(0, ({} : Conduit))] }, 0, by decide +kernel⟩,
   ⟨ready, by decide +kernel⟩,
   ⟨{ panel [(GAL_LSTATUS.STATE 0, 6), (GAL_PANEL.ID, 9), (GAL_CND_STATE.STATE 0, 2), (GAL_CND_CFG.EDGE 0, 0), (GAL_CND_CFG.LINKS 0, 1), (GAL_CND_CFG.PEER_PANEL 0, 7), (ringOkBit (edgeNode 0 - 169), 1)] with conduits := [(0, ({} : Conduit))] }, 0, by decide +kernel⟩,
   ⟨{ panel [(GAL_LSTATUS.STATE 0, 6), (GAL_PANEL.ID, 9), (GAL_CND_STATE.STATE 0, 2), (GAL_CND_CFG.EDGE 0, 0), (GAL_CND_CFG.LINKS 0, 1), (GAL_CND_CFG.PEER_PANEL 0, 7), (ringOkBit (edgeNode 0 - 169), 1), (hbmStateLoc 1, 2), (GAL_CND_SEND.SRC 0, mkPpa 1 1 0)] with conduits := [(0, ({} : Conduit))] }, 0, (2 ^ 63 + 4080), by decide +kernel⟩⟩

/-- The hypotheses of ConduitCommandsComplete (part 3) can be met. -/
theorem witness_ConduitCommandsComplete_2 :
    ∃ (s : State) (value : Nat), s.hubOpen ∧ (sat 12 (bits value 3 0) = 0 ∨ bits value 31 16 < 2 ^ sat 12 (bits value 3 0)) :=
  ⟨ready, (15 * 2 ^ 16 + 4), by decide +kernel⟩

/-- The hypotheses of ModuleCommandsComplete (part 1) can be met. -/
theorem witness_ModuleCommandsComplete_0 :
    (∃ (s : State) (k : Nat) (m : ModuleId), (let t := s.setModule k { present := true, ident := some m, quiesceWaits := (s.lenModule k).quiesceWaits }
      t.get (LEN_STATE.STATE k) ≠ 6 ∧ t.linksRun = true)) ∧
    (∃ (s : State) (k : Nat), (s.lenModule k).present = true ∧ (let t := s.setModule k { quiesceWaits := (s.lenModule k).quiesceWaits }
      t.get (LEN_STATE.STATE k) ≠ 6)) ∧
    (∃ (s : State) (k : Nat), (s.lenModule k).present = true) ∧
    (∃ (s : State) (k : Nat) (n : Nat) (cert : List Nat) (m : ModuleId) (c : Cert), (s.lenModule k).challenge = some n ∧ (s.lenModule k).ident = some m ∧ cert.length ≤ 1024 ∧ certOf cert = some c) ∧
    (∃ (s : State) (k : Nat) (n : Nat) (cert : List Nat) (m : ModuleId), (s.lenModule k).challenge = some n ∧ (s.lenModule k).ident = some m ∧ 1024 < cert.length) ∧
    (∃ (s : State) (k : Nat), (s.lenModule k).challenge.isSome = true) ∧
    (∃ (s : State) (k : Nat), (s.lenModule k).present = true ∧ (s.get (LEN_STATE.STATE k) = 3 ∨ s.get (LEN_STATE.STATE k) = 4)) :=
  ⟨⟨(panel []), 0, { cmis := 0x53, apps := true, maxPower := 80, vendorPages := true, serial := [] }, by decide +kernel⟩,
   ⟨{ panel [] with modules := [(0, { present := true })] }, 0, by decide +kernel⟩,
   ⟨{ panel [] with modules := [(0, { present := true })] }, 0, by decide +kernel⟩,
   ⟨{ panel [] with modules := [(0, { present := true, challenge := some 5, ident := some { cmis := 0x53, apps := true, maxPower := 80, vendorPages := true, serial := [] } })] }, 0, 5, [0x30, 19, 0x30, 12, 2, 0, 0x30, 0, 0x30, 0, 0x30, 0, 0x30, 0, 0x30, 0, 0x30, 0, 3, 1, 0], { cmis := 0x53, apps := true, maxPower := 80, vendorPages := true, serial := [] }, ((certOf [0x30, 19, 0x30, 12, 2, 0, 0x30, 0, 0x30, 0, 0x30, 0, 0x30, 0, 0x30, 0, 0x30, 0, 3, 1, 0]).get (by decide +kernel)), by decide +kernel⟩,
   ⟨{ panel [] with modules := [(0, { present := true, challenge := some 5, ident := some { cmis := 0x53, apps := true, maxPower := 80, vendorPages := true, serial := [] } })] }, 0, 5, (List.replicate 1025 0), { cmis := 0x53, apps := true, maxPower := 80, vendorPages := true, serial := [] }, by decide +kernel⟩,
   ⟨{ panel [] with modules := [(0, { present := true, challenge := some 5, ident := some { cmis := 0x53, apps := true, maxPower := 80, vendorPages := true, serial := [] } })] }, 0, by decide +kernel⟩,
   ⟨{ panel [(LEN_STATE.STATE 0, 4)] with modules := [(0, { present := true })] }, 0, by decide +kernel⟩⟩

/-- The hypotheses of ModuleCommandsComplete (part 2) can be met. -/
theorem witness_ModuleCommandsComplete_1 :
    (∃ (s : State) (k : Nat), s.hubOpen ∧ s.get (LEN_STATE.STATE k) ≠ 6 ∧ s.betweenPasses = true) ∧
    (∃ (s : State) (k : Nat), s.hubOpen ∧ s.get (LEN_STATE.STATE k) ≠ 6 ∧ s.betweenPasses = false) ∧
    (∃ (s : State) (k : Nat), s.hubOpen ∧ s.get (LEN_STATE.STATE k) = 6 ∧ (s.lenModule k).present = true) :=
  ⟨⟨{ panel [(LEN_STATE.STATE 0, 3)] with modules := [(0, { present := true })] }, 0, by decide +kernel⟩,
   ⟨{ panel [(LEN_STATE.STATE 0, 3), (HUB_PASS.STATE, 3)] with modules := [(0, { present := true })] }, 0, by decide +kernel⟩,
   ⟨{ panel [(LEN_STATE.STATE 0, 6)] with modules := [(0, { present := true })] }, 0, by decide +kernel⟩⟩

/-- The hypotheses of InputSupplyCommandsComplete (part 1) can be met. -/
theorem witness_InputSupplyCommandsComplete_0 :
    (∃ (s : State), s.get RST_STATUS.PSTATE = 0) ∧
    (∃ (s : State), s.get RST_STATUS.PSTATE ≠ 0) ∧
    (∃ (s : State), s.get RST_STATUS.PSTATE ≠ 0 ∧ s.flag PWR_STATUS.INPUT_LOW = false) ∧
    (∃ (s : State), s.get RST_STATUS.PSTATE ≠ 0 ∧ s.power.high = false) ∧
    (∃ (s : State), s.get RST_STATUS.PSTATE ≠ 0) ∧
    (∃ (s : State), (let t := ({ s with power := { s.power with pwrokSince := none } } : State).put PWR_STATUS.PWROK 0
      2 ≤ t.get RST_STATUS.PSTATE)) ∧
    (∃ (s : State), s.get RST_STATUS.PSTATE ≠ 0 ∧ s.power.lostA = false) :=
  ⟨⟨(withFields [(RST_STATUS.PSTATE, 0)]), by decide +kernel⟩,
   ⟨ready, by decide +kernel⟩,
   ⟨ready, by decide +kernel⟩,
   ⟨ready, by decide +kernel⟩,
   ⟨ready, by decide +kernel⟩,
   ⟨ready, by decide +kernel⟩,
   ⟨ready, by decide +kernel⟩⟩

/-- The hypotheses of InputSupplyCommandsComplete (part 2) can be met. -/
theorem witness_InputSupplyCommandsComplete_1 :
    (∃ (s : State), s.get RST_STATUS.PSTATE ≠ 0 ∧ s.power.lostB = false) ∧
    (∃ (s : State), s.power.openA = false) ∧
    (∃ (s : State), s.power.openB = false) ∧
    (∃ (s : State), s.get RST_STATUS.PSTATE ≠ 0 ∧ s.power.lostA = false ∧ s.power.lostB = false ∧ s.power.imbalance = none) ∧
    (∃ (s : State), s.get RST_STATUS.PSTATE ≠ 0 ∧ s.power.inForced = false) ∧
    (∃ (s : State), s.power.inForced = true) ∧
    (∃ (s : State) (g : Nat), s.get (PWR_SEG.STATE g) = 2 ∧ g < 16 ∧ s.power.segForced.contains g = false) :=
  ⟨⟨ready, by decide +kernel⟩,
   ⟨ready, by decide +kernel⟩,
   ⟨ready, by decide +kernel⟩,
   ⟨ready, by decide +kernel⟩,
   ⟨ready, by decide +kernel⟩,
   ⟨{ panel [] with power := { inForced := true } }, by decide +kernel⟩,
   ⟨(panel [(PWR_SEG.STATE 15, 2)]), 15, by decide +kernel⟩⟩

/-- The hypotheses of InputSupplyCommandsComplete (part 3) can be met. -/
theorem witness_InputSupplyCommandsComplete_2 :
    (∃ (s : State) (g : Nat), s.get (PWR_SEG.STATE g) = 2 ∧ 16 ≤ g ∧ g ≤ 20) ∧
    (∃ (s : State) (g : Nat), s.power.segForced.contains g = true) ∧
    (∃ (s : State) (g : Nat), s.get (PWR_SEG.STATE g) = 1 ∧ g ≤ 20) :=
  ⟨⟨(panel [(PWR_SEG.STATE 16, 2)]), 16, by decide +kernel⟩,
   ⟨{ panel [] with power := { segForced := [0] } }, 0, by decide +kernel⟩,
   ⟨(panel [(PWR_SEG.STATE 20, 1)]), 20, by decide +kernel⟩⟩

/-- The hypotheses of DomainCommandsComplete (part 1) can be met. -/
theorem witness_DomainCommandsComplete_0 :
    (∃ (s : State) (node : Nat), validNode node = true ∧ node ≠ 84 ∧ s.flag (isolatedLoc node) = false) ∧
    (∃ (s : State) (node : Nat) (d : Nat), node < 169 ∧ node ≠ 84 ∧ d ≤ 5 ∧ validNode node = true ∧ s.flag ((PWR_STK_W1.SENSE_FAULT node).sub d 1) = false) ∧
    (∃ (s : State) (node : Nat) (d : Nat) (n : Nat), validNode node = true ∧ s.dom node d = 3 ∧ n = lookD 0 s.power.uvs (domKey node d) + 1 ∧ n < 2) ∧
    (∃ (s : State) (node : Nat) (d : Nat) (n : Nat), validNode node = true ∧ s.dom node d = 3 ∧ n = lookD 0 s.power.uvs (domKey node d) + 1 ∧ 2 ≤ n ∧ node < 169) ∧
    (∃ (s : State) (node : Nat) (d : Nat), validNode node = true ∧ s.dom node d = 3) ∧
    (∃ (s : State) (node : Nat) (d : Nat) (rail : Nat) (p : Nat), validNode node = true ∧ p < domPhases node d rail ∧ s.failedPhases node d rail = 0 ∧ popCount (domPhases node d rail) (withBit 0 p true) = 1 ∧ domPhases node d rail ≠ 1) ∧
    (∃ (s : State) (node : Nat) (d : Nat), validNode node = true ∧ s.dom node d = 3) :=
  ⟨⟨ready, 212, by decide +kernel⟩,
   ⟨ready, 3, 5, by decide +kernel⟩,
   ⟨ready, 3, 0, 1, by decide +kernel⟩,
   ⟨{ panel [] with power := { uvs := [(domKey 3 0, 1)] } }, 3, 0, 2, by decide +kernel⟩,
   ⟨ready, 3, 0, by decide +kernel⟩,
   ⟨ready, 3, 0, 0, 4, by decide +kernel⟩,
   ⟨ready, 3, 0, by decide +kernel⟩⟩

/-- The hypotheses of DomainCommandsComplete (part 2) can be met. -/
theorem witness_DomainCommandsComplete_1 :
    (∃ (node : Nat), validNode node = true) ∧
    (∃ (s : State) (g : Nat) (r : PowerReq), s.mayApprove g = true ∧ s.power.reqs.find? (fun r => segOf r.node == g && !s.upBlocked r) = some r ∧ s.refusedUp r.node r.dom = false) ∧
    (∃ (s : State) (node : Nat) (d : Nat), validNode node = true ∧ node ≠ 84 ∧ s.get (domLoc node d) = 2) ∧
    (∃ (s : State) (node : Nat) (d : Nat), validNode node = true ∧ node ≠ 84 ∧ s.get (domLoc node d) = 2 ∧ lookD 0 s.power.failedOnce (domKey node d) ≠ 2) ∧
    (∃ (s : State) (node : Nat) (d : Nat), lookD 0 s.power.failedOnce (domKey node d) = 1) ∧
    (∃ (s : State) (node : Nat) (d : Nat), s.power.reqs.any (fun r => r.node == node && r.dom == d && !r.raised) = true) ∧
    (∃ (s : State), s.get RST_STATUS.PSTATE ≠ 0) :=
  ⟨⟨3, by decide +kernel⟩,
   ⟨{ panel [(PWR_SEG.STATE (segOf 3), 2)] with power := { reqs := [⟨3, 4, 0, false⟩] } }, (segOf 3), ⟨3, 4, 0, false⟩, by decide +kernel⟩,
   ⟨(panel [(domLoc 3 2, 2)]), 3, 2, by decide +kernel⟩,
   ⟨(panel [(domLoc 3 2, 2)]), 3, 2, by decide +kernel⟩,
   ⟨{ panel [] with power := { failedOnce := [(domKey 3 2, 1)] } }, 3, 2, by decide +kernel⟩,
   ⟨{ panel [] with power := { reqs := [⟨3, 4, 0, false⟩] } }, 3, 4, by decide +kernel⟩,
   ⟨ready, by decide +kernel⟩⟩

/-- The hypotheses of DomainCommandsComplete (part 3) can be met. -/
theorem witness_DomainCommandsComplete_2 :
    (∃ (s : State), s.get RST_STATUS.PSTATE ≠ 0) ∧
    (∃ (s : State) (value : Nat), s.hubRuns = true ∧ bit value 0 = true) ∧
    (∃ (s : State), s.hubRuns = true) ∧
    (∃ (s : State), s.hubRuns = true) :=
  ⟨⟨ready, by decide +kernel⟩,
   ⟨ready, 1, by decide +kernel⟩,
   ⟨ready, by decide +kernel⟩,
   ⟨ready, by decide +kernel⟩⟩

/-- The hypotheses of ThermalCommandsComplete (part 1) can be met. -/
theorem witness_ThermalCommandsComplete_0 :
    (∃ (s : State) (readings : List SpotReading) (nodes : List Nat), s.hubRuns = true ∧ (let t := ({ s with thermal := { s.thermal with samples := s.thermal.samples + 1 } } : State)
      nodes = (readNodes readings).filter (fun n => decide (0 < spotCount n) && (n == 84 || (decide (169 ≤ n) && !singleSpot n 0) || t.powered n)))) ∧
    (∃ (s : State) (site : Nat), s.powered site = true ∧ lasted (s.stackHeat site).cool3 s.thermal.samples 100 = true) ∧
    (∃ (s : State) (site : Nat), s.powered site = true ∧ (s.knownSpots site).any (fun i => decide ((s.spotLimits site i).1 < (s.spot site i).ctrl)) = true) ∧
    (∃ (s : State), s.get RST_STATUS.PSTATE ≠ 0) ∧
    (∃ (s : State), s.flag THM_EMERG.ACTIVE = true ∧ 600 < s.get PWR_INPUT.PIN) ∧
    (∃ (s : State) (value : Nat), s.hubRuns = true ∧ bit value 10 = true ∧ s.flag THM_EMERG.READY = true) ∧
    (∃ (s : State) (value : Nat), s.hubRuns = true ∧ bit value 16 = false) :=
  ⟨⟨ready, [⟨3, 0, 500, some 500⟩], [3], by decide +kernel⟩,
   ⟨{ panel [] with thermal := { samples := 100, stackList := [(3, { cool3 := some 0 })] } }, 3, by decide +kernel⟩,
   ⟨{ panel [] with thermal := { spots := [(spotKey 3 0, { ctrl := 1200 })] } }, 3, by decide +kernel⟩,
   ⟨ready, by decide +kernel⟩,
   ⟨(panel [(THM_EMERG.ACTIVE, 1), (PWR_INPUT.PIN, 601)]), by decide +kernel⟩,
   ⟨(panel [(THM_EMERG.READY, 1)]), 1024, by decide +kernel⟩,
   ⟨ready, 0, by decide +kernel⟩⟩

/-- The hypotheses of ThermalCommandsComplete (part 2) can be met. -/
theorem witness_ThermalCommandsComplete_1 :
    (∃ (s : State) (value : Nat), s.hubRuns = true ∧ bit value 16 = true) ∧
    (∃ (s : State), s.hubRuns = true) ∧
    (∃ (s : State), s.hubRuns = true ∧ s.doldrums = false) ∧
    (∃ (s : State) (gs : List Nat), s.get RST_STATUS.PSTATE = 4 ∧ s.trans = none ∧ s.get UPD_CFG.IDLE_GATE ≠ 0 ∧ s.updraft.en = true ∧ s.eligible = [] ∧ s.get HUB_PASS.STATE = 0 ∧ s.pass.running = false ∧ gs = (below 16).filter (fun g => !(s.sectorServing g).isEmpty)) :=
  ⟨⟨ready, 65536, by decide +kernel⟩,
   ⟨ready, by decide +kernel⟩,
   ⟨ready, by decide +kernel⟩,
   ⟨(panel [(UPD_CFG.IDLE_GATE, 1)]), (below 16).filter (fun g => !((panel [(UPD_CFG.IDLE_GATE, 1)]).sectorServing g).isEmpty), by decide +kernel⟩⟩

/-- The hypotheses of ClockCommandsComplete (part 1) can be met. -/
theorem witness_ClockCommandsComplete_0 :
    (∃ (s : State) (edges : Nat), s.get RST_STATUS.PSTATE ≠ 0 ∧ 999 ≤ edges ∧ edges ≤ 1001 ∧ s.clock.backup = false ∧ s.clock.refOk = true) ∧
    (∃ (s : State) (edges : Nat), s.get RST_STATUS.PSTATE ≠ 0 ∧ edges < 999 ∧ s.clock.refOk = true) ∧
    (∃ (s : State), s.clock.refOk = false ∧ s.clock.wasLost = true ∧ s.hubKeeps = true ∧ s.flag CLK_STATUS.HOLDOVER_IDLE = false ∧ (let t := (s.put CLK_STATUS.HOLDOVER_IDLE 1).raiseClk 0x0903 0xFF 0xFF s.leaveBit []
      t.get RST_STATUS.PSTATE = 4)) ∧
    (∃ (s : State), s.hubKeeps = true ∧ s.flag CLK_STATUS.BILLOW_RUN = false ∧ s.flag RST_STATUS.COLD = false) ∧
    (∃ (s : State) (site : Nat) (d : Nat) (n : Nat), s.nodeRuns site = true ∧ s.clock.pause = 0 ∧ d < 4 ∧ s.flag ((CLK_SITE.LOST site).sub d 1) = false ∧ clockNeighbour site d = some n ∧ n ≠ 84 ∧ 2 ≤ (s.edgeLost site d).reports n) ∧
    (∃ (s : State) (site : Nat) (d : Nat), s.nodeRuns site = true ∧ s.clock.pause = 0 ∧ d < 4 ∧ s.flag ((CLK_SITE.LOST site).sub d 1) = false ∧ clockNeighbour site d = some 84) ∧
    (∃ (s : State) (site : Nat) (d : Nat), s.nodeRuns site = true ∧ d < 4 ∧ s.flag ((CLK_SITE.LOST site).sub d 1) = true) :=
  ⟨⟨{ panel [] with clock := { refOk := true } }, 1001, by decide +kernel⟩,
   ⟨{ panel [] with clock := { refOk := true } }, 998, by decide +kernel⟩,
   ⟨{ panel [] with clock := { wasLost := true } }, by decide +kernel⟩,
   ⟨(panel [(CLK_STATUS.BILLOW_RUN, 0), (RST_STATUS.COLD, 0)]), by decide +kernel⟩,
   ⟨(panel [(CLK_STATUS.BILLOW_RUN, 1), (CLK_SITE.LOST 5, 8)]), 3, 1, 4, by decide +kernel⟩,
   ⟨(withFields [(RST_STATUS.PSTATE, 4), (CLK_STATUS.BILLOW_RUN, 1), (domainLoc 57 3, 3)]), 57, 2, by decide +kernel⟩,
   ⟨(panel [(CLK_STATUS.BILLOW_RUN, 1), ((CLK_SITE.LOST 3).sub 3 1, 1)]), 3, 3, by decide +kernel⟩⟩

/-- The hypotheses of ClockCommandsComplete (part 2) can be met. -/
theorem witness_ClockCommandsComplete_1 :
    (∃ (s : State) (site : Nat) (port : Nat) (m : Nat), s.nodeRuns site = true ∧ s.clock.pause = 0 ∧ port < 4 ∧ neighbour site port = some (m, (port + 2) % 4) ∧ s.get (SIT_LINK.STATE site port) ≠ 5 ∧ s.clock.slipped.contains (seamName site port) = false) ∧
    (∃ (s : State), s.flag CLK_STATUS.BILLOW_RUN = true ∧ s.clock.pause = 0 ∧ s.isobar % 1024 = 0) ∧
    (∃ (s : State) (site : Nat) (launch : Nat) (hops : Nat) (own : Nat), s.nodeRuns site = true ∧ (lookD {} s.clock.nodes site).period ≠ some s.clock.beacon ∧ own = (launch + 8 * hops) % 2 ^ 48) ∧
    (∃ (s : State) (site : Nat), s.nodeRuns site = true ∧ (lookD {} s.clock.nodes site).lostRaised = false) ∧
    (∃ (s : State) (value : Nat), s.hubOpen ∧ bit value 3 = true ∧ (let t := s.put CLK_OP_REQ.TARGET (bits value 2 0)
      bits value 2 0 ≠ t.get CLK_OP.CUR ∧ t.changePending = false ∧ t.opAllowed (bits value 2 0) = true)) ∧
    (∃ (s : State) (target : Nat) (site : Nat) (d : Nat), s.opConfirmed = some target ∧ s.get CLK_OP.CUR < target ∧ stackSite site = true ∧ d ≤ 2 ∧ s.domainOn site d = true) ∧
    (∃ (s : State), s.opConfirmed.isSome = true) :=
  ⟨⟨(panel [(CLK_STATUS.BILLOW_RUN, 1), (SIT_LINK.STATE 3 1, 3)]), 3, 1, 4, by decide +kernel⟩,
   ⟨{ panel [(CLK_STATUS.BILLOW_RUN, 1)] with isobar := 1024 }, by decide +kernel⟩,
   ⟨{ panel [(CLK_STATUS.BILLOW_RUN, 1)] with clock := { beacon := 5 } }, 3, 10, 2, 26, by decide +kernel⟩,
   ⟨(panel [(CLK_STATUS.BILLOW_RUN, 1)]), 3, by decide +kernel⟩,
   ⟨(((panel [(CLK_STATUS.REF_OK, 1), (CLK_OP.CUR, 2)]) : State).setReg (CLK_OPTAB.REG 3) (word (2 ^ 64 - 1))), 11, by decide +kernel⟩,
   ⟨{ panel [(OVC_ARM.STATE, 2), (CLK_OP.CUR, 2)] with commit := { armed := 2, op := some 3 } }, 3, 3, 2, by decide +kernel⟩,
   ⟨{ panel [(OVC_ARM.STATE, 2)] with commit := { armed := 2, op := some 3 } }, by decide +kernel⟩⟩

/-- The hypotheses of ClockCommandsComplete (part 3) can be met. -/
theorem witness_ClockCommandsComplete_2 :
    (∃ (s : State), s.clock.pause = 1 ∧ s.commit.armed ≠ 2) ∧
    (∃ (s : State), s.clock.pause = 2) ∧
    (∃ (s : State), s.get RST_STATUS.PSTATE ≠ 0 ∧ s.clock.backup = false) :=
  ⟨⟨{ panel [] with clock := { pause := 1 } }, by decide +kernel⟩,
   ⟨{ panel [] with clock := { pause := 2 } }, by decide +kernel⟩,
   ⟨ready, by decide +kernel⟩⟩

/-- The hypotheses of TimeCommandsComplete (part 1) can be met. -/
theorem witness_TimeCommandsComplete_0 :
    (∃ (s : State) (port : Nat) (m : PtpMsg), s.ptpFrom port m = true ∧ m.twoStep = true) ∧
    (∃ (s : State) (port : Nat) (m : PtpMsg), s.ptpFrom port m = true ∧ m.twoStep = false) ∧
    (∃ (s : State) (port : Nat) (rx : Int) (m : PtpMsg), s.clock.ptp.waiting = some (m.seq, rx) ∧ s.ptpFrom port m = true) ∧
    (∃ (s : State) (port : Nat) (m : PtpMsg) (dataset : List Nat) (utc : Int), s.ptpTakes m = true ∧ (let x : PtpMaster := { port := port, source := m.source, dataset := dataset, utc := utc }
      s.clock.ptp.masters = [] ∧ s.clock.ptp.selected = none)) ∧
    (∃ (s : State) (port : Nat) (src : Nat), s.clock.ptp.selected = some (port, src) ∧ s.ptpRuns = true) ∧
    (∃ (s : State) (port : Nat) (m : PtpMsg) (t1 : Int) (t2 : Int) (t3 : Int), s.clock.ptp.req = some (m.seq, t3) ∧ s.clock.ptp.sync = some (t1, t2) ∧ s.ptpFrom port m = true) ∧
    (∃ (s : State), s.flag ISB_PTP_CFG.EN = true ∧ s.hubKeeps = true) :=
  ⟨⟨{ panel [(ISB_PTP_CFG.EN, 1), (ISB_PTP_CFG.DOMAIN, 0), (ISB_PTP_CFG.IPV6, 0)] with clock := { refOk := true, ptp := { selected := some (0, 7) } } }, 0, { domain := 0, ipv6 := false, source := 7, seq := 1, twoStep := true }, by decide +kernel⟩,
   ⟨{ panel [(ISB_PTP_CFG.EN, 1), (ISB_PTP_CFG.DOMAIN, 0), (ISB_PTP_CFG.IPV6, 0)] with clock := { refOk := true, ptp := { selected := some (0, 7) } } }, 0, { domain := 0, ipv6 := false, source := 7, seq := 1 }, by decide +kernel⟩,
   ⟨{ panel [(ISB_PTP_CFG.EN, 1), (ISB_PTP_CFG.DOMAIN, 0), (ISB_PTP_CFG.IPV6, 0)] with clock := { refOk := true, ptp := { selected := some (0, 7), waiting := some (1, 50) } } }, 0, 50, { domain := 0, ipv6 := false, source := 7, seq := 1 }, by decide +kernel⟩,
   ⟨{ panel [(ISB_PTP_CFG.EN, 1), (ISB_PTP_CFG.DOMAIN, 0), (ISB_PTP_CFG.IPV6, 0)] with clock := { refOk := true, ptp := { selected := none } } }, 0, { domain := 0, ipv6 := false, source := 7, seq := 1 }, [], 37, by decide +kernel⟩,
   ⟨{ panel [(ISB_PTP_CFG.EN, 1), (ISB_PTP_CFG.DOMAIN, 0), (ISB_PTP_CFG.IPV6, 0)] with clock := { refOk := true, ptp := { selected := some (0, 7) } } }, 0, 7, by decide +kernel⟩,
   ⟨{ panel [(ISB_PTP_CFG.EN, 1), (ISB_PTP_CFG.DOMAIN, 0), (ISB_PTP_CFG.IPV6, 0)] with clock := { refOk := true, ptp := { selected := some (0, 7), req := some (1, 30), sync := some (10, 20) } } }, 0, { domain := 0, ipv6 := false, source := 7, seq := 1 }, 10, 20, 30, by decide +kernel⟩,
   ⟨{ panel [(ISB_PTP_CFG.EN, 1), (ISB_PTP_CFG.DOMAIN, 0), (ISB_PTP_CFG.IPV6, 0)] with clock := { refOk := true, ptp := { selected := some (0, 7) } } }, by decide +kernel⟩⟩

/-- The hypotheses of TimeCommandsComplete (part 2) can be met. -/
theorem witness_TimeCommandsComplete_1 :
    (∃ (s : State) (value : Nat), s.hubRuns = true ∧ bit value 0 = false) ∧
    (∃ (s : State), s.hubOpen) :=
  ⟨⟨ready, 0, by decide +kernel⟩,
   ⟨ready, by decide +kernel⟩⟩

/-- The hypotheses of ImageCommandsComplete (part 1) can be met. -/
theorem witness_ImageCommandsComplete_0 :
    (∃ (s : State), s.hubOpen) ∧
    (∃ (s : State) (base : Nat) (len : Nat), s.image.staging = some (base, len) ∧ s.get OVC_STATUS.STATE = 1) ∧
    (∃ (s : State) (base : Nat) (len : Nat), s.image.staging = some (base, len) ∧ s.get OVC_STATUS.STATE = 2) ∧
    (∃ (s : State) (node : Nat), s.armedUnit node = true ∧ s.get OVC_ARM.STATE = 1) ∧
    (∃ (s : State) (node : Nat) (nak : Nat), s.armedUnit node = true ∧ s.get OVC_ARM.STATE = 1 ∧ nak ≠ 0) ∧
    (∃ (s : State) (node : Nat), s.armedUnit node = true ∧ s.get OVC_ARM.STATE = 1 ∧ s.commit.acks.contains node = false) ∧
    (∃ (s : State) (node : Nat), s.armedUnit node = true ∧ s.get OVC_ARM.STATE = 1) :=
  ⟨⟨ready, by decide +kernel⟩,
   ⟨{ panel [(OVC_STATUS.STATE, 1)] with image := { staging := some (mkPpa 1 0 0, 0x2000) } }, (mkPpa 1 0 0), 0x2000, by decide +kernel⟩,
   ⟨{ panel [(OVC_STATUS.STATE, 2)] with image := { staging := some (mkPpa 1 0 0, 0x2000) } }, (mkPpa 1 0 0), 0x2000, by decide +kernel⟩,
   ⟨{ panel [(OVC_ARM.STATE, 1)] with commit := { armed := 1, units := [3] } }, 3, by decide +kernel⟩,
   ⟨{ panel [(OVC_ARM.STATE, 1)] with commit := { armed := 1, units := [3] } }, 3, 1, by decide +kernel⟩,
   ⟨{ panel [(OVC_ARM.STATE, 1)] with commit := { armed := 1, units := [3] } }, 3, by decide +kernel⟩,
   ⟨{ panel [(OVC_ARM.STATE, 1)] with commit := { armed := 1, units := [3] } }, 3, by decide +kernel⟩⟩

/-- The hypotheses of ImageCommandsComplete (part 2) can be met. -/
theorem witness_ImageCommandsComplete_1 :
    (∃ (s : State) (base : Nat) (len : Nat), s.commit.armed = 1 ∧ s.get OVC_ARM.STATE = 1 ∧ s.commit.units.filter (fun n => !s.commit.acks.contains n) = [] ∧ s.flag CLK_STATUS.REF_OK = true ∧ s.flag THM_EMERG.ACTIVE = false ∧ s.image.staging = some (base, len)) ∧
    (∃ (s : State), s.commit.armed = 2 ∧ s.get OVC_ARM.STATE = 1 ∧ s.commit.units.filter (fun n => !s.commit.acks.contains n) = [] ∧ s.flag CLK_STATUS.REF_OK = true ∧ s.flag THM_EMERG.ACTIVE = false ∧ s.opAllowed (s.commit.op.getD 0) = true) ∧
    (∃ (s : State) (n : Nat) (l : List Nat), s.commit.armed ≠ 0 ∧ s.get OVC_ARM.STATE = 1 ∧ s.commit.units.filter (fun n => !s.commit.acks.contains n) = n :: l) ∧
    (∃ (s : State) (node : Nat), s.commit.prepared.contains node = true) ∧
    (∃ (s : State), s.commit.armed = 2 ∧ s.get OVC_ARM.STATE = 2) ∧
    (∃ (s : State), s.commit.armed = 1 ∧ s.get OVC_ARM.STATE = 2) ∧
    (∃ (s : State) (node : Nat), s.commit.due.contains node = true) :=
  ⟨⟨{ panel [(OVC_ARM.STATE, 1), (CLK_STATUS.REF_OK, 1), (CLK_OPTAB.EN 3, 1)] with commit := { armed := 1, units := [3], acks := [3] }, image := { staging := some (mkPpa 1 0 0, 0x2000) } }, (mkPpa 1 0 0), 0x2000, by decide +kernel⟩,
   ⟨(({ panel [(OVC_ARM.STATE, 1), (CLK_STATUS.REF_OK, 1)] with commit := { armed := 2, units := [3], acks := [3], op := some 3 } } : State).setReg (CLK_OPTAB.REG 3) (word (2 ^ 64 - 1))), by decide +kernel⟩,
   ⟨{ panel [(OVC_ARM.STATE, 1), (CLK_STATUS.REF_OK, 1), (CLK_OPTAB.EN 3, 1)] with commit := { armed := 2, units := [3, 4], acks := [3], op := some 3 } }, 4, [], by decide +kernel⟩,
   ⟨{ panel [] with commit := { prepared := [3] } }, 3, by decide +kernel⟩,
   ⟨{ panel [(OVC_ARM.STATE, 2)] with commit := { armed := 2 } }, by decide +kernel⟩,
   ⟨{ panel [(OVC_ARM.STATE, 2)] with commit := { armed := 1 } }, by decide +kernel⟩,
   ⟨{ panel [] with commit := { due := [3] } }, 3, by decide +kernel⟩⟩

/-- The hypotheses of ResetCommandsComplete (part 1) can be met. -/
theorem witness_ResetCommandsComplete_0 :
    (∃ (s : State), (let t := ({ s with rst := { s.rst with perst := true } } : State)
      2 ≤ t.get RST_STATUS.PSTATE)) ∧
    (∃ (s : State), s.rst.perst = true ∧ 2 ≤ s.get RST_STATUS.PSTATE) ∧
    (∃ (s : State), s.rst.perst = true ∧ s.rst.ended = true) ∧
    (∃ (s : State) (value : Nat), s.hubRuns = true ∧ bit value 8 = true ∧ bits value 31 24 = 0x5A) ∧
    (∃ (s : State), s.hubRuns = true) ∧
    (∃ (s : State), s.flag RST_STATUS.WINDOW = true) ∧
    (∃ (s : State) (value : Nat), bit value 0 = true ∧ s.get RST_STATUS.PSTATE = 6) :=
  ⟨⟨ready, by decide +kernel⟩,
   ⟨{ panel [] with rst := { perst := true } }, by decide +kernel⟩,
   ⟨{ panel [] with rst := { perst := true, ended := true } }, by decide +kernel⟩,
   ⟨ready, 0x5A000100, by decide +kernel⟩,
   ⟨ready, by decide +kernel⟩,
   ⟨(panel [(RST_STATUS.WINDOW, 1)]), by decide +kernel⟩,
   ⟨(withFields [(RST_STATUS.PSTATE, 6)]), 1, by decide +kernel⟩⟩

/-- The hypotheses of ResetCommandsComplete (part 2) can be met. -/
theorem witness_ResetCommandsComplete_1 :
    (∃ (s : State) (level : Nat), s.rst.level = some level ∧ s.rst.perst = false) ∧
    (∃ (s : State) (level : Nat), s.rst.level = some level ∧ s.rst.perst = true) ∧
    (∃ (s : State), s.rst.rsto = true ∧ s.rst.level = none) ∧
    (∃ (s : State), s.rst.level = none ∧ s.get RST_STATUS.PSTATE = 1 ∧ s.flag DWN_STATUS.HOLD = false ∧ s.startWait = 0) ∧
    (∃ (s : State), s.rst.level = none ∧ s.get RST_STATUS.PSTATE = 1 ∧ s.flag DWN_STATUS.HOLD = false ∧ s.startWait ≠ 0) ∧
    (∃ (s : State) (value : Nat), s.hubRuns = true ∧ bit value 8 = true ∧ (let t := s.put RST_PWR_REQ.TARGET (bits value 3 0)
      t.hubRuns = true ∧ bits value 3 0 ≠ t.get RST_STATUS.PSTATE ∧ bits value 3 0 ≠ 1 ∧ t.pstateReason (bits value 3 0) = 0)) ∧
    (∃ (s : State) (value : Nat), s.hubRuns = true ∧ bit value 8 = true ∧ (let t := s.put RST_PWR_REQ.TARGET (bits value 3 0)
      t.hubRuns = true ∧ bits value 3 0 ≠ t.get RST_STATUS.PSTATE ∧ bits value 3 0 ≠ 1 ∧ t.pstateReason (bits value 3 0) ≠ 0)) :=
  ⟨⟨{ panel [] with rst := { level := some 2 } }, 2, by decide +kernel⟩,
   ⟨{ panel [] with rst := { level := some 2, perst := true } }, 2, by decide +kernel⟩,
   ⟨{ panel [] with rst := { rsto := true } }, by decide +kernel⟩,
   ⟨{ withFields [(RST_STATUS.PSTATE, 1), (DWN_STATUS.HOLD, 0), (PWR_STATUS.PWROK, 1), (PWR_INPUT.VIN, 3600)] with clock := { refOk := true }, thermal := { flowAt := some 0, coolant := 5000 } }, by decide +kernel⟩,
   ⟨(withFields [(RST_STATUS.PSTATE, 1), (DWN_STATUS.HOLD, 0), (RST_STATUS.COLD, 1)]), by decide +kernel⟩,
   ⟨ready, 0x103, by decide +kernel⟩,
   ⟨ready, 0x100, by decide +kernel⟩⟩

/-- The hypotheses of ResetCommandsComplete (part 3) can be met. -/
theorem witness_ResetCommandsComplete_2 :
    (∃ (s : State) (t : Transition), s.trans = some t ∧ t.down = false) ∧
    (∃ (s : State) (site : Nat), s.powered site = true) ∧
    (∃ (s : State) (value : Nat), s.hubRuns = true ∧ bit value 0 = true) :=
  ⟨⟨{ panel [] with trans := some { target := 4, start := 3 } }, { target := 4, start := 3 }, by decide +kernel⟩,
   ⟨ready, 3, by decide +kernel⟩,
   ⟨ready, 1, by decide +kernel⟩⟩

/-- The hypotheses of FirmwareAndSpareCommandsComplete (part 1) can be met. -/
theorem witness_FirmwareAndSpareCommandsComplete_0 :
    (∃ (s : State) (value : Nat), s.hubOpen ∧ bits value 2 0 = 1) ∧
    (∃ (s : State) (value : Nat), s.hubOpen ∧ bits value 2 0 = 2) ∧
    (∃ (s : State) (value : Nat), s.hubOpen ∧ bits value 2 0 = 3) ∧
    (∃ (s : State), s.flag RST_FW_STATUS.BUSY = true) ∧
    (∃ (s : State) (site : Nat), s.powered site = true) ∧
    (∃ (s : State) (spare : Nat) (w : Swap), s.swapOf spare = some w ∧ w.phase = 2) ∧
    (∃ (s : State) (spare : Nat) (ues : List Nat) (l : List Nat) (w : Swap) (m : Manifest), s.swapOf spare = some w ∧ s.swapManifest w = some m ∧ w.phase = 3 ∧ l = ues.filter (fun r => decide (64 * r < m.length)) ∧ l.length < 16 ∧ (let t := (s.copySlice w m l).copyShow w (m.length / 64)
      t.sliceOk w = true)) :=
  ⟨⟨ready, 1, by decide +kernel⟩,
   ⟨ready, 2, by decide +kernel⟩,
   ⟨ready, 3, by decide +kernel⟩,
   ⟨(panel [(RST_FW_STATUS.BUSY, 1)]), by decide +kernel⟩,
   ⟨ready, 3, by decide +kernel⟩,
   ⟨{ panel [] with spares := { swaps := [⟨20, 3, 3, 2, 0, 0, 0⟩] } }, 20, ⟨20, 3, 3, 2, 0, 0, 0⟩, by decide +kernel⟩,
   ⟨{ panel [] with spares := { swaps := [⟨20, 3, 3, 3, 0, 0, 0⟩] }, image := { manifest := [⟨3, 0, 0, 64, (sha384 (List.replicate 64 0)).take 40⟩] } }, 20, [], [], ⟨20, 3, 3, 3, 0, 0, 0⟩, ⟨3, 0, 0, 64, (sha384 (List.replicate 64 0)).take 40⟩, by decide +kernel⟩⟩

/-- The hypotheses of FirmwareAndSpareCommandsComplete (part 2) can be met. -/
theorem witness_FirmwareAndSpareCommandsComplete_1 :
    (∃ (s : State) (spare : Nat) (ues : List Nat) (l : List Nat) (w : Swap) (m : Manifest), s.swapOf spare = some w ∧ s.swapManifest w = some m ∧ w.phase = 3 ∧ l = ues.filter (fun r => decide (64 * r < m.length)) ∧ l.length < 16 ∧ (let t := (s.copySlice w m l).copyShow w (m.length / 64)
      t.sliceOk w = false)) ∧
    (∃ (s : State) (spare : Nat) (w : Swap), s.swapOf spare = some w ∧ w.phase = 6) ∧
    (∃ (s : State) (spare : Nat) (w : Swap), s.swapOf spare = some w ∧ w.phase = 6 ∧ (let t := (s.dropSwap w).addSat HUB_SPARE_STATUS.SWAPS 1
      t.fenced w.old = false)) ∧
    (∃ (s : State) (spare : Nat) (w : Swap), s.swapOf spare = some w ∧ w.phase = 6) ∧
    (∃ (s : State) (spare : Nat) (w : Swap), s.swapOf spare = some w ∧ w.phase = 5) ∧
    (∃ (s : State), s.hubOpen) ∧
    (∃ (s : State), s.hubOpen) :=
  ⟨⟨{ panel [] with spares := { swaps := [⟨20, 3, 3, 3, 0, 0, 0⟩] }, image := { manifest := [⟨3, 0, 0, 1024, []⟩] } }, 20, [15, 16], [15], ⟨20, 3, 3, 3, 0, 0, 0⟩, ⟨3, 0, 0, 1024, []⟩, by decide +kernel⟩,
   ⟨{ panel [] with spares := { swaps := [⟨20, 3, 3, 6, 0, 0, 0⟩] } }, 20, ⟨20, 3, 3, 6, 0, 0, 0⟩, by decide +kernel⟩,
   ⟨{ panel [] with spares := { swaps := [⟨20, 3, 3, 6, 0, 0, 0⟩] } }, 20, ⟨20, 3, 3, 6, 0, 0, 0⟩, by decide +kernel⟩,
   ⟨{ panel [] with spares := { swaps := [⟨20, 3, 3, 6, 0, 0, 0⟩] } }, 20, ⟨20, 3, 3, 6, 0, 0, 0⟩, by decide +kernel⟩,
   ⟨{ panel [] with spares := { swaps := [⟨20, 3, 3, 5, 0, 0, 0⟩] } }, 20, ⟨20, 3, 3, 5, 0, 0, 0⟩, by decide +kernel⟩,
   ⟨ready, by decide +kernel⟩,
   ⟨ready, by decide +kernel⟩⟩

/-- The hypotheses of HostInterfaceCommandsComplete (part 1) can be met. -/
theorem witness_HostInterfaceCommandsComplete_0 :
    (∃ (s : State) (speed : Nat) (width : Nat), s.hubRuns = true ∧ 4 ≤ speed ∧ 8 ≤ width) ∧
    (∃ (s : State) (speed : Nat), s.hubRuns = true ∧ speed < 4) ∧
    (∃ (s : State), s.hubRuns = true) ∧
    (∃ (s : State), s.hubRuns = true ∧ s.flag HUB_PCIE.BME = false) ∧
    (∃ (s : State), s.hubRuns = true ∧ s.flag HUB_PCIE.BME = true) ∧
    (∃ (s : State) (offset : Nat) (n : Nat) (ppa : Nat), offset + n ≤ 2 ^ 36 ∧ offset < 2 ^ 36 ∧ n ≠ 0 ∧ s.doldrums = false ∧ s.flag (HUB_B4AP.EN (offset / 2 ^ 32)) = true ∧ s.bar4Target offset n = (ppa, true)) ∧
    (∃ (s : State) (offset : Nat) (n : Nat) (ppa : Nat) (key : Nat), offset + n ≤ 2 ^ 36 ∧ offset < 2 ^ 36 ∧ n ≠ 0 ∧ s.doldrums = false ∧ s.flag (HUB_B4AP.EN (offset / 2 ^ 32)) = true ∧ s.bar4Target offset n = (ppa, true) ∧ key = ((below (s.host.bar4.length + 1)).find? (fun k => !(s.host.bar4.map (·.key)).contains k)).getD s.host.bar4.length) :=
  ⟨⟨ready, 4, 8, by decide +kernel⟩,
   ⟨ready, 3, by decide +kernel⟩,
   ⟨ready, by decide +kernel⟩,
   ⟨(panel [(HUB_PCIE.BME, 0)]), by decide +kernel⟩,
   ⟨(panel [(HUB_PCIE.BME, 1)]), by decide +kernel⟩,
   ⟨((panel [(hbmStateLoc 0, 2), (HUB_B4AP.EN 15, 1)]).put (HUB_B4AP.BASE 15) (mkPpa 1 0 0)), (2 ^ 36 - 64), 64, ((State.bar4Target ((panel [(hbmStateLoc 0, 2), (HUB_B4AP.EN 15, 1)]).put (HUB_B4AP.BASE 15) (mkPpa 1 0 0)) (2 ^ 36 - 64) 64).1), by decide +kernel⟩,
   ⟨((panel [(hbmStateLoc 0, 2), (HUB_B4AP.EN 15, 1)]).put (HUB_B4AP.BASE 15) (mkPpa 1 0 0)), (2 ^ 36 - 64), 64, ((State.bar4Target ((panel [(hbmStateLoc 0, 2), (HUB_B4AP.EN 15, 1)]).put (HUB_B4AP.BASE 15) (mkPpa 1 0 0)) (2 ^ 36 - 64) 64).1), 0, by decide +kernel⟩⟩

/-- The hypotheses of HostInterfaceCommandsComplete (part 2) can be met. -/
theorem witness_HostInterfaceCommandsComplete_1 :
    (∃ (s : State) (value : Nat), s.hubOpen ∧ bits value 55 52 ≤ 1 ∧ bits value 11 0 = 0) ∧
    (∃ (s : State) (value : Nat), s.hubOpen ∧ bit value 63 = true ∧ bits value 11 0 ≠ 0) ∧
    (∃ (s : State) (v : Nat), s.hubRuns = true ∧ v < 256) ∧
    (∃ (s : State), s.hubRuns = true) :=
  ⟨⟨ready, (2 ^ 52 + 4096), by decide +kernel⟩,
   ⟨ready, (2 ^ 63 + 2048), by decide +kernel⟩,
   ⟨ready, 255, by decide +kernel⟩,
   ⟨ready, by decide +kernel⟩⟩

/-- The hypotheses of ManagementCommandsComplete (part 1) can be met. -/
theorem witness_ManagementCommandsComplete_0 :
    (∃ (s : State), s.hubOpen) ∧
    (∃ (s : State) (k : Nat), s.hubOpen ∧ k < 3) ∧
    (∃ (s : State) (who : Requester), s.hubOpen ∧ who ≠ .host) ∧
    (∃ (s : State) (port : Nat) (q : Nat) (data : List Nat), s.hubRuns = true ∧ s.mgmtUp port = true ∧ s.ackSeq data = some q) ∧
    (∃ (s : State) (seq : Nat) (o : CperOut), s.hubRuns = true ∧ s.mgmt.out.find? (fun o => o.seq == seq) = some o ∧ 10 ≤ o.sends) ∧
    (∃ (s : State) (seq : Nat) (p : Nat) (o : CperOut), s.hubRuns = true ∧ s.mgmt.out.find? (fun o => o.seq == seq) = some o ∧ o.sends < 10 ∧ [1 - o.port, o.port].find? s.canExport = some p) ∧
    (∃ (s : State) (port : Nat), s.hubRuns = true ∧ s.mgmtUp port = true ∧ port < 2) :=
  ⟨⟨ready, by decide +kernel⟩,
   ⟨ready, 2, by decide +kernel⟩,
   ⟨ready, .hub, by decide +kernel⟩,
   ⟨((ready : State).setReg (HUB_MGT.REG 0) (word (2 * 2 ^ 60))), 0, 5, ([0x4C, 0x56, 0x43, 0x41, 1, 0, 0, 0, 0, 0, 0, 5] ++ List.replicate 23 0), by decide +kernel⟩,
   ⟨{ panel [] with mgmt := { out := [⟨5, 10, 0⟩] } }, 5, ⟨5, 10, 0⟩, by decide +kernel⟩,
   ⟨(((({ panel [] with mgmt := { out := [⟨5, 9, 0⟩] } } : State).setReg (HUB_MGT.REG 1) (word (2 * 2 ^ 60)))).put (HUB_MGT_IP.BOUND 1) 1), 5, 1, ⟨5, 9, 0⟩, by decide +kernel⟩,
   ⟨((ready : State).setReg (HUB_MGT.REG 1) (word (2 * 2 ^ 60))), 1, by decide +kernel⟩⟩

/-- The hypotheses of ManagementCommandsComplete (part 2) can be met. -/
theorem witness_ManagementCommandsComplete_1 :
    (∃ (s : State) (port : Nat), s.hubRuns = true ∧ s.mgmtUp port = false ∧ port < 2) ∧
    (∃ (s : State) (port : Nat) (dst : Nat), s.hubRuns = true ∧ s.mgmtUp port = true ∧ s.hasV4 port dst = true) ∧
    (∃ (s : State) (port : Nat) (dst : Nat), s.hubRuns = true ∧ s.mgmtUp port = true ∧ (s.mgmtPort port).v6.contains dst = true) ∧
    (∃ (s : State) (port : Nat) (dst : Nat), s.hubRuns = true ∧ s.mgmtUp port = true ∧ s.hasV4 port dst = true) ∧
    (∃ (s : State) (port : Nat) (dst : Nat), s.hubRuns = true ∧ s.mgmtUp port = true ∧ (s.mgmtPort port).v6.contains dst = true) ∧
    (∃ (s : State) (port : Nat) (m : DhcpMsg), s.hubRuns = true ∧ s.mgmtUp port = true ∧ s.flag (HUB_MGT_IP.STATIC port) = false ∧ port < 2 ∧ m.kind = 2 ∧ (s.mgmtPort port).dhcp = 1) ∧
    (∃ (s : State) (port : Nat) (m : DhcpMsg), s.hubRuns = true ∧ s.mgmtUp port = true ∧ s.flag (HUB_MGT_IP.STATIC port) = false ∧ port < 2 ∧ m.kind = 5 ∧ (s.mgmtPort port).dhcp = 2) :=
  ⟨⟨((ready : State).setReg (HUB_MGT.REG 1) (word (0 * 2 ^ 60))), 1, by decide +kernel⟩,
   ⟨(((((ready : State).setReg (HUB_MGT.REG 1) (word (2 * 2 ^ 60)))).put (HUB_MGT_IP.ADDR 1) 5).put (HUB_MGT_IP.BOUND 1) 1), 1, 5, by decide +kernel⟩,
   ⟨{ ((ready : State).setReg (HUB_MGT.REG 1) (word (2 * 2 ^ 60))) with mgmt := { ports := [(1, { v6 := [5], dhcp := 0 })] } }, 1, 5, by decide +kernel⟩,
   ⟨(((((ready : State).setReg (HUB_MGT.REG 1) (word (2 * 2 ^ 60)))).put (HUB_MGT_IP.ADDR 1) 5).put (HUB_MGT_IP.BOUND 1) 1), 1, 5, by decide +kernel⟩,
   ⟨{ ((ready : State).setReg (HUB_MGT.REG 1) (word (2 * 2 ^ 60))) with mgmt := { ports := [(1, { v6 := [5], dhcp := 0 })] } }, 1, 5, by decide +kernel⟩,
   ⟨{ ((ready : State).setReg (HUB_MGT.REG 1) (word (2 * 2 ^ 60))) with mgmt := { ports := [(1, { dhcp := 1 })] } }, 1, { kind := 2 }, by decide +kernel⟩,
   ⟨{ ((ready : State).setReg (HUB_MGT.REG 1) (word (2 * 2 ^ 60))) with mgmt := { ports := [(1, { dhcp := 2 })] } }, 1, { kind := 5 }, by decide +kernel⟩⟩

/-- The hypotheses of ManagementCommandsComplete (part 3) can be met. -/
theorem witness_ManagementCommandsComplete_2 :
    (∃ (s : State) (port : Nat), s.hubRuns = true ∧ s.mgmtUp port = true ∧ s.flag (HUB_MGT_IP.STATIC port) = false ∧ port < 2 ∧ (s.mgmtPort port).dhcp = 3) ∧
    (∃ (s : State) (value : Nat), s.hubOpen ∧ bit value 63 = true) ∧
    (∃ (s : State) (m : Nat) (len : Nat), s.host.smb = some (m, len)) :=
  ⟨⟨{ ((ready : State).setReg (HUB_MGT.REG 1) (word (2 * 2 ^ 60))) with mgmt := { ports := [(1, { dhcp := 3 })] } }, 1, by decide +kernel⟩,
   ⟨ready, (2 ^ 63), by decide +kernel⟩,
   ⟨{ panel [] with host := { smb := some (0, 4) } }, 0, 4, by decide +kernel⟩⟩

/-- The hypotheses of GuestCommandsComplete (part 1) can be met. -/
theorem witness_GuestCommandsComplete_0 :
    (∃ (s : State) (g : Nat) (block : List Nat), g < 4 ∧ s.guestSt g = 2 ∧ (let b := block.take 64 ++ List.replicate (64 - block.length) 0
      let t := (((below 8).foldl (fun s i => s.setReg (GST_CAP.REG g i) (word (ofLe ((b.drop (8 * i)).take 8)))) s).guestState g 3).put (GST_STATUS.WHY g) (capabilityWhy b)
      capabilityWhy b = 0)) ∧
    (∃ (s : State) (g : Nat) (block : List Nat), g < 4 ∧ s.guestSt g = 2 ∧ (let b := block.take 64 ++ List.replicate (64 - block.length) 0
      let t := (((below 8).foldl (fun s i => s.setReg (GST_CAP.REG g i) (word (ofLe ((b.drop (8 * i)).take 8)))) s).guestState g 3).put (GST_STATUS.WHY g) (capabilityWhy b)
      capabilityWhy b ≠ 0)) ∧
    (∃ (s : State) (g : Nat), g < 4 ∧ s.guestSt g = 2) ∧
    (∃ (s : State) (g : Nat), g < 4 ∧ s.guestSt g = 4) ∧
    (∃ (s : State) (g : Nat) (value : Nat), s.hubOpen ∧ g < 4 ∧ bit value 1 = true) ∧
    (∃ (s : State) (g : Nat) (value : Nat), s.hubOpen ∧ g < 4 ∧ bit value 1 = false) ∧
    (∃ (s : State) (g : Nat), g < 4 ∧ s.guestUp g = true) :=
  ⟨⟨(panel [(GST_STATUS.STATE 3, 2)]), 3, ([0, 0, 0, 0, 1, 1, 0xEE, 2, 14, 0, 90, 100, 110, 32, 1, 0, 8] ++ List.replicate 47 0), by decide +kernel⟩,
   ⟨(panel [(GST_STATUS.STATE 3, 2)]), 3, [], by decide +kernel⟩,
   ⟨(panel [(GST_STATUS.STATE 3, 2)]), 3, by decide +kernel⟩,
   ⟨(panel [(GST_STATUS.STATE 3, 4)]), 3, by decide +kernel⟩,
   ⟨ready, 3, 2, by decide +kernel⟩,
   ⟨ready, 3, 1, by decide +kernel⟩,
   ⟨(panel [(GST_STATUS.STATE 3, 5)]), 3, by decide +kernel⟩⟩

/-- The hypotheses of GuestCommandsComplete (part 2) can be met. -/
theorem witness_GuestCommandsComplete_1 :
    (∃ (s : State) (g : Nat), g < 4 ∧ s.guestUp g = true) ∧
    (∃ (s : State) (g : Nat) (tag : Nat) (r : GuestReq), (s.guest g).out.find? (fun r => r.tag == tag && !r.answered) = some r ∧ (let t := ((s.guestPoison g r).addSat (GST_ERR.TIMEOUTS g) 1).setGuest g { s.guest g with out := (s.guest g).out.map (fun (y : GuestReq) => if y.tag == tag then { y with answered := true } else y) }
      (t.guest g).timeSecond ≠ some (t.isobar / second))) ∧
    (∃ (s : State) (g : Nat), g < 4 ∧ s.guestSt g = 8 ∧ (s.guest g).retrainDue = true ∧ (let t := s.setGuest g { s.guest g with retrainDue := false }
      t.get (GST_STATUS.RETRAINS g) < 3)) :=
  ⟨⟨(panel [(GST_STATUS.STATE 3, 5)]), 3, by decide +kernel⟩,
   ⟨{ panel [] with guests := [(0, ({ out := [{ tag := 5, ask := ⟨3, 1, 64, 0⟩, write := true, addr := 0 }] } : Guest))] }, 0, 5, { tag := 5, ask := ⟨3, 1, 64, 0⟩, write := true, addr := 0 }, by decide +kernel⟩,
   ⟨{ panel [(GST_STATUS.STATE 3, 8)] with guests := [(3, ({ retrainDue := true } : Guest))] }, 3, by decide +kernel⟩⟩

/-- The hypotheses of StepRunsTheCommandInFront can be met. -/
theorem witness_StepRunsTheCommandInFront :
    ∃ (s : State), s.pending = [] :=
  ⟨ready, by decide +kernel⟩

/-- The hypotheses of ResetStateIsCanonicalAndHoldsTheResetValues can be met. -/
theorem witness_ResetStateIsCanonicalAndHoldsTheResetValues :
    ∃ (addr : Nat) (d : RegDesc) (f : FieldDesc), regAt addr = some d ∧ f ∈ d.fields :=
  ⟨MSH_CFG.REG, ((regAt MSH_CFG.REG).get (by decide +kernel)), (((regAt MSH_CFG.REG).get (by decide +kernel)).fields.headD ⟨0, 0, .rw, .val 0⟩), by decide +kernel, by decide +kernel⟩

/-- The hypotheses of AccessesOutsideTheBarsFault can be met. -/
theorem witness_AccessesOutsideTheBarsFault :
    (∃ (c : Instr), InSpace c = false) ∧
    (∃ (bytes : Nat), 0 < bytes) :=
  ⟨⟨.registerRead .host barEnd 4, by decide +kernel⟩,
   ⟨1, by decide +kernel⟩⟩

/-- The hypotheses of AnAddressWithoutARegisterReadsZero can be met. -/
theorem witness_AnAddressWithoutARegisterReadsZero :
    (∃ (s : State) (addr : Nat), addr < 0x4000000 ∧ addr % 8 = 0 ∧ msixArea addr = false ∧ s.hubRuns = true ∧ regOf addr = none) ∧
    (∃ (s : State) (addr : Nat) (bytes : Nat), addr < 0x4000000 ∧ (bytes = 4 ∨ bytes = 8) ∧ addr % bytes = 0 ∧ msixArea addr = false ∧ s.hubRuns = true ∧ regOf (addr / 8 * 8) = none) ∧
    (∃ (addr : Nat), 0x1000000 ≤ addr ∧ addr < 0x4000000 ∧ (0x1A90000 ≤ addr ∨ siteOfAddr addr ∈ [70, 71, 72, 83, 84, 85, 96, 97, 98])) :=
  ⟨⟨ready, 0x3FFFFF8, by decide +kernel, by decide +kernel, by decide +kernel, by decide +kernel, Option.isNone_iff_eq_none.mp (by decide +kernel)⟩,
   ⟨ready, 0x1A90004, 4, by decide +kernel, by decide +kernel, by decide +kernel, by decide +kernel, by decide +kernel, Option.isNone_iff_eq_none.mp (by decide +kernel)⟩,
   ⟨(0x1000000 + 84 * 0x10000), by decide +kernel⟩⟩

/-- The hypotheses of DarkSitesIgnoreWrites can be met. -/
theorem witness_DarkSitesIgnoreWrites :
    (∃ (s : State) (who : Requester) (addr : Nat) (value : Nat) (d : RegDesc), siteWindow addr = true ∧ addr % 8 = 0 ∧ s.hubRuns = true ∧ regOf addr = some d ∧ identityReg d = false ∧ s.powered (siteOfAddr addr) = false ∧ ownWrite who d addr value s = none) ∧
    (∃ (s : State) (who : Requester) (addr : Nat) (bytes : Nat) (d : RegDesc), siteWindow addr = true ∧ (bytes = 4 ∨ bytes = 8) ∧ addr % bytes = 0 ∧ s.hubRuns = true ∧ regOf (addr / 8 * 8) = some d ∧ identityReg d = false ∧ s.powered (siteOfAddr addr) = false ∧ s.flag HUB_DISC_STATUS.DONE = true ∧ ownRead who d addr bytes s = none) ∧
    (∃ (s : State) (who : Requester) (addr : Nat) (bytes : Nat) (d : RegDesc), siteWindow addr = true ∧ (bytes = 4 ∨ bytes = 8) ∧ addr % bytes = 0 ∧ s.hubRuns = true ∧ regOf (addr / 8 * 8) = some d ∧ identityReg d = true ∧ s.flag HUB_DISC_STATUS.DONE = true ∧ ownRead who d addr bytes s = none) ∧
    (∃ (s : State) (site : Nat), s.hubRuns = true ∧ s.powered site = false) :=
  ⟨⟨(withFields [(RST_STATUS.PSTATE, 4), (HUB_DISC_STATUS.DONE, 1)]), .host, (MXA_WBASE.REG 3 17), 0, ((regOf (MXA_WBASE.REG 3 17)).get (by decide +kernel)), by decide +kernel, by decide +kernel, by decide +kernel, by decide +kernel, by decide +kernel, by decide +kernel, Option.isNone_iff_eq_none.mp (by decide +kernel)⟩,
   ⟨(withFields [(RST_STATUS.PSTATE, 4), (HUB_DISC_STATUS.DONE, 1)]), .host, (MXA_WBASE.REG 3 17), 4, ((regOf (MXA_WBASE.REG 3 17)).get (by decide +kernel)), by decide +kernel, by decide +kernel, by decide +kernel, by decide +kernel, by decide +kernel, by decide +kernel, by decide +kernel, by decide +kernel, Option.isNone_iff_eq_none.mp (by decide +kernel)⟩,
   ⟨(withFields [(RST_STATUS.PSTATE, 4), (HUB_DISC_STATUS.DONE, 1)]), .host, (SIT_IDENT.REG 3), 8, ((regOf (SIT_IDENT.REG 3)).get (by decide +kernel)), by decide +kernel, by decide +kernel, by decide +kernel, by decide +kernel, by decide +kernel, by decide +kernel, by decide +kernel, Option.isNone_iff_eq_none.mp (by decide +kernel)⟩,
   ⟨(withFields [(RST_STATUS.PSTATE, 4), (HUB_DISC_STATUS.DONE, 1)]), 3, by decide +kernel⟩⟩

/-- The hypotheses of TheTimeIsReadInOnePiece can be met. -/
theorem witness_TheTimeIsReadInOnePiece :
    (∃ (s : State), s.hubRuns = true) ∧
    (∃ (s : State), s.hubRuns = true) ∧
    (∃ (s : State) (h : Nat), s.hubRuns = true ∧ s.clock.latch = some h) ∧
    (∃ (s : State), s.hubRuns = true ∧ s.clock.latch = none) ∧
    (∃ (s : State), s.hubOpen) :=
  ⟨⟨ready, by decide +kernel⟩,
   ⟨ready, by decide +kernel⟩,
   ⟨{ panel [] with clock := { latch := some 5 } }, 5, by decide +kernel⟩,
   ⟨ready, by decide +kernel⟩,
   ⟨ready, by decide +kernel⟩⟩

/-- The hypotheses of ResetIsRequestedWithItsKey can be met. -/
theorem witness_ResetIsRequestedWithItsKey :
    (∃ (s : State) (value : Nat), s.hubRuns = true ∧ bit value 8 = true ∧ bits value 31 24 ≠ 0x5A) ∧
    (∃ (s : State) (value : Nat), s.hubRuns = true ∧ bit value 8 = true ∧ bits value 31 24 = 0x5A ∧ s.rst.level = none) ∧
    (∃ (s : State) (value : Nat), s.hubRuns = true ∧ bit value 8 = true ∧ bits value 31 24 = 0x5A ∧ s.rst.level = none) :=
  ⟨⟨ready, 0x5B000100, by decide +kernel⟩,
   ⟨ready, 0x5A000100, by decide +kernel⟩,
   ⟨ready, 0x5A000100, by decide +kernel⟩⟩

/-- The hypotheses of CoreRegistersTakeOnlyTheirOwnersWrites can be met. -/
theorem witness_CoreRegistersTakeOnlyTheirOwnersWrites :
    (∃ (s : State) (who : Requester) (site : Nat) (c : Nat), who ≠ .core site c ∧ s.siteOpen who (CCO_WDOG_KICK.REG site c) site) ∧
    (∃ (s : State) (who : Requester) (site : Nat) (c : Nat), who ≠ .core site c ∧ s.siteOpen who (CCO_FATAL.REG site c) site) ∧
    (∃ (s : State) (who : Requester) (site : Nat) (c : Nat), who ≠ .core site c ∧ s.siteOpen who (CCO_FW.REG site c) site) ∧
    (∃ (who : Requester) (site : Nat) (c : Nat), who ≠ .core site c) :=
  ⟨⟨ready, .host, 3, 0, by decide +kernel⟩,
   ⟨ready, .host, 3, 0, by decide +kernel⟩,
   ⟨ready, .host, 3, 0, by decide +kernel⟩,
   ⟨.host, 3, 0, by decide +kernel⟩⟩

/-- The hypotheses of HandleTableWritesWaitForABoundary can be met. -/
theorem witness_HandleTableWritesWaitForABoundary :
    (∃ (s : State) (who : Requester) (site : Nat) (h : Nat) (k : Nat), s.siteOpen who (BHT_ENTRY.REG site h k) site ∧ s.betweenPasses = false) ∧
    (∃ (s : State) (who : Requester) (site : Nat) (h : Nat) (k : Nat), h < 256 ∧ k < 4 ∧ s.siteOpen who (BHT_ENTRY.REG site h k) site ∧ s.betweenPasses = true) :=
  ⟨⟨(panel [(HUB_PASS.STATE, 3)]), .host, 3, 0, 0, by decide +kernel⟩,
   ⟨ready, .host, 3, 255, 3, by decide +kernel⟩⟩

/-- The hypotheses of RoutingTablesWaitForABoundary can be met. -/
theorem witness_RoutingTablesWaitForABoundary :
    (∃ (s : State) (who : Requester) (site : Nat) (i : Nat), site ≠ 84 ∧ s.siteOpen who (SIT_RTE.REG site i) site ∧ s.betweenPasses = false) ∧
    (∃ (s : State), s.hubOpen ∧ s.betweenPasses = false) ∧
    (∃ (s : State) (who : Requester) (site : Nat) (i : Nat), site ≠ 84 ∧ s.siteOpen who (SIT_MCAST.REG site i) site ∧ s.betweenPasses = false) ∧
    (∃ (s : State) (who : Requester) (site : Nat) (t : Nat), s.siteOpen who (SIT_TREE_W0.REG site t) site ∧ s.betweenPasses = false) ∧
    (∃ (s : State) (who : Requester) (site : Nat), s.siteOpen who (SIT_RED_DRAIN.REG site) site ∧ s.fwOwned who site = false ∧ s.betweenPasses = false) ∧
    (∃ (s : State) (who : Requester) (site : Nat), s.siteOpen who (SIT_RED_DRAIN.REG site) site ∧ s.fwOwned who site = true) ∧
    (∃ (s : State) (site : Nat) (i : Nat), s.siteOpen .host (SIT_MCAST.REG site i) site ∧ site ≠ 84 ∧ s.betweenPasses = true) :=
  ⟨⟨(panel [(HUB_PASS.STATE, 3)]), .host, 3, 0, by decide +kernel⟩,
   ⟨(panel [(HUB_PASS.STATE, 3)]), by decide +kernel⟩,
   ⟨(panel [(HUB_PASS.STATE, 3)]), .host, 3, 0, by decide +kernel⟩,
   ⟨(panel [(HUB_PASS.STATE, 3)]), .host, 3, 0, by decide +kernel⟩,
   ⟨(panel [(HUB_PASS.STATE, 3)]), .host, 3, by decide +kernel⟩,
   ⟨(panel [(CCO_STATUS.STATE 3 0, 2)]), .host, 3, by decide +kernel⟩,
   ⟨ready, 3, 0, by decide +kernel⟩⟩

/-- The hypotheses of FirmwareOwnedRegistersRefuseTheHost can be met. -/
theorem witness_FirmwareOwnedRegistersRefuseTheHost :
    (∃ (s : State) (who : Requester) (site : Nat), (∀ a, s.siteOpen who a site = true) ∧ s.fwOwned who site = true) ∧
    (∃ (s : State) (site : Nat), s.get (CCO_STATUS.STATE site 0) = 2 ∧ s.doldrums = false) ∧
    (∃ (s : State) (site : Nat), (s.get (CCO_STATUS.STATE site 0) ≠ 2 ∨ s.doldrums = true)) :=
  ⟨⟨(panel [(CCO_STATUS.STATE 3 0, 2)]), .host, 3, fun a => siteOpen_all _ _ (by decide +kernel) (by decide +kernel) (by decide +kernel) (by decide +kernel) a, by decide +kernel⟩,
   ⟨(panel [(CCO_STATUS.STATE 3 0, 2)]), 3, by decide +kernel⟩,
   ⟨ready, 3, by decide +kernel⟩⟩

/-- The hypotheses of HbmAddressesNameTheirBytes can be met. -/
theorem witness_HbmAddressesNameTheirBytes :
    (∃ (p : Nat), ppaSpace p = 1 ∧ ppaSite p < 32) ∧
    (∃ (p : Nat), ppaSpace p = 1 ∧ ppaSite p = 255) ∧
    (∃ (p : Nat), ppaSpace p = 1 ∧ 32 ≤ ppaSite p ∧ ppaSite p ≠ 255) :=
  ⟨⟨(mkPpa 1 31 0xBFFFFFFFF), by decide +kernel⟩,
   ⟨(mkPpa 1 255 0x17FFFFFFFFF), by decide +kernel⟩,
   ⟨(mkPpa 1 32 0), by decide +kernel⟩⟩

/-- The hypotheses of TernaryBytesPackFiveTrits can be met. -/
theorem witness_TernaryBytesPackFiveTrits :
    (∃ (b : Nat), b < 256) ∧
    (∃ (t : BankTile) (g : Nat) (k : Nat) (j : Nat) (n : Bool) (d : Machine.Dyadic), t.wfmt = 9 ∧ k < 128 ∧ j < 64 ∧ g = 2 * j + k / 64 ∧ decodeFloat fp16 (ofLe ((t.bytes.drop (1664 + 2 * g)).take 2)) = .fin n d) :=
  ⟨⟨242, by decide +kernel⟩,
   ⟨{ bytes := List.replicate 1920 0, wfmt := 9 }, 127, 127, 63, false, ⟨0, -24⟩, by decide +kernel⟩⟩

/-- The hypotheses of EveryCommandInsideTheBarsAnswers can be met. -/
theorem witness_EveryCommandInsideTheBarsAnswers :
    ∃ (c : Instr), InSpace c = true :=
  ⟨.registerRead .host (barEnd - 4) 4, by decide +kernel⟩

/-- The hypotheses of CommandsLeaveTheQueueAlone can be met. -/
theorem witness_CommandsLeaveTheQueueAlone :
    (∃ (c : Instr) (s : State) (t : State), exec c s = .next t) ∧
    (∃ (n : Nat) (s : State) (t : State), runSteps n s = .next t) :=
  ⟨⟨.inputTurnOn, ready, _, rfl⟩,
   ⟨1, ready, _, rfl⟩⟩

/-- The hypotheses of NonStoringCommandsLeaveMemoryAlone can be met. -/
theorem witness_NonStoringCommandsLeaveMemoryAlone :
    ∃ (c : Instr) (s : State) (t : State), mayStore c = false ∧ exec c s = .next t :=
  ⟨.inputTurnOn, ready, _, by decide +kernel, rfl⟩

/-- The hypotheses of EveryStepKeepsTheCanonicalForm can be met. -/
theorem witness_EveryStepKeepsTheCanonicalForm :
    (∃ (s : State) (t : State), s.Canonical ∧ step s = .next t) ∧
    (∃ (n : Nat) (s : State) (t : State), s.Canonical ∧ runSteps n s = .next t) :=
  ⟨⟨State.reset, _, ⟨by decide +kernel, by unfold Rising; decide +kernel⟩, rfl⟩,
   ⟨1, State.reset, _, ⟨by decide +kernel, by unfold Rising; decide +kernel⟩, rfl⟩⟩

/-- The hypotheses of QueuedRunsNeverStop can be met. -/
theorem witness_QueuedRunsNeverStop :
    (∃ (s : State), (∀ c ∈ s.pending, InSpace c = true)) ∧
    (∃ (c : Instr) (s : State) (rest : List Instr), s.pending = c :: rest ∧ InSpace c = false) :=
  ⟨⟨{ panel [] with pending := [.registerRead .host (barEnd - 4) 4] }, by decide +kernel⟩,
   ⟨.registerRead .host barEnd 4, { panel [] with pending := [.registerRead .host barEnd 4] }, [], by decide +kernel⟩⟩

/-- The hypotheses of StoredBytesReadBack can be met. -/
theorem witness_StoredBytesReadBack :
    ∃ (s : State) (key : Nat) (data : List Nat), Memory.wf s.memory = true ∧ key < 2 ^ 56 ∧ key % 1024 + data.length ≤ 1024 :=
  ⟨ready, 1023, [5], by decide +kernel⟩

/-- The hypotheses of PacketWritesStoreOnlyTheirBytes can be met. -/
theorem witness_PacketWritesStoreOnlyTheirBytes :
    (∃ (p : Packet) (a : Nat), p.view = none ∧ a < 2 ^ 56 ∧ p.ppa % 1024 + p.bytes ≤ 1024 ∧ (∀ i, i < p.bytes → physKey (p.ppa + i) ≠ some a)) ∧
    (∃ (s : State) (node : Nat) (p : Packet) (a : Nat), a < 2 ^ 56 ∧ node < 169 ∧ node ≠ 84 ∧ s.powered node = true ∧ ppaSpace p.ppa = 0 ∧ s.retired.contains node = false ∧ p.view = none ∧ p.ppa % 1024 + p.bytes ≤ 1024 ∧ (∀ i, i < p.bytes → physKey (mkPpa 0 node (ppaOffset p.ppa) + i) ≠ some a)) :=
  ⟨⟨{ src := 3, dst := 169, type := 2, bytes := 64, ppa := mkPpa 1 0 960 }, (mkPpa 1 0 1024), by decide +kernel⟩,
   ⟨ready, 3, { src := 4, dst := 3, type := 2, bytes := 64, ppa := mkPpa 0 3 960 }, (mkPpa 0 3 1024), by decide +kernel⟩⟩

/-- The hypotheses of RegisterFieldsAreWrittenByTheirTypes can be met. -/
theorem witness_RegisterFieldsAreWrittenByTheirTypes :
    (∃ (d : RegDesc) (f : FieldDesc), d ∈ regTable ∧ f ∈ d.fields) ∧
    (∃ (l : Loc) (m : Loc), l.hi < 64 ∧ m.hi < 64) :=
  ⟨⟨((regAt MSH_CFG.REG).get (by decide +kernel)), (((regAt MSH_CFG.REG).get (by decide +kernel)).fields.headD ⟨0, 0, .rw, .val 0⟩), List.mem_of_find?_eq_some (p := fun d => RegDesc.hit d MSH_CFG.REG) (show regAt MSH_CFG.REG = _ from (Option.some_get (by decide +kernel)).symm), by decide +kernel⟩,
   ⟨⟨0, 63, 0⟩, ⟨8, 63, 63⟩, by decide +kernel⟩⟩

/-- The hypotheses of QueueRegistersKeepTheirOrder can be met. -/
theorem witness_QueueRegistersKeepTheirOrder :
    (∃ (s : State) (addr : Nat) (ws : List Word), (s.log addr).entries = [] ∧ ws.length ≤ logDepth addr) ∧
    (∃ (s : State) (addr : Nat) (w : Word) (l : List Word), (s.log addr).entries = w :: l) ∧
    (∃ (s : State) (addr : Nat), (s.log addr).entries = []) ∧
    (∃ (s : State) (addr : Nat), (s.log addr).entries.length ≤ logDepth addr) :=
  ⟨⟨ready, HUB_DISC_LOG.REG, [1#64, 2#64], by decide +kernel⟩,
   ⟨((panel []).pushLog HUB_DISC_LOG.REG 5#64), HUB_DISC_LOG.REG, 5#64, [], by decide +kernel⟩,
   ⟨ready, HUB_DISC_LOG.REG, by decide +kernel⟩,
   ⟨ready, HUB_DISC_LOG.REG, by decide +kernel⟩⟩

/-- The hypotheses of TheMackerelDigestIsItsSum can be met. -/
theorem witness_TheMackerelDigestIsItsSum :
    ∃ (x : Partial), x.vals.length = 64 :=
  ⟨⟨0, List.replicate 64 5, 0, false, 1⟩, by decide +kernel⟩

/-- The hypotheses of ReductionsDoNotDependOnTheOrder can be met. -/
theorem witness_ReductionsDoNotDependOnTheOrder :
    ∃ (l : List Partial) (m : List Partial), l.Perm m :=
  ⟨[⟨0, [1], 0, false, 1⟩, ⟨1, [2], 0, false, 1⟩], [⟨1, [2], 0, false, 1⟩, ⟨0, [1], 0, false, 1⟩], by decide +kernel⟩

/-- The hypotheses of VectorInstructionsWorkLaneByLane can be met. -/
theorem witness_VectorInstructionsWorkLaneByLane :
    ∃ (s : State) (site : Nat) (v : Nat) (p : Instr × Nat × (Lane → Lane → Lane)), p ∈ ([(.fadd site v .none, 0x02, laneAdd), (.fsub site v .none, 0x03, laneSub), (.fmul site v .none, 0x04, laneMul), (.fmin site v .none, 0x06, laneMin),
      (.fmax site v .none, 0x07, laneMax), (.iadd site v .none, 0x10, (· + ·)), (.isub site v .none, 0x11, (· - ·)), (.imul site v .none, 0x12, (· * ·))]
      : List (Instr × Nat × (Lane → Lane → Lane))) ∧ s.vectorAt site v p.2.1 = true :=
  ⟨(vectorAt 0x822180000000000), 3, 0, (.fadd 3 0 .none, 0x02, laneAdd), List.mem_cons_self, by decide +kernel⟩

/-- The hypotheses of AddressMappingsAreOneToOne can be met. -/
theorem witness_AddressMappingsAreOneToOne :
    (∃ (p : Nat) (q : Nat) (k : Nat), p < 2 ^ 56 ∧ q < 2 ^ 56 ∧ ppaSpace p = 1 ∧ ppaSpace q = 1 ∧ ppaSite p = 255 ∧ ppaSite q = 255 ∧ physKey p = some k ∧ physKey q = some k) ∧
    (∃ (stack : Nat) (o : Nat), stack < 32 ∧ o < 0xC00000000) ∧
    (∃ (h : Handle) (o : Nat) (u : Nat), (h.view = 1 ∨ h.view = 2) ∧ h.byte o = h.byte u) ∧
    (∃ (h : Handle), (h.view = 1 ∨ h.view = 2)) ∧
    (∃ (h : Handle), h.view = 1 ∧ h.base = 0x100000) :=
  ⟨⟨(mkPpa 1 255 0x17FFFFFFFFF), (mkPpa 1 255 0x17FFFFFFFFF), ((physKey (mkPpa 1 255 0x17FFFFFFFFF)).getD 0), by decide +kernel⟩,
   ⟨31, 0xBFFFFFFFF, by decide +kernel⟩,
   ⟨({ kind := 1, view := 1, wp := false, base := 0x100000, size := 0x2000, index := 0, blockLog := 0, icount := 0 }), 5, 5, by decide +kernel⟩,
   ⟨({ kind := 1, view := 1, wp := false, base := 0x100000, size := 0x2000, index := 0, blockLog := 0, icount := 0 }), by decide +kernel⟩,
   ⟨({ kind := 1, view := 1, wp := false, base := 0x100000, size := 0x2000, index := 0, blockLog := 0, icount := 0 }), by decide +kernel⟩⟩

/-- The hypotheses of WidthTokensCarryTheirFields can be met. -/
theorem witness_WidthTokensCarryTheirFields :
    (∃ (mask : Nat) (width : Nat) (round : Nat), mask < 256 ∧ width < 4 ∧ round < 64) ∧
    (∃ (l : List Nat), (∀ b ∈ l, b < 256)) :=
  ⟨⟨255, 3, 63, by decide +kernel⟩,
   ⟨[255, 0], by decide +kernel⟩⟩

/-! ## Single steps and worked examples of the spec -/

/-- The state a step or an effect goes on in. -/
def nextOf : Host.Outcome State Fault Refusal → Option State
  | .next t => some t
  | .fault _ => none
  | .refused _ => none

/-- The worked examples of R10 and R38: registers of sites and links stand where the spec writes them. -/
theorem test_addresses : SIT_IDENT.REG 44 = 0x012C0000 ∧ SIT_PORTMAP.REG 139 = 0x018B0010 ∧ SIT_RTE.REG 138 34 = 0x018A0510 ∧ BHT_ENTRY.REG 44 0x21 0 = 0x012CA420 ∧
    PWR_STK_W0.REG 44 = 0x00050AC0 ∧ PWR_STK_W1.REG 44 = 0x00050AC8 ∧ MXA_FLUSH_EXT.REG 44 12 = 0x012C3850 ∧ SIT_TREE_W0.REG 139 5 = 0x018B0850 := by
  decide +kernel

/-- The PPAs that the worked examples of R19 and chapter 1 form. -/
theorem test_ppas : mkPpa 0 44 (4 * 2 ^ 20) = 0x02C00000400000 ∧ mkPpa 0 139 0xC000000 = 0x08B0000C000000 := by decide +kernel

/-- Word 0 of SIT_TREE5 of site 139 in the worked example of chapter 7. -/
theorem test_tree_fields : decodeTree 0xC300083000000000 = ⟨true, true, 0, 3, 0, 8, 0x30, 0, false, 0⟩ := by decide +kernel

/-- Table 2.7, address 0: SETFMT 0x622C_0000_FFEC_0000. -/
theorem test_setfmt : (nextOf (exec (.setfmt 3 0) (arrayAt 0x622C0000FFEC0000 {} []))).map (fun t => (t.get (MXA_FMT.WFMT 3 0), t.get (MXA_FMT.AFMT 3 0),
    t.get (MXA_FMT.MXW 3 0), t.get (MXA_FMT.MXA 3 0), t.get (MXA_FMT.ANCHOR 3 0), t.get (MXA_STATUS.PC 3 0))) = some (2, 2, 1, 1, 0xFFEC, 1) := by
  decide +kernel

/-- Table 4.5, address 0: BCAST v5, 0x3C00_0000. -/
theorem test_bcast : (nextOf (exec (.bcast 3 0 .none) (vectorAt 0x80A000003C000000))).map (fun t => (nth 0 ((t.vector 3 0).lanes 5) 127).toNat) = some 0x3C000000 := by
  decide +kernel

/-- Table 4.5, address 2: SLI s1, 0x0000_FFEC. -/
theorem test_sli : (nextOf (exec (.sli 3 0 .none) (vectorAt 0xE02000000000FFEC))).map (fun t => (lookD 0 (t.vector 3 0).s 1).toNat) = some 0xFFEC := by decide +kernel

/-- The worked example of R123: three FP8-E4M3 products under anchors 0 and 40, in two orders. -/
theorem test_window :
    let p (w a : Nat) : Option Machine.Dyadic × Option Machine.Dyadic := ((decodeElement 2 false w).exact 0, (decodeElement 2 false a).exact 0)
    let f (anchor : Int) (l : List (Option Machine.Dyadic × Option Machine.Dyadic)) := columnSum anchor (l.map (fun q => [q.1])) (l.map (·.2)) 0
    (f 0 [p 0x7E 0x7E, p 0xFE 0x7E, p 1 1]).v = 2 ^ 38 ∧ (f 0 [p 0x7E 0x7E, p 1 1, p 0xFE 0x7E]).v = 2 ^ 38 ∧
      (f 40 [p 0x7E 0x7E, p 0xFE 0x7E, p 1 1]) = { low := 1, lowRel := 0xFFC6 } := by
  decide +kernel

/-- The worked example of R110: the trits of the byte 0xC5. -/
theorem test_trits : (List.range 5).map (tritOf 0xC5) = [1, 1, -1, 0, 1] := by decide +kernel

/-- The worked examples of R131 to R135: a block of FP8-E4M3 outputs under the word 0x0082, and two BF16 ties. -/
theorem test_convert :
    convertAll (outWord 0x82) ([.fin false ⟨100, 0⟩] ++ List.replicate 31 (.fin false ⟨0, 0⟩)) = (0x7C :: List.replicate 31 0, [0x7D], 0) ∧
      (convertOne (outWord 0) (.fin false ⟨257, -8⟩)).code = 0x3F80 ∧ (convertOne (outWord 0) (.fin false ⟨259, -8⟩)).code = 0x3F82 := by
  decide +kernel

/-- The example of R500: a hub watchdog expiry in SERVING, in the first failed start. -/
theorem test_watchdog_cause : (nextOf (execHubWatchdogExpiry (panel [(RST_STATUS.WINDOW, 1)]))).map (fun t => (t.reg DWN_CAUSE0.REG).toNat) = some 0x0A06056140000000 := by
  decide +kernel

/-- The worked example of chapter 10: phase 2 of NR of site 44 fails. -/
theorem test_phase_failure :
    (nextOf (execPhaseFailure 44 0 0 [2] (withFields ([(RST_STATUS.PSTATE, 4), (siteOkBit 44, 1)] ++ (below 6).map (fun d => (domainLoc 44 d, 3)))))).map
      (fun t => ((t.reg (PWR_STK_W0.REG 44)).toNat, (t.reg (PWR_STK_W1.REG 44)).toNat)) = some (0x0710000000333333, 4) := by
  decide +kernel

/-- A step takes the command in front; the queue keeps the rest. -/
theorem test_step_takes_front : (nextOf (step { ready with pending := [.passEnd, .discovery] })).map (·.pending) = some [.discovery] := by decide +kernel

/-- An empty queue idles (the model's choice, log entry 1). -/
theorem test_idle : (nextOf (step ready)).isSome = true := by decide +kernel

/-- A read outside the BARs faults (R12). -/
theorem test_outside_bar : nextOf (exec (.registerRead .host barEnd 8) ready) = none := by decide +kernel

end Sys2Proof.Tests
end

section
/-! What every command keeps: the canonical form of the data, and, for the commands that store nothing, memory, the Isobar count and the queue.
Both follow from the lemmas of Laws/Kept.lean, for the properties of Laws/Frames.lean. -/

namespace Sys2Proof.Machine

open Sys2Proof

/-- A step of a state in canonical form gives one: of the command in front where one waits, of the panel left to itself where none does. -/
theorem step_keeps_canonical {s t : State} (h : s.Canonical) (e : step s = .next t) : t.Canonical := by
  match hp : s.pending with
  | [] =>
    have : t = s.rest := by simpa [step, hp] using e.symm
    exact this ▸ (rest_kept (closedAll_formed s) (s := s) ⟨rfl, h⟩).2
  | c :: l => exact (step_kept (closedAll_formed { s with pending := l }) c l hp ⟨rfl, h⟩ t e).2

/-- So does a run of steps. -/
theorem runSteps_keeps_canonical : ∀ (n : Nat) {s t : State}, s.Canonical → runSteps n s = .next t → t.Canonical
  | 0, s, t, h, e => by cases e; exact h
  | n + 1, s, t, h, e => by
    rw [runSteps] at e
    match hs : step s with
    | .next u => exact runSteps_keeps_canonical n (step_keeps_canonical h hs) (by simpa [hs] using e)
    | .fault r => simp [hs] at e
    | .refused r => simp [hs] at e

/-- A command outside mayStore keeps what every update keeps that leaves the queue, the Isobar count and memory alone: its lemma X_kept asks for no more. -/
theorem exec_kept_of_not_mayStore {P : State → Prop} (cl : Closed P) {s : State} (hk : Kept P s) (i : Instr) (hms : mayStore i = false) : KeptO P (exec i s) := by
  cases i with
  | discovery => exact execDiscovery_kept cl hk
  | discoveryProbe site p => exact execDiscoveryProbe_kept cl hk site p
  | meshLinkUp a b verA verB => exact execMeshLinkUp_kept cl hk a b verA verB
  | discLogRead who bytes half => exact execDiscLogRead_kept cl hk who bytes half
  | arrayNop site a => exact execArrayNop_kept cl hk site a
  | loadw site a found => exact execLoadw_kept cl hk site a found
  | stream site a => exact execStream_kept cl hk site a
  | drain site a => exact execDrain_kept cl hk site a
  | zero site a => exact execZero_kept cl hk site a
  | setfmt site a => exact execSetfmt_kept cl hk site a
  | loop site a => exact execLoop_kept cl hk site a
  | arrayEnd site a => exact execArrayEnd_kept cl hk site a
  | ucodeInvalidOpcode site a => exact execUcodeInvalidOpcode_kept cl hk site a
  | arrayEntry site feed slot faults => exact execArrayEntry_kept cl hk site feed slot faults
  | bankLoadDone site a => exact execBankLoadDone_kept cl hk site a
  | drainRowRead site a => exact execDrainRowRead_kept cl hk site a
  | accRowZero site a => exact execAccRowZero_kept cl hk site a
  | mxaThrottleWrite who site value => exact execMxaThrottleWrite_kept cl hk who site value
  | mxaRowmapWrite who site value => exact execMxaRowmapWrite_kept cl hk who site value
  | rerunGo who site a value => exact execRerunGo_kept cl hk who site a value
  | rowGo who site value => exact execRowGo_kept cl hk who site value
  | ucodeWrite who site j value => exact execUcodeWrite_kept cl hk who site j value
  | vecNop site v f => exact execVecNop_kept cl hk site v f
  | vecEnd site v f => exact execVecEnd_kept cl hk site v f
  | fadd site v f => exact execFadd_kept cl hk site v f
  | fsub site v f => exact execFsub_kept cl hk site v f
  | fmul site v f => exact execFmul_kept cl hk site v f
  | fma site v f => exact execFma_kept cl hk site v f
  | fmin site v f => exact execFmin_kept cl hk site v f
  | fmax site v f => exact execFmax_kept cl hk site v f
  | funOp site v f => exact execFunOp_kept cl hk site v f
  | ftr site v f => exact execFtr_kept cl hk site v f
  | iadd site v f => exact execIadd_kept cl hk site v f
  | isub site v f => exact execIsub_kept cl hk site v f
  | imul site v f => exact execImul_kept cl hk site v f
  | ilog site v f => exact execIlog_kept cl hk site v f
  | cvt site v f => exact execCvt_kept cl hk site v f
  | fcmp site v f => exact execFcmp_kept cl hk site v f
  | icmp site v f => exact execIcmp_kept cl hk site v f
  | sel site v f => exact execSel_kept cl hk site v f
  | bcast site v f => exact execBcast_kept cl hk site v f
  | perm site v f => exact execPerm_kept cl hk site v f
  | lshift site v f => exact execLshift_kept cl hk site v f
  | rsum site v f => exact execRsum_kept cl hk site v f
  | rmax site v f => exact execRmax_kept cl hk site v f
  | vld site v f => exact execVld_kept cl hk site v f
  | vldsc site v f => exact execVldsc_kept cl hk site v f
  | vst site v f => exact execVst_kept cl hk site v f
  | exld site v f => exact execExld_kept cl hk site v f
  | sli site v f => exact execSli_kept cl hk site v f
  | sadd site v f => exact execSadd_kept cl hk site v f
  | bnz site v f => exact execBnz_kept cl hk site v f
  | jmp site v f => exact execJmp_kept cl hk site v f
  | twait site v f => exact execTwait_kept cl hk site v f
  | tsig site v f => exact execTsig_kept cl hk site v f
  | vecInvalidOpcode site v f => exact execVecInvalidOpcode_kept cl hk site v f
  | vcoGo who site v value => exact execVcoGo_kept cl hk who site v value
  | vcoProgWrite site v j value => exact execVcoProgWrite_kept cl hk site v j value
  | vcoModeWrite who site value => exact execVcoModeWrite_kept cl hk who site value
  | ccoFwWrite who site c value => exact execCcoFwWrite_kept cl hk who site c value
  | ccoBootTimeout site c => exact execCcoBootTimeout_kept cl hk site c
  | ccoWdogKick who site c => exact execCcoWdogKick_kept cl hk who site c
  | ccoWatchdogExpiry site c => exact execCcoWatchdogExpiry_kept cl hk site c
  | ccoFatalWrite who site c value => exact execCcoFatalWrite_kept cl hk who site c value
  | tcmUncorrectable site c itcm => exact execTcmUncorrectable_kept cl hk site c itcm
  | ccoMbxInPush who site c value => exact execCcoMbxInPush_kept cl hk who site c value
  | hubMessageEnqueue site c => exact execHubMessageEnqueue_kept cl hk site c
  | mbxHeadRemove site c => exact execMbxHeadRemove_kept cl hk site c
  | mbxSend site c dest => exact execMbxSend_kept cl hk site c dest
  | ccoMbxOutPop who site c value => exact execCcoMbxOutPop_kept cl hk who site c value
  | sweepFaultReport site unit => exact execSweepFaultReport_kept cl hk site unit
  | sqDoorbell who q value => exact execSqDoorbell_kept cl hk who q value
  | updraftDecision => exact execUpdraftDecision_kept cl hk
  | passBegin site => exact execPassBegin_kept cl hk site
  | sweepStart site => exact execSweepStart_kept cl hk site
  | sweepDone site => exact execSweepDone_kept cl hk site
  | passEnd => exact execPassEnd_kept cl hk
  | quiet site => exact execQuiet_kept cl hk site
  | clear site => exact execClear_kept cl hk site
  | completionWrite q => exact execCompletionWrite_kept cl hk q
  | sqEnable who q value => exact execSqEnable_kept cl hk who q value
  | sqAbort who q => exact execSqAbort_kept cl hk who q
  | sqFlush who q => exact execSqFlush_kept cl hk who q
  | sqCqConfig who q base value => exact execSqCqConfig_kept cl hk who q base value
  | cqHeadWrite who q value => exact execCqHeadWrite_kept cl hk who q value
  | descriptorListAdmit who site value => exact execDescriptorListAdmit_kept cl hk who site value
  | descriptorSourceStart site d => exact execDescriptorSourceStart_kept cl hk site d
  | descriptorSinkStart site d => exact execDescriptorSinkStart_kept cl hk site d
  | descriptorSinkComplete site d => exact execDescriptorSinkComplete_kept cl hk site d
  | dscMissTimeout site ch => exact execDscMissTimeout_kept cl hk site ch
  | dscStall site => exact execDscStall_kept cl hk site
  | scrubRead site w a => exact execScrubRead_kept cl hk site w a
  | gltErrLogRead who site bytes half => exact execGltErrLogRead_kept cl hk who site bytes half
  | gltRepairRetry who site => exact execGltRepairRetry_kept cl hk who site
  | bhtWrite who site h k value => exact execBhtWrite_kept cl hk who site h k value
  | hbmTrain stack r => exact execHbmTrain_kept cl hk stack r
  | goldenPatrolRead stack e => exact execGoldenPatrolRead_kept cl hk stack e
  | dpdGoldWrite who stack value => exact execDpdGoldWrite_kept cl hk who stack value
  | gatherBlockRead node tag ei eb => exact execGatherBlockRead_kept cl hk node tag ei eb
  | hubRwtWrite who e value => exact execHubRwtWrite_kept cl hk who e value
  | hubRwtSync who value => exact execHubRwtSync_kept cl hk who value
  | rwtSyncDone => exact execRwtSyncDone_kept cl hk
  | routerHeadFlit node port p ce ue => exact execRouterHeadFlit_kept cl hk node port p ce ue
  | read p ecc => exact execRead_kept cl hk p ecc
  | msg p => exact execMsg_kept cl hk p
  | rdata p => exact execRdata_kept cl hk p
  | wack p => exact execWack_kept cl hk p
  | mshDeadlock node port channel lane => exact execMshDeadlock_kept cl hk node port channel lane
  | mshRspTimeout node tag => exact execMshRspTimeout_kept cl hk node tag
  | mshRedTimeout site t seq => exact execMshRedTimeout_kept cl hk site t seq
  | linkLossDetect site port answers => exact execLinkLossDetect_kept cl hk site port answers
  | mshVerify who value => exact execMshVerify_kept cl hk who value
  | widthToken site port good spares token => exact execWidthToken_kept cl hk site port good spares token
  | widthTokenTimeout site port => exact execWidthTokenTimeout_kept cl hk site port
  | routeTableWrite who node j value mcast => exact execRouteTableWrite_kept cl hk who node j value mcast
  | treeEntryWrite who site t value => exact execTreeEntryWrite_kept cl hk who site t value
  | redDrainWrite who site value => exact execRedDrainWrite_kept cl hk who site value
  | mshEventRead who bytes half => exact execMshEventRead_kept cl hk who bytes half
  | sdgVoteLogRead who bytes half => exact execSdgVoteLogRead_kept cl hk who bytes half
  | barRdSeqWrite who value => exact execBarRdSeqWrite_kept cl hk who value
  | linkEnable who l value => exact execLinkEnable_kept cl hk who l value
  | galRetrain who l => exact execGalRetrain_kept cl hk who l
  | galePmaDone l => exact execGalePmaDone_kept cl hk l
  | galePcsDone l => exact execGalePcsDone_kept cl hk l
  | galeFlitLock l => exact execGaleFlitLock_kept cl hk l
  | param l f peer => exact execParam_kept cl hk l f peer
  | galeAttemptFail l => exact execGaleAttemptFail_kept cl hk l
  | galeDownTimer l => exact execGaleDownTimer_kept cl hk l
  | galeLinkLoss l signal am => exact execGaleLinkLoss_kept cl hk l signal am
  | galeDataFlit l bytes => exact execGaleDataFlit_kept cl hk l bytes
  | galeReplayTimeout l => exact execGaleReplayTimeout_kept cl hk l
  | galeFecSecond l corrected uncorrectable => exact execGaleFecSecond_kept cl hk l corrected uncorrectable
  | openMsg l p => exact execOpenMsg_kept cl hk l p
  | closeMsg l p => exact execCloseMsg_kept cl hk l p
  | ackMsg l p => exact execAckMsg_kept cl hk l p
  | putMsg l p => exact execPutMsg_kept cl hk l p
  | getReq l p => exact execGetReq_kept cl hk l p
  | getResp l p => exact execGetResp_kept cl hk l p
  | sendMsg l p => exact execSendMsg_kept cl hk l p
  | collUp l p => exact execCollUp_kept cl hk l p
  | collDown l p => exact execCollDown_kept cl hk l p
  | keepalive l p => exact execKeepalive_kept cl hk l p
  | conduitRto c st => exact execConduitRto_kept cl hk c st
  | conduitOpenTimer c => exact execConduitOpenTimer_kept cl hk c
  | conduitKeepaliveTimer c => exact execConduitKeepaliveTimer_kept cl hk c
  | conduitDeadLimit c => exact execConduitDeadLimit_kept cl hk c
  | conduitNolinkLimit c => exact execConduitNolinkLimit_kept cl hk c
  | conduitRnrDelay c => exact execConduitRnrDelay_kept cl hk c
  | conduitAckTimer c st => exact execConduitAckTimer_kept cl hk c st
  | conduitCfgWrite who c reg value => exact execConduitCfgWrite_kept cl hk who c reg value
  | conduitSendGo who c value => exact execConduitSendGo_kept cl hk who c value
  | rxHeadWrite who c value => exact execRxHeadWrite_kept cl hk who c value
  | galPanelWrite who value => exact execGalPanelWrite_kept cl hk who value
  | collSlotWrite who e t k value => exact execCollSlotWrite_kept cl hk who e t k value
  | collTimeout e t => exact execCollTimeout_kept cl hk e t
  | moduleInsert k m => exact execModuleInsert_kept cl hk k m
  | moduleRemove k => exact execModuleRemove_kept cl hk k
  | moduleInterrupt k f => exact execModuleInterrupt_kept cl hk k f
  | moduleAuthAnswer k cert sig page => exact execModuleAuthAnswer_kept cl hk k cert sig page
  | moduleAuthTimeout k => exact execModuleAuthTimeout_kept cl hk k
  | moduleReauthTimer k => exact execModuleReauthTimer_kept cl hk k
  | moduleLifeRead k page => exact execModuleLifeRead_kept cl hk k page
  | lenQuiesce who k => exact execLenQuiesce_kept cl hk who k
  | lenResume who k => exact execLenResume_kept cl hk who k
  | inputTurnOn => exact execInputTurnOn_kept cl hk
  | lowInputWarning => exact execLowInputWarning_kept cl hk
  | highInputWarning => exact execHighInputWarning_kept cl hk
  | barLoss b tripped => exact execBarLoss_kept cl hk b tripped
  | barRestore b => exact execBarRestore_kept cl hk b
  | barImbalanceCheck => exact execBarImbalanceCheck_kept cl hk
  | inputBackstop => exact execInputBackstop_kept cl hk
  | backstopRelease => exact execBackstopRelease_kept cl hk
  | segmentOverload g => exact execSegmentOverload_kept cl hk g
  | segmentOverloadRelease g => exact execSegmentOverloadRelease_kept cl hk g
  | senseFault node d => exact execSenseFault_kept cl hk node d
  | domainUndervoltage node d => exact execDomainUndervoltage_kept cl hk node d
  | domainOverCap node d => exact execDomainOverCap_kept cl hk node d
  | lsrHot node => exact execLsrHot_kept cl hk node
  | powerupApproval g => exact execPowerupApproval_kept cl hk g
  | softstartRetry node d => exact execSoftstartRetry_kept cl hk node d
  | powerupDeferredTimeout node d => exact execPowerupDeferredTimeout_kept cl hk node d
  | snapshotTimer => exact execSnapshotTimer_kept cl hk
  | pwrSnap who value => exact execPwrSnap_kept cl hk who value
  | pwrEventRead who bytes half => exact execPwrEventRead_kept cl hk who bytes half
  | pwrInputMaxRead who bytes half => exact execPwrInputMaxRead_kept cl hk who bytes half
  | thermalDemandStep site fall => exact execThermalDemandStep_kept cl hk site fall
  | thmEmergClear who value => exact execThmEmergClear_kept cl hk who value
  | clearSuspect who value => exact execClearSuspect_kept cl hk who value
  | thmEventRead who bytes half => exact execThmEventRead_kept cl hk who bytes half
  | refWindow edges => exact execRefWindow_kept cl hk edges
  | clockEdgeLoss site d answers => exact execClockEdgeLoss_kept cl hk site d answers
  | seamSlip site port => exact execSeamSlip_kept cl hk site port
  | beaconSend => exact execBeaconSend_kept cl hk
  | beacon site d launch hops own crcOk => exact execBeacon_kept cl hk site d launch hops own crcOk
  | beaconLoss site => exact execBeaconLoss_kept cl hk site
  | opChangeRequest who value => exact execOpChangeRequest_kept cl hk who value
  | opSlewStart => exact execOpSlewStart_kept cl hk
  | opSettleCheck unsettled => exact execOpSettleCheck_kept cl hk unsettled
  | opLinkPause => exact execOpLinkPause_kept cl hk
  | opRelock unlocked => exact execOpRelock_kept cl hk unlocked
  | opDetectResume => exact execOpDetectResume_kept cl hk
  | ptpSync port m => exact execPtpSync_kept cl hk port m
  | ptpAnnounce port m dataset utc => exact execPtpAnnounce_kept cl hk port m dataset utc
  | ptpDelayResp port m => exact execPtpDelayResp_kept cl hk port m
  | ptpLoss => exact execPtpLoss_kept cl hk
  | ptpEnable who value => exact execPtpEnable_kept cl hk who value
  | dawnCrystalLoss => exact execDawnCrystalLoss_kept cl hk
  | isbCountRead who bytes half => exact execIsbCountRead_kept cl hk who bytes half
  | clkEventRead who bytes half => exact execClkEventRead_kept cl hk who bytes half
  | imageLoad who => exact execImageLoad_kept cl hk who
  | imageReadDone ues => exact execImageReadDone_kept cl hk ues
  | imageCheckDone ues => exact execImageCheckDone_kept cl hk ues
  | imageAbandon who => exact execImageAbandon_kept cl hk who
  | arm node nak => exact execArm_kept cl hk node nak
  | armAck node => exact execArmAck_kept cl hk node
  | nak node code => exact execNak_kept cl hk node code
  | armDecide => exact execArmDecide_kept cl hk
  | confirm node => exact execConfirm_kept cl hk node
  | abort node => exact execAbort_kept cl hk node
  | report node applied => exact execReport_kept cl hk node applied
  | reportDeadline => exact execReportDeadline_kept cl hk
  | rstoRelease => exact execRstoRelease_kept cl hk
  | powerStateRequest who value => exact execPowerStateRequest_kept cl hk who value
  | transitionTimeout => exact execTransitionTimeout_kept cl hk
  | retain site => exact execRetain_kept cl hk site
  | resume site => exact execResume_kept cl hk site
  | rstPark who value => exact execRstPark_kept cl hk who value
  | fwRoundDone => exact execFwRoundDone_kept cl hk
  | spareIn spare => exact execSpareIn_kept cl hk spare
  | spareLogRead who bytes half => exact execSpareLogRead_kept cl hk who bytes half
  | pcieLinkUp speed width flit => exact execPcieLinkUp_kept cl hk speed width flit
  | pcieLinkDown => exact execPcieLinkDown_kept cl hk
  | busMasterEnableChange on => exact execBusMasterEnableChange_kept cl hk on
  | bar4Access write offset n data poison => exact execBar4Access_kept cl hk write offset n data poison
  | b4apWrite who j value => exact execB4apWrite_kept cl hk who j value
  | irqHoldoffEnd v => exact execIrqHoldoffEnd_kept cl hk v
  | msixUnmask w => exact execMsixUnmask_kept cl hk w
  | mgmtKeyWrite who k value => exact execMgmtKeyWrite_kept cl hk who k value
  | cperAck port data => exact execCperAck_kept cl hk port data
  | cperResend seq => exact execCperResend_kept cl hk seq
  | mgmtPortDown port => exact execMgmtPortDown_kept cl hk port
  | mgmtPortUp port fec => exact execMgmtPortUp_kept cl hk port fec
  | echoRequest port v6 dst data => exact execEchoRequest_kept cl hk port v6 dst data
  | smbRead who value => exact execSmbRead_kept cl hk who value
  | smbReadDone ok data => exact execSmbReadDone_kept cl hk ok data
  | guestTrainDone g ok rate width => exact execGuestTrainDone_kept cl hk g ok rate width
  | guestRdata g f => exact execGuestRdata_kept cl hk g f
  | guestWack g tag err => exact execGuestWack_kept cl hk g tag err
  | guestTimeout g tag => exact execGuestTimeout_kept cl hk g tag
  | guestLinkLoss g => exact execGuestLinkLoss_kept cl hk g
  | guestRetrainTimer g => exact execGuestRetrainTimer_kept cl hk g
  | registerRead who addr bytes => exact execRegisterRead_kept cl hk who addr bytes
  | mtimecmpInterrupt site c => exact execMtimecmpInterrupt_kept cl hk site c
  | ptpFollowUp port m => exact execPtpFollowUp_kept cl hk port m
  | ptpDelayReqTimer => exact execPtpDelayReqTimer_kept cl hk
  | dhcpReply port m => exact execDhcpReply_kept cl hk port m
  | dhcpLeaseTimer port => exact execDhcpLeaseTimer_kept cl hk port
  | arpRequest port target => exact execArpRequest_kept cl hk port target
  | neighborDiscovery port m => exact execNeighborDiscovery_kept cl hk port m
  | putMergeWindow c => exact execPutMergeWindow_kept cl hk c
  | collPackWindow e t => exact execCollPackWindow_kept cl hk e t
  | forwardedClockReturn site d => exact execForwardedClockReturn_kept cl hk site d
  | _ => exact absurd hms Bool.noConfusion

/-- Settles O50: every operation keeps the canonical form (step_kept and rest_kept for the property Formed), and a run is one step after the other. -/
theorem everyStepKeepsTheCanonicalForm : Obligations.EveryStepKeepsTheCanonicalForm :=
  ⟨fun _ _ => step_keeps_canonical, fun n _ _ => runSteps_keeps_canonical n⟩

/-- Settles O49: the queue, memory and the Isobar count stay as they are (the property Still). -/
theorem nonStoringCommandsLeaveMemoryAlone : Obligations.NonStoringCommandsLeaveMemoryAlone := by
  intro c s t hc e
  obtain ⟨hq, hm, hi⟩ : Still s t := exec_kept_of_not_mayStore (closed_still s) (still_refl s) c hc t e
  exact ⟨fun _ => by rw [hm], hi, hq⟩

end Sys2Proof.Machine
end

section
/-! Little-endian bytes and the width tokens of a link. -/

namespace Sys2Proof.Machine

open Sys2Proof

/-! ## Bytes, low byte first (R6) -/

theorem length_leBytes : ∀ n v : Nat, (leBytes n v).length = n
  | 0, _ => rfl
  | n + 1, v => by rw [leBytes, List.length_cons, length_leBytes n]

theorem ofLe_leBytes : ∀ n v : Nat, ofLe (leBytes n v) = v % 256 ^ n
  | 0, v => by simp [leBytes, ofLe, Nat.mod_one]
  | n + 1, v => by rw [leBytes, ofLe, ofLe_leBytes n, Nat.pow_succ', Nat.mod_mul, Nat.mod_mod]

theorem leBytes_ofLe : ∀ l : List Nat, (∀ b ∈ l, b < 256) → leBytes l.length (ofLe l) = l
  | [], _ => rfl
  | b :: l, h => by
    have hb : b < 256 := h b List.mem_cons_self
    have low : (b % 256 + 256 * ofLe l) % 256 = b := by omega
    have high : (b % 256 + 256 * ofLe l) / 256 = ofLe l := by omega
    rw [ofLe, List.length_cons, leBytes, low, high, leBytes_ofLe l (fun x hx => h x (List.mem_cons_of_mem _ hx))]

/-! ## Width tokens (R273) -/

/-- The CRC of a token is one byte. -/
theorem crc8_lt : ∀ n v c : Nat, c < 256 → crc8 n v c < 256
  | 0, _, _, h => h
  | n + 1, v, c, _ => by
    refine crc8_lt n v _ (Nat.xor_lt_two_pow (n := 8) (Nat.mod_lt _ (by decide)) ?_)
    split_ifs <;> decide

theorem decodeToken_encodeToken {mask width round : Nat} (hm : mask < 256) (hw : width < 4) (hr : round < 64) :
    decodeToken (encodeToken mask width round) = ⟨mask, width, round, true⟩ := by
  obtain ⟨h, hh⟩ : ∃ h, h = mask * 256 + width * 64 + round := ⟨_, rfl⟩
  obtain ⟨c, hc⟩ : ∃ c, c = crc8 16 h 0 := ⟨_, rfl⟩
  have hc8 : c < 256 := hc ▸ crc8_lt 16 h 0 (by decide)
  have field (x : Nat) {hi lo : Nat} (e : (h * 256 + c) / 2 ^ lo % 2 ^ (hi + 1 - lo) = x) : bits (h * 256 + c) hi lo = x := by
    rw [bits, Nat.shiftRight_eq_div_pow, e]
  have e : encodeToken mask width round = h * 256 + c := by simp only [encodeToken, ← hh, ← hc]
  rw [e, decodeToken, field mask (by omega), field width (by omega), field round (by omega), field h (by omega), field c (by omega), hc, beq_self_eq_true]

/-- Settles O60: the fields of a token stand in their places below one another, its CRC is one byte, and bytes are taken off and put back low byte first. -/
theorem widthTokensCarryTheirFields : Obligations.WidthTokensCarryTheirFields :=
  ⟨fun _ _ _ => decodeToken_encodeToken, fun n v => ⟨ofLe_leBytes n v, length_leBytes n v⟩, leBytes_ofLe⟩

end Sys2Proof.Machine
end

section
/-! Storing bytes in memory (R55, R220): the rows that a store touches are cleared where they are first written, then the bytes are written. A row is the
64 bytes of one codeword row, and two keys lie in one row where they agree beyond their six low bits. -/

namespace Sys2Proof.Machine

open Sys2Proof

/-! ## Rows -/

section
variable {a b : Nat} (h : a / 64 = b / 64)
include h

theorem ppaSpace_congr_row : ppaSpace a = ppaSpace b := by
  simp only [ppaSpace, bits, Nat.shiftRight_eq_div_pow]; omega

theorem ppaSite_congr_row : ppaSite a = ppaSite b := by
  simp only [ppaSite, bits, Nat.shiftRight_eq_div_pow]; omega

theorem ppaOffset_div_congr_row : ppaOffset a / 64 = ppaOffset b / 64 := by
  simp only [ppaOffset, bits, Nat.shiftRight_eq_div_pow]; omega

theorem storeOf_congr_row : storeOf (ppaOffset a) = storeOf (ppaOffset b) := by
  have := ppaOffset_div_congr_row h
  simp only [storeOf]
  split_ifs <;> omega

theorem rowWritten_congr_row (s : State) : s.rowWritten a = s.rowWritten b := by
  simp only [State.rowWritten, ppaSpace_congr_row h, ppaSite_congr_row h, ppaOffset_div_congr_row h, storeOf_congr_row h]

end

/-- Space, site and row of the offset name the row of a key. -/
theorem same_row_of_fields {a b : Nat} (ha : a < 2 ^ 56) (hb : b < 2 ^ 56) (hsp : ppaSpace a = ppaSpace b) (hsi : ppaSite a = ppaSite b)
    (ho : ppaOffset a / 64 = ppaOffset b / 64) : a / 64 = b / 64 := by
  simp only [ppaSpace, ppaSite, ppaOffset, bits, Nat.shiftRight_eq_div_pow] at hsp hsi ho
  omega

theorem mem_markIn {l : List Nat} {a x : Nat} : x ∈ markIn l a ↔ x = a ∨ x ∈ l := by
  induction l with
  | nil => simp [markIn]
  | cons y l ih =>
    simp only [markIn]
    split_ifs with h
    · subst h; simp
    · simp
    · simp [ih, or_left_comm]

theorem nth_replicate_default {α : Type} (d : α) : ∀ n i : Nat, nth d (List.replicate n d) i = d
  | 0, _ => rfl
  | _ + 1, 0 => rfl
  | n + 1, i + 1 => nth_replicate_default d n i

/-! ## The first write of a row -/

theorem freshRow_of_written {s : State} {k : Nat} (h : s.rowWritten k = true) : s.freshRow k = s := by
  simp [State.freshRow, h]

theorem freshRow_memory {s : State} {k : Nat} (h : s.rowWritten k = false) :
    (s.freshRow k).memory = writeBytes s.memory (k - k % 64) (List.replicate 64 0) := by
  simp only [State.freshRow, h, Bool.false_eq_true, if_false]
  rfl

theorem freshRow_written {s : State} {k : Nat} (h : s.rowWritten k = false) (x : Nat) : ((s.freshRow k).gelat x).written =
    if x = ppaSite k then markIn (s.gelat x).written (ppaOffset k / 64) else (s.gelat x).written := by
  simp only [State.freshRow, h, Bool.false_eq_true, if_false, State.gelat, State.setGelat, lookD]
  split_ifs with hx
  · rw [hx, look_putKey_same, Option.getD_some]
  · rw [look_putKey_other _ _ hx]

/-- Only a row of the spill store may be unwritten. -/
theorem rowWritten_eq_true {s : State} {k : Nat} : s.rowWritten k = true ↔
    (ppaSpace k = 0 → storeOf (ppaOffset k) = 2 → ppaOffset k / 64 ∈ (s.gelat (ppaSite k)).written) := by
  rw [State.rowWritten, ← and_imp]
  split_ifs with hs
  · simp [hs]
  · simp only [hs, false_implies]

theorem ppaSpace_of_unwritten {s : State} {k : Nat} (h : s.rowWritten k = false) : ppaSpace k = 0 := by
  by_contra hs
  simp [State.rowWritten, hs] at h

/-- The written bits that the first write of a row leaves: those there were, and its own. -/
theorem freshRow_rowWritten (s : State) {k a : Nat} (hk : k < 2 ^ 56) (ha : a < 2 ^ 56) :
    (s.freshRow k).rowWritten a = true ↔ s.rowWritten a = true ∨ a / 64 = k / 64 := by
  cases hw : s.rowWritten k with
  | true =>
    rw [freshRow_of_written hw]
    exact ⟨.inl, fun h => h.elim id fun h => (rowWritten_congr_row h s).trans hw⟩
  | false =>
    by_cases h : a / 64 = k / 64
    · simp [rowWritten_eq_true, freshRow_written hw, ppaSite_congr_row h, ppaOffset_div_congr_row h, mem_markIn, h]
    · simp only [rowWritten_eq_true, freshRow_written hw, h, or_false]
      split_ifs with hs
      · have hne : ppaSpace a = 0 → ppaOffset a / 64 ≠ ppaOffset k / 64 := fun hsp ho =>
          h (same_row_of_fields ha hk (hsp.trans (ppaSpace_of_unwritten hw).symm) hs ho)
        exact forall_congr' fun hsp => by simp [mem_markIn, hne hsp]
      · rfl

theorem freshRow_wf {s : State} (k : Nat) (h : Memory.wf s.memory = true) : Memory.wf (s.freshRow k).memory = true := by
  cases hw : s.rowWritten k with
  | true => rwa [freshRow_of_written hw]
  | false => rw [freshRow_memory hw]; exact Memory.wf_writeBytes _ _ _ h

/-- The first write of a row changes no byte as a read finds it: the bytes of an unwritten row read 0 before it and after it. -/
theorem freshRow_byteAt {s : State} {k a : Nat} (hk : k < 2 ^ 56) (ha : a < 2 ^ 56) (h : Memory.wf s.memory = true) :
    (s.freshRow k).byteAt a = s.byteAt a := by
  cases hw : s.rowWritten k with
  | true => rw [freshRow_of_written hw]
  | false =>
    by_cases hr : a / 64 = k / 64
    · have hb : a = k - k % 64 + a % 64 := by omega
      have h0 : s.byteAt a = 0 := by simp [State.byteAt, rowWritten_congr_row hr, hw]
      have hm : readByte (s.freshRow k).memory a = 0 := by
        rw [freshRow_memory hw, hb, readByte_writeBytes_same _ _ _ _ h (by rw [List.length_replicate]; omega), nth_replicate_default]
        rfl
      rw [h0, State.byteAt, hm]
      exact ite_self _
    · have hm : readByte (s.freshRow k).memory a = readByte s.memory a := by
        rw [freshRow_memory hw, readByte_writeBytes_other _ _ _ (by simp; omega)]
      simp only [State.byteAt, hm, freshRow_rowWritten s hk ha, hr, or_false]

/-! ## The rows that a store touches -/

/-- The first write of each row of a list, none of which has a byte outside the address space: memory keeps its form, every byte reads as it did, and the rows
are written. -/
theorem foldl_freshRow {l : List Nat} : ∀ {s : State}, (∀ k ∈ l, k < 2 ^ 56) → Memory.wf s.memory = true →
    let t := l.foldl (fun s k => s.freshRow k) s
    Memory.wf t.memory = true ∧ (∀ a, a < 2 ^ 56 → t.byteAt a = s.byteAt a) ∧
      ∀ a, a < 2 ^ 56 → (s.rowWritten a = true ∨ ∃ k ∈ l, a / 64 = k / 64) → t.rowWritten a = true := by
  induction l with
  | nil => intro s _ h; exact ⟨h, fun _ _ => rfl, fun a _ ha => ha.elim id (by simp)⟩
  | cons k l ih =>
    intro s hl h
    have hk : k < 2 ^ 56 := hl k List.mem_cons_self
    obtain ⟨hwf, hbyte, hrow⟩ := ih (fun x hx => hl x (List.mem_cons_of_mem _ hx)) (freshRow_wf k h)
    refine ⟨hwf, fun a ha => (hbyte a ha).trans (freshRow_byteAt hk ha h), fun a ha hw => hrow a ha ?_⟩
    rw [freshRow_rowWritten s hk ha, or_assoc]
    simpa using hw

/-- The first bytes of the rows that n bytes from a key on touch. -/
def rowsTouched (key n : Nat) : List Nat := (below ((key % 64 + n + 63) / 64)).map (fun i => key - key % 64 + 64 * i)

theorem rowsTouched_lt {key n : Nat} (h : key < 2 ^ 56) (hn : key % 1024 + n ≤ 1024) : ∀ k ∈ rowsTouched key n, k < 2 ^ 56 := by
  intro k hk
  obtain ⟨i, hi, rfl⟩ := List.mem_map.mp hk
  have hi : i < (key % 64 + n + 63) / 64 := List.mem_range.mp hi
  omega

theorem exists_rowsTouched {key n i : Nat} (h : i < n) : ∃ k ∈ rowsTouched key n, (key + i) / 64 = k / 64 :=
  ⟨_, List.mem_map.mpr ⟨(key % 64 + i) / 64, List.mem_range.mpr (by omega), rfl⟩, by omega⟩

/-- What a store does to what a read finds: the rows are made fresh, then the bytes are written. -/
theorem byteAt_storeKey (s : State) (key : Nat) (data : List Nat) (poison : Bool) (a : Nat) :
    let t := (rowsTouched key data.length).foldl (fun s k => s.freshRow k) s
    (s.storeKey key data poison).byteAt a = if t.rowWritten a then (readByte (writeBytes t.memory key data) a).toNat else 0 := rfl

/-- Settles O52: the rows are written before the bytes are, and making a row fresh changes no byte that a read finds. -/
theorem storedBytesReadBack : Obligations.StoredBytesReadBack := by
  intro s key data poison hwf hkey hblock
  obtain ⟨hwf', hbyte, hrow⟩ := foldl_freshRow (rowsTouched_lt hkey hblock) hwf
  refine ⟨fun i hi => ?_, fun a ha hout => ?_⟩
  · rw [byteAt_storeKey, hrow (key + i) (by omega) (.inr (exists_rowsTouched hi)), if_pos rfl, readByte_writeBytes_same _ _ _ _ hwf' hi]
    exact BitVec.toNat_ofNat _ _
  · rw [byteAt_storeKey, readByte_writeBytes_other _ _ _ hout, ← hbyte a ha]
    rfl

end Sys2Proof.Machine
end

section
/-! What the power domains and the meters do (R14, R382 to R399, R404): each command of Machine/Power.lean where its own effect takes place. -/

namespace Sys2Proof.Machine

open Sys2Proof

/-- Where the hub runs, a register that answers in DOLDRUMS too is accessed. -/
theorem atDawn_of_hubRuns {s : State} (h : s.hubRuns = true) (k : Host.Outcome State Fault Refusal) : s.atDawn k = k := by
  rw [State.atDawn, if_pos h]

/-- One phase that fails where none had failed is the only new one. -/
theorem first_failed_phase {n p : Nat} (h : p < n) : [p].filter (fun q => decide (q < n) && !bit 0 q) = [p] := by
  simp [bit, h]

theorem execPhaseFailure_first {s : State} {node d rail p : Nat} (hv : validNode node = true) (hp : p < domPhases node d rail)
    (h0 : s.failedPhases node d rail = 0) (h1 : popCount (domPhases node d rail) (withBit 0 p true) = 1) (hn : domPhases node d rail ≠ 1) :
    execPhaseFailure node d rail [p] s = .next ((s.setFailed node d rail (withBit 0 p true)).raisePower
      { code := 0x0710, node := node, unit := d, details := [p] } p) := by
  have hne : ¬ (¬ validNode node = true ∨ [p].isEmpty = true) := by simp [hv]
  simp only [execPhaseFailure, h0, first_failed_phase hp, if_neg hne, List.foldl_cons, List.foldl_nil, h1, if_true, if_neg hn.symm,
    List.getLastD_cons, List.getLastD_nil]

/-- Settles O24: each command is run down the branch that the clause's hypotheses choose. -/
theorem domainCommandsComplete : Obligations.DomainCommandsComplete := by
  refine ⟨fun s node hv hn hf => ?_, fun s node d h1 hn hd hv hf => ?_, fun s node d n hv hd hn h2 => ?_, fun s node d n hv hd hn h2 h1 => ?_,
    fun s node d hv hd => ?_, fun s node d rail p hv hp h0 h1 hn => execPhaseFailure_first hv hp h0 h1 hn, fun s node d hv hd => ?_,
    fun s node hv => ?_, fun s g r ha hf hr => ?_, fun s node d hv hn hg => ?_, fun s node d hv hn hg h2 => ?_, fun s node d h1 => ?_,
    fun s node d ha => ?_, fun s m hp => ?_, fun s who value => ⟨fun hp => ?_, fun hr hb => ?_⟩, fun s who bytes half hr => atDawn_of_hubRuns hr _,
    fun s who half hr => ?_⟩
  · change execLsrInputSwitchOpen node s = _
    rw [execLsrInputSwitchOpen, if_neg (by simp [hv, hn, hf])]
  · change execSenseFault node d s = _
    rw [execSenseFault, if_neg (by simp [hv]), if_pos ⟨h1, hn⟩]
    exact congrArg _ (if_neg (by simp [hf]; omega))
  · change execDomainUndervoltage node d s = _
    subst hn
    rw [execDomainUndervoltage, if_neg (by simp [hv, hd])]
    simp only [Nat.not_le.mpr h2, false_and, if_false, Nat.add_zero]
  · change execDomainUndervoltage node d s = _
    subst hn
    rw [execDomainUndervoltage, if_neg (by simp [hv, hd])]
    simp only [h2, h1, and_self, if_true]
  · change execDomainOvervoltage node d s = _
    rw [execDomainOvervoltage, if_neg (by simp [hv, hd])]
  · change execDomainOverCap node d s = _
    rw [execDomainOverCap, if_neg (by simp [hv, hd])]
  · change execLsrHot node s = _
    rw [execLsrHot, if_neg (by simp [hv])]
  · change execPowerupApproval g s = _
    rw [execPowerupApproval, if_neg (by simp [ha])]
    simp only [hf, hr, Bool.false_eq_true, if_false]
  · change execRampEndCheck node d true s = _
    rw [execRampEndCheck, if_neg (by simp [hv, hn, hg]), if_pos rfl]
  · change execRampEndCheck node d false s = _
    rw [execRampEndCheck, if_neg (by simp [hv, hn, hg]), if_neg Bool.false_ne_true]
    simp only [beq_false_of_ne h2, Bool.false_and, Bool.false_eq_true, if_false]
  · change execSoftstartRetry node d s = _
    rw [execSoftstartRetry, if_neg (by simp [h1])]
  · change execPowerupDeferredTimeout node d s = _
    rw [execPowerupDeferredTimeout, if_pos ha]
  · change execMeterSample m s = _
    rw [execMeterSample, if_neg hp]
  · change execSnapshotTimer s = _
    rw [execSnapshotTimer, if_neg hp]
  · change execPwrSnap who value s = _
    rw [execPwrSnap, atDawn_of_hubRuns hr, if_pos hb]
  · change execPwrInputMaxRead who 8 half s = _
    rw [execPwrInputMaxRead, atDawn_of_hubRuns hr]
    simp only [if_true, true_or]

end Sys2Proof.Machine
end

section
/-! The state right after reset (R14, R206, R507): what each register holds there. The fields of a register lie apart, so that each of them holds its own
Reset value. -/

namespace Sys2Proof.Machine

open Sys2Proof

/-- The fields of a register lie inside its 64 bits and apart from each other. -/
def RegDesc.FieldsApart (d : RegDesc) : Prop := (∀ f ∈ d.fields, f.hi < 64) ∧ d.fields.Pairwise (fun f g => f.hi < g.lo ∨ g.hi < f.lo)

theorem fieldsApart_of_mem_regTable : ∀ d ∈ regTable, d.FieldsApart := by
  have h : regTable.all (fun d => decide (∀ f ∈ d.fields, f.hi < 64) && decide (d.fields.Pairwise (fun f g => f.hi < g.lo ∨ g.hi < f.lo))) = true := by
    decide +kernel
  simpa only [RegDesc.FieldsApart, List.all_eq_true, Bool.and_eq_true, decide_eq_true_eq] using h

theorem mem_regTable_of_regAt {addr : Nat} {d : RegDesc} (h : regAt addr = some d) : d ∈ regTable := List.mem_of_find?_eq_some h

/-- Writing other fields leaves a field as it was. -/
theorem fieldOf_foldl_withField_other (v : FieldDesc → Nat) {hi lo : Nat} (h64 : hi < 64) : ∀ (l : List FieldDesc) (w : Word),
    (∀ g ∈ l, g.hi < lo ∨ hi < g.lo) → fieldOf (l.foldl (fun w f => withField w f.hi f.lo (v f)) w) hi lo = fieldOf w hi lo
  | [], _, _ => rfl
  | g :: l, w, h => by
    rw [List.foldl_cons, fieldOf_foldl_withField_other v h64 l _ (fun x hx => h x (List.mem_cons_of_mem _ hx)),
      fieldOf_withField_other _ _ h64 (h g List.mem_cons_self)]

/-- Where fields that lie apart are written one after the other, each holds what was written to it. -/
theorem fieldOf_foldl_withField (v : FieldDesc → Nat) {f : FieldDesc} : ∀ (l : List FieldDesc) (w : Word), (∀ g ∈ l, g.hi < 64) →
    l.Pairwise (fun f g => f.hi < g.lo ∨ g.hi < f.lo) → f ∈ l →
    fieldOf (l.foldl (fun w f => withField w f.hi f.lo (v f)) w) f.hi f.lo = v f % 2 ^ (f.hi + 1 - f.lo)
  | g :: l, w, h64, hp, hf => by
    obtain ⟨hg, hl⟩ := List.pairwise_cons.mp hp
    rw [List.foldl_cons]
    rcases List.mem_cons.mp hf with rfl | hf
    · rw [fieldOf_foldl_withField_other v (h64 f List.mem_cons_self) l _ (fun x hx => (hg x hx).symm), fieldOf_withField_same _ _ (h64 f List.mem_cons_self)]
    · exact fieldOf_foldl_withField v l _ (fun x hx => h64 x (List.mem_cons_of_mem _ hx)) hl hf

/-- Nothing has written a register of the reset state. -/
theorem reg_reset (addr : Nat) : State.reset.reg addr = resetWord addr := rfl

theorem get_reset {addr : Nat} {d : RegDesc} {f : FieldDesc} (hd : regAt addr = some d) (hf : f ∈ d.fields) :
    State.reset.get ⟨addr, f.hi, f.lo⟩ = resetField addr f % 2 ^ (f.hi + 1 - f.lo) := by
  obtain ⟨h64, hp⟩ := fieldsApart_of_mem_regTable d (mem_regTable_of_regAt hd)
  rw [State.get, reg_reset, resetWord, hd]
  exact fieldOf_foldl_withField (resetField addr) d.fields 0 h64 hp hf

theorem pstate_reset : State.reset.get RST_STATUS.PSTATE = 2 := by decide +kernel
theorem hubPass_state_reset : State.reset.get HUB_PASS.STATE = 6 := by decide +kernel

/-- Settles O35: nothing is listed, so every register shows its Reset values, each field apart from the others. -/
theorem resetStateIsCanonicalAndHoldsTheResetValues : Obligations.ResetStateIsCanonicalAndHoldsTheResetValues := by
  refine ⟨⟨rfl, List.Pairwise.nil⟩, ⟨rfl, rfl, rfl⟩, reg_reset, fun _ _ _ => get_reset, pstate_reset, by decide +kernel, ?_, hubPass_state_reset, ?_⟩
  · simp only [State.hubRuns, pstate_reset]; rfl
  · simp only [State.betweenPasses, hubPass_state_reset]; rfl

end Sys2Proof.Machine
end

section
/-! Reads and writes of register addresses (R10 to R14, R34, R49, R505): where an access lands, what the register there does, and what an address without a
register or a dark site does. -/

namespace Sys2Proof.Machine

open Sys2Proof

/-! ## Registers that answer and registers that do not -/

theorem atHub_of_hubOpen {s : State} (h : s.hubOpen = true) (who : Requester) (addr : Nat) (k : Host.Outcome State Fault Refusal) :
    s.atHub who addr k = k := by
  obtain ⟨hr, hp⟩ : s.hubRuns = true ∧ s.get RST_STATUS.PSTATE ≠ 6 := by simpa [State.hubOpen] using h
  simp only [State.atHub, hr, hp, Bool.not_true, Bool.false_eq_true, if_false]

theorem readAtHub_of_hubOpen {s : State} (h : s.hubOpen = true) (who : Requester) (addr bytes : Nat) (k : Host.Outcome State Fault Refusal) :
    s.readAtHub who addr bytes k = k := by
  obtain ⟨hr, hp⟩ : s.hubRuns = true ∧ s.get RST_STATUS.PSTATE ≠ 6 := by simpa [State.hubOpen] using h
  simp only [State.readAtHub, hr, hp, Bool.not_true, Bool.false_eq_true, if_false]

theorem hubRuns_of_hubOpen {s : State} (h : s.hubOpen = true) : s.hubRuns = true := by
  simp only [State.hubOpen, Bool.and_eq_true] at h; exact h.1

theorem atSite_of_siteOpen {s : State} {who : Requester} {addr site : Nat} (h : s.siteOpen who addr site = true) (k : Host.Outcome State Fault Refusal) :
    s.atSite who addr site k = k := if_pos h

theorem readAtSite_of_siteOpen {s : State} {who : Requester} {addr site : Nat} (h : s.siteOpen who addr site = true) (bytes : Nat)
    (k : Host.Outcome State Fault Refusal) : s.readAtSite who addr bytes site k = k := by
  rw [State.siteOpen] at h
  rw [State.readAtSite, if_pos h]

/-- A site whose stack is unpowered is dark to everyone. -/
theorem siteDark_of_unpowered {s : State} {site : Nat} (h : s.powered site = false) (who : Requester) (addr : Nat) : s.siteDark who addr site = true := by
  unfold State.siteDark
  extract_lets own off
  rw [h, Bool.not_false, Bool.or_true, Bool.true_or]

/-- A write to a site whose stack is unpowered is ignored, and 0x0B03 is recorded (R13). -/
theorem atSite_of_unpowered {s : State} {site : Nat} (h : s.powered site = false) (hr : s.hubRuns = true) (who : Requester) (addr : Nat)
    (k : Host.Outcome State Fault Refusal) : s.atSite who addr site k = .next (s.hostErr 0x0B03 who true 8 addr) := by
  simp only [State.atSite, siteDark_of_unpowered h, hr, Bool.not_true, Bool.false_eq_true, if_false, if_true]

/-- A read there returns zero, and 0x0B03 is recorded once discovery is done (R13, R49). -/
theorem readAtSite_of_unpowered {s : State} {site : Nat} (h : s.powered site = false) (hr : s.hubRuns = true) (hd : s.flag HUB_DISC_STATUS.DONE = true)
    (who : Requester) (addr bytes : Nat) (k : Host.Outcome State Fault Refusal) :
    s.readAtSite who addr bytes site k = .next ((s.hostErr 0x0B03 who false bytes addr).send (.readData who addr bytes 0 false)) := by
  simp only [State.readAtSite, siteDark_of_unpowered h, hr, hd, Bool.not_true, Bool.false_eq_true, if_false, if_true]

/-! ## Where an access lands -/

theorem slotKey_below {addr : Nat} (h : addr < 0x4010000) : slotKey addr = none := by
  rw [slotKey, if_neg (by omega)]

theorem slotKey_of_slot {addr : Nat} (h1 : 0x4010000 ≤ addr) (h2 : addr < 0x4050000) : slotKey addr = some (addr - 0x4010000) := if_pos ⟨h1, h2⟩

theorem msixArea_above {addr : Nat} (h : 0x2020 ≤ addr) : msixArea addr = false := by
  simp [msixArea]; omega

theorem siteWindow_eq_true {addr : Nat} : siteWindow addr = true ↔ 0x1000000 ≤ addr ∧ addr < 0x4000000 := by simp [siteWindow]

/-- Only a write of ISB_COUNT clears the latch of its upper half. -/
theorem unlatch_of_aligned {s : State} {addr : Nat} (h8 : addr % 8 = 0) (h : addr ≠ ISB_COUNT.REG) : s.unlatch addr = s := by
  rw [State.unlatch, if_neg (by rwa [Nat.div_mul_cancel (Nat.dvd_of_mod_eq_zero h8)])]

section
variable {s : State} {addr : Nat} (hmsix : msixArea addr = false) (hslot : slotKey addr = none) (hr : s.hubRuns = true)
include hmsix hslot hr

/-- An aligned 64-bit write outside the MSI-X area and the submission slots is a write of a register address. -/
theorem exec_registerWrite_reg (who : Requester) (value : Nat) (hend : addr + 8 ≤ barEnd) (h8 : addr % 8 = 0) :
    exec (.registerWrite who addr 8 value) s = writeReg who addr value s := by
  change execRegisterWrite who addr 8 value s = _
  rw [execRegisterWrite, if_neg (by omega), hslot]
  simp only [hr, hmsix, h8, Bool.not_true, Bool.false_eq_true, ne_eq, not_true, or_self, if_false]

/-- A write of another size or alignment there is answered with 0x0B01. -/
theorem exec_registerWrite_size (who : Requester) (bytes value : Nat) (h : addr < barEnd) (hend : addr + bytes ≤ barEnd) (hs : bytes ≠ 8 ∨ addr % 8 ≠ 0) :
    exec (.registerWrite who addr bytes value) s = .next (s.hostErr 0x0B01 who true bytes addr) := by
  change execRegisterWrite who addr bytes value s = _
  rw [execRegisterWrite, if_neg (by omega), hslot]
  simp only [hr, hmsix, hs, Bool.not_true, Bool.false_eq_true, if_false, if_true]

/-- A read of 64 bits, or of an aligned half, outside the MSI-X area and the submission slots is a read of a register address. -/
theorem exec_registerRead_reg (who : Requester) {bytes : Nat} (hend : addr + bytes ≤ barEnd) (hb : bytes = 4 ∨ bytes = 8) (ha : addr % bytes = 0) :
    exec (.registerRead who addr bytes) s = readReg who addr bytes s := by
  change execRegisterRead who addr bytes s = _
  rw [execRegisterRead, if_neg (by omega), hslot]
  simp only [hr, hmsix, hb, ha, Bool.not_true, Bool.false_eq_true, and_self, not_true, Option.isSome_none, or_self, and_false, if_false]

end

/-! ## What the register does -/

theorem writeReg_none {s : State} {addr : Nat} (h : regOf addr = none) (who : Requester) (value : Nat) :
    writeReg who addr value s = .next (s.hostErr 0x0B02 who true 8 addr) := by
  rw [writeReg, h]

theorem readReg_none {s : State} {addr : Nat} (h : regOf (addr / 8 * 8) = none) (who : Requester) (bytes : Nat) :
    readReg who addr bytes s = .next ((s.hostErr 0x0B02 who false bytes addr).send (.readData who addr bytes 0 false)) := by
  rw [readReg, h]

section
variable {s : State} {who : Requester} {addr : Nat} {d : RegDesc}

/-- A write of a register that has no behaviour of its own. -/
theorem writeReg_generic {value : Nat} (hd : regOf addr = some d) (ho : ownWrite who d addr value s = none) (h8 : addr % 8 = 0) (hi : addr ≠ ISB_COUNT.REG) :
    writeReg who addr value s = genericWrite who d addr value s := by
  rw [writeReg, hd]
  simp only [ho, unlatch_of_aligned h8 hi]

section
variable (h1 : d.base ≠ RST_FW_SRC.REG) (h2 : d.base ≠ RST_FW_LEN.REG) (h3 : d.base ≠ OVC_SRC.REG) (h4 : d.base ≠ OVC_LEN.REG)
include h1 h2 h3 h4

theorem genericWrite_hub (value : Nat) (hs : s.hubOpen = true) (hw : siteWindow addr = false) :
    genericWrite who d addr value s = .next (s.plainWrite d addr value) := by
  simp only [genericWrite, h1, h2, h3, h4, hw, or_self, false_and, Bool.false_eq_true, if_false, atHub_of_hubOpen hs, ite_self]

theorem genericWrite_site (value : Nat) (hs : s.siteOpen who addr (siteOfAddr addr) = true) (hw : siteWindow addr = true) :
    genericWrite who d addr value s = .next (s.plainWrite d addr value) := by
  simp only [genericWrite, h1, h2, h3, h4, hw, or_self, false_and, if_false, if_true, atSite_of_siteOpen hs, ite_self]

end

theorem genericWrite_unpowered (value : Nat) (hid : identityReg d = false) (hp : s.powered (siteOfAddr addr) = false) (hr : s.hubRuns = true)
    (hw : siteWindow addr = true) : genericWrite who d addr value s = .next (s.hostErr 0x0B03 who true 8 addr) := by
  simp only [genericWrite, hw, hid, Bool.false_and, Bool.false_eq_true, if_false, if_true, atSite_of_unpowered hp hr]

variable {bytes : Nat} (hd : regOf (addr / 8 * 8) = some d) (ho : ownRead who d addr bytes s = none)
include hd ho

theorem readReg_hub (hs : s.hubOpen = true) (hw : siteWindow addr = false) : readReg who addr bytes s = .next (s.plainRead who d addr bytes) := by
  rw [readReg, hd]
  simp only [ho, hw, Bool.false_eq_true, if_false, readAtHub_of_hubOpen hs, ite_self]

theorem readReg_site (hs : s.siteOpen who addr (siteOfAddr addr) = true) (hw : siteWindow addr = true) :
    readReg who addr bytes s = .next (s.plainRead who d addr bytes) := by
  rw [readReg, hd]
  simp only [ho, hw, if_true, readAtSite_of_siteOpen hs, ite_self]

theorem readReg_identity (hid : identityReg d = true) (hf : s.flag HUB_DISC_STATUS.DONE = true) (hw : siteWindow addr = true) :
    readReg who addr bytes s = .next (s.plainRead who d addr bytes) := by
  rw [readReg, hd]
  simp only [ho, hw, hid, hf, Bool.and_self, if_true]

theorem readReg_unpowered (hid : identityReg d = false) (hp : s.powered (siteOfAddr addr) = false) (hr : s.hubRuns = true)
    (hf : s.flag HUB_DISC_STATUS.DONE = true) (hw : siteWindow addr = true) :
    readReg who addr bytes s = .next ((s.hostErr 0x0B03 who false bytes addr).send (.readData who addr bytes 0 false)) := by
  rw [readReg, hd]
  simp only [ho, hw, hid, Bool.false_and, Bool.false_eq_true, if_false, if_true, readAtSite_of_unpowered hp hr hf]

end

/-- No register stands in the window of a site that carries no stack. -/
theorem regOf_of_not_stackSite {addr : Nat} (hw : siteWindow addr = true) (h : stackSite (siteOfAddr addr) = false) : regOf addr = none := by
  rw [regOf, if_pos (by simp [hw, h])]

/-- The windows from 0x01A9_0000 on, and those of the nine sites that the hub occupies, carry no stack. -/
theorem not_stackSite_of_hub {addr : Nat} (h : 0x1A90000 ≤ addr ∨ siteOfAddr addr ∈ [70, 71, 72, 83, 84, 85, 96, 97, 98]) :
    stackSite (siteOfAddr addr) = false := by
  rcases h with h | h
  · have : ¬ siteOfAddr addr < 169 := by simp only [siteOfAddr]; omega
    simp [stackSite, this]
  · exact (by decide : ∀ x ∈ [70, 71, 72, 83, 84, 85, 96, 97, 98], stackSite x = false) _ h

/-! ## The record of a refused access (R591) -/

/-- Beside HUB_HST_ADDR, which names the access, the record of 0x0B02 changes its counter and LAST_CODE. -/
theorem get_hostErr_unmapped (s : State) (who : Requester) (write : Bool) (bytes addr : Nat) {l : Loc} (h : l.addr ≠ HUB_HST_ADDR.REG) :
    (s.hostErr 0x0B02 who write bytes addr).get l = ((s.addSat HUB_HST_ERR.UNMAPPED 1).put HUB_HST_ERR.LAST_CODE 0x0B02).get l := by
  rw [State.hostErr, get_put_other _ _ h, get_put_other _ _ h, get_put_other _ _ h, get_put_other _ _ h, get_put_other _ _ h]
  rfl

theorem sat_lt (top n : Nat) : sat top n < top + 1 := by
  rw [sat]; split <;> omega

theorem hostErr_unmapped (s : State) (who : Requester) (write : Bool) (bytes addr : Nat) :
    (s.hostErr 0x0B02 who write bytes addr).get HUB_HST_ERR.LAST_CODE = 0x0B02 ∧
      (s.hostErr 0x0B02 who write bytes addr).get HUB_HST_ERR.UNMAPPED = sat 65535 (s.get HUB_HST_ERR.UNMAPPED + 1) := by
  constructor
  · rw [get_hostErr_unmapped _ _ _ _ _ (by decide)]
    exact get_put_same _ _ _ (by decide)
  · rw [get_hostErr_unmapped _ _ _ _ _ (by decide), get_put_disjoint _ _ (by decide) (by decide), State.addSat, State.putSat, get_put_same _ _ _ (by decide)]
    exact Nat.mod_eq_of_lt (sat_lt 65535 _)

/-! ## The obligations -/

/-- Settles O16: the access lands at the register, which has no behaviour of its own and stands where it answers; or in a slot; or has a wrong size. -/
theorem registerAccessesComplete : Obligations.RegisterAccessesComplete := by
  refine ⟨fun s who addr value d hend hmsix hslot h8 hi hd ho hs hw h1 h2 h3 h4 => ?_,
    fun s who addr value d hend hmsix hslot h8 hi hd ho hr hw hs h1 h2 h3 h4 => ?_, fun s who addr bytes value h1 h2 hb hr hd => ?_,
    fun s who addr bytes value ha hend hmsix hslot hr hs => exec_registerWrite_size hmsix hslot hr who bytes value ha hend hs,
    fun s who addr bytes d hend hmsix hslot hb ha hd ho hs hw => ?_, fun s who addr bytes d hend hmsix hslot hb ha hd ho hr hw hs => ?_,
    fun s who addr bytes ha hend hr hs => ?_⟩
  · rw [exec_registerWrite_reg hmsix hslot (hubRuns_of_hubOpen hs) who value hend h8, writeReg_generic hd ho h8 hi, genericWrite_hub h1 h2 h3 h4 value hs hw]
  · rw [exec_registerWrite_reg hmsix hslot hr who value hend h8, writeReg_generic hd ho h8 hi, genericWrite_site h1 h2 h3 h4 value hs hw]
  · change execRegisterWrite who addr bytes value s = _
    have hk : (addr - 0x4010000) % 64 + bytes ≤ 64 := by omega
    rw [execRegisterWrite, if_neg (by simp only [barEnd]; omega), slotKey_of_slot h1 h2]
    simp only [hr, hd, msixArea_above (show 0x2020 ≤ addr by omega), hk, Bool.not_true, Bool.false_eq_true, if_false, if_true]
  · rw [exec_registerRead_reg hmsix hslot (hubRuns_of_hubOpen hs) who hend hb ha, readReg_hub hd ho hs hw]
  · rw [exec_registerRead_reg hmsix hslot hr who hend hb ha, readReg_site hd ho hs hw]
  · change execRegisterRead who addr bytes s = _
    rw [execRegisterRead, if_neg (by omega), if_neg (by simp [hr]), if_pos (by omega)]
    rfl

/-- Settles O37: such an address reaches the register decoder, which finds none there. -/
theorem anAddressWithoutARegisterReadsZero : Obligations.AnAddressWithoutARegisterReadsZero := by
  refine ⟨fun s who addr value ha h8 hmsix hr hn => ?_, fun s who addr bytes ha hb hal hmsix hr hn => ?_, fun addr h1 h2 h => ?_, hostErr_unmapped⟩
  · rw [exec_registerWrite_reg hmsix (slotKey_below (by omega)) hr who value (by simp only [barEnd]; omega) h8, writeReg_none hn]
  · rw [exec_registerRead_reg hmsix (slotKey_below (by omega)) hr who (by simp only [barEnd]; omega) hb hal, readReg_none hn]
  · exact regOf_of_not_stackSite (siteWindow_eq_true.mpr ⟨h1, h2⟩) (not_stackSite_of_hub h)

/-- Settles O38: the site of an unpowered stack is dark, and only its identity registers are served without it. -/
theorem darkSitesIgnoreWrites : Obligations.DarkSitesIgnoreWrites := by
  refine ⟨fun s who addr value d hw h8 hr hd hid hp ho => ?_, fun s who addr bytes d hw hb ha hr hd hid hp hf ho => ?_,
    fun s who addr bytes d hw hb ha hr hd hid hf ho => ?_, fun s who site i value hr hp => ?_⟩
  · obtain ⟨h1, h2⟩ := siteWindow_eq_true.mp hw
    rw [exec_registerWrite_reg (msixArea_above (by omega)) (slotKey_below (by omega)) hr who value (by simp only [barEnd]; omega) h8,
      writeReg_generic hd ho h8 (by simp only [ISB_COUNT.REG]; omega), genericWrite_unpowered value hid hp hr hw]
  · obtain ⟨h1, h2⟩ := siteWindow_eq_true.mp hw
    rw [exec_registerRead_reg (msixArea_above (by omega)) (slotKey_below (by omega)) hr who (by simp only [barEnd]; omega) hb ha,
      readReg_unpowered hd ho hid hp hr hf hw]
  · obtain ⟨h1, h2⟩ := siteWindow_eq_true.mp hw
    rw [exec_registerRead_reg (msixArea_above (by omega)) (slotKey_below (by omega)) hr who (by simp only [barEnd]; omega) hb ha,
      readReg_identity hd ho hid hf hw]
  · exact ⟨atSite_of_unpowered hp hr _ _ _, atSite_of_unpowered hp hr _ _ _, atSite_of_unpowered hp hr _ _ _, atSite_of_unpowered hp hr _ _ _,
      atSite_of_unpowered hp hr _ _ _, atSite_of_unpowered hp hr _ _ _, atSite_of_unpowered hp hr _ _ _⟩

end Sys2Proof.Machine
end

section
/-! Runs that nothing stops (R61, R549): a command answers with a next state in every state, unless it names an address outside BAR0 and BAR2, or outside
BAR4. Every branch of a command's meaning ends in a next state, and so does every gate of Machine/Ops.lean (atSite, atHub and their kin), which
answers where the register does not. An access of a register address goes through the tables of the registers that act (Machine/Access.lean), each of
which does what a command does or answers with a state. -/

namespace Sys2Proof.Machine

open Sys2Proof

/-- The outcome is a next state. -/
def Proceeds (o : Host.Outcome State Fault Refusal) : Prop := ∃ t, o = .next t

/-- Every outcome that there is is a next state: none need be, where a register has no behaviour of its own. -/
def ProceedsIfAny (x : Option (Host.Outcome State Fault Refusal)) : Prop := ∀ o, x = some o → Proceeds o

/-- The commands that name an address of a BAR. -/
def namesBarAddress : Instr → Bool
  | .registerWrite .. => true
  | .registerRead .. => true
  | .bar4Access .. => true
  | _ => false

namespace Proceeds

variable {s : State} {a b k : Host.Outcome State Fault Refusal} {who : Requester} {addr bytes site : Nat}

theorem next (t : State) : Proceeds (.next t) := ⟨t, rfl⟩

theorem ite {c : Prop} [Decidable c] (ha : Proceeds a) (hb : Proceeds b) : Proceeds (if c then a else b) := by
  split <;> assumption

theorem atSite (h : Proceeds k) : Proceeds (s.atSite who addr site k) := ite h (next _)

theorem readAtSite (h : Proceeds k) : Proceeds (s.readAtSite who addr bytes site k) := ite h (next _)

theorem atHub (h : Proceeds k) : Proceeds (s.atHub who addr k) := ite (next _) (ite (next _) h)

theorem readAtHub (h : Proceeds k) : Proceeds (s.readAtHub who addr bytes k) := ite (next _) (ite (next _) h)

theorem atDawn (h : Proceeds k) : Proceeds (s.atDawn k) := ite h (next _)

end Proceeds

/-- Every command that names no address of a BAR proceeds, in every state. -/
theorem command_proceeds {c : Instr} (hc : namesBarAddress c = false) (s : State) : Proceeds (exec c s) := by
  cases c
  case registerWrite | registerRead | bar4Access => exact absurd hc Bool.noConfusion
  -- These meanings match on a value of the state or of the command: follow gates, conditions and matches down to the state; one bound by let is any state.
  case discoveryProbe | arrayEntry | bankLoadDone | drainRowRead | accRowZero | outputRecordHandoff | vecInvalidOpcode | hubMessageEnqueue | mbxSend |
      completionWrite | descriptorListAdmit | descriptorSourceStart | descriptorSinkStart | descriptorSinkComplete | engineRun | hbmTrain |
      gatherBlockRead | routerHeadFlit | read | write | msg | rdata | wack | contrib | mshRspTimeout | linkLossDetect | routeTableWrite | tileCompare
      | voteDecide | voteTimeout | openMsg | closeMsg | ackMsg | putMsg | getReq | getResp | sendMsg | conduitRnrDelay | conduitCfgWrite |
      moduleInterrupt | moduleAuthAnswer | powerupApproval | clockEdgeLoss | opSlewStart | opSettleCheck | ptpDelayResp | imageReadDone |
      imageCheckDone | armDecide | resetRequest | transitionTimeout | spareInitDone | spareCopyDone | spareIn | spareReady | spareReadyTimeout |
      hostLimitExpiry | msixUnmask | cperAck | cperResend | smbReadDone | guestTimeout | ccoLocalAccess | ptpFollowUp | ptpDelayReqTimer |
      neighborDiscovery =>
    dsimp -zeta only [exec, execDiscoveryProbe, execArrayEntry, execBankLoadDone, execDrainRowRead, execAccRowZero, execOutputRecordHandoff,
      execVecInvalidOpcode, execHubMessageEnqueue, execMbxSend, execCompletionWrite, execDescriptorListAdmit, execDescriptorSourceStart,
      execDescriptorSinkStart, execDescriptorSinkComplete, execEngineRun, execHbmTrain, execGatherBlockRead, execRouterHeadFlit, execRead, execWrite,
      execMsg, execRdata, execWack, execContrib, execMshRspTimeout, execLinkLossDetect, execRouteTableWrite, execTileCompare, execVoteDecide,
      execVoteTimeout, execOpenMsg, execCloseMsg, execAckMsg, execPutMsg, execGetReq, execGetResp, execSendMsg, execConduitRnrDelay,
      execConduitCfgWrite, execModuleInterrupt, execModuleAuthAnswer, execPowerupApproval, execClockEdgeLoss, execOpSlewStart, execOpSettleCheck,
      execPtpDelayResp, execImageReadDone, execImageCheckDone, execArmDecide, execResetRequest, execTransitionTimeout, execSpareInitDone,
      execSpareCopyDone, execSpareIn, execSpareReady, execSpareReadyTimeout, execHostLimitExpiry, execMsixUnmask, execCperAck, execCperResend,
      execSmbReadDone, execGuestTimeout, execCcoLocalAccess, execPtpFollowUp, execPtpDelayReqTimer, execNeighborDiscovery]
    with_reducible repeat' first
      | exact Proceeds.next _ | apply Proceeds.ite | apply Proceeds.atHub | apply Proceeds.atSite | apply Proceeds.atDawn |
        (extract_lets +onlyGivenNames x; clear_value x) | split
  -- All others branch by conditions alone.
  all_goals
    repeat' apply Proceeds.ite
    all_goals exact Proceeds.next _

/-! ## The registers with a behaviour of their own -/

namespace ProceedsIfAny

variable {s : State} {x y : Option (Host.Outcome State Fault Refusal)} {who : Requester}

theorem none : ProceedsIfAny Option.none := fun _ h => nomatch h

theorem some {o : Host.Outcome State Fault Refusal} (h : Proceeds o) : ProceedsIfAny (Option.some o) := fun _ e => Option.some.inj e ▸ h

theorem ite {c : Prop} [Decidable c] (hx : ProceedsIfAny x) (hy : ProceedsIfAny y) : ProceedsIfAny (if c then x else y) := by
  split <;> assumption

theorem or (hx : ProceedsIfAny x) (hy : ProceedsIfAny y) : ProceedsIfAny (x.or y) := by
  cases x with
  | none => exact hy
  | some o => exact hx

/-- The register does what a command does. -/
theorem command {c : Instr} (hc : namesBarAddress c = false) : ProceedsIfAny (Option.some (exec c s)) := some (command_proceeds hc s)

/-- The register of a site, or of the hub, answers with one state behind its gate. -/
theorem site {addr n : Nat} (t : State) : ProceedsIfAny (Option.some (s.atSite who addr n (.next t))) := some (.atSite (.next t))

theorem hub {addr : Nat} (t : State) : ProceedsIfAny (Option.some (s.atHub who addr (.next t))) := some (.atHub (.next t))

end ProceedsIfAny

section
variable (who : Requester) (b i j value : Nat) (s : State)

theorem siteWrite_proceeds (site : Nat) : ProceedsIfAny (siteWrite who b site i j value s) :=
  .ite (.command (c := .rerunGo who site i value) rfl) <| .ite (.command (c := .rowGo who site value) rfl) <|
  .ite (.command (c := .mxaRowmapWrite who site value) rfl) <| .ite (.command (c := .mxaThrottleWrite who site value) rfl) <|
  .ite (.command (c := .ucodeWrite who site i value) rfl) <| .ite (.command (c := .vcoGo who site i value) rfl) <|
  .ite (.command (c := .vcoModeWrite who site value) rfl) <| .ite (.command (c := .ccoFwWrite who site i value) rfl) <|
  .ite (.site _) <| .ite (.command (c := .ccoWdogKick who site i) rfl) <| .ite (.command (c := .ccoFatalWrite who site i value) rfl) <|
  .ite (.command (c := .ccoMbxInPush who site i value) rfl) <| .ite (.command (c := .ccoMbxOutPop who site i value) rfl) <|
  .ite (.command (c := .descriptorListAdmit who site value) rfl) <| .ite (.command (c := .bhtWrite who site i j value) rfl) <|
  .ite (.command (c := .gltRepairRetry who site) rfl) <| .ite (.site _) <| .ite (.command (c := .routeTableWrite who site i value false) rfl) <|
  .ite (.command (c := .routeTableWrite who site i value true) rfl) <| .ite (.command (c := .treeEntryWrite who site i value) rfl) <|
  .ite (.command (c := .redDrainWrite who site value) rfl) .none

theorem hubWrite_proceeds : ProceedsIfAny (hubWrite who b i j value s) :=
  .ite (.command (c := .sqEnable who i value) rfl) <| .ite (.command (c := .sqDoorbell who i value) rfl) <|
  .ite (.command (c := .sqCqConfig who i true value) rfl) <| .ite (.command (c := .cqHeadWrite who i value) rfl) <|
  .ite (.command (c := .dpdGoldWrite who (2 * i + j) value) rfl) <| .ite (.command (c := .hubRwtWrite who i value) rfl) <|
  .ite (.command (c := .hubRwtSync who value) rfl) <| .ite (.command (c := .mshVerify who value) rfl) <|
  .ite (.command (c := .routeTableWrite who 84 i value false) rfl) <| .ite (.command (c := .barRdSeqWrite who value) rfl) <|
  .ite (.command (c := .pwrSnap who value) rfl) <| .ite (.command (c := .thmEmergClear who value) rfl) <|
  .ite (.command (c := .clearSuspect who value) rfl) <| .ite (.command (c := .opChangeRequest who value) rfl) <|
  .ite (.command (c := .ptpEnable who value) rfl) .none

/-- LEN_CTRL quiesces, then resumes: the resume meets the state that the quiesce leaves. -/
theorem lenCtrlWrite_proceeds (k : Nat) : Proceeds (lenCtrlWrite who k value s) := by
  refine .atHub ?_
  extract_lets t
  obtain ⟨u, hu⟩ : Proceeds (if bit value 1 then execLenQuiesce who k t else .next t) :=
    .ite (command_proceeds (c := .lenQuiesce who k) rfl t) (.next t)
  rw [hu]
  exact .ite (command_proceeds (c := .lenResume who k) rfl u) (.next u)

theorem galeWrite_proceeds : ProceedsIfAny (galeWrite who b i j value s) :=
  .ite (.command (c := .linkEnable who i value) rfl) <| .ite (.command (c := .galPanelWrite who value) rfl) <|
  .ite (.command (c := .conduitCfgWrite who (8 * i + j) 0 value) rfl) <| .ite (.command (c := .conduitCfgWrite who (8 * i + j) 1 value) rfl) <|
  .ite (.command (c := .conduitCfgWrite who (8 * i + j) 2 value) rfl) <| .ite (.command (c := .conduitCfgWrite who (8 * i + j) 3 value) rfl) <|
  .ite (.command (c := .rxHeadWrite who (8 * i + j) value) rfl) <| .ite (.command (c := .conduitSendGo who (8 * i + j) value) rfl) <|
  .ite (.command (c := .collSlotWrite who i j 0 value) rfl) <| .ite (.command (c := .collSlotWrite who i j 1 value) rfl) <|
  .ite (.command (c := .collSlotWrite who i j 2 value) rfl) <| .ite (.some (lenCtrlWrite_proceeds who value s i)) .none

theorem panelWrite_proceeds : ProceedsIfAny (panelWrite who b i value s) :=
  .ite (.hub _) <| .ite (.command (c := .resetRequest who value) rfl) <| .ite (.command (c := .powerStateRequest who value) rfl) <|
  .ite (.command (c := .rstPark who value) rfl) <| .ite (.hub _) <| .ite (.command (c := .doldrumsExit who value) rfl) <| .ite (.hub _) <|
  .ite (.command (c := .b4apWrite who i value) rfl) <| .ite (.hub _) <| .ite (.hub _) <| .ite (.command (c := .mgmtKeyWrite who i value) rfl) <|
  .ite (.hub _) <| .ite (.hub _) .none

variable (d : RegDesc) (addr bytes : Nat)

theorem ownWrite_proceeds : ProceedsIfAny (ownWrite who d addr value s) :=
  .ite (siteWrite_proceeds _ _ _ _ _ _ _) (.or (hubWrite_proceeds _ _ _ _ _ _) (.or (galeWrite_proceeds _ _ _ _ _ _) (panelWrite_proceeds _ _ _ _ _)))

theorem ownRead_proceeds : ProceedsIfAny (ownRead who d addr bytes s) :=
  .ite (.command (c := .discLogRead who bytes (addr % 8 / 4)) rfl) <|
  .ite (.command (c := .gltErrLogRead who (siteOfAddr addr) bytes (addr % 8 / 4)) rfl) <|
  .ite (.command (c := .mshEventRead who bytes (addr % 8 / 4)) rfl) <| .ite (.command (c := .sdgVoteLogRead who bytes (addr % 8 / 4)) rfl) <|
  .ite (.command (c := .pwrEventRead who bytes (addr % 8 / 4)) rfl) <| .ite (.command (c := .pwrInputMaxRead who bytes (addr % 8 / 4)) rfl) <|
  .ite (.command (c := .thmEventRead who bytes (addr % 8 / 4)) rfl) <| .ite (.command (c := .clkEventRead who bytes (addr % 8 / 4)) rfl) <|
  .ite (.command (c := .isbCountRead who bytes (addr % 8 / 4)) rfl) <| .ite (.command (c := .spareLogRead who bytes (addr % 8 / 4)) rfl) .none

theorem genericWrite_proceeds : Proceeds (genericWrite who d addr value s) :=
  .ite (.ite (.next _) (.atSite (.next _))) (.ite (.next _) (.atHub (.next _)))

/-- A write of a register address proceeds: there is no register, or one that acts, or one that only stores. -/
theorem writeReg_proceeds : Proceeds (writeReg who addr value s) := by
  unfold writeReg
  split
  · exact .next _
  next d _ =>
    split
    next o ho => exact ownWrite_proceeds _ _ _ _ _ o ho
    · exact genericWrite_proceeds ..

theorem readReg_proceeds : Proceeds (readReg who addr bytes s) := by
  unfold readReg
  split
  · exact .next _
  next d _ =>
    split
    next o ho => exact ownRead_proceeds _ _ _ _ _ o ho
    · exact .ite (.ite (.next _) (.readAtSite (.next _))) (.ite (.next _) (.readAtHub (.next _)))

end

/-! ## Commands that name an address of a BAR -/

/-- A command that leaves the address space is one of the three accesses, and its own test of the address refuses it. -/
theorem exec_outsideBar {c : Instr} (h : InSpace c = false) (s : State) : exec c s = .fault .outsideBar := by
  cases c with
  | registerWrite who addr bytes value => exact if_pos (by simpa [InSpace, or_iff_not_imp_left] using h)
  | registerRead who addr bytes => exact if_pos (by simpa [InSpace, or_iff_not_imp_left] using h)
  | bar4Access write offset n data poison => exact if_pos (by simpa [InSpace, or_iff_not_imp_left] using h)
  | _ => exact absurd h Bool.noConfusion

section
variable (who : Requester) {addr bytes : Nat} (h : ¬ (barEnd < addr + bytes ∨ barEnd ≤ addr)) (value : Nat) (s : State)
include h

theorem execRegisterWrite_proceeds : Proceeds (execRegisterWrite who addr bytes value s) := by
  rw [execRegisterWrite, if_neg h]
  refine .ite (.next _) (.ite (.ite (.next _) (.ite (.next _) (.next _))) ?_)
  split
  · exact .ite (.next _) (.ite (.next _) (.next _))
  · exact .ite (.next _) (writeReg_proceeds ..)

theorem execRegisterRead_proceeds : Proceeds (execRegisterRead who addr bytes s) := by
  rw [execRegisterRead, if_neg h]
  refine .ite (.next _) (.ite (.next _) (.ite (.next _) (.ite (.next _) ?_)))
  split
  · exact .next _
  · exact readReg_proceeds ..

end

theorem execBar4Access_proceeds {offset n : Nat} (h : ¬ (2 ^ 36 < offset + n ∨ 2 ^ 36 ≤ offset)) (write : Bool) (data : List Nat) (poison : Bool)
    (s : State) : Proceeds (execBar4Access write offset n data poison s) := by
  rw [execBar4Access, if_neg h]
  exact .ite (.next _) (.ite (.next _) (.ite (.next _) (.ite (.next _) (.next _))))

/-- Every command inside the address space proceeds, in every state. -/
theorem exec_proceeds {c : Instr} (h : InSpace c = true) (s : State) : Proceeds (exec c s) := by
  match hc : namesBarAddress c with
  | false => exact command_proceeds hc s
  | true =>
    cases c with
    | registerWrite who addr bytes value => exact execRegisterWrite_proceeds who (by simpa [InSpace] using h) value s
    | registerRead who addr bytes => exact execRegisterRead_proceeds who (by simpa [InSpace] using h) s
    | bar4Access write offset n data poison => exact execBar4Access_proceeds (by simpa [InSpace] using h) write data poison s
    | _ => exact absurd hc Bool.noConfusion

/-! ## Steps and runs -/

/-- The queue is a given one: no operation of the machine changes it. -/
theorem closedAll_pending (l : List Instr) : ClosedAll (fun s => s.pending = l) where
  upd h := h
  setReg _ _ h := h
  isobar h := h
  memory h _ := h
  regs h := h

/-- A step from a queue of commands inside the address space proceeds, and leaves such a queue. -/
theorem step_proceeds {s : State} (h : ∀ c ∈ s.pending, InSpace c = true) : ∃ t, step s = .next t ∧ ∀ c ∈ t.pending, InSpace c = true := by
  match hp : s.pending with
  | [] =>
    have hq : s.rest.pending = [] := rest_kept (closedAll_pending []) hp
    exact ⟨s.rest, by rw [step, hp], by simp [hq]⟩
  | c :: l =>
    rw [hp] at h
    obtain ⟨t, ht⟩ := exec_proceeds (h c List.mem_cons_self) { s with pending := l }
    have hs : step s = .next t := by rw [step, hp]; exact ht
    have hq : t.pending = l := step_kept (closedAll_pending l) c l hp rfl t hs
    exact ⟨t, hs, fun x hx => h x (List.mem_cons_of_mem c (hq ▸ hx))⟩

theorem safeRun_of_inSpace : ∀ (n : Nat) {s : State}, (∀ c ∈ s.pending, InSpace c = true) → SafeRun n s
  | 0, s, _ => ⟨s, rfl⟩
  | n + 1, s, h => by
    obtain ⟨t, hs, ht⟩ := step_proceeds h
    obtain ⟨u, hu⟩ := safeRun_of_inSpace n ht
    exact ⟨u, by rw [runSteps, hs]; exact hu⟩

/-- Settles O51: by induction on the number of steps, each of which proceeds and leaves a queue inside the address space (step_proceeds); a command outside
it in front faults at once. -/
theorem queuedRunsNeverStop : Obligations.QueuedRunsNeverStop := by
  refine ⟨fun n s h => safeRun_of_inSpace n h, fun c s l hp hc n => ?_⟩
  rintro ⟨t, ht⟩
  have hs : step s = .fault .outsideBar := by rw [step, hp]; exact exec_outsideBar hc _
  rw [runSteps, hs] at ht
  cases ht

/-- Settles O36: exec_outsideBar, for any command and for the accesses at the end of BAR2. -/
theorem accessesOutsideTheBarsFault : Obligations.AccessesOutsideTheBarsFault :=
  ⟨fun _ s h => exec_outsideBar h s, fun _ _ _ s _ => ⟨exec_outsideBar (by simp [InSpace]) s, exec_outsideBar (by simp [InSpace]) s⟩, by decide⟩

end Sys2Proof.Machine
end

section
/-! The queue registers (R51, R225, R287, R319): what a queue holds after an entry is added and after a read, and what a read shows. -/

namespace Sys2Proof.Machine

open Sys2Proof

section
variable (s : State) (addr : Nat) (w : Word)

theorem log_putKey (q : LogQueue) : ({ s with logs := putKey s.logs addr q } : State).log addr = q := by
  simp [State.log, lookD]

theorem pushLog_entries_of_room (h : (s.log addr).entries.length < logDepth addr) :
    ((s.pushLog addr w).log addr).entries = (s.log addr).entries ++ [w] := by
  rw [State.pushLog, log_putKey, if_pos h]

theorem pushLog_entries_of_full (h : ¬ (s.log addr).entries.length < logDepth addr) :
    ((s.pushLog addr w).log addr).entries = (s.log addr).entries := by
  rw [State.pushLog, log_putKey, if_neg h]

theorem pushLog_length_le (h : (s.log addr).entries.length ≤ logDepth addr) :
    ((s.pushLog addr w).log addr).entries.length ≤ logDepth addr := by
  by_cases hr : (s.log addr).entries.length < logDepth addr
  · rw [pushLog_entries_of_room s addr w hr, List.length_append]
    exact hr
  · rw [pushLog_entries_of_full s addr w hr]
    exact h

end

/-- Entries for which there is room stand behind those that were there, in the order in which they went in. -/
theorem foldl_pushLog_entries (addr : Nat) : ∀ (ws : List Word) (s : State), (s.log addr).entries.length + ws.length ≤ logDepth addr →
    ((ws.foldl (fun s w => s.pushLog addr w) s).log addr).entries = (s.log addr).entries ++ ws
  | [], s, _ => (List.append_nil _).symm
  | w :: ws, s, h => by
    rw [List.length_cons] at h
    have hp := pushLog_entries_of_room s addr w (by omega)
    have hl : ((s.pushLog addr w).log addr).entries.length + ws.length ≤ logDepth addr := by
      rw [hp, List.length_append, List.length_singleton]; omega
    rw [List.foldl_cons, foldl_pushLog_entries addr ws _ hl, hp, List.append_assoc, List.singleton_append]

/-! ## What a read shows -/

section
variable {q : LogQueue}

theorem logWord_valid_of_empty (h : q.entries = []) : (logWord q).getLsbD 63 = false := by
  rw [logWord, h, getLsbD_withField]
  rfl

variable {w : Word} {l : List Word} (h : q.entries = w :: l)
include h

theorem logWord_valid : (logWord q).getLsbD 63 = true := by
  rw [logWord, h, getLsbD_withField]
  rfl

/-- VALID and OVF stand above the entry's own bits. -/
theorem logWord_entry : fieldOf (logWord q) 61 0 = fieldOf w 61 0 := by
  rw [logWord, h, fieldOf_withField_other _ _ (by decide) (by decide), fieldOf_withField_other _ _ (by decide) (by decide)]

end

/-- Settles O55: a push appends where there is room and changes no entry where there is none; a 64-bit read shows the head and keeps the tail. -/
theorem queueRegistersKeepTheirOrder : Obligations.QueueRegistersKeepTheirOrder := by
  refine ⟨fun s addr ws he hl => ?_, fun s addr w l he => ⟨?_, logWord_valid he, logWord_entry he⟩, fun s addr he => logWord_valid_of_empty he,
    fun s addr half => rfl, fun s addr w h => pushLog_length_le s addr w h⟩
  · rw [foldl_pushLog_entries addr ws s (by simpa [he] using hl), he, List.nil_append]
  · have hr : (s.readLog addr 8 0).2 = { s with logs := putKey s.logs addr { entries := (s.log addr).entries.drop 1, ovf := false } } := rfl
    rw [hr, log_putKey, he, List.drop_one, List.tail_cons]

end Sys2Proof.Machine
end

section
/-! Which byte an address names: the fields of a panel physical address, the interleaving of HBM over the stacks (R56), and the transposed views of a
buffer (R213). -/

namespace Sys2Proof.Machine

open Sys2Proof

/-! ## The fields of an address -/

theorem ppaOffset_mkPpa {space site offset : Nat} (ho : offset < 2 ^ 44) : ppaOffset (mkPpa space site offset) = offset := by
  simp only [ppaOffset, mkPpa, bits, Nat.shiftRight_eq_div_pow]; omega

theorem ppaSite_mkPpa {space site offset : Nat} (hn : site < 2 ^ 8) (ho : offset < 2 ^ 44) : ppaSite (mkPpa space site offset) = site := by
  simp only [ppaSite, mkPpa, bits, Nat.shiftRight_eq_div_pow]; omega

theorem ppaSpace_mkPpa {space site offset : Nat} (hs : space < 2 ^ 4) (hn : site < 2 ^ 8) (ho : offset < 2 ^ 44) :
    ppaSpace (mkPpa space site offset) = space := by
  simp only [ppaSpace, mkPpa, bits, Nat.shiftRight_eq_div_pow]; omega

theorem ppaOffset_lt (p : Nat) : ppaOffset p < 2 ^ 44 := Nat.mod_lt _ (by decide)

/-- An address is the one of its three fields. -/
theorem mkPpa_fields {p : Nat} (h : p < 2 ^ 56) : mkPpa (ppaSpace p) (ppaSite p) (ppaOffset p) = p := by
  simp only [mkPpa, ppaSpace, ppaSite, ppaOffset, bits, Nat.shiftRight_eq_div_pow]; omega

/-- In one space, an address fixes its site and its offset. -/
theorem mkPpa_inj {space m n o u : Nat} (ho : o < 2 ^ 44) (hu : u < 2 ^ 44) (h : mkPpa space m o = mkPpa space n u) : m = n ∧ o = u := by
  simp only [mkPpa] at h; omega

/-! ## Where a byte of HBM stands (R56) -/

section
variable {p : Nat} (h1 : ppaSpace p = 1)
include h1

theorem physKey_stack (hs : ppaSite p < 32) : physKey p = if ppaOffset p < hbmSize then some p else none := by
  rw [physKey, h1]
  exact if_pos hs

theorem physKey_interleaved (hs : ppaSite p = 255) : physKey p = if ppaOffset p < 32 * hbmSize then
    some (mkPpa 1 (interleave (ppaOffset p)).1 (interleave (ppaOffset p)).2) else none := by
  rw [physKey, h1]
  simp only [hs, if_true, Nat.reduceLT, if_false]

theorem physKey_no_stack (hs : 32 ≤ ppaSite p) (hn : ppaSite p ≠ 255) : physKey p = none := by
  rw [physKey, h1]
  simp only [Nat.not_lt.mpr hs, hn, if_false]

end

/-- The offset in the stack, as the spec writes it in bits. -/
theorem interleave_eq_bits {o : Nat} (h : o < 2 ^ 44) : interleave o = (bits o 16 12, (bits o 43 17 <<< 12) ||| bits o 11 0) := by
  have hlow : bits o 11 0 < 2 ^ 12 := Nat.mod_lt _ (by decide)
  rw [← Nat.shiftLeft_add_eq_or_of_lt hlow]
  simp only [interleave, bits, Nat.shiftRight_eq_div_pow, Nat.shiftLeft_eq, Prod.mk.injEq, true_and]
  omega

theorem interleave_offset_lt {o : Nat} (h : o < 2 ^ 44) : (interleave o).2 < 2 ^ 44 := by
  simp only [interleave]; omega

/-- Stack and offset there give the interleaved offset back. -/
theorem interleave_inj {o u : Nat} (h : interleave o = interleave u) : o = u := by
  simp only [interleave, bits, Nat.shiftRight_eq_div_pow, Prod.mk.injEq] at h
  omega

theorem interleave_of_stack {stack o : Nat} (hs : stack < 32) : interleave (o / 4096 * 2 ^ 17 + stack * 4096 + o % 4096) = (stack, o) := by
  simp only [interleave, bits, Nat.shiftRight_eq_div_pow, Prod.mk.injEq]
  omega

theorem physKey_interleaved_inj {p q k : Nat} (hp : p < 2 ^ 56) (hq : q < 2 ^ 56) (hp1 : ppaSpace p = 1) (hq1 : ppaSpace q = 1)
    (hps : ppaSite p = 255) (hqs : ppaSite q = 255) (hpk : physKey p = some k) (hqk : physKey q = some k) : p = q := by
  rw [physKey_interleaved hp1 hps, Option.ite_none_right_eq_some] at hpk
  rw [physKey_interleaved hq1 hqs, Option.ite_none_right_eq_some] at hqk
  have hkey := Option.some.inj (hpk.2.trans hqk.2.symm)
  obtain ⟨hstack, hplace⟩ := mkPpa_inj (interleave_offset_lt (ppaOffset_lt p)) (interleave_offset_lt (ppaOffset_lt q)) hkey
  have hoff : ppaOffset p = ppaOffset q := interleave_inj (Prod.ext hstack hplace)
  rw [← mkPpa_fields hp, ← mkPpa_fields hq, hp1, hq1, hps, hqs, hoff]

theorem physKey_of_stack_byte {stack o : Nat} (hs : stack < 32) (ho : o < hbmSize) :
    physKey (mkPpa 1 255 (o / 4096 * 2 ^ 17 + stack * 4096 + o % 4096)) = some (mkPpa 1 stack o) := by
  have hlt : o / 4096 * 2 ^ 17 + stack * 4096 + o % 4096 < 32 * hbmSize := by simp only [hbmSize] at *; omega
  have h44 : o / 4096 * 2 ^ 17 + stack * 4096 + o % 4096 < 2 ^ 44 := by simp only [hbmSize] at *; omega
  rw [physKey_interleaved (ppaSpace_mkPpa (by decide) (by decide) h44) (ppaSite_mkPpa (by decide) h44), ppaOffset_mkPpa h44, if_pos hlt,
    interleave_of_stack hs]

/-- Settles O45: physKey answers by the site, and the interleaved offset is the one that the spec writes in bits. -/
theorem hbmAddressesNameTheirBytes : Obligations.HbmAddressesNameTheirBytes := by
  refine ⟨fun p h1 hs => physKey_stack h1 hs, fun p h1 hs => ?_, fun p h1 hs hn => physKey_no_stack h1 hs hn⟩
  rw [physKey_interleaved h1 hs, interleave_eq_bits (ppaOffset_lt p)]
  rfl

/-! ## Transposed views (R213) -/

/-- Where byte u of a tile of 64 by 64 elements of w bytes stands in the tile. -/
def tilePlace (w u : Nat) : Nat := ((u % (64 * w) / w) * 64 + u / (64 * w)) * w + u % w

theorem tilePlace_lt {w u : Nat} (hw : w = 1 ∨ w = 2) (hu : u < 4096 * w) : tilePlace w u < 4096 * w := by
  rcases hw with rfl | rfl <;> simp only [tilePlace, Nat.div_one, Nat.mul_one] <;> omega

theorem tilePlace_inj {w u v : Nat} (hw : w = 1 ∨ w = 2) (hu : u < 4096 * w) (hv : v < 4096 * w) (h : tilePlace w u = tilePlace w v) : u = v := by
  rcases hw with rfl | rfl <;> simp only [tilePlace, Nat.div_one, Nat.mul_one] at h <;> omega

section
variable {h : Handle} (hv : h.view = 1 ∨ h.view = 2)
include hv

theorem viewWidth_transposed : viewWidth h.view = 1 ∨ viewWidth h.view = 2 := by
  rcases hv with hv | hv <;> simp [viewWidth, hv]

theorem tileSize_pos : 0 < tileSize h.view := by
  rcases hv with hv | hv <;> simp [tileSize, viewWidth, hv]

/-- A logical byte stands in the tile of its number, at its place there. -/
theorem byte_transposed (o : Nat) : h.byte o = h.base + o / tileSize h.view * tileSize h.view + tilePlace (viewWidth h.view) (o % tileSize h.view) := by
  have h0 : h.view ≠ 0 := by omega
  simp only [Handle.byte, h0, if_false, tilePlace, Nat.add_assoc]

theorem tilePlace_mod_lt (o : Nat) : tilePlace (viewWidth h.view) (o % tileSize h.view) < tileSize h.view :=
  tilePlace_lt (viewWidth_transposed hv) (Nat.mod_lt _ (tileSize_pos hv))

theorem byte_in_tile (o : Nat) : h.base + o / tileSize h.view * tileSize h.view ≤ h.byte o ∧
    h.byte o < h.base + (o / tileSize h.view + 1) * tileSize h.view := by
  have hlt := tilePlace_mod_lt hv o
  rw [byte_transposed hv, Nat.add_one_mul]
  omega

theorem byte_inj {o u : Nat} (e : h.byte o = h.byte u) : o = u := by
  have ho := tilePlace_mod_lt hv o
  have hu := tilePlace_mod_lt hv u
  have hz := tileSize_pos hv
  rw [byte_transposed hv, byte_transposed hv, Nat.add_assoc, Nat.add_assoc] at e
  have e' := Nat.add_left_cancel e
  have htile : o / tileSize h.view = u / tileSize h.view := by
    have := congrArg (· / tileSize h.view) e'
    simpa [Nat.mul_add_div, Nat.div_eq_of_lt, ho, hu, hz, Nat.mul_comm] using this
  rw [htile] at e'
  have hmod : o % tileSize h.view = u % tileSize h.view :=
    tilePlace_inj (viewWidth_transposed hv) (Nat.mod_lt o hz) (Nat.mod_lt u hz) (Nat.add_left_cancel e')
  rw [← Nat.div_add_mod o (tileSize h.view), htile, hmod, Nat.div_add_mod]

end

/-- Settles O59: the interleaving is inverted by its stack and offset, and a transposed view permutes the bytes of each tile. -/
theorem addressMappingsAreOneToOne : Obligations.AddressMappingsAreOneToOne := by
  refine ⟨fun p q k hp hq hp1 hq1 hps hqs hpk hqk => physKey_interleaved_inj hp hq hp1 hq1 hps hqs hpk hqk,
    fun stack o hs ho => physKey_of_stack_byte hs ho, fun h o u hv e => byte_inj hv e, fun h o hv => byte_in_tile hv o, fun h hv hb => ?_⟩
  rw [byte_transposed (.inl hv), hv, hb]
  decide

end Sys2Proof.Machine
end

section
/-! How discovery runs (R43, R51, R53): each command of Machine/Panel.lean where its own effect takes place. -/

namespace Sys2Proof.Machine

open Sys2Proof

theorem execDiscovery_due {s : State} (hr : s.hubRuns = true) (hb : s.flag CLK_STATUS.BILLOW_RUN = true) (hn : s.flag HUB_DISC_STATUS.RUNNING = false)
    (hd : s.flag HUB_DISC_STATUS.DONE = false) : execDiscovery s = .next ((below 12).foldl (fun s h => s.send (.unit 0x100 (hubPortSite h) [h]))
      { (s.setReg HUB_DISC_STATUS.REG 0).put HUB_DISC_STATUS.RUNNING 1 with disc := { since := s.isobar }, logs := delKey s.logs HUB_DISC_LOG.REG }) := by
  rw [execDiscovery, if_neg (by simp [hr, hb, hn, hd])]
  rfl

theorem execDiscoveryProbe_first {s : State} {site : Nat} {place : Nat × Nat} {p : Probe} (hp : probePlace p = some place)
    (hr : s.flag HUB_DISC_STATUS.RUNNING = true) (hs : stackSite site = true) (hd : s.domainOn site 3 = true) (hl : s.flag (CLK_SITE.LOCK site) = true)
    (hn : look s.disc.reached site = none) : execDiscoveryProbe site p s = .next (s.probed site p place) := by
  simp only [execDiscoveryProbe, hp, hr, hs, hd, hl, hn, Bool.not_true, Bool.or_self, Option.isSome_none, Bool.false_eq_true, if_false]

/-- Where the versions of both ends are known, each end shows the other, and version 3 where both run it. -/
theorem execMeshLinkUp_known {s : State} {a b : PortRef} {verA verB : Nat} (he : linkEnds a b = true) (hu : s.portUp a.node a.port = true)
    (hA : verA = 2 ∨ verA = 3) (hB : verB = 2 ∨ verB = 3) : execMeshLinkUp a b verA verB s =
      .next ((s.portShow a b.node (verA == 3 && verB == 3)).portShow b a.node (verA == 3 && verB == 3)) := by
  simp only [execMeshLinkUp, he, hu, Bool.not_true, Bool.false_and, Bool.false_eq_true, if_false, if_true]
  exact if_pos (by simp [hA, hB])

/-- Settles O17: each command is run down the branch that the clause's hypotheses choose. -/
theorem discoveryCommandsComplete : Obligations.DiscoveryCommandsComplete := by
  refine ⟨fun s hr hb hn hd => execDiscovery_due hr hb hn hd, fun s site place p hp hr hs hd hl hn => execDiscoveryProbe_first hp hr hs hd hl hn,
    fun s endTick hr => ?_, fun s a b verA verB he hu hA hB => execMeshLinkUp_known he hu hA hB,
    fun s who bytes half ho => readAtHub_of_hubOpen ho _ _ _ _⟩
  change execDiscoveryCollectClose endTick s = _
  rw [execDiscoveryCollectClose, if_neg (by simp [hr])]

end Sys2Proof.Machine
end

section
/-! The matrix arrays (R72 to R98, R167, R197): each command of Machine/Arrays.lean and Machine/Entries.lean where its own effect takes place. -/

namespace Sys2Proof.Machine

open Sys2Proof

/-! ## Microcode (R78 to R98) -/

section
variable {s : State} {site a op : Nat} (h : s.arrayAt site a op = true)
include h

theorem canIssue_of_arrayAt : s.canIssue site a = true := by
  simp only [State.arrayAt, Bool.and_eq_true] at h; exact h.1

theorem opcode_of_arrayAt : bits (s.ucodeWord site a) 63 60 = op := by
  simp only [State.arrayAt, Bool.and_eq_true, beq_iff_eq] at h; exact h.2

/-- An instruction that stands at the program counter runs on the word there. -/
theorem sequence_of_arrayAt (f : Nat → State → State) : s.sequence site a op f = f (s.ucodeWord site a) s := if_pos h

end

theorem arrayRunning_of_canIssue {s : State} {site a : Nat} (h : s.canIssue site a = true) : s.arrayRunning site a = true := by
  simp only [State.canIssue, Bool.and_eq_true] at h; exact h.1.1

/-- Settles O1: the word at the program counter has the instruction's opcode (sequence_of_arrayAt), and no check of the instruction's rule rejects it. -/
theorem arraySequencerCommandsComplete : Obligations.ArraySequencerCommandsComplete := by
  refine ⟨fun s site a h => ?_, fun s site a w h hw hr hf hl hv => ?_, fun s site a w h hw hd hr => ?_, fun s site a w h hw hr => ?_,
    fun s site a w h hw hp hk => ?_, fun s site a n w h hw ho hl => ?_, fun s site a h he => ?_, fun s site a h => ?_⟩
  · change execArrayNop site a s = _
    rw [execArrayNop, sequence_of_arrayAt h]
  · change execStream site a s = _
    have hset : ¬ (!(s.array site a).fmtSet) = true := by simp [hf]
    have hswap : ¬ (bit w 47 && !(s.array site a).loadedSinceSwap) = true := by simpa using hl
    have hbank : ¬ (!bit w 47 && !s.flag (bankValid site a (s.get (MXA_STATUS.ACTIVE_BANK site a)))) = true := by simpa using hv
    rw [execStream, sequence_of_arrayAt h, hw]
    simp only [hr]
    exact congrArg _ ((if_neg hset).trans ((if_neg hswap).trans (if_neg hbank)))
  · change execDrain site a s = _
    rw [execDrain, sequence_of_arrayAt h, hw]
    simp only [hd, hr, Nat.reduceLeDiff, OfNat.one_ne_ofNat, one_ne_zero, false_and, ge_iff_le, if_false]
  · change execZero site a s = _
    rw [execZero, sequence_of_arrayAt h, hw]
    simp only [hr]
  · change execSetfmt site a s = _
    have hanchor : ((s.array site a).fmtSet && s.get (MXA_FMT.ANCHOR site a) != bits w 31 16) = false := by simpa using hk
    rw [execSetfmt, sequence_of_arrayAt h, hw]
    simp only [hp, hanchor, Bool.not_true, Bool.false_eq_true, if_false]
  · change execLoop site a s = _
    rw [execLoop, sequence_of_arrayAt h, hw]
    simp only [ho, hl, Bool.not_true, Bool.false_eq_true, if_false, if_true]
  · change execArrayEnd site a s = _
    rw [execArrayEnd, sequence_of_arrayAt h]
    simp only [he, List.isEmpty_nil, Bool.not_true, Bool.false_eq_true, if_false]
  · change execUcodeInvalidOpcode site a s = _
    have hc := canIssue_of_arrayAt h
    exact if_pos (by simp [opcode_of_arrayAt h, hc, arrayRunning_of_canIssue hc])

/-! ## Loads, rows and entries (R72, R78, R80, R86, R197) -/

/-- Settles O2: each event is run down the branch that the clause's hypotheses choose. -/
theorem arrayEventCommandsComplete : Obligations.ArrayEventCommandsComplete := by
  refine ⟨fun s site a t hl ht => ?_, fun s site a w row h hw hl hr => ?_, fun s site a i w hi hw hb => ?_,
    fun s site a i dest base count done hi hw hb hh => ?_, fun s t site row k l hf hk hne ht => ?_,
    fun s site slot feed faults hne hstream hslot hfeed hblock hlack v t hv => ?_⟩
  · change execBankLoadDone site a s = _
    simp only [execBankLoadDone, hl, ht, Bool.false_eq_true, if_false]
  · change execLoadw site a [] s = _
    rw [execLoadw, sequence_of_arrayAt h, hw]
    simp only [hl, hr, Option.isSome_none, Bool.not_true, Bool.false_eq_true, if_false, List.foldl_nil]
  · change execAccRowZero site a s = _
    simp only [execAccRowZero, hi, hw, hb, Bool.false_eq_true, if_false]
  · change execDrainRowRead site a s = _
    simp only [execDrainRowRead, hi, hw, hb, Nat.not_le.mpr hh, Bool.false_eq_true, if_false]
  · change execOutputRecordHandoff site row s = _
    obtain ⟨p, rfl⟩ := Option.ne_none_iff_exists'.mp hne
    simp only [execOutputRecordHandoff, hf, hk, ht, if_true, Option.getD_some]
  · change execArrayEntry site feed slot faults s = _
    simp only [execArrayEntry, hne, hstream, hblock, hlack, hv, Nat.not_lt.mpr hslot, Nat.not_lt.mpr hfeed, decide_false, Bool.or_self,
      Bool.false_eq_true, if_false]

/-! ## Writes of the MXA_ registers (R86 to R93, R167) -/

/-- Where no array runs or waits, the microcode may be written (R93). -/
theorem ucode_free {s : State} {site : Nat} (h : ∀ a < 18, s.get (MXA_STATUS.STATE site a) ≠ 1 ∧ s.get (MXA_STATUS.STATE site a) ≠ 2) :
    (below 18).any (fun a => s.get (MXA_STATUS.STATE site a) == 1 || s.get (MXA_STATUS.STATE site a) == 2) = false := by
  rw [List.any_eq_false]
  intro a ha
  simpa using h a (List.mem_range.mp ha)

/-- Settles O3: the register answers (atSite_of_siteOpen), and who owns the site decides. -/
theorem arrayRegisterCommandsComplete : Obligations.ArrayRegisterCommandsComplete := by
  refine ⟨fun s who site value ho he => ?_, fun s who site value ho hf => ?_, fun s who site value ho hf => ?_,
    fun s who site a value ho hf hgo hspare hon => ?_, fun s who site value ho hf => ?_, fun s who site i value ho hf hfree => ?_⟩
  · change execMxaThrottleWrite who site value s = _
    rw [execMxaThrottleWrite, atSite_of_siteOpen ho, he]
    rfl
  · change execMxaRowmapWrite who site value s = _
    simp only [execMxaRowmapWrite, atSite_of_siteOpen ho, hf, Bool.false_eq_true, if_false]
  · change execMxaRowmapWrite who site value s = _
    rw [execMxaRowmapWrite, atSite_of_siteOpen ho, if_pos hf, State.fwRefused]
  · change execRerunGo who site a value s = _
    rw [execRerunGo, atSite_of_siteOpen ho]
    simp only [hf, hgo, Bool.not_true, Bool.false_eq_true, if_false]
    exact if_pos ⟨hspare, hon⟩
  · change execRowGo who site value s = _
    simp only [execRowGo, atSite_of_siteOpen ho, hf, Bool.false_eq_true, if_false]
  · change execUcodeWrite who site i value s = _
    simp only [execUcodeWrite, atSite_of_siteOpen ho, hf, ucode_free hfree, Bool.false_eq_true, if_false]

end Sys2Proof.Machine
end

section
/-! How numbers are packed and reductions are summed (R107, R113, R123, R278): the trits of a ternary tile, and the partial sums of a reduction tree. -/

namespace Sys2Proof.Machine

open Sys2Proof

/-! ## Lists by index -/

theorem nth_eq_getElem {α : Type} (d : α) : ∀ {l : List α} {i : Nat} (h : i < l.length), nth d l i = l[i]
  | _ :: _, 0, _ => rfl
  | _ :: _, _ + 1, h => nth_eq_getElem d (Nat.lt_of_succ_lt_succ h)

/-- A list made index by index holds the value made for each index. -/
theorem nth_map_below {α : Type} (d : α) (f : Nat → α) {n i : Nat} (h : i < n) : nth d ((below n).map f) i = f i := by
  rw [nth_eq_getElem d (by simpa [below] using h)]
  simp [below]

/-! ## Trits (R107, R113) -/

/-- The byte of five trits, each raised by one (R107). -/
def tritByte (t : Fin 5 → Fin 3) : Nat := (t 0).val + 3 * (t 1).val + 9 * (t 2).val + 27 * (t 3).val + 81 * (t 4).val

theorem tritByte_lt (t : Fin 5 → Fin 3) : tritByte t < 243 := by
  unfold tritByte
  omega

theorem tritByte_digit (t : Fin 5 → Fin 3) (i : Fin 5) : tritByte t / 3 ^ i.val % 3 = (t i).val := by
  fin_cases i <;> simp [tritByte] <;> omega

/-- A valid byte stands for its base-3 digits, each lowered by one. -/
theorem tritOf_valid {b : Nat} (h : b < 243) (i : Nat) : tritOf b i = ((b / 3 ^ i % 3 : Nat) : Int) - 1 := by
  rw [tritOf, Nat.mod_eq_of_lt (by omega), if_neg (by omega)]

/-- A valid byte is the byte of its own base-3 digits. -/
theorem exists_tritByte {b : Nat} (h : b < 243) : ∃ t, b = tritByte t := by
  refine ⟨fun i => ⟨b / 3 ^ i.val % 3, Nat.mod_lt _ (by decide)⟩, ?_⟩
  change b = b / 3 ^ 0 % 3 + 3 * (b / 3 ^ 1 % 3) + 9 * (b / 3 ^ 2 % 3) + 27 * (b / 3 ^ 3 % 3) + 81 * (b / 3 ^ 4 % 3)
  omega

theorem tritByteOk_iff {b : Nat} (h : b < 256) : tritByteOk b = true ↔ b ≤ 242 := by
  rw [tritByteOk, Nat.mod_eq_of_lt h, decide_eq_true_eq, Nat.lt_succ_iff]

/-- Column j of row k of a ternary tile is the trit of its group, times the group's scale (R113). -/
theorem weights_ternary {t : BankTile} {k j : Nat} {n : Bool} {d : Dyadic} (hw : t.wfmt = 9) (hk : k < 128) (hj : j < 64)
    (hd : decodeFloat fp16 (ofLe ((t.bytes.drop (1664 + 2 * (2 * j + k / 64))).take 2)) = .fin n d) :
    nth none (nth [] t.weights k) j = some (d.mul ⟨tritOf (nth 0 t.bytes (13 * (2 * j + k / 64) + k % 64 / 5)) (k % 64 % 5), 0⟩) := by
  rw [BankTile.weights, if_pos hw, nth_map_below _ _ hk, nth_map_below _ _ hj]
  simp only [hd]

/-- Settles O46: a byte below 243 has five base-3 digits, and these are its trits raised by one. -/
theorem ternaryBytesPackFiveTrits : Obligations.TernaryBytesPackFiveTrits := by
  refine ⟨fun t i => ?_, fun b hb => tritByteOk_iff hb, fun b hb => exists_tritByte (Nat.lt_succ_of_le hb), fun t g k j n d hw hk hj hg hd => ?_⟩
  · rw [← tritByte_digit t i]
    exact tritOf_valid (tritByte_lt t) i
  · subst hg
    exact weights_ternary hw hk hj hd

/-! ## Reductions (R123, R278) -/

/-- The sum of two contributions of one SEQ: values modulo 2^128, digests modulo p, POISON ORed, contributions counted (R278). -/
def Partial.plus (p e : Partial) : Partial :=
  { p with vals := (below 64).map (fun j => nth 0 p.vals j + nth 0 e.vals j), digest := addRes p.digest e.digest,
           poison := p.poison || e.poison, count := p.count + e.count }

namespace Partial

variable {p e : Partial}

@[simp] theorem plus_seq (p e : Partial) : (p.plus e).seq = p.seq := rfl

theorem plus_comm (h : p.seq = e.seq) : p.plus e = e.plus p := by
  simp only [plus, h, addRes, BitVec.add_comm, Nat.add_comm, Bool.or_comm]

/-- Each part of a sum is a sum in a commutative semigroup, so the later contributions may change places. -/
theorem plus_right_comm (p e f : Partial) : (p.plus e).plus f = (p.plus f).plus e := by
  have hvals : ∀ j ∈ below 64, nth 0 (p.plus e).vals j + nth 0 f.vals j = nth 0 (p.plus f).vals j + nth 0 e.vals j := by
    intro j hj
    rw [plus, plus, nth_map_below _ _ (List.mem_range.mp hj), nth_map_below _ _ (List.mem_range.mp hj)]
    exact add_right_comm ..
  have hdigest : addRes (addRes p.digest e.digest) f.digest = addRes (addRes p.digest f.digest) e.digest := by
    simp only [addRes, Nat.mod_add_mod, Nat.add_right_comm]
  rw [plus, plus.eq_1 (p.plus f), List.map_congr_left hvals]
  simp only [plus, hdigest, Bool.or_right_comm, Nat.add_right_comm]

end Partial

section
variable {p e : Partial} (l : List Partial)

theorem addPartial_same (h : p.seq = e.seq) : addPartial e (p :: l) = p.plus e :: l := if_pos h

theorem addPartial_before (h : e.seq < p.seq) : addPartial e (p :: l) = e :: p :: l := by
  rw [addPartial, if_neg (by omega), if_pos h]

theorem addPartial_after (h : p.seq < e.seq) : addPartial e (p :: l) = p :: addPartial e l := by
  rw [addPartial, if_neg (by omega), if_neg (by omega)]

/-- Two contributions that both come before the partials held: the lower SEQ goes first, or both go into one sum. -/
theorem addPartial_front_comm {f : Partial} (he : addPartial e l = e :: l) (hf : addPartial f l = f :: l) :
    addPartial e (addPartial f l) = addPartial f (addPartial e l) := by
  rw [he, hf]
  rcases Nat.lt_trichotomy e.seq f.seq with h | h | h
  · rw [addPartial_before _ h, addPartial_after _ h, hf]
  · rw [addPartial_same _ h.symm, addPartial_same _ h, Partial.plus_comm h]
  · rw [addPartial_after _ h, addPartial_before _ h, he]

end

/-- Two contributions change places: the front partial is passed, met or preceded by the lower SEQ, then by the other. -/
theorem addPartial_comm_of_le {e f : Partial} (h : e.seq ≤ f.seq) : ∀ l, addPartial e (addPartial f l) = addPartial f (addPartial e l)
  | [] => addPartial_front_comm [] rfl rfl
  | p :: l => by
    rcases Nat.lt_trichotomy p.seq e.seq with he | he | he
    · have hf : p.seq < f.seq := he.trans_le h
      rw [addPartial_after _ he, addPartial_after _ hf, addPartial_after _ he, addPartial_after _ hf, addPartial_comm_of_le h l]
    · rw [addPartial_same _ he]
      rcases (he.trans_le h).eq_or_lt with hf | hf
      · rw [addPartial_same _ hf, addPartial_same (p := p.plus f) _ he, addPartial_same (p := p.plus e) _ hf, Partial.plus_right_comm]
      · rw [addPartial_after _ hf, addPartial_same _ he, addPartial_after (p := p.plus e) _ hf]
    · rcases Nat.lt_trichotomy p.seq f.seq with hf | hf | hf
      · rw [addPartial_after _ hf, addPartial_before _ he, addPartial_before _ he, addPartial_after _ (he.trans hf), addPartial_after _ hf]
      · rw [addPartial_same _ hf, addPartial_before (p := p.plus f) _ he, addPartial_before _ he, addPartial_after _ (hf ▸ he), addPartial_same _ hf]
      · exact addPartial_front_comm _ (addPartial_before _ he) (addPartial_before _ hf)

theorem addPartial_comm (e f : Partial) (l : List Partial) : addPartial e (addPartial f l) = addPartial f (addPartial e l) :=
  (Nat.le_total e.seq f.seq).elim (fun h => addPartial_comm_of_le h l) fun h => (addPartial_comm_of_le h l).symm

/-- The SEQs of the partials after a contribution are those before it and its own. -/
theorem exists_seq_of_mem_addPartial {e x : Partial} : ∀ {l : List Partial}, x ∈ addPartial e l → x.seq = e.seq ∨ ∃ y ∈ l, x.seq = y.seq
  | [], h => .inl (by rw [List.mem_singleton.mp h])
  | p :: l, h => by
    rcases Nat.lt_trichotomy e.seq p.seq with hp | hp | hp
    · rw [addPartial_before _ hp, List.mem_cons] at h
      exact h.imp (congrArg _) fun hm => ⟨x, hm, rfl⟩
    · rw [addPartial_same _ hp.symm, List.mem_cons] at h
      exact .inr (h.elim (fun hx => ⟨p, List.mem_cons_self, hx ▸ rfl⟩) fun hm => ⟨x, List.mem_cons_of_mem _ hm, rfl⟩)
    · rw [addPartial_after _ hp, List.mem_cons] at h
      rcases h with hx | hm
      · exact .inr ⟨p, List.mem_cons_self, hx ▸ rfl⟩
      · exact (exists_seq_of_mem_addPartial hm).imp_right fun ⟨y, hy, hs⟩ => ⟨y, List.mem_cons_of_mem _ hy, hs⟩

/-- A contribution keeps the partials in ascending SEQ order, one for each SEQ. -/
theorem addPartial_pairwise {e : Partial} : ∀ {l : List Partial}, l.Pairwise (fun a b => a.seq < b.seq) →
    (addPartial e l).Pairwise (fun a b => a.seq < b.seq)
  | [], _ => List.pairwise_singleton ..
  | p :: l, h => by
    obtain ⟨hp, hl⟩ := List.pairwise_cons.mp h
    rcases Nat.lt_trichotomy e.seq p.seq with he | he | he
    · rw [addPartial_before _ he, List.pairwise_cons]
      refine ⟨fun x hx => ?_, h⟩
      exact (List.mem_cons.mp hx).elim (fun hxp => hxp ▸ he) fun hm => he.trans (hp x hm)
    · rw [addPartial_same _ he.symm]
      exact List.pairwise_cons.mpr ⟨hp, hl⟩
    · rw [addPartial_after _ he, List.pairwise_cons]
      refine ⟨fun x hx => ?_, addPartial_pairwise hl⟩
      rcases exists_seq_of_mem_addPartial hx with hs | ⟨y, hy, hs⟩
      · exact hs ▸ he
      · exact hs ▸ hp y hy

/-- Settles O57: two contributions that follow each other change places (addPartial_comm), and each keeps the order of the SEQs. -/
theorem reductionsDoNotDependOnTheOrder : Obligations.ReductionsDoNotDependOnTheOrder :=
  ⟨fun _ _ h => h.foldl_eq' (fun x _ y _ z => addPartial_comm y x z) [],
   fun l => List.foldlRecOn l _ List.Pairwise.nil fun _ h _ _ => addPartial_pairwise h⟩

end Sys2Proof.Machine
end

section
/-! The vector cores (R137 to R158, R167): what the instruction at the program counter of a core that runs alone does, lane by lane,
and the writes of the VCO_ registers. -/

namespace Sys2Proof.Machine

open Sys2Proof

/-! ## The instruction at the program counter (R140, R145, R152) -/

/-- How the program of a core that runs alone goes on after an instruction. -/
def State.vecEnds (s : State) (site v : Nat) : VecOut → State
  | .done r => s.vecCommit site v r
  | .reject code => s.vecHalt site v code
  | .wait => s.vecWait site v 2
  | .finish => (s.addSat (VCO_COUNT.INSTRS site v) 1).vecStop site v 0

theorem vecCores_alone {s : State} {site : Nat} (h : s.paired site = false) (v : Nat) : s.vecCores site v = [v] := by
  rw [State.vecCores, State.pairOf, h]
  rfl

section
variable {s : State} {site v op : Nat} (h : s.vectorAt site v op = true)
include h

theorem alone_of_vectorAt : s.paired site = false := by
  simp only [State.vectorAt, Bool.and_eq_true, Bool.not_eq_true'] at h; exact h.1.1.2

/-- Without a memory error, the instruction computes from the core's registers and token counters, and nothing else decides how it ends. -/
theorem vecExec_of_vectorAt (reads : Bool) (g : VectorState → List Nat → VecWord → VecOut) :
    s.vecExec site v .none op reads g = s.vecEnds site v (g (s.vector site v) (s.vecTokens site v) (decodeVec (s.vecWord site v))) := by
  have hcores := vecCores_alone (alone_of_vectorAt h) v
  simp only [State.vectorAt, Bool.and_eq_true, Bool.not_eq_true', beq_iff_eq] at h
  obtain ⟨⟨⟨⟨hruns, hpast⟩, -⟩, hop⟩, hok⟩ := h
  simp only [State.vecExec, hruns, hpast, hop, hok, hcores, State.vecFault, State.vecEnds, bne_self_eq_false, List.any_cons, List.any_nil, List.map_cons,
    List.map_nil, List.foldl_cons, List.foldl_nil, Bool.not_true, Bool.or_false, Bool.false_eq_true, if_false]
  rfl

/-- An instruction with an effect commits it. -/
theorem exec_commits {i : Instr} {reads : Bool} {g : VectorState → List Nat → VecWord → VecOut} {r : VecResult}
    (hi : exec i s = .next (s.vecExec site v .none op reads g))
    (hr : g (s.vector site v) (s.vecTokens site v) (decodeVec (s.vecWord site v)) = .done r) : exec i s = .next (s.vecCommit site v r) := by
  rw [hi, vecExec_of_vectorAt h, hr, State.vecEnds]

end

/-- Settles O4: each instruction is its rule's operation on the core's registers (rfl), and what that gives is committed (exec_commits). -/
theorem vectorArithmeticCommandsComplete : Obligations.VectorArithmeticCommandsComplete := by
  refine ⟨?_, ?_, ?_, ?_, ?_, ?_, ?_, ?_, ?_, ?_, ?_, ?_, ?_, ?_, ?_, ?_, ?_, ?_, ?_, ?_, ?_⟩ <;> exact fun s site v r h hr => exec_commits h rfl hr

/-- Settles O5: as in O4; TWAIT's count decides whether it takes its tokens, and an invalid word stands alone in vecInvalidOpcode. -/
theorem vectorControlCommandsComplete : Obligations.VectorControlCommandsComplete := by
  refine ⟨fun s site v h => exec_commits h rfl rfl, fun s site v h => ?_, fun s site v r h hr => exec_commits h rfl hr,
    fun s site v r h hr => exec_commits h rfl hr, fun s site v r h hr => exec_commits h rfl hr, fun s site v r h hr => exec_commits h rfl hr,
    fun s site v r h hr => exec_commits h rfl hr, fun s site v r h hr => exec_commits h rfl hr, fun s site v r h hr => exec_commits h rfl hr,
    fun s site v h => exec_commits h rfl rfl, fun s site v h hpos hle => exec_commits h rfl ?_, fun s site v h hlt => ?_,
    fun s site v h => exec_commits h rfl rfl, fun s site v hr hp ha hok => ?_⟩
  · change execVecEnd site v .none s = _
    rw [execVecEnd, State.vecPlain, vecExec_of_vectorAt h, State.vecEnds]
  · rw [if_neg hpos.ne', if_neg hle.not_gt]
  · change execTwait site v .none s = _
    rw [execTwait, vecExec_of_vectorAt h, if_neg (Nat.zero_lt_of_lt hlt).ne', if_pos hlt, State.vecEnds]
  · change execVecInvalidOpcode site v .none s = _
    simp only [execVecInvalidOpcode, hr, hp, hok, vecCores_alone ha, State.vecFault, bne_self_eq_false, List.any_cons, List.any_nil, Bool.not_true,
      Bool.or_false, Bool.false_eq_true, if_false]

/-! ## Two operands, lane by lane (R137, R141, R145) -/

@[simp] theorem vector_setVector_same (s : State) (site v : Nat) (x : VectorState) : (s.setVector site v x).vector site v = x := by
  simp [State.vector, State.setVector, lookD]

theorem vector_setVector_other (s : State) {site v site' v' : Nat} (x : VectorState) (h : vectorKey site' v' ≠ vectorKey site v) :
    (s.setVector site v x).vector site' v' = s.vector site' v' := by
  simp [State.vector, State.setVector, lookD, look_putKey_other _ _ h]

/-- From s to t, every vector core but core v of the site, memory, what has left the panel, the arrays, the control cores and the queue registers are as
they were. -/
structure OnlyVector (site v : Nat) (s t : State) : Prop where
  vector : ∀ site' v', vectorKey site' v' ≠ vectorKey site v → t.vector site' v' = s.vector site' v'
  memory : t.memory = s.memory
  out : t.out = s.out
  arrays : t.arrays = s.arrays
  controls : t.controls = s.controls
  logs : t.logs = s.logs

namespace OnlyVector
variable {site v : Nat} {s t : State}

theorem refl : OnlyVector site v s s := ⟨fun _ _ _ => rfl, rfl, rfl, rfl, rfl, rfl⟩

theorem put (h : OnlyVector site v s t) (l : Loc) (n : Nat) : OnlyVector site v s (t.put l n) :=
  ⟨h.vector, h.memory, h.out, h.arrays, h.controls, h.logs⟩

theorem addSat (h : OnlyVector site v s t) (l : Loc) (n : Nat) : OnlyVector site v s (t.addSat l n) := h.put _ _

theorem setVector (h : OnlyVector site v s t) (x : VectorState) : OnlyVector site v s (t.setVector site v x) :=
  ⟨fun site' v' hk => (vector_setVector_other t x hk).trans (h.vector site' v' hk), h.memory, h.out, h.arrays, h.controls, h.logs⟩

theorem vecCounts (h : OnlyVector site v s t) (r : VecResult) : OnlyVector site v s (t.vecCounts site v r) := by
  have hc := (h.addSat (VCO_ARITH.SAT site v) r.sats).addSat (VCO_ARITH.NAN_STORE site v) r.nans
  rw [State.vecCounts]
  split
  · exact hc
  · exact hc.put _ _

theorem vecNext (h : OnlyVector site v s t) (r : VecResult) : OnlyVector site v s (t.vecNext site v r) := by
  have hn := ((h.put (VCO_STATUS.STATE site v) 1).put (VCO_STATUS.WAIT site v) 0).addSat (VCO_COUNT.INSTRS site v) 1
  rw [State.vecNext]
  split
  · exact hn.put _ _
  · split
    · exact hn.setVector _
    · exact hn.put _ _

end OnlyVector

@[simp] theorem vector_vecCounts (s : State) (site v : Nat) (r : VecResult) : (s.vecCounts site v r).vector site v = s.vector site v := by
  rw [State.vecCounts]
  split <;> rfl

/-- The step of the program counter changes nothing of the core but the note that it passed the last word. -/
theorem exists_vector_vecNext (s : State) (site v : Nat) (r : VecResult) :
    ∃ past, (s.vecNext site v r).vector site v = { s.vector site v with pcPast := past } := by
  rw [State.vecNext]
  split
  · exact ⟨_, rfl⟩
  · split
    · exact ⟨true, vector_setVector_same ..⟩
    · exact ⟨_, rfl⟩

/-- A core that runs alone and only writes a vector register changes its registers, counts and steps on. -/
theorem vecCommit_vec {s : State} {site : Nat} (h : s.paired site = false) (v d : Nat) (l : List Lane) :
    s.vecCommit site v { vec := some (d, l) } =
      ((s.setVector site v ((s.vector site v).take { vec := some (d, l) })).vecCounts site v { vec := some (d, l) }).vecNext site v { vec := some (d, l) } := by
  rw [State.vecCommit, vecCores_alone h]
  rfl

section
variable {s : State} {site : Nat} (h : s.paired site = false) (v d : Nat) (l : List Lane)
include h

theorem onlyVector_vecCommit_vec : OnlyVector site v s (s.vecCommit site v { vec := some (d, l) }) := by
  rw [vecCommit_vec h]
  exact ((OnlyVector.refl.setVector _).vecCounts _).vecNext _

theorem exists_vector_vecCommit_vec : ∃ past, (s.vecCommit site v { vec := some (d, l) }).vector site v =
    { (s.vector site v).take { vec := some (d, l) } with pcPast := past } := by
  rw [vecCommit_vec h]
  refine (exists_vector_vecNext _ site v _).imp fun past hy => hy.trans ?_
  rw [vector_vecCounts, vector_setVector_same]

end

theorem lanes_take_same (x : VectorState) (d : Nat) (l : List Lane) : (x.take { vec := some (d, l) }).lanes d = l := by
  simp [VectorState.take, VectorState.lanes, lookD]

theorem lanes_take_other (x : VectorState) {d e : Nat} (l : List Lane) (h : e ≠ d) : (x.take { vec := some (d, l) }).lanes e = x.lanes e := by
  simp [VectorState.take, VectorState.lanes, lookD, look_putKey_other _ _ h]

/-- The lanes that an instruction of two operands leaves in its destination (R145). -/
def binaryLanes (f : Lane → Lane → Lane) (x : VectorState) (w : VecWord) : List Lane :=
  (below 128).map (fun i => if (x.mask w.mask).getLsbD i then nth 0#32 (((x.lanes w.a).zip (x.lanes w.b)).map (fun p => f p.1 p.2)) i
    else nth 0#32 (x.lanes w.d) i)

theorem binary_eq (f : Lane → Lane → Lane) (x : VectorState) (w : VecWord) : binary f x w = .done { vec := some (w.d, binaryLanes f x w) } := rfl

section
variable {f : Lane → Lane → Lane} {x : VectorState} {w : VecWord} {i : Nat} (hi : i < 128)
include hi

theorem binaryLanes_on {a b : Lane} (hm : (x.mask w.mask).getLsbD i = true) (ha : (x.lanes w.a)[i]? = some a) (hb : (x.lanes w.b)[i]? = some b) :
    (binaryLanes f x w)[i]? = some (f a b) := by
  obtain ⟨hla, rfl⟩ := List.getElem?_eq_some_iff.mp ha
  obtain ⟨hlb, rfl⟩ := List.getElem?_eq_some_iff.mp hb
  have hl : i < (((x.lanes w.a).zip (x.lanes w.b)).map (fun p => f p.1 p.2)).length := by simp [hla, hlb]
  simp [binaryLanes, below, hi, hm, nth_eq_getElem _ hl]

theorem binaryLanes_off (hm : (x.mask w.mask).getLsbD i = false) : (binaryLanes f x w)[i]? = some (nth 0#32 (x.lanes w.d) i) := by
  simp only [binaryLanes, below, List.getElem?_map, List.getElem?_range hi, hm, Option.map_some, Bool.false_eq_true, if_false]

end

/-- Register m0 and scalar s0 are not written (R137). -/
theorem take_zero_registers (x : VectorState) (r : VecResult) (n : Nat) (m : BitVec 128) :
    (x.take { r with mask := some (0, m), scal := some (0, n) }).m = x.m ∧ (x.take { r with mask := some (0, m), scal := some (0, n) }).s = x.s := by
  cases r.vec <;> simp [VectorState.take]

/-- Settles O58: the core commits the destination's lanes (exec_commits, vecCommit_vec), which binaryLanes gives one by one, and nothing outside the core
but the register file changes (OnlyVector). -/
theorem vectorInstructionsWorkLaneByLane : Obligations.VectorInstructionsWorkLaneByLane := by
  refine ⟨fun s site v ⟨i, op, f⟩ hp h => ?_, fun x => ⟨rfl, rfl⟩, take_zero_registers⟩
  have hexec : exec i s = .next (s.vecExec site v .none op false (fun x _ w => binary f x w)) := by
    simp only [List.mem_cons, List.not_mem_nil, or_false, Prod.mk.injEq] at hp
    rcases hp with ⟨rfl, rfl, rfl⟩ | ⟨rfl, rfl, rfl⟩ | ⟨rfl, rfl, rfl⟩ | ⟨rfl, rfl, rfl⟩ | ⟨rfl, rfl, rfl⟩ |
      ⟨rfl, rfl, rfl⟩ | ⟨rfl, rfl, rfl⟩ | ⟨rfl, rfl, rfl⟩ <;> rfl
  have hs := alone_of_vectorAt h
  obtain ⟨past, hy⟩ := exists_vector_vecCommit_vec hs v (decodeVec (s.vecWord site v)).d (binaryLanes f (s.vector site v) (decodeVec (s.vecWord site v)))
  have hframe := onlyVector_vecCommit_vec hs v
  refine ⟨_, exec_commits h hexec (binary_eq ..), ?_, (hframe ..).vector, (hframe ..).memory, (hframe ..).out, (hframe ..).arrays, (hframe ..).controls,
    (hframe ..).logs⟩
  rw [hy]
  refine ⟨fun j a b hj hm ha hb => ?_, fun j hj hm => ?_, fun d hd => lanes_take_other _ _ hd, rfl, rfl, rfl, rfl⟩
  · exact (congrArg (·[j]?) (lanes_take_same ..)).trans (binaryLanes_on hj hm ha hb)
  · exact (congrArg (·[j]?) (lanes_take_same ..)).trans (binaryLanes_off hj hm)

/-! ## Writes of the VCO_ registers (R152, R155, R158) -/

/-- Settles O6: the register answers (atSite_of_siteOpen), and the core's state or the boundary decides. -/
theorem vectorRegisterCommandsComplete : Obligations.VectorRegisterCommandsComplete := by
  refine ⟨fun s who site v value ho hf hgo hodd hon hidle => ?_, fun s site v i value h1 h2 => ?_, fun s site v i value h1 => ?_,
    fun s who site value ho hf => ?_⟩
  · change execVcoGo who site v value s = _
    rw [execVcoGo, atSite_of_siteOpen ho]
    simp only [hf, hgo, hodd, hon, hidle, Bool.not_true, Bool.false_eq_true, if_false, if_true]
  · change execVcoProgWrite site v i value s = _
    rw [execVcoProgWrite, if_neg (not_or_intro h1 h2)]
  · change execVcoProgWrite site v i value s = _
    rw [execVcoProgWrite, if_pos (.inl h1)]
  · change execVcoModeWrite who site value s = _
    rw [execVcoModeWrite, atSite_of_siteOpen ho, if_neg (by simp [hf])]
    exact (apply_ite Host.Outcome.next _ _ _).symm

end Sys2Proof.Machine
end

section
/-! The control cores (R161 to R170): their own registers, their fatal stops, their accesses and their mailboxes, and what firmware owns. -/

namespace Sys2Proof.Machine

open Sys2Proof

/-! ## Commands of the control cores (R161, R162, R166, R168, R169) -/

/-- An access of a running core that waits for nothing is not dropped. -/
theorem localAccess_not_dropped {s : State} {site c : Nat} (hc : c < 2) (hr : s.coreRuns site c = true) (hw : s.coreWaits site c = false) :
    ¬ (2 ≤ c ∨ ¬ s.coreRuns site c = true ∨ s.coreWaits site c = true) := by
  simp [hc, hr, hw]

/-- Settles O7: each command is run down the branch that the clause's hypotheses choose. -/
theorem controlCoreCommandsComplete : Obligations.ControlCoreCommandsComplete := by
  refine ⟨fun s site c value ho hr hready => ?_, fun s site c h1 => ?_, fun s site c ho => ?_, fun s site c hr => ?_, fun s site c value ho hr hv => ?_,
    fun s site c itcm hr => ?_, fun s site a hhalt hr => ?_, fun s site v hhalt hr => ?_, fun s site c hc hr ht => ?_,
    fun s site c a n v e hc hr hw hn => ⟨?_, ?_⟩, fun s site c e hc hr hw => ?_⟩
  · change execCcoFwWrite (.core site c) site c value s = _
    rw [execCcoFwWrite, atSite_of_siteOpen ho, if_neg (by simp [hr])]
    simp only [hready, Bool.not_true, Bool.false_eq_true, if_false]
  · change execCcoBootTimeout site c s = _
    rw [execCcoBootTimeout, if_pos h1]
  · change execCcoWdogKick (.core site c) site c s = _
    rw [execCcoWdogKick, atSite_of_siteOpen ho, if_pos rfl]
  · change execCcoWatchdogExpiry site c s = _
    rw [execCcoWatchdogExpiry, if_pos hr]
  · change execCcoFatalWrite (.core site c) site c value s = _
    rw [execCcoFatalWrite, atSite_of_siteOpen ho, if_pos ⟨rfl, hr, hv⟩]
  · change execTcmUncorrectable site c itcm s = _
    rw [execTcmUncorrectable, if_pos hr]
  · change execSweepFaultReport site (.array a) s = _
    simp only [execSweepFaultReport, hhalt, hr, beq_self_eq_true, Bool.and_self, if_true]
  · change execSweepFaultReport site (.vector v) s = _
    simp only [execSweepFaultReport, hhalt, hr, beq_self_eq_true, Bool.and_self, if_true]
  · change execMtimecmpInterrupt site c s = _
    rw [execMtimecmpInterrupt, if_pos ⟨hc, hr, ht⟩]
  · change execCcoLocalAccess site c (.load a n) e s = _
    rw [execCcoLocalAccess, if_neg (localAccess_not_dropped hc hr hw)]
    exact congrArg _ (if_pos hn)
  · change execCcoLocalAccess site c (.store a n v) e s = _
    rw [execCcoLocalAccess, if_neg (localAccess_not_dropped hc hr hw)]
    exact congrArg _ (if_pos hn)
  · change execCcoLocalAccess site c .fence e s = _
    rw [execCcoLocalAccess, if_neg (localAccess_not_dropped hc hr hw)]

/-! ## Mailboxes (R164, R165) -/

/-- Settles O8: a register of a core's mailbox answers (atSite_of_siteOpen), and the queue has room, or a head to remove. -/
theorem mailboxCommandsComplete : Obligations.MailboxCommandsComplete := by
  refine ⟨fun s who site c value ho hb => ?_, fun s site c m l hheld hroom => ?_, fun s site c => rfl, fun s site c htype hroom => ?_,
    fun s site c => rfl, fun s who site c value ho hb hne => ?_⟩
  · change execCcoMbxInPush who site c value s = _
    rw [execCcoMbxInPush, atSite_of_siteOpen ho, if_neg (by simp [hb])]
  · change execHubMessageEnqueue site c s = _
    simp only [execHubMessageEnqueue, hheld, ge_iff_le, Nat.not_le.mpr hroom, if_false]
  · change execMbxSend site c 0 s = _
    simp only [execMbxSend, Nat.not_lt.mpr htype, ge_iff_le, Nat.not_le.mpr hroom, if_false]
  · change execCcoMbxOutPop who site c value s = _
    rw [execCcoMbxOutPop, atSite_of_siteOpen ho, if_neg (by simp [hb, hne])]

/-! ## Owners (R167, R168, R170) -/

/-- Settles O41: a requester other than the core itself meets the branch that drops the write. -/
theorem coreRegistersTakeOnlyTheirOwnersWrites : Obligations.CoreRegistersTakeOnlyTheirOwnersWrites := by
  refine ⟨fun s who site c hne ho => ?_, fun s who site c value hne ho => ?_, fun s who site c value hne ho => ?_,
    fun s who site c value hne => if_neg hne, fun s site c value => if_pos rfl⟩
  · change execCcoWdogKick who site c s = _
    rw [execCcoWdogKick, atSite_of_siteOpen ho, if_neg hne]
  · change execCcoFatalWrite who site c value s = _
    rw [execCcoFatalWrite, atSite_of_siteOpen ho, if_neg fun h => hne h.1]
  · change execCcoFwWrite who site c value s = _
    rw [execCcoFwWrite, atSite_of_siteOpen ho, if_pos (.inl hne)]

/-- Firmware owns a site for no requester before READY and in DOLDRUMS. -/
theorem fwOwned_of_not_ready {s : State} {site : Nat} (h : s.get (CCO_STATUS.STATE site 0) ≠ 2 ∨ s.doldrums = true) (who : Requester) :
    s.fwOwned who site = false := by
  rcases h with h | h <;> simp [State.fwOwned, h]

/-- A write whose first check is who owns the site is refused where firmware does (R167). -/
theorem atSite_of_fwOwned {s : State} {who : Requester} {addr site : Nat} (ho : s.siteOpen who addr site = true) (hf : s.fwOwned who site = true)
    (k : Host.Outcome State Fault Refusal) : s.atSite who addr site (if s.fwOwned who site then .next (s.fwRefused site) else k) = .next (s.fwRefused site) := by
  rw [atSite_of_siteOpen ho, if_pos hf]

/-- Settles O44: the six writes are all of the kind of atSite_of_fwOwned. -/
theorem firmwareOwnedRegistersRefuseTheHost : Obligations.FirmwareOwnedRegistersRefuseTheHost := by
  refine ⟨fun s who site i value ho hf => ?_, fun s site p h2 hd => ?_, fun s who site h => fwOwned_of_not_ready h who, fun s site => rfl⟩
  · exact ⟨atSite_of_fwOwned (ho _) hf _, atSite_of_fwOwned (ho _) hf _, atSite_of_fwOwned (ho _) hf _, atSite_of_fwOwned (ho _) hf _,
      atSite_of_fwOwned (ho _) hf _, atSite_of_fwOwned (ho _) hf _⟩
  · simp [State.fwOwned, h2, hd]

end Sys2Proof.Machine
end

section
/-! The hub's queues, its passes and the descriptor engines (R175 to R205, R430): each command of these where its own effect takes place. -/

namespace Sys2Proof.Machine

open Sys2Proof

/-! ## The submission and completion queues (R175, R178, R180, R181) -/

/-- Settles O9: the hub's register answers (atHub_of_hubOpen), and the value's range, the queue's ENABLE or the room of the ring decides. -/
theorem queueCommandsComplete : Obligations.QueueCommandsComplete := by
  refine ⟨fun s who q value ho ht => ?_, fun s who q value ho ht => ?_, fun s who q value ho => atHub_of_hubOpen ho .., fun s who q ho => atHub_of_hubOpen ho ..,
    fun s who q ho => atHub_of_hubOpen ho .., fun s who q value ho he hb => ?_, fun s who q value ho => atHub_of_hubOpen ho .., fun s who q value ho hh => ?_,
    fun s q i c hi hc hroom => ?_⟩
  · change execSqDoorbell who q value s = _
    rw [execSqDoorbell, atHub_of_hubOpen ho, if_neg ht.not_ge]
  · change execSqDoorbell who q value s = _
    rw [execSqDoorbell, atHub_of_hubOpen ho, if_pos ht]
  · change execSqCqConfig who q true value s = _
    rw [execSqCqConfig, atHub_of_hubOpen ho, if_pos rfl, if_neg (by simp [he, hb])]
  · change execCqHeadWrite who q value s = _
    rw [execCqHeadWrite, atHub_of_hubOpen ho, if_neg hh.not_ge]
  · change execCompletionWrite q s = _
    simp only [execCompletionWrite, hi, hc, hroom, Bool.false_eq_true, if_false]

/-! ## Passes (R182, R186 to R189, R192, R430) -/

/-- Settles O10: where the pass is in the state that its rule names, each command is run past the guard that would drop it. -/
theorem passCommandsComplete : Obligations.PassCommandsComplete := by
  refine ⟨fun s site h2 hp hb => ?_, fun s site h3 ha hn hw hs hne => ?_, fun s site h3 ha hs hr hover => ?_, fun s h3 ha hn => ?_, fun s site hr ha hp hs => ?_,
    fun s site h4 hp hq hquiet hs => ?_, fun s site h4 hc hp he => ?_, fun s site fails h4 he ht => ?_, fun s site h4 hr hw hc hq => ?_, fun s hr hd hp h7 => ?_,
    fun s hr hd hp h7 => ?_⟩
  · change execPassBegin site s = _
    exact if_neg (by simp [-List.contains_eq_mem, h2, hp, hb])
  · change execSweepStart site s = _
    have hgo : ¬ (s.get HUB_PASS.STATE ≠ 3 ∨ s.pass.aborting = true ∨ s.passSweeps ≤ s.get HUB_PASS.SWEEP ∨ ¬ s.waiters.contains site = true ∨
        s.pass.started.contains site = true) := by simp [-List.contains_eq_mem, h3, ha, hn, hw, hs]
    simp only [execSweepStart, if_neg hgo, hne, Bool.false_and, Bool.false_eq_true, if_false]
  · change execSweepDone site s = _
    exact if_neg (by simp [-List.contains_eq_mem, h3, ha, hs, hr, hover])
  · change execPassEnd s = _
    rw [execPassEnd, if_pos ⟨h3, by simp [ha], hn⟩]
  · change execPassAbort site s = _
    exact if_neg (by simp [-List.contains_eq_mem, hr, ha, hp, hs])
  · change execQuiet site s = _
    exact if_neg (by simpa [-List.contains_eq_mem, h4, hp, hq, hquiet] using hs)
  · change execClear site s = _
    exact if_neg (by simp [-List.contains_eq_mem, h4, hc, hp, he])
  · change execEmpty site fails s = _
    exact if_neg (by simp [-List.contains_eq_mem, h4, he, ht])
  · change execDrainStuckTimeout site s = _
    exact if_neg (by simp [-List.contains_eq_mem, h4, hr, hw, hc, hq])
  · change execUpdraftDecision s = _
    rw [execUpdraftDecision, if_neg (by simp [hr, hd, hp])]
    exact if_pos h7
  · change execUpdraftDecision s = _
    rw [execUpdraftDecision, if_neg (by simp [hr, hd, hp])]
    exact if_neg h7

/-! ## Descriptor lists and engines (R192, R194, R198, R200, R201, R205) -/

/-- Settles O11: the die holds the descriptor that the command names, and what the rule asks of it is met. -/
theorem descriptorCommandsComplete : Obligations.DescriptorCommandsComplete := by
  refine ⟨fun s site c value l ho hne hok hl => ?_, fun s site d x hx hmay => ?_, fun s site d x hx hmay => ?_, fun s site d x hx hdone hs => ?_,
    fun s site d x ecc hx hs hh => ⟨fun hk => ?_, fun hk => ?_⟩, fun s site ch h => ?_, fun s site hr hs hh => ?_⟩
  · change execDescriptorListAdmit (.core site c) site value s = _
    rw [execDescriptorListAdmit, atSite_of_siteOpen ho]
    simp only [ne_eq, not_true, hne, hok, hl, Bool.not_true, Bool.false_eq_true, if_false]
  · change execDescriptorSourceStart site d s = _
    simp only [execDescriptorSourceStart, hx, hmay, if_true]
  · change execDescriptorSinkStart site d s = _
    simp only [execDescriptorSinkStart, hx, hmay, if_true]
  · change execDescriptorSinkComplete site d s = _
    simp only [execDescriptorSinkComplete, hx, hdone, hs, Bool.not_false, Bool.and_self, if_true]
  · change execEngineRun site d true ecc s = _
    simp only [execEngineRun, hx, hs, hh, hk, Bool.false_and, Bool.or_self, Bool.false_eq_true, if_false, if_true]
  · change execEngineRun site d false ecc s = _
    simp only [execEngineRun, hx, hs, hh, hk, Bool.false_and, Bool.or_self, Bool.false_eq_true, if_false, if_true]
  · change execDscMissTimeout site ch s = _
    rw [execDscMissTimeout, if_pos h]
  · change execDscStall site s = _
    rw [execDscStall, if_pos (by simp [hr, hs, hh])]

end Sys2Proof.Machine
end

section
/-! The buffer handle table (R209 to R211): the words of an entry, what BAD and WHY show of it, and when a write to it is accepted. -/

namespace Sys2Proof.Machine

open Sys2Proof

/-! ## The words of an entry (R209) -/

/-- The words of one entry stand at addresses of their own. -/
theorem bhtEntry_ne {j k : Nat} (h : j ≠ k) (site i : Nat) : BHT_ENTRY.REG site i j ≠ BHT_ENTRY.REG site i k := by
  simp only [BHT_ENTRY.REG]; omega

/-- A field of a word is the same bits of its number. -/
theorem bits_toNat (w : Word) (hi lo : Nat) : bits w.toNat hi lo = fieldOf w hi lo := by
  rw [fieldOf, bits, BitVec.extractLsb'_toNat]

/-- The low 60 bits of a number stay where it becomes a word. -/
theorem fieldOf_word_bits (n : Nat) : fieldOf (word (bits n 59 0)) 59 0 = bits n 59 0 := by
  have h : bits n 59 0 < 2 ^ 60 := Nat.mod_lt _ (by decide)
  rw [← bits_toNat, word, BitVec.toNat_ofNat, Nat.mod_eq_of_lt (by omega), bits, Nat.shiftRight_zero, Nat.mod_eq_of_lt h]

/-! ## BAD and WHY (R210) -/

theorem ite_lt {c : Prop} [Decidable c] {m n k : Nat} (hm : m < k) (hn : n < k) : (if c then m else n) < k := by
  split
  · exact hm
  · exact hn

/-- WHY has three bits. -/
theorem handleWhy_lt_8 (w0 w1 w2 w3 : Nat) : handleWhy w0 w1 w2 w3 < 8 := by
  unfold handleWhy
  extract_lets h off site ioff
  repeat' apply ite_lt
  all_goals decide

/-- The first rule of R210 that an entry breaks, from the words in its registers: 0 where it breaks none. -/
def State.entryWhy (s : State) (site h : Nat) : Nat :=
  handleWhy (s.reg (BHT_ENTRY.REG site h 0)).toNat (s.reg (BHT_ENTRY.REG site h 1)).toNat (s.reg (BHT_ENTRY.REG site h 2)).toNat
    (bits (s.reg (BHT_ENTRY.REG site h 3)).toNat 59 0)

section
variable (s : State) (site h : Nat)

/-- Judging an entry changes no register but the entry's word 3. -/
theorem reg_handleJudge_other {a : Nat} (ha : a ≠ BHT_ENTRY.REG site h 3) : (s.handleJudge site h).reg a = s.reg a := reg_setReg_other _ _ ha

theorem reg_handleJudge_word3 : (s.handleJudge site h).reg (BHT_ENTRY.REG site h 3) =
    withField (withField (word (bits (s.reg (BHT_ENTRY.REG site h 3)).toNat 59 0)) 63 63 (b2n (s.entryWhy site h != 0))) 62 60 (s.entryWhy site h) :=
  reg_setReg_same _ _ _

/-- Judging an entry leaves the fields of its word 3 as they were. -/
theorem fields_handleJudge : bits ((s.handleJudge site h).reg (BHT_ENTRY.REG site h 3)).toNat 59 0 = bits (s.reg (BHT_ENTRY.REG site h 3)).toNat 59 0 := by
  rw [bits_toNat, reg_handleJudge_word3, fieldOf_withField_other _ _ (by decide) (by decide), fieldOf_withField_other _ _ (by decide) (by decide), fieldOf_word_bits]

/-- The rule that an entry breaks is the same after it is judged: BAD and WHY are no part of it. -/
theorem entryWhy_handleJudge : (s.handleJudge site h).entryWhy site h = s.entryWhy site h := by
  rw [State.entryWhy, fields_handleJudge, reg_handleJudge_other _ _ _ (bhtEntry_ne (by decide) _ _), reg_handleJudge_other _ _ _ (bhtEntry_ne (by decide) _ _),
    reg_handleJudge_other _ _ _ (bhtEntry_ne (by decide) _ _), State.entryWhy]

/-- WHY shows the first rule that the entry breaks. -/
theorem why_handleJudge : bits ((s.handleJudge site h).reg (BHT_ENTRY.REG site h 3)).toNat 62 60 = s.entryWhy site h := by
  rw [bits_toNat, reg_handleJudge_word3, fieldOf_withField_same _ _ (by decide)]
  exact Nat.mod_eq_of_lt (handleWhy_lt_8 ..)

/-- BAD shows whether the entry breaks a rule. -/
theorem bad_handleJudge : bit ((s.handleJudge site h).reg (BHT_ENTRY.REG site h 3)).toNat 63 = true ↔ s.entryWhy site h ≠ 0 := by
  rw [bit, BitVec.testBit_toNat, reg_handleJudge_word3, getLsbD_withField, getLsbD_withField]
  by_cases hw : s.entryWhy site h = 0 <;> simp [hw, b2n]

end

/-! ## Writes of an entry (R211) -/

theorem betweenPasses_iff (s : State) : s.betweenPasses = true ↔ s.get HUB_PASS.STATE = 0 ∨ s.get HUB_PASS.STATE = 1 ∨ s.get HUB_PASS.STATE = 6 := by
  simp only [State.betweenPasses, Bool.or_eq_true, beq_iff_eq, or_assoc]

section
variable {s : State} {who : Requester} {site h k : Nat} (ho : s.siteOpen who (BHT_ENTRY.REG site h k) site = true)
include ho

theorem exec_bhtWrite_refused (hb : s.betweenPasses = false) (value : Nat) :
    exec (.bhtWrite who site h k value) s = .next (s.raiseGelat 0x0314 site 0 false [h]) := by
  change execBhtWrite who site h k value s = _
  exact (atSite_of_siteOpen ho _).trans (if_pos (by rw [hb, Bool.not_false]))

/-- An accepted write stores its word, BAD and WHY left out, and judges the entry: what it keeps besides for a spare (R541) is no register. -/
theorem exec_bhtWrite_accepted (hb : s.betweenPasses = true) (value : Nat) :
    ∃ t : State, exec (.bhtWrite who site h k value) s = .next (t.handleJudge site h) ∧
      ∀ a, t.reg a = (s.setReg (BHT_ENTRY.REG site h k) (word (if k = 3 then bits value 59 0 else value))).reg a := by
  refine ⟨_, (atSite_of_siteOpen ho _).trans (if_neg (by simp [hb])), fun a => ?_⟩
  cases who <;> rfl

end

/-- Settles O42: an accepted write is a write of one word (exec_bhtWrite_accepted) and a judgement of the entry, which changes BAD and WHY alone. -/
theorem handleTableWritesWaitForABoundary : Obligations.HandleTableWritesWaitForABoundary := by
  refine ⟨betweenPasses_iff, fun s who site h k value ho hb => exec_bhtWrite_refused ho hb value, fun s who site h k value _ hk ho hb => ?_⟩
  obtain ⟨t, ht, hreg⟩ := exec_bhtWrite_accepted ho hb value
  refine ⟨_, ht, fun j hj => ?_, ?_, fun a ha => ?_⟩
  · rw [reg_handleJudge_other _ _ _ (bhtEntry_ne (by omega) _ _), hreg]
    by_cases hjk : j = k
    · subst hjk
      rw [reg_setReg_same, if_neg (by omega), if_pos rfl]
    · rw [reg_setReg_other _ _ (bhtEntry_ne hjk _ _), if_neg hjk]
  · have hwhy := entryWhy_handleJudge t site h
    exact ⟨(why_handleJudge t site h).trans hwhy.symm, (bad_handleJudge t site h).trans (by rw [← hwhy]; rfl)⟩
  · rw [reg_handleJudge_other _ _ _ (ha 3 (by decide)), hreg, reg_setReg_other _ _ (ha k hk)]

end Sys2Proof.Machine
end

section
/-! The Gelat stores, HBM and the remote window table (R223 to R241, R513): each command of Machine/Stores.lean where its own effect takes place. -/

namespace Sys2Proof.Machine

open Sys2Proof

/-! ## The Gelat's write port, scrubber and repair engine (R211, R223 to R230, R513) -/

/-- Settles O12: the die is up, the register answers (atSite_of_siteOpen) or the exit scrub runs, and a core's write of a handle leaves no shadow. -/
theorem gelatCommandsComplete : Obligations.GelatCommandsComplete := by
  refine ⟨fun s site writes => rfl, fun s site w a hup hen => ?_, fun s who site bytes half ho => ?_, fun s who site ho hheld => ?_,
    fun s site found fails hscrub => ?_, fun s site hup => ?_, fun s c site h k value ho hb => ?_,
    fun s who site h k value ho hb => exec_bhtWrite_refused ho hb value⟩
  · change execScrubRead site w a s = _
    rw [execScrubRead, if_neg (by simp [hup, hen])]
  · exact readAtSite_of_siteOpen ho ..
  · change execGltRepairRetry who site s = _
    rw [execGltRepairRetry, atSite_of_siteOpen ho]
    simp only [hheld, List.foldl_nil]
  · exact if_pos hscrub
  · exact if_pos hup
  · change execBhtWrite (.core site c) site h k value s = _
    exact (atSite_of_siteOpen ho _).trans (if_neg (by simp [hb]))

/-! ## HBM and the remote window table (R232, R234, R235, R241) -/

/-- A synchronisation ends where no request that was translated is open with a stale entry (R241). -/
theorem execRwtSyncDone_of_no_stale_request {s : State} (hsync : s.flag HUB_RWT_SYNC.SYNC = true)
    (hfresh : ∀ r ∈ s.requests, ∀ e, r.rwt = some e → s.rwtStale.contains e = false) :
    execRwtSyncDone s = .next (({ s with rwtStale := [] } : State).put HUB_RWT_SYNC.SYNC 0) := by
  refine if_pos ?_
  rw [hsync, Bool.true_and, Bool.not_eq_true', List.any_eq_false]
  intro r hr
  cases he : r.rwt with
  | none => exact Bool.false_ne_true
  | some e => exact Bool.eq_false_iff.mp (hfresh r hr e he)

/-- Settles O13: the patrol stands inside the locked range, and the other commands run down the branch that the clause's hypotheses choose. -/
theorem hbmAndRelocationCommandsComplete : Obligations.HbmAndRelocationCommandsComplete := by
  refine ⟨fun s stack h1 hs => ?_, fun s stack e hs hlock hup => ?_, fun s who stack value ho hb => ?_, fun s node tag site h o r x hr hv hx hk hup => ?_,
    fun s who e value ho => atHub_of_hubOpen ho .., fun s who value ho hb => ?_, fun s hsync hfresh => execRwtSyncDone_of_no_stale_request hsync hfresh⟩
  · have htrains : ¬ (s.get (hbmStateLoc stack) ≠ 1 ∨ 32 ≤ stack) := by simp [h1, hs]
    exact ⟨if_neg htrains, if_neg htrains, if_neg htrains⟩
  · intro lo hi hlo hhi
    have hreads : ¬ (32 ≤ stack ∨ ¬ s.goldenLocked stack = true ∨ ¬ s.hbmUp stack = true ∨ hi ≤ lo) := by
      simp only [hlock, hup, not_true, false_or]; omega
    have hin : ¬ ((s.hbm stack).patrol < lo ∨ hi ≤ (s.hbm stack).patrol) := by omega
    have hend : ¬ ((s.hbm stack).patrol + 64 ≥ hi) := by omega
    change execGoldenPatrolRead stack e s = _
    unfold execGoldenPatrolRead
    extract_lets x at_ t u
    have hat : at_ = (s.hbm stack).patrol := if_neg hin
    rw [if_neg hreads, hat, if_neg hend]
    simp only [u, t, hat, if_neg hend, x]
  · change execDpdGoldWrite who stack value s = _
    rw [execDpdGoldWrite, atHub_of_hubOpen ho, if_neg (by simp [hb])]
  · change execGatherBlockRead node tag .clean .clean s = _
    simp only [execGatherBlockRead, hr, hv, hx, hk, hup, ne_eq, not_true, Bool.false_eq_true, false_and, if_false, if_true]
  · change execHubRwtSync who value s = _
    rw [execHubRwtSync, atHub_of_hubOpen ho, if_pos hb]

end Sys2Proof.Machine
end

section
/-! Mesh routers, their links and their tables (R259 to R287, R167): each command of Machine/Mesh.lean where its own effect takes place. -/

namespace Sys2Proof.Machine

open Sys2Proof

/-! ## A head flit at a stack's router (R259, R266) -/

/-- The sites' numbers are below those of the ring dies. -/
theorem ringNode_of_site {n : Nat} (h : n < 169) : ringNode n = false := by
  simp only [ringNode, decide_eq_false h.not_ge, Bool.false_and]

/-- A packet with an uncorrectable flit is the link's to handle, at every node. -/
theorem execRouterHeadFlit_uncorrectable (s : State) (node port ce : Nat) (p : Packet) :
    execRouterHeadFlit node port p ce true s = .next ((s.linkCorrected node port ce).linkUncorrectable node port) := by
  rw [execRouterHeadFlit]
  exact if_pos rfl

section
variable {s : State} {node port ce : Nat} {p : Packet} (hn : node < 169) (h84 : node ≠ 84)
  (hv : (s.linkCorrected node port ce).packetInvalid node p = false) (ht : p.type ≠ 3)
include hn h84 hv ht

/-- A valid packet for the router's own node is delivered. -/
theorem execRouterHeadFlit_delivered (hd : p.dst = node) :
    execRouterHeadFlit node port p ce false s = .next ((s.linkCorrected node port ce).send (.deliver node p)) := by
  have hstack : ¬ (node = 84 ∨ ringNode node = true) := by simp [h84, ringNode_of_site hn]
  simp only [execRouterHeadFlit, hstack, hv, ht, hd, Bool.false_eq_true, if_false, if_true]

/-- A valid packet for another node that is not fenced leaves by the port that its route chooses. -/
theorem execRouterHeadFlit_forwarded {o : Nat} (hd : p.dst ≠ node) (hf : (s.linkCorrected node port ce).fenced p.dst = false)
    (ho : (s.linkCorrected node port ce).choosePort node p.dst = some o) :
    execRouterHeadFlit node port p ce false s = .next ((s.linkCorrected node port ce).send
      (.forward node o { p with lane := if bit ((s.linkCorrected node port ce).route node p.dst) 14 then 1 else p.lane })) := by
  have hstack : ¬ (node = 84 ∨ ringNode node = true) := by simp [h84, ringNode_of_site hn]
  simp only [execRouterHeadFlit, hstack, hv, ht, hd, hf, ho, Bool.false_eq_true, if_false]

end

/-! ## A link that is lost, and one that trains (R273, R282) -/

section
variable {s : State} {site port : Nat}

/-- An UP link whose partner answers by another path has failed alone. -/
theorem execLinkLossDetect_answered (h3 : s.get (SIT_LINK.STATE site port) = 3) (hp : s.clock.pause = 0) :
    execLinkLossDetect site port true s = .next (((s.linkState site port 4).linkFail site port 0x051C).verifySoon) := by
  have hwatched : ¬ (s.get (SIT_LINK.STATE site port) ≠ 3 ∨ s.clock.pause ≠ 0) := by simp [h3, hp]
  rw [execLinkLossDetect, if_neg hwatched]
  exact if_pos rfl

/-- The partner of an UP link that does not answer is fenced, unless it is the hub. -/
theorem execLinkLossDetect_unanswered {n d : Nat} (h3 : s.get (SIT_LINK.STATE site port) = 3) (hp : s.clock.pause = 0)
    (hnb : neighbour site port = some (n, d)) (h84 : n ≠ 84) :
    execLinkLossDetect site port false s = .next (((s.linkState site port 4).fence n 0x0513).verifySoon) := by
  have hwatched : ¬ (s.get (SIT_LINK.STATE site port) ≠ 3 ∨ s.clock.pause ≠ 0) := by simp [h3, hp]
  simp only [execLinkLossDetect, hwatched, hnb, h84, Bool.false_eq_true, if_false]

/-- A token of round 1 whose width is the end's own brings the link up at that width. -/
theorem execWidthToken_agreed {good spares token : Nat} (hst : s.get (SIT_LINK.STATE site port) = 1 ∨ s.get (SIT_LINK.STATE site port) = 2)
    (hok : (decodeToken token).ok = true) (hw : widthOf (popCount 8 good) ≠ 0) (hr : (lookD {} s.links (linkKey site port)).round = 1)
    (heq : (decodeToken token).width = widthOf (popCount 8 good)) :
    execWidthToken site port good spares token s = .next (((s.put (SIT_LINK.STATE site port) 2).put (SIT_LINK.SPARES site port) spares).linkUp
      site port good (widthOf (popCount 8 good)) (decodeToken token).mask) := by
  have htrains : ¬ ((s.get (SIT_LINK.STATE site port) ≠ 1 ∧ s.get (SIT_LINK.STATE site port) ≠ 2) ∨ ¬ (decodeToken token).ok = true) :=
    fun h => h.elim (fun hn => hst.elim hn.1 hn.2) (fun hn => hn hok)
  have hround : (lookD {} ((s.put (SIT_LINK.STATE site port) 2).put (SIT_LINK.SPARES site port) spares).links (linkKey site port)).round = 1 := hr
  simp only [execWidthToken, if_neg htrains, if_neg hw, if_pos hround, if_pos heq]

end

/-! ## The route, multicast and tree tables (R263, R276, R277) -/

section
variable {s : State} {who : Requester} {site i value : Nat} {mcast : Bool}

/-- A route or multicast write to a site's router that answers, away from a boundary. -/
theorem execRouteTableWrite_refused (hne : site ≠ 84)
    (ho : s.siteOpen who (if mcast then SIT_MCAST.REG site i else SIT_RTE.REG site i) site = true) (hb : s.betweenPasses = false) :
    execRouteTableWrite who site i value mcast s = .next (s.tableRefused site) := by
  rw [execRouteTableWrite, if_neg hne, atSite_of_siteOpen ho, hb]
  exact if_pos rfl

/-- The same write at a boundary: the entry of the table that is named is stored, and of a multicast entry only its fields. -/
theorem execRouteTableWrite_accepted (hne : site ≠ 84)
    (ho : s.siteOpen who (if mcast then SIT_MCAST.REG site i else SIT_RTE.REG site i) site = true) (hb : s.betweenPasses = true) :
    execRouteTableWrite who site i value mcast s = .next (
      if mcast then s.setReg (SIT_MCAST.REG site i) (withField (withField 0 15 8 (bits value 15 8)) 4 0 (bits value 4 0))
      else s.setReg (SIT_RTE.REG site i) (word value)) := by
  rw [execRouteTableWrite, if_neg hne, atSite_of_siteOpen ho, hb, if_neg hne]
  cases mcast <;> rfl

/-- A write of the hub's own routes: stored at a boundary, refused at any other time. -/
theorem execRouteTableWrite_hub (ho : s.hubOpen = true) :
    execRouteTableWrite who 84 i value false s =
      .next (if s.betweenPasses then s.setReg (MSH_HRTE.REG i) (word value) else s.tableRefused 84) := by
  rw [execRouteTableWrite, if_pos rfl, atHub_of_hubOpen ho]
  cases s.betweenPasses <;> rfl

/-- A write of a tree entry: stored at a boundary, where BAD of every entry of the router is judged again, refused at any other time. -/
theorem execTreeEntryWrite_of_siteOpen {t : Nat} (ho : s.siteOpen who (SIT_TREE_W0.REG site t) site = true) :
    execTreeEntryWrite who site t value s = .next (
      if s.betweenPasses then (s.setReg (SIT_TREE_W0.REG site t) (withField (word value) 27 27 0)).treeBad site else s.tableRefused site) := by
  rw [execTreeEntryWrite, atSite_of_siteOpen ho]
  cases s.betweenPasses <;> rfl

section
variable (ho : s.siteOpen who (SIT_RED_DRAIN.REG site) site = true)
include ho

/-- SIT_RED_DRAIN belongs to the firmware of its site (R167), whatever the pass does. -/
theorem execRedDrainWrite_owned (hf : s.fwOwned who site = true) : execRedDrainWrite who site value s = .next (s.fwRefused site) :=
  atSite_of_fwOwned ho hf _

theorem execRedDrainWrite_refused (hf : s.fwOwned who site = false) (hb : s.betweenPasses = false) :
    execRedDrainWrite who site value s = .next (s.tableRefused site) := by
  rw [execRedDrainWrite, atSite_of_siteOpen ho, hf, hb]
  rfl

/-- A drain without a second tree (EN_S 0) names no tree twice, so at a boundary its fields are stored. -/
theorem execRedDrainWrite_accepted (hf : s.fwOwned who site = false) (hb : s.betweenPasses = true) (hs : bit value 15 = false) :
    execRedDrainWrite who site value s = .next (s.setReg (SIT_RED_DRAIN.REG site)
      (withField (withField (withField (withField 0 15 15 (bits value 15 15)) 13 8 (bits value 13 8)) 7 7 (bits value 7 7)) 5 0 (bits value 5 0))) := by
  rw [execRedDrainWrite, atSite_of_siteOpen ho, hf, hb, hs]
  rfl

end
end

/-- The host is one whose writes a site's firmware refuses: it owns the registers from READY on, and not in Doldrums (R167). -/
theorem fwOwned_host_iff (s : State) (node : Nat) :
    s.fwOwned .host node = true ↔ s.get (CCO_STATUS.STATE node 0) = 2 ∧ s.doldrums = false := by
  simp only [State.fwOwned, Bool.and_true, Bool.and_eq_true, beq_iff_eq, Bool.not_eq_true']

/-! ## The obligations -/

/-- Settles O14: the lemmas above for flits, links and tables; the other commands meet their one condition. -/
theorem meshRouterCommandsComplete : Obligations.MeshRouterCommandsComplete := by
  refine ⟨fun s node port ce p hn h84 hv ht hd => execRouterHeadFlit_delivered hn h84 hv ht hd,
    fun s node port ce o p hn h84 hv ht hd hf ho => execRouterHeadFlit_forwarded hn h84 hv ht hd hf ho,
    execRouterHeadFlit_uncorrectable, fun s node port channel lane hn h84 => ?_, fun s site t seq hheld => if_pos hheld,
    fun s site port h3 hp => execLinkLossDetect_answered h3 hp, fun s site port n d h3 hp hnb h84 => execLinkLossDetect_unanswered h3 hp hnb h84,
    fun s who value ho hb => (atHub_of_hubOpen ho ..).trans (if_pos hb),
    fun s site port good spares token hst hok hw hr heq => execWidthToken_agreed hst hok hw hr heq, fun s site port hst => if_pos hst,
    fun s who site i value hne ho hb => execRouteTableWrite_accepted (mcast := false) hne ho hb, fun s who i value ho hb => ?_,
    fun s who site t value ho hb => ?_, fun s who site value ho hf hb hs => execRedDrainWrite_accepted ho hf hb hs,
    fun s who bytes half ho => readAtHub_of_hubOpen ho ..⟩
  · change execMshDeadlock node port channel lane s = _
    rw [execMshDeadlock, if_pos ⟨hn, h84⟩]
  · exact (execRouteTableWrite_hub ho).trans (by rw [if_pos hb])
  · exact (execTreeEntryWrite_of_siteOpen ho).trans (by rw [if_pos hb])

/-- Settles O43: a table that answers is refused away from a boundary, and the firmware's claim on SIT_RED_DRAIN comes before that. -/
theorem routingTablesWaitForABoundary : Obligations.RoutingTablesWaitForABoundary := by
  refine ⟨fun s who site i value hne ho hb => execRouteTableWrite_refused (mcast := false) hne ho hb, fun s who i value ho hb => ?_,
    fun s who site i value hne ho hb => execRouteTableWrite_refused (mcast := true) hne ho hb, fun s who site t value ho hb => ?_,
    fun s who site value ho hf hb => execRedDrainWrite_refused ho hf hb, fun s who site value ho hf => execRedDrainWrite_owned ho hf,
    fun s site i value ho hne hb => execRouteTableWrite_accepted (mcast := true) hne ho hb, fun s node => ⟨rfl, fwOwned_host_iff s node⟩⟩
  · exact (execRouteTableWrite_hub ho).trans (by simp only [hb, Bool.false_eq_true, if_false])
  · exact (execTreeEntryWrite_of_siteOpen ho).trans (by simp only [hb, Bool.false_eq_true, if_false])

end Sys2Proof.Machine
end

section
/-! The Sundog (R293, R301, R304, R305, R309, R316, R319): each command of Machine/Sundog.lean where its own effect takes place, and the Mackerel digest as a sum. -/

namespace Sys2Proof.Machine

open Sys2Proof

/-! ## A tile that is compared (R293, R295) -/

/-- A closed tile whose parity held, with an entry left to check, is judged by its two checksums; where they agree, it leaves the replay bank
that it waits in, if any. -/
theorem execTileCompare_of_checked {s : State} {site a : Nat} {t : Tile} {ts : List Tile}
    (ht : (s.array site a).tiles = t :: ts) (hclosed : t.closed = true) (hparity : t.parity = false) (hmarks : popCount 256 t.marks ≠ t.entries)
    (hactive : (s.setArray site a { s.array site a with tiles := ts }).flag SDG_STATUS.CHECK_ACTIVE = true) :
    execTileCompare site a s = .next (if t.o = t.c then
        t.replay.elim id (fun b u => u.releaseBank site (arrayRow a) b true)
          ((s.setArray site a { s.array site a with tiles := ts }).addSat (MXA_CHK.TILES site a) 1)
      else (s.setArray site a { s.array site a with tiles := ts }).openVote site a t) := by
  simp only [execTileCompare, ht, hclosed, hparity, hactive, hmarks, Bool.not_true, Bool.false_eq_true, if_false]
  split
  · cases t.replay <;> rfl
  · rfl

/-! ## The end of a vote (R304, R305) -/

section
variable {s : State} {site : Nat} {v : Vote} {vs : List Vote}

/-- The running vote is decided once the original, the re-run and the partner have each given their result. -/
theorem execVoteDecide_of_results {rr cp : Nat} (hv : s.siteVotes site = v :: vs) (hrr : v.rr = some rr) (hcp : s.cPrime site = some cp) :
    execVoteDecide site s = .next ((s.voteEffect site v (voteOutcome v.tile.o rr cp)).beginVote site) := by
  simp only [execVoteDecide, hv, hrr, hcp]

theorem execVoteTimeout_of_running (hv : s.siteVotes site = v :: vs) :
    execVoteTimeout site s = .next ((((s.sdgCode 0x0407).endVote site v 6 0x0407 s.abortBit false).abortPass 0x0407 site).beginVote site) := by
  simp only [execVoteTimeout, hv]

end

/-! ## The Mackerel digest (R309) -/

/-- Only the residue of the current power counts. -/
theorem digestSum_mod (r rp : Nat) (vs : List Acc) : digestSum r (rp % prime61) vs = digestSum r rp vs := by
  cases vs with
  | nil => rfl
  | cons v vs => simp only [digestSum, mulRes, Nat.mul_mod_mod, Nat.mod_mul_mod]

/-- Each value meets the power that its place asks for, counted from the power at the head of the list. -/
theorem digestSum_eq_sum (r : Nat) : ∀ (vs : List Acc) (rp : Nat),
    digestSum r rp vs = ((List.range vs.length).map (fun i => modPrime (nth 0 vs i).toInt * (rp * r ^ i))).sum % prime61
  | [], _ => rfl
  | v :: vs, rp => by
    have hrest : digestSum r (mulRes rp r) vs =
        ((List.range vs.length).map (fun i => modPrime (nth 0 vs i).toInt * (rp * r ^ (i + 1)))).sum % prime61 := by
      rw [mulRes, digestSum_mod, digestSum_eq_sum r vs]
      simp only [pow_succ', mul_assoc]
    rw [digestSum, hrest, addRes, mulRes, ← Nat.add_mod, List.length_cons, List.range_succ_eq_map, List.map_cons, List.map_map, List.sum_cons,
      pow_zero, mul_one]
    rfl

theorem digestSum_lt (r rp : Nat) (vs : List Acc) : digestSum r rp vs < prime61 := by
  rw [digestSum_eq_sum]
  exact Nat.mod_lt _ (by decide)

/-! ## The obligations -/

/-- Settles O18: the votes and the tile meet the lemmas above, and the registers answer (readAtHub_of_hubOpen, atDawn_of_hubRuns). -/
theorem sundogCommandsComplete : Obligations.SundogCommandsComplete := by
  refine ⟨fun s site a t ts ht hclosed hparity hmarks heq hreplay hactive => ?_, fun s site a t ts ht hclosed hparity hmarks hne hactive => ?_,
    fun s site h hh hvalid hup => ?_, fun s site cp v vs rr hv hrr hcp => execVoteDecide_of_results hv hrr hcp,
    fun s site v vs hv => execVoteTimeout_of_running hv, fun s who bytes half ho => readAtHub_of_hubOpen ho .., fun s who value r hrun hhit => ?_⟩
  · refine (execTileCompare_of_checked ht hclosed hparity hmarks hactive).trans ?_
    rw [if_pos heq, hreplay]
    rfl
  · refine (execTileCompare_of_checked ht hclosed hparity hmarks hactive).trans ?_
    rw [if_neg hne]
  · change execVoteCprimeDone site s = _
    simp only [execVoteCprimeDone, ← hh, hvalid, hup, Bool.not_true, Bool.or_self, Bool.false_eq_true, if_false]
  · change execBarRdSeqWrite who value s = _
    simp only [execBarRdSeqWrite, atDawn_of_hubRuns hrun, setReg_baro, hhit, Option.getD_some, Option.isSome_some, b2n, if_true]

/-- Settles O56: digestSum_eq_sum, begun at the first power of the base. -/
theorem theMackerelDigestIsItsSum : Obligations.TheMackerelDigestIsItsSum := by
  refine ⟨fun s t x hlen => ?_, fun s t x => digestSum_lt _ _ _⟩
  intro p r0 r
  change digestSum r r x.vals = _
  rw [digestSum_eq_sum, hlen]
  simp only [pow_succ']
  rfl

end Sys2Proof.Machine
end

section
/-! The Gale links (R323 to R332): each command of Machine/Gale.lean where its own effect takes place. -/

namespace Sys2Proof.Machine

open Sys2Proof

/-- Enabling a disabled link, with no RETRAIN, stores the fields and starts the link. -/
theorem execLinkEnable_starts {s : State} {l value : Nat} (who : Requester) (ho : s.hubOpen) (hen : bit value 0 = true) (hre : bit value 1 = false) :
    let t := (s.put (GAL_LCTRL.REPLAY_TO l) (Nat.max 1 (bits value 63 48))).put (GAL_LCTRL.FEC_LIMIT l) (Nat.max 1 (bits value 47 32))
    let u := (((t.setLink l (t.link l)).put (GAL_LCTRL.LOOPBACK_OK l) (bits value 3 3)).put (GAL_LCTRL.FALLBACK_EN l) (bits value 2 2)).put
      (GAL_LCTRL.EN l) (bits value 0 0)
    u.linkSt l = 0 → execLinkEnable who l value s = .next (u.linkStart l) := by
  intro t u h0
  rw [execLinkEnable, atHub_of_hubOpen ho]
  simp only [hen, hre, Bool.false_eq_true, if_false, if_true]
  exact congrArg _ (if_pos h0)

section
variable {s : State} {l : Nat} {f : ParamFlit} (h5 : s.linkSt l = 5)
include h5

theorem execParam_accepted (hok : s.paramOk l f = true) :
    execParam l f true s = .next (((s.put (GAL_LSTATUS.PEER_PANEL l) f.panel).put (GAL_LSTATUS.PEER_LINK l) f.link).linkReady l f) := by
  rw [execParam, if_neg (not_not_intro h5), hok]
  rfl

theorem execParam_refused (peer : Bool) (hbad : s.paramOk l f = false) : execParam l f peer s = .next ((s.raiseLink l 0x0606).linkFailed l) := by
  rw [execParam, if_neg (not_not_intro h5), hbad]
  rfl

end

section
variable {s : State} {l : Nat} {bytes : List Nat} (h6 : s.linkSt l = 6)
include h6

/-- A flit that carries no data and no NAK acknowledges, gives credit and lets waiting flits leave. -/
theorem execGaleDataFlit_null (hcrc : ofLe ((bytes.drop 252).take 4) = crc32 crcEthernet (bytes.take 252)) (hnak : bit (ofLe (bytes.take 8)) 37 = false)
    (hnull : bits (ofLe (bytes.take 8)) 63 62 ≠ 1) :
    let h := ofLe (bytes.take 8)
    let r := ((s.setLink l { s.link l with crcRun := 0 }).flitAck l (bits h 49 38)).flitCredit l [bits h 24 17, bits h 16 9, bits h 8 1]
    r.2 = true → execGaleDataFlit l bytes s = .next ((r.1.setLink l { r.1.link l with peerNak := false }).pump l) := by
  intro h r hcredit
  rw [execGaleDataFlit, if_neg (not_not_intro h6), if_neg (not_not_intro hcrc)]
  refine (if_neg (by rw [hcredit]; decide)).trans ?_
  simp only [hnak, Bool.false_and, Bool.false_eq_true, if_false]
  exact if_pos (Or.inl hnull)

/-- A flit with a bad CRC, short of the fourth in a row, is counted and discarded. -/
theorem execGaleDataFlit_badCrc (hcrc : ofLe ((bytes.drop 252).take 4) ≠ crc32 crcEthernet (bytes.take 252)) :
    let t := (s.addSat (GAL_LLERR.CRC l) 1).flitDiscard l
    (t.link l).crcRun < 3 → execGaleDataFlit l bytes s = .next (t.setLink l { t.link l with crcRun := (t.link l).crcRun + 1 }) := by
  intro t hrun
  have hfew : ¬ (t.link l).crcRun + 1 ≥ 4 := by omega
  rw [execGaleDataFlit, if_neg (not_not_intro h6), if_pos hcrc]
  exact congrArg _ (if_neg hfew)

end

/-- More uncorrectable codewords than the limit, but not sixteen times as many, raise 0x0605 and leave the link UP. -/
theorem execGaleFecSecond_raises (s : State) (l corrected uncorrectable : Nat) :
    let t := (s.addSat (GAL_FEC.CORRECTED l) corrected).addSat (GAL_FEC.UNCORR l) uncorrectable
    t.linkSt l = 6 → t.get (GAL_LCTRL.FEC_LIMIT l) < uncorrectable → uncorrectable ≤ 16 * t.get (GAL_LCTRL.FEC_LIMIT l) →
    execGaleFecSecond l corrected uncorrectable s = .next (t.raiseLink l 0x0605) := by
  intro t h6 hlo hhi
  exact (if_neg (not_not_intro h6)).trans ((if_neg hhi.not_gt).trans (congrArg _ (if_pos hlo)))

/-- Settles O19: the link is in the state that its rule names, and the lemmas above choose the branch of the others. -/
theorem galeLinkCommandsComplete : Obligations.GaleLinkCommandsComplete := by
  refine ⟨fun s who l value ho hen hre => execLinkEnable_starts who ho hen hre, fun s who l ho => atHub_of_hubOpen ho .., fun s l h2 => congrArg _ (if_pos h2),
    fun s l h3 => congrArg _ (if_pos h3), fun s l h4 => congrArg _ (if_pos h4), fun s l f h5 hok => execParam_accepted h5 hok,
    fun s l f peer h5 hbad => execParam_refused h5 peer hbad, fun s l hlo hhi => congrArg _ (if_pos ⟨hlo, hhi⟩), fun s l h7 => congrArg _ (if_pos h7),
    fun s l signal am => rfl, fun s l h bytes hh h6 hcrc hnak hnull => ?_, fun s l bytes h6 hcrc => execGaleDataFlit_badCrc h6 hcrc,
    fun s l h6 hheld => congrArg _ (if_pos ⟨h6, by simp [hheld]⟩), execGaleFecSecond_raises, fun s who value ho hrest => ?_⟩
  · subst hh
    exact execGaleDataFlit_null h6 hcrc hnak hnull
  · exact (atHub_of_hubOpen ho ..).trans (if_pos hrest)

end Sys2Proof.Machine
end

section
/-! The conduits (R333 to R350): each packet that arrives, and each command of the software and the timers, where its own effect takes place. -/

namespace Sys2Proof.Machine

open Sys2Proof

/-! ## Packets that arrive (R336, R337, R340, R341, R344, R348) -/

/-- A place that is found stands in the list. -/
theorem indexOf?_lt_length {α : Type} {p : α → Bool} : ∀ {l : List α} {i : Nat}, indexOf? p l = some i → i < l.length
  | x :: l, i, h => by
    rw [indexOf?] at h
    split at h
    · cases h
      exact Nat.zero_lt_succ _
    · obtain ⟨j, hj, rfl⟩ := Option.map_eq_some_iff.mp h
      exact Nat.succ_lt_succ (indexOf?_lt_length hj)

section
variable {s t : State} {l c : Nat} {p : GalePacket}

/-- An OK acknowledgement that names an unacknowledged packet ends every packet up to it and clears the count of timeouts. -/
theorem execAckMsg_ok {i : Nat} (hr : s.receive l { p with type := 3 } = (t, some c)) (h1 : t.cndState c ≠ 1) (hok : statusOf p.status = 0)
    (hi : indexOf? (fun (q : GalePacket) => q.psn == p.apsn) ((t.conduit c).txs p.stream).unacked = some i) :
    execAckMsg l p s = .next ((State.cndAdmit c p.stream 256 ((((t.conduit c).txs p.stream).unacked.take (i + 1)).foldl (fun s q => s.cndDone c q 0)
      (t.setConduit c ((t.conduit c).setTx p.stream
        { (t.conduit c).txs p.stream with unacked := ((t.conduit c).txs p.stream).unacked.drop (i + 1), timeouts := 0 })))).cndClosing c) := by
  have hsome : (((t.conduit c).txs p.stream).unacked.take (i + 1)).isEmpty = false := by
    have := indexOf?_lt_length hi
    rw [List.isEmpty_eq_false_iff, ← List.length_pos_iff, List.length_take]
    omega
  have herr : decide (0 ≥ 0x10) = false := rfl
  simp only [execAckMsg, hr, h1, hok, hi, herr, Option.map_some, Option.getD_some, Bool.false_and, Bool.not_false, List.filter_true, List.filter_false, hsome,
    Bool.true_or, if_true, if_false, List.foldl_nil]
  rfl

theorem execGetResp_ok {a : MeshAsk} (hr : s.takeNext l { p with type := 6 } = (t, some c)) (hok : statusOf p.status = 0) :
    let u := (t.accept c { p with type := 6 }).cndAckEvery c 1
    look (u.conduit c).gets p.ref = some a → p.data.length = a.bytes →
    let v := u.setConduit c { u.conduit c with gets := delKey (u.conduit c).gets p.ref }
    execGetResp l p s = .next (v.answerRead (edgeNode (cndEdge v c)) a p.data p.poison) := by
  intro u ha hlen v
  simp only [u, v] at ha ⊢
  simp only [execGetResp, hr, hok, ha, hlen, bne_self_eq_false, Bool.or_false, Bool.false_eq_true, if_false, if_true]

end

/-- Settles O20: the packet is taken by its conduit, whose state, window or receive ring decides. -/
theorem conduitPacketsComplete : Obligations.ConduitPacketsComplete := by
  refine ⟨fun s t l c p hr h1 => ?_, fun s t u l c p hr h1 hin => ?_, fun s t l c i p hr h1 hok hi => execAckMsg_ok hr h1 hok hi, fun s t l c p hr hw => ?_,
    fun s t l c p hr hw => ?_, fun s t l c p a hr hok => execGetResp_ok hr hok, fun s t l c tail p hr hlog htail hroom => ?_, fun s l p => ⟨rfl, rfl, rfl⟩⟩
  · change execOpenMsg l p s = _
    rw [execOpenMsg, hr]
    exact if_pos h1
  · change execCloseMsg l p s = _
    simp only [execCloseMsg, hr, h1, hin, Bool.not_true, Bool.false_eq_true, if_false]
  · change execPutMsg l p s = _
    simp only [execPutMsg, hr]
    exact if_neg (not_not_intro hw)
  · change execGetReq l p s = _
    simp only [execGetReq, hr]
    exact if_neg (not_not_intro hw)
  · subst htail
    change execSendMsg l p s = _
    simp only [execSendMsg, hr, hlog, hroom, if_false]

/-! ## Commands and timers (R333 to R338, R340, R343 to R345, R350) -/

/-- A conduit that is CLOSED or FAILED is free for a configuration. -/
theorem free_of_cndState {s : State} {c : Nat} (h : s.cndState c = 0 ∨ s.cndState c = 4) : (s.cndState c == 0 || s.cndState c == 4) = true := by
  simpa using h

/-- A resend timer of an open or closing conduit with a packet unacknowledged, and no RNR delay, ends the conduit at the limit and resends below it. -/
theorem execConduitRto_due {s : State} {c st : Nat} (hst : s.cndState c = 2 ∨ s.cndState c = 3) (hheld : ((s.conduit c).txs st).unacked.isEmpty = false)
    (hrnr : (s.conduit c).rnr = none) :
    execConduitRto c st s = .next (if ((s.conduit c).txs st).timeouts + 1 ≥ s.get GAL_TIMERS.RETRIES then s.cndEnd c 4
      else (s.setConduit c ((s.conduit c).setTx st
        { (s.conduit c).txs st with timeouts := ((s.conduit c).txs st).timeouts + 1 })).cndResend c st) := by
  have hdue : ¬ ((s.cndState c ≠ 2 ∧ s.cndState c ≠ 3) ∨ ((s.conduit c).txs st).unacked.isEmpty = true ∨ (s.conduit c).rnr.isSome = true) := by
    simp only [hheld, hrnr]
    rintro (⟨h2, h3⟩ | h | h)
    · exact hst.elim h2 h3
    · exact Bool.false_ne_true h
    · exact Bool.false_ne_true h
  rw [execConduitRto, if_neg hdue]
  split <;> rfl

/-- Each of the four configuration registers of a free conduit stores its fields, and a write of GAL_CND_CFG also acts on OPEN. -/
theorem execConduitCfgWrite_free {s : State} {c : Nat} (who : Requester) (value : Nat) (ho : s.hubOpen) (hfree : s.cndState c = 0 ∨ s.cndState c = 4) :
    execConduitCfgWrite who c 0 value s = .next ((((s.setConduit c (s.conduit c)).put (GAL_CND_CFG.OPEN c) (bits value 63 63)).setReg (GAL_CND_CFG.REG c)
        (withField (withField (withField (withField (withField 0 54 50 (bits value 54 50)) 49 46 (bits value 49 46)) 40 32 (bits value 40 32)) 31 16 (bits value 31 16))
          63 63 (bits value 63 63))).cndRequest c) ∧
    execConduitCfgWrite who c 1 value s = .next ((s.setConduit c (s.conduit c)).setReg (GAL_CND_WBASE.REG c)
        (withField (withField (withField 0 63 63 (bits value 63 63)) 62 62 (bits value 62 62)) 55 0 (bits value 55 0))) ∧
    execConduitCfgWrite who c 2 value s = .next ((s.setConduit c (s.conduit c)).put (GAL_CND_WSIZE.SIZE c) (bits value 43 0)) ∧
    execConduitCfgWrite who c 3 value s = .next ((s.setConduit c (s.conduit c)).put (GAL_CND_RXBASE.BASE c) (bits value 55 0)) := by
  have hf := free_of_cndState hfree
  refine ⟨?_, ?_, ?_, ?_⟩ <;>
    simp only [execConduitCfgWrite, atHub_of_hubOpen ho, hf, if_true]

theorem execConduitSendGo_starts {s : State} {c value : Nat} (who : Requester) (ho : s.hubOpen) (hgo : bit value 63 = true) :
    let t := s.put (GAL_CND_SCTL.LEN c) (bits value 11 0)
    t.flag (GAL_CND_SCTL.BUSY c) = false → 1 ≤ bits value 11 0 → bits value 11 0 ≤ 4080 → t.cndState c = 2 →
    ppaSpace (t.get (GAL_CND_SEND.SRC c)) ≤ 1 → t.memValid (t.get (GAL_CND_SEND.SRC c)) = true →
    t.memValid (t.get (GAL_CND_SEND.SRC c) + bits value 11 0 - 1) = true →
    let u := t.put (GAL_CND_SCTL.BUSY c) 1
    let w := u.edgeRead (cndEdge u c) (.conduit c (u.conduit c).nextKey) (t.get (GAL_CND_SEND.SRC c)) (bits value 11 0)
    execConduitSendGo who c value s = .next (w.1.cndOp c
      { key := (u.conduit c).nextKey, kind := 4, psn := 0, left := w.2, base := t.get (GAL_CND_SEND.SRC c), len := bits value 11 0 }) := by
  intro t hidle hlo hhi hopen hspace hfirst hlast u w
  have hok : (decide (ppaSpace (t.get (GAL_CND_SEND.SRC c)) ≤ 1) && decide (bits value 11 0 ≥ 1) && t.memValid (t.get (GAL_CND_SEND.SRC c)) &&
      t.memValid (t.get (GAL_CND_SEND.SRC c) + bits value 11 0 - 1)) = true := by
    simp [hspace, hlo, hfirst, hlast]
  rw [execConduitSendGo, atHub_of_hubOpen ho]
  refine (if_neg (by simp [hgo])).trans (if_neg ?_)
  rintro (h | h | h | h | h)
  · exact Bool.false_ne_true (hidle.symm.trans h)
  · omega
  · omega
  · exact h hopen
  · exact h hok

/-! ### The slots of an edge die (R345, R347) -/

/-- What follows every write of a slot's word: BAD of the die's slots is judged again, and an ACTIVE slot that has become BAD is DISABLED. -/
def State.rejudgeSlots (s : State) (e : Nat) : State :=
  let r := State.slotBad e (below 64) 0 s
  (r.activeSlots.filter (fun p => p.1 == e && (r.collTree e p.2).bad)).foldl (fun s p => s.slotArm e p.2) r

theorem rejudgeSlots_of_none_bad {s : State} {e : Nat} (h : (State.slotBad e (below 64) 0 s).activeSlots.filter
    (fun p => p.1 == e && ((State.slotBad e (below 64) 0 s).collTree e p.2).bad) = []) : s.rejudgeSlots e = State.slotBad e (below 64) 0 s := by
  simp only [State.rejudgeSlots, h, List.foldl_nil]

/-- Between passes a word of a slot is stored and the die's slots are judged; a write of word 0 also starts or stops its slot. -/
theorem execCollSlotWrite_between {s : State} (who : Requester) (e t value : Nat) (ho : s.hubOpen) (hb : s.betweenPasses = true) :
    execCollSlotWrite who e t 0 value s =
      .next (((s.setReg (GAL_COLL_W0.REG e t) (withField (word value) 27 27 0)).rejudgeSlots e).slotArm e t) ∧
    execCollSlotWrite who e t 1 value s = .next ((s.put (GAL_COLL_W1.PEERS e t) (bits value 63 24)).rejudgeSlots e) ∧
    execCollSlotWrite who e t 2 value s = .next ((s.put (GAL_COLL_W2.DEST e t) (bits value 55 0)).rejudgeSlots e) := by
  have hpass : ¬ (!s.betweenPasses) = true := by simp [hb]
  exact ⟨(atHub_of_hubOpen ho ..).trans ((if_neg (by decide)).trans ((if_neg hpass).trans (congrArg _ (if_pos rfl)))),
    (atHub_of_hubOpen ho ..).trans ((if_neg (by decide)).trans ((if_neg hpass).trans (congrArg _ (if_neg one_ne_zero)))),
    (atHub_of_hubOpen ho ..).trans ((if_neg (by decide)).trans ((if_neg hpass).trans (congrArg _ (if_neg two_ne_zero))))⟩

/-- Settles O21: the conduit is in the state that its rule names, the register answers (atHub_of_hubOpen), and the lemmas above choose the branch. -/
theorem conduitCommandsComplete : Obligations.ConduitCommandsComplete := by
  refine ⟨fun s c st hst hheld hrnr hlt => ?_, fun s c st hst hheld hrnr hle => ?_, fun s c h1 => congrArg _ (if_pos h1),
    fun s c h2 => ⟨congrArg _ (if_pos h2), congrArg _ (if_pos h2)⟩, fun s c hst hnone => congrArg _ (if_pos ⟨hst, hnone⟩), fun s c st ref hrnr => ?_,
    fun s c st hst hsince => congrArg _ (if_pos ⟨hst, hsince⟩), fun s c e t => ⟨rfl, rfl⟩, fun s who e t value ho hb hgood => ?_,
    fun s e t hact hbusy => if_pos (by simp [hact, hbusy]), fun s who c value ho hfree => ?_, fun s who c value ho hfree => ?_,
    fun s who e t value ho hb => ?_, fun s who c value ho h0 h4 => ?_, fun s who c value ho hgo => execConduitSendGo_starts who ho hgo,
    fun s who c value ho hhead => ?_⟩
  · exact (execConduitRto_due hst hheld hrnr).trans (congrArg _ (if_neg hlt.not_ge))
  · exact (execConduitRto_due hst hheld hrnr).trans (congrArg _ (if_pos hle))
  · change execConduitRnrDelay c s = _
    simp only [execConduitRnrDelay, hrnr]
  · obtain ⟨-, -, hdest⟩ := execCollSlotWrite_between who e t value ho hb
    exact hdest.trans (congrArg _ (rejudgeSlots_of_none_bad hgood))
  · obtain ⟨-, -, hsize, hring⟩ := execConduitCfgWrite_free who value ho hfree
    exact ⟨hsize, hring⟩
  · obtain ⟨hcfg, hwindow, -⟩ := execConduitCfgWrite_free who value ho hfree
    exact ⟨hwindow, hcfg⟩
  · obtain ⟨hentry, hpeers, -⟩ := execCollSlotWrite_between who e t value ho hb
    exact ⟨hentry, hpeers⟩
  · change execConduitCfgWrite who c 2 value s = _
    have hbusy : (s.cndState c == 0 || s.cndState c == 4) = false := by simp [h0, h4]
    simp only [execConduitCfgWrite, atHub_of_hubOpen ho, hbusy, Bool.false_eq_true, if_false]
  · exact (atHub_of_hubOpen ho ..).trans (if_neg fun ⟨hn, hge⟩ => hhead.elim hn hge.not_gt)

end Sys2Proof.Machine
end

section
/-! The Lenticular modules (R353 to R358, R565): each command of Machine/Modules.lean where its own effect takes place. -/

namespace Sys2Proof.Machine

open Sys2Proof

section
variable {s : State} {k : Nat}

theorem execModuleInsert_running (m : ModuleId) :
    let t := s.setModule k { present := true, ident := some m, quiesceWaits := (s.lenModule k).quiesceWaits }
    t.get (LEN_STATE.STATE k) ≠ 6 → t.linksRun = true → execModuleInsert k m s = .next ((t.moduleState k 1).moduleIdentify k) :=
  fun h6 hrun => (if_neg h6).trans (if_pos hrun)

/-- The challenge of a present module is answered with a certificate that can be read: its signature is judged first, then the answer's. -/
theorem execModuleAuthAnswer_readable {n : Nat} {cert : List Nat} {m : ModuleId} {c : Cert} (sig page : List Nat)
    (hn : (s.lenModule k).challenge = some n) (hm : (s.lenModule k).ident = some m) (hlen : cert.length ≤ 1024) (hc : certOf cert = some c) :
    execModuleAuthAnswer k cert sig page s = .next (
      if c.signedBy p256 sha256 Config.moduleCaKey = false then (s.authFail k 3).lifeRead k page
      else if p256.checks c.key (sha256 (Config.challenge n ++ m.serial ++ page.take 48)) sig = false then (s.authFail k 2).lifeRead k page
      else (((((s.setModule k { s.lenModule k with challenge := none, authTime := some s.isobar }).put (LEN_AUTH.RESULT k) 1).put
        (LEN_AUTH.AGE k) 0).moduleState k 3).lifeRead k page).moduleLinks k) := by
  rcases Bool.eq_false_or_eq_true (c.signedBy p256 sha256 Config.moduleCaKey) with hsigned | hsigned
  · rcases Bool.eq_false_or_eq_true (p256.checks c.key (sha256 (Config.challenge n ++ m.serial ++ page.take 48)) sig) with hright | hright
    · simp only [execModuleAuthAnswer, hn, hm, hlen, hc, Option.filter_some, hsigned, hright, Bool.not_true, Bool.true_eq_false, Bool.false_eq_true,
        if_true, if_false]
    · simp only [execModuleAuthAnswer, hn, hm, hlen, hc, Option.filter_some, hsigned, hright, Bool.not_false, Bool.true_eq_false, if_true, if_false]
  · simp only [execModuleAuthAnswer, hn, hm, hlen, hc, Option.filter_some, hsigned, Bool.false_eq_true, if_true, if_false]

/-- A certificate of more than 1,024 bytes is not read at all. -/
theorem execModuleAuthAnswer_long {n : Nat} {cert : List Nat} {m : ModuleId} (sig page : List Nat) (hn : (s.lenModule k).challenge = some n)
    (hm : (s.lenModule k).ident = some m) (hlen : 1024 < cert.length) :
    execModuleAuthAnswer k cert sig page s = .next ((s.authFail k 3).lifeRead k page) := by
  simp only [execModuleAuthAnswer, hn, hm, hlen.not_ge, if_false]

end

/-- Settles O22: the module is present and in the state that its rule names, and the lemmas above judge its answer. -/
theorem moduleCommandsComplete : Obligations.ModuleCommandsComplete := by
  refine ⟨fun s k m h6 hrun => execModuleInsert_running m h6 hrun, fun s k hp h6 => ?_, fun s k n hp => ?_,
    fun s k n cert sig page m c hn hm hlen hc => execModuleAuthAnswer_readable sig page hn hm hlen hc,
    fun s k n cert sig page m hn hm hlen => execModuleAuthAnswer_long sig page hn hm hlen, fun s k hn => ?_,
    fun s k page hp hst => ⟨congrArg _ (if_pos ⟨hp, hst⟩), congrArg _ (if_pos ⟨hp, hst⟩)⟩,
    fun s who k ho h6 hb => (atHub_of_hubOpen ho ..).trans ((if_neg h6).trans (if_pos hb)),
    fun s who k ho h6 hb => (atHub_of_hubOpen ho ..).trans ((if_neg h6).trans (if_neg (by simp [hb]))),
    fun s who k ho h6 hp => (atHub_of_hubOpen ho ..).trans (if_neg (by simp [h6, hp]))⟩
  · exact (if_neg (by simp [hp])).trans (if_neg h6)
  · have hhere : ¬ (!(s.lenModule k).present) = true := by simp [hp]
    exact ⟨if_neg hhere, if_neg hhere, if_neg hhere⟩
  · change execModuleAuthTimeout k s = _
    rw [execModuleAuthTimeout, if_pos hn]

end Sys2Proof.Machine
end

section
/-! The input supply and the segments (R362 to R374): each command of Machine/Power.lean where its own effect takes place. -/

namespace Sys2Proof.Machine

open Sys2Proof

section
variable {s : State} {tripped : Bool}

/-! ## The bars (R364) -/

/-- A powered panel that loses bar A, which it had, shows the loss and raises it. -/
theorem execBarLoss_A (hp : s.get RST_STATUS.PSTATE ≠ 0) (hA : s.power.lostA = false) : execBarLoss 0 tripped s =
    .next ((({ s with power := { s.power with lostA := true, openA := s.power.openA || tripped } } : State).barShow).raiseInput 0x0704 0 0) := by
  have hacts : ¬ (s.get RST_STATUS.PSTATE = 0 ∨ 1 < 0) := by simp [hp]
  simp only [execBarLoss, if_neg hacts, hA, if_true, Bool.false_eq_true, if_false]

/-- A powered panel that loses bar B, which it had, shows the loss and raises it. -/
theorem execBarLoss_B (hp : s.get RST_STATUS.PSTATE ≠ 0) (hB : s.power.lostB = false) : execBarLoss 1 tripped s =
    .next ((({ s with power := { s.power with lostB := true, openB := s.power.openB || tripped } } : State).barShow).raiseInput 0x0704 1 0) := by
  have hacts : ¬ (s.get RST_STATUS.PSTATE = 0 ∨ 1 < 1) := by simp [hp]
  simp only [execBarLoss, if_neg hacts, hB, one_ne_zero, Bool.false_eq_true, if_false]

/-- A bar whose eFuse has not opened is present again when its current is back. -/
theorem execBarRestore_closed :
    (s.power.openA = false → execBarRestore 0 s = .next ({ s with power := { s.power with lostA := false } } : State).barShow) ∧
    (s.power.openB = false → execBarRestore 1 s = .next ({ s with power := { s.power with lostB := false } } : State).barShow) :=
  ⟨fun hA => congrArg _ (if_pos (by simp [hA])), fun hB => congrArg _ ((if_neg (by simp)).trans (if_pos (by simp [hB])))⟩

/-- With both bars present and no imbalance raised before, one that has lasted is raised. -/
theorem execBarImbalanceCheck_first (hp : s.get RST_STATUS.PSTATE ≠ 0) (hA : s.power.lostA = false) (hB : s.power.lostB = false)
    (hnone : s.power.imbalance = none) : execBarImbalanceCheck s =
    .next (({ s with power := { s.power with imbalance := some s.isobar } } : State).raiseInput 0x0720 0xFF 0) := by
  simp only [execBarImbalanceCheck, hnone]
  exact congrArg _ (if_pos (by simp [hp, hA, hB]))

/-! ## The segments (R372 to R374) -/

/-- The overload of a segment that is on blocks the dies of a sector not yet blocked, and is only raised for a segment that feeds no stack. -/
theorem execSegmentOverload_on {g : Nat} (hon : s.get (PWR_SEG.STATE g) = 2) (hg : g ≤ 20) :
    (g < 16 → s.power.segForced.contains g = false → execSegmentOverload g s = .next
      ((s.setForced (s.segServing g) s.power.inForced (markIn s.power.segForced g)).raiseInput 0x0708 g 0)) ∧
    (16 ≤ g → execSegmentOverload g s = .next (s.raiseInput 0x0708 g 0)) := by
  have hacts : ¬ (s.get (PWR_SEG.STATE g) ≠ 2 ∨ 20 < g) := by simp [hon, hg]
  rw [execSegmentOverload, if_neg hacts]
  exact ⟨fun hsector hfree => (if_neg hsector.not_ge).trans (if_neg (by rw [hfree]; exact Bool.false_ne_true)), fun hother => if_pos hother⟩

/-- A segment that is starting comes on, or times out with trip cause 4, or trips with the cause found. -/
theorem execSegment_starting {g : Nat} (cause : Nat) (hst : s.get (PWR_SEG.STATE g) = 1) (hg : g ≤ 20) :
    execSegmentOn g s = .next ((s.put (PWR_SEG.STATE g) 2).progress) ∧
    execSegmentSoftstartTimeout g s = .next ((s.raiseInput 0x0717 g 0).segTrip g 4) ∧ execSegmentTrip g cause s = .next (s.segTrip g cause) :=
  ⟨congrArg _ (if_pos ⟨hst, hg⟩), congrArg _ (if_pos ⟨hst, hg⟩), congrArg _ (if_pos ⟨.inl hst, hg⟩)⟩

end

/-- Settles O23: the panel is powered and the condition is new, or the bar or segment is in the state that its rule names (the lemmas above). -/
theorem inputSupplyCommandsComplete : Obligations.InputSupplyCommandsComplete := by
  refine ⟨fun s hoff => congrArg _ (if_pos hoff), fun s hp => if_neg hp, fun s hp hlow => congrArg _ (if_neg (by simp [hp, hlow])),
    fun s hp hhigh => congrArg _ (if_neg (by simp [hp, hhigh])), fun s hp => if_neg hp, fun s habove => congrArg _ (if_neg habove.not_gt),
    fun s tripped hp hA => execBarLoss_A hp hA, fun s tripped hp hB => execBarLoss_B hp hB, fun s => execBarRestore_closed,
    fun s hp hA hB hnone => execBarImbalanceCheck_first hp hA hB hnone, fun s hp hfree => if_neg (by simp [hp, hfree]),
    fun s hforced => congrArg _ (if_pos hforced), fun s g hon hsector hfree => ?_, fun s g hon hother hg => ?_,
    fun s g hforced => congrArg _ (if_pos hforced), fun s g cause hst hg => execSegment_starting cause hst hg⟩
  · obtain ⟨hblocks, -⟩ := execSegmentOverload_on hon (by omega)
    exact hblocks hsector hfree
  · obtain ⟨-, hraises⟩ := execSegmentOverload_on hon hg
    exact hraises hother

end Sys2Proof.Machine
end

section
/-! Steps and runs: which command a step runs, that it answers, and what it leaves of the queue (R439). -/

namespace Sys2Proof.Machine

open Sys2Proof

/-- A step takes the command in front out of the queue and changes nothing else in it. -/
theorem step_pending {s t : State} (h : step s = .next t) : t.pending = s.pending.tail := by
  match hq : s.pending with
  | [] =>
    rw [step, hq] at h
    cases h
    exact rest_kept (closedAll_pending []) hq
  | c :: l => exact step_kept (closedAll_pending l) c l hq rfl t h

/-- A run of n steps takes the n commands in front. -/
theorem runSteps_pending : ∀ (n : Nat) {s t : State}, runSteps n s = .next t → t.pending = s.pending.drop n
  | 0, _, _, h => by cases h; rfl
  | n + 1, s, t, h => by
    rw [runSteps] at h
    split at h
    next u hu =>
      calc t.pending = u.pending.drop n := runSteps_pending n h
        _ = s.pending.tail.drop n := by rw [step_pending hu]
        _ = s.pending.drop (n + 1) := List.drop_tail
    next o hno => exact absurd h (hno t)

/-- Settles O34: the two cases of step. -/
theorem stepRunsTheCommandInFront : Obligations.StepRunsTheCommandInFront := by
  refine ⟨fun s c rest => rfl, fun s hempty => ?_⟩
  rw [step, hempty]

/-- Settles O47: exec_proceeds. -/
theorem everyCommandInsideTheBarsAnswers : Obligations.EveryCommandInsideTheBarsAnswers := fun _ s h => exec_proceeds h s

/-- Settles O48: every operation keeps the property of having a given queue (exec_kept, rest_kept), and each step of a run takes one command. -/
theorem commandsLeaveTheQueueAlone : Obligations.CommandsLeaveTheQueueAlone :=
  ⟨fun c s t h => exec_kept (closedAll_pending s.pending) rfl c t h, fun s => rest_kept (closedAll_pending s.pending) rfl,
    fun n _ _ h => runSteps_pending n h⟩

end Sys2Proof.Machine
end

section
/-! The sensors, the coolant and the Updraft (R407 to R437): each command of Machine/Thermal.lean and Machine/Updraft.lean
where its own effect takes place. -/

namespace Sys2Proof.Machine

open Sys2Proof

/-! ## The demand of a stack (R409) -/

theorem execThermalDemandStep_falls {s : State} {site : Nat} (hp : s.powered site = true)
    (hcool : lasted (s.stackHeat site).cool3 s.thermal.samples 100 = true) :
    execThermalDemandStep site true s = .next (s.setDemand site { s.demand site with thermal := (s.demand site).thermal - 1 }) :=
  (if_neg (by simp [hp])).trans ((if_pos rfl).trans (congrArg _ (if_pos hcool)))

theorem execThermalDemandStep_rises {s : State} {site : Nat} (hp : s.powered site = true)
    (hwarm : (s.knownSpots site).any (fun i => decide ((s.spotLimits site i).1 < (s.spot site i).ctrl)) = true) :
    execThermalDemandStep site false s = .next (s.setDemand site { s.demand site with thermal := sat 12 ((s.demand site).thermal + 1) }) :=
  (if_neg (by simp [hp])).trans ((if_neg Bool.false_ne_true).trans (congrArg _ (if_pos hwarm)))

/-- Settles O25: the hub runs or the panel is powered, and the flags that the rule asks for choose the branch. -/
theorem thermalCommandsComplete : Obligations.ThermalCommandsComplete := by
  refine ⟨fun s readings powers nodes hr => ?_, fun s site hp hcool => execThermalDemandStep_falls hp hcool,
    fun s site hp hwarm => execThermalDemandStep_rises hp hwarm, fun s r hp => if_neg hp, fun s hact hpin => if_pos ⟨hact, hpin⟩,
    fun s who value hr hclear hready => (atDawn_of_hubRuns hr _).trans (if_pos (by simp [hclear, hready])),
    fun s who value hr hkeep => (atDawn_of_hubRuns hr _).trans (if_neg (by simp [hkeep])),
    fun s who value hr hclear => (atDawn_of_hubRuns hr _).trans (if_pos hclear), fun s who bytes half hr => atDawn_of_hubRuns hr _,
    fun s hr hawake => if_neg (by simp [hr, hawake]), fun s gs h4 htrans hgate hen hnone h0 hpass hgs => ?_⟩
  · rintro t rfl
    exact if_neg (by simp [hr])
  · subst hgs
    exact if_neg (by simp [h4, htrans, hgate, hen, hnone, h0, hpass])

end Sys2Proof.Machine
end

section
/-! The clocks (R438 to R464): each command of Machine/Clocks.lean where its own effect takes place, and how ISB_COUNT is read. -/

namespace Sys2Proof.Machine

open Sys2Proof

section
variable {s : State}

/-! ## The reference (R438, R456) -/

/-- A window of 999 to 1,001 edges keeps a reference that is there. -/
theorem execRefWindow_good {edges : Nat} (hp : s.get RST_STATUS.PSTATE ≠ 0) (hlo : 999 ≤ edges) (hhi : edges ≤ 1001) (hb : s.clock.backup = false)
    (hok : s.clock.refOk = true) :
    execRefWindow edges s = .next (({ s with clock := { s.clock with
      edges := (edges :: s.clock.edges).take 100, good := s.clock.good + 1, lostWindows := 0 } } : State).put
      CLK_REF.PPM (unsigned 16 (ppmOf ((edges :: s.clock.edges).take 100)))) := by
  simp [execRefWindow, hp, hlo, hhi, hb, hok]

/-- A window of fewer edges loses it. -/
theorem execRefWindow_short {edges : Nat} (hp : s.get RST_STATUS.PSTATE ≠ 0) (hlow : edges < 999) (hok : s.clock.refOk = true) :
    execRefWindow edges s = .next (({ s with clock := { s.clock with
      edges := (edges :: s.clock.edges).take 100, good := 0, lostWindows := 0 } } : State).put
      CLK_REF.PPM (unsigned 16 (ppmOf ((edges :: s.clock.edges).take 100)))).refLost := by
  simp [execRefWindow, hp, hlow.not_ge, hok]

theorem execHoldoverExpiry_serving (hlost : s.clock.refOk = false) (hwas : s.clock.wasLost = true) (hk : s.hubKeeps = true)
    (hfirst : s.flag CLK_STATUS.HOLDOVER_IDLE = false) :
    let t := (s.put CLK_STATUS.HOLDOVER_IDLE 1).raiseClk 0x0903 0xFF 0xFF s.leaveBit []
    t.get RST_STATUS.PSTATE = 4 → execHoldoverExpiry s = .next (t.goDown 3).progress :=
  fun h4 => (if_neg (by simp [hlost, hwas, hk, hfirst])).trans (congrArg _ (if_pos (.inl h4)))

theorem execBillowStart_warm (unlocked : List Nat) (delays : List LinkDelay) (hk : s.hubKeeps = true) (hstill : s.flag CLK_STATUS.BILLOW_RUN = false)
    (hcold : s.flag RST_STATUS.COLD = false) :
    execBillowStart unlocked delays s =
      .next (((s.put CLK_STATUS.BILLOW_RUN 1).nodesStart unlocked).mccRestart (s.put CLK_STATUS.BILLOW_RUN 1).isobar).progress := by
  simp only [execBillowStart, hk, hstill, hcold, not_true, false_or, Bool.false_eq_true, if_false]

/-! ## Forwarded clocks and seams (R447, R448) -/

/-- A comparator that loses its edge reports it; the second report of a neighbour, from any node, fences it, unless it is the hub. -/
theorem execClockEdgeLoss_answered {site d n : Nat} (hr : s.nodeRuns site = true) (hp : s.clock.pause = 0) (hd : d < 4)
    (hfirst : s.flag ((CLK_SITE.LOST site).sub d 1) = false) (hn : clockNeighbour site d = some n) :
    execClockEdgeLoss site d true s = (if n = 84 then .next (s.edgeLost site d)
      else if 2 ≤ (s.edgeLost site d).reports n then .next ((s.edgeLost site d).fence n 0x0911).verifySoon else .next (s.edgeLost site d)) := by
  rw [execClockEdgeLoss, if_neg (by simp [hr, hp, hd, hfirst]), hn]
  simp only [not_true, or_false]

theorem execForwardedClockReturn_lost {site d : Nat} (hr : s.nodeRuns site = true) (hd : d < 4) (hlost : s.flag ((CLK_SITE.LOST site).sub d 1) = true) :
    let t := s.put ((CLK_SITE.LOST site).sub d 1) 0
    let u := t.put ((CLK_SITE.COUPLED site).sub d 1) (b2n (t.forwards site d))
    execForwardedClockReturn site d s = .next (u.put (CLK_SITE.HOLD site) (b2n (u.get (CLK_SITE.COUPLED site) == 0))) :=
  if_neg (by simp [hr, hd, hlost])

theorem execSeamSlip_first {site port m : Nat} (hr : s.nodeRuns site = true) (hp : s.clock.pause = 0) (hport : port < 4)
    (hn : neighbour site port = some (m, (port + 2) % 4)) (h5 : s.get (SIT_LINK.STATE site port) ≠ 5)
    (hfirst : s.clock.slipped.contains (seamName site port) = false) :
    let t := ((({ s with clock := { s.clock with slipped := markIn s.clock.slipped (seamName site port) } } : State).addSat CLK_STATUS.SLIPS 1).addSat
      (CLK_SITE.SLIPS site) 1)
    execSeamSlip site port s = .next (((t.raiseClk 0x0912 site port t.abortBit []).abortPass 0x0912 site).put (SIT_LINK.RETRAIN site port) 1) :=
  (if_neg (by simp [hr, hp, hport, hn, h5])).trans (if_neg (by rw [hfirst]; exact Bool.false_ne_true))

/-! ## Beacons (R451) -/

theorem execBeaconSend_running (hr : s.flag CLK_STATUS.BILLOW_RUN = true) (hp : s.clock.pause = 0) (hdue : s.isobar % 1024 = 0) :
    execBeaconSend s = .next ((below 12).foldl (fun s h => s.send (.unit 0x2000 84 [h, s.hubMcc, 0]))
      { s with clock := { s.clock with beacon := s.isobar / 1024 } }) :=
  if_neg (by simp [hr, hp, hdue])

/-- A counter that reads what the beacon wants is not apart from it. -/
theorem signed_sub_self {a : Nat} (h : a < 2 ^ 48) : signed 48 ((a + (2 ^ 48 - a)) % 2 ^ 48) = 0 := by
  have hsum : (a + (2 ^ 48 - a)) % 2 ^ 48 = 0 := by omega
  rw [hsum]
  decide

theorem execBeacon_inStep {site d launch hops own : Nat} (hr : s.nodeRuns site = true) (hnew : (lookD {} s.clock.nodes site).period ≠ some s.clock.beacon)
    (hown : own = (launch + 8 * hops) % 2 ^ 48) :
    let n : ClockNode := { lookD {} s.clock.nodes site with mcc := own, since := s.isobar, period := some s.clock.beacon, lostRaised := false }
    execBeacon site d launch hops own true s = .next ((below 4).foldl (fun s e =>
      if e = d ∨ (clockNeighbour site e).isNone then s else s.send (.unit 0x2000 site [e, launch, hops + 1]))
      ({ s with clock := { s.clock with nodes := putKey s.clock.nodes site n } }.put (CLK_SITE.BEACON_OK site) 1)) := by
  intro n
  have hdiff := signed_sub_self (hown ▸ Nat.mod_lt _ (by decide) : own < 2 ^ 48)
  rw [execBeacon, if_neg (by simp [hr, hnew]), ← hown]
  exact if_pos (by rw [hdiff]; decide)

/-! ## Changing the operating point (R452 to R454) -/

theorem execOpChangeRequest_allowed (who : Requester) {value : Nat} (ho : s.hubOpen = true) (hgo : bit value 3 = true) :
    let t := s.put CLK_OP_REQ.TARGET (bits value 2 0)
    bits value 2 0 ≠ t.get CLK_OP.CUR → t.changePending = false → t.opAllowed (bits value 2 0) = true →
    execOpChangeRequest who value s = .next ({ t with commit := { t.commit with op := some (bits value 2 0) } } : State).armNow :=
  fun hnew hfree hall => (atHub_of_hubOpen ho ..).trans ((if_neg (by simp [hgo, hnew])).trans (if_neg (by simp [hfree, hall])))

section
variable {target : Nat} (hc : s.opConfirmed = some target) (hup : s.get CLK_OP.CUR < target)
include hc hup

theorem execOpSlewStart_up : execOpSlewStart s = .next { s with clock := { s.clock with setOp := target } } := by
  simp only [execOpSlewStart, hc, hup, if_true]

theorem execOpSettleCheck_one {site d : Nat} (hs : stackSite site = true) (hd : d ≤ 2) (hon : s.domainOn site d = true) :
    execOpSettleCheck [(site, d)] s = .next ((s.raiseClk 0x0905 0xFF 0xFF 0 [site, d]).commitAbort 0 0xFF) := by
  simp [execOpSettleCheck, firstDomain, hc, hup, hs, hd, hon]

end

theorem execOpRelock_locked (hp : s.clock.pause = 1) (harmed : s.commit.armed ≠ 2) :
    execOpRelock [] s = .next ({ s with clock := { s.clock with pause := 2 } }.padsApply).unlockedShow :=
  if_neg (by simp [hp, harmed])

end

/-- Settles O26: the clauses' hypotheses choose the branch of each command (the lemmas above). -/
theorem clockCommandsComplete : Obligations.ClockCommandsComplete := by
  refine ⟨fun s edges hp hlo hhi hb hok => execRefWindow_good hp hlo hhi hb hok, fun s edges hp hlow hok => execRefWindow_short hp hlow hok,
    fun s hlost hwas hk hfirst => execHoldoverExpiry_serving hlost hwas hk hfirst,
    fun s unlocked delays hk hstill hcold => execBillowStart_warm unlocked delays hk hstill hcold,
    fun s site d n hr hp hd hfirst hn h84 htwice => ?_, fun s site d hr hp hd hfirst hn => ?_,
    fun s site d hr hd hlost => execForwardedClockReturn_lost hr hd hlost, fun s site port m hr hp hport hn h5 hfirst => execSeamSlip_first hr hp hport hn h5 hfirst,
    fun s hr hp hdue => execBeaconSend_running hr hp hdue, fun s site d launch hops own hr hnew hown => execBeacon_inStep hr hnew hown,
    fun s site hr hfirst => if_neg (by simp [hr, hfirst]), fun s who value ho hgo => execOpChangeRequest_allowed who ho hgo,
    fun s target site d hc hup => ⟨execOpSlewStart_up hc hup, fun hs hd hon => execOpSettleCheck_one hc hup hs hd hon⟩,
    fun s => ⟨fun hc => congrArg _ (if_pos hc), fun hp harmed => execOpRelock_locked hp harmed, fun hp => congrArg _ (if_pos hp)⟩,
    fun s hp hb => if_neg (by simp [hp, hb])⟩
  · exact (execClockEdgeLoss_answered hr hp hd hfirst hn).trans ((if_neg h84).trans (if_pos htwice))
  · exact (execClockEdgeLoss_answered hr hp hd hfirst hn).trans (if_pos rfl)

/-! ## The count is read in one piece (R440) -/

theorem regOf_isbCount : ∃ d, regOf ISB_COUNT.REG = some d ∧ d.base = ISB_COUNT.REG := by
  refine ⟨(regOf ISB_COUNT.REG).get (by decide +kernel), by simp, by decide +kernel⟩

/-- A write of ISB_COUNT has no behaviour of its own. -/
theorem ownWrite_isbCount {d : RegDesc} (hb : d.base = ISB_COUNT.REG) (who : Requester) (value : Nat) (s : State) :
    ownWrite who d ISB_COUNT.REG value s = none := by
  rw [ownWrite, hb]
  rfl

/-- A write of ISB_COUNT stores what the register takes and clears the latch. -/
theorem exec_registerWrite_isbCount {s : State} (who : Requester) (value : Nat) (ho : s.hubOpen = true) : ∃ d,
    exec (.registerWrite who ISB_COUNT.REG 8 value) s =
      .next (({ s with clock := { s.clock with latch := none } } : State).plainWrite d ISB_COUNT.REG value) := by
  obtain ⟨d, hd, hb⟩ := regOf_isbCount
  have hunlatch : s.unlatch ISB_COUNT.REG = { s with clock := { s.clock with latch := none } } := if_pos (by decide)
  refine ⟨d, ?_⟩
  rw [exec_registerWrite_reg (by decide) (by decide) (hubRuns_of_hubOpen ho) who value (by decide) (by decide), writeReg, hd]
  simp only [ownWrite_isbCount hb, hunlatch]
  exact genericWrite_hub (by rw [hb]; decide) (by rw [hb]; decide) (by rw [hb]; decide) (by rw [hb]; decide) value ho (by decide)

/-- Settles O39: the access sets or clears the latch, and only a read of the upper half uses it; a write of ISB_COUNT goes the way of any register. -/
theorem theTimeIsReadInOnePiece : Obligations.TheTimeIsReadInOnePiece := by
  refine ⟨fun s who hr => atDawn_of_hubRuns hr _, fun s who hr => atDawn_of_hubRuns hr _, fun s who h hr hlatch => ?_, fun s who hr hlatch => ?_,
    fun s who value ho => ?_⟩
  · change execIsbCountRead who 4 1 s = _
    rw [execIsbCountRead, atDawn_of_hubRuns hr, hlatch]
    rfl
  · change execIsbCountRead who 4 1 s = _
    rw [execIsbCountRead, atDawn_of_hubRuns hr, hlatch]
    rfl
  · obtain ⟨d, hd⟩ := exec_registerWrite_isbCount who value ho
    exact ⟨_, hd, rfl, rfl⟩

/-! ## PTP (R458 to R460) -/

section
variable {s : State} {m : PtpMsg}

theorem execPtpFollowUp_matched {port : Nat} {rx : Int} (hw : s.clock.ptp.waiting = some (m.seq, rx)) (hm : s.ptpFrom port m = true) :
    execPtpFollowUp port m s = .next (s.ptpMeasure (m.ts + m.corr) rx) := by
  simp only [execPtpFollowUp, hw, hm, and_self, if_true]

/-- The first master that is announced is selected. -/
theorem execPtpAnnounce_first (port : Nat) (dataset : List Nat) (utc : Int) (hm : s.ptpTakes m = true) (hnone : s.clock.ptp.masters = [])
    (hsel : s.clock.ptp.selected = none) :
    execPtpAnnounce port m dataset utc s = .next (((s.setPtp { s.clock.ptp with
      masters := [{ port := port, source := m.source, dataset := dataset, utc := utc }], selected := some (port, m.source), waiting := none, sync := none,
      req := none }).put ISB_PTP_STAT.UTC_OFFSET (unsigned 16 utc)).put ISB_PTP_STAT.PORT port) := by
  rw [execPtpAnnounce, if_neg (not_not_intro hm)]
  simp only [hnone, hsel, List.filter_nil, List.foldl_cons, List.foldl_nil, ite_self]
  rfl

theorem execPtpDelayReqTimer_selected {port src : Nat} (hsel : s.clock.ptp.selected = some (port, src)) (hr : s.ptpRuns = true) :
    let p := s.clock.ptp
    let t := s.setPtp { p with req := some (p.nextSeq, 10 * (s.isobar : Int)), nextSeq := (p.nextSeq + 1) % 65536 }
    execPtpDelayReqTimer s = .next (t.send (.mgmt port 3 [1, t.get ISB_PTP_CFG.DOMAIN, p.nextSeq])) := by
  intro p t
  simp only [execPtpDelayReqTimer, hsel, hr, not_true, if_false, p, t]

theorem execPtpDelayResp_matched {port : Nat} {t1 t2 t3 : Int} (hreq : s.clock.ptp.req = some (m.seq, t3)) (hsync : s.clock.ptp.sync = some (t1, t2))
    (hm : s.ptpFrom port m = true) : execPtpDelayResp port m s = .next (s.setPtp { s.clock.ptp with
      req := none, delay := ((t2 - t1) + (m.ts - m.corr - t3)) / 2 }) := by
  simp only [execPtpDelayResp, hreq, hsync, hm, and_self, if_true]

end

/-- Settles O27: the message is one that the protocol waits for (the lemmas above), and the register answers. -/
theorem timeCommandsComplete : Obligations.TimeCommandsComplete := by
  refine ⟨fun s port m hm htwo => ?_, fun s port m hm hone => ?_, fun s port rx m hw hm => execPtpFollowUp_matched hw hm,
    fun s port m dataset utc hm hnone hsel => execPtpAnnounce_first port dataset utc hm hnone hsel,
    fun s port src hsel hr => execPtpDelayReqTimer_selected hsel hr, fun s port m t1 t2 t3 hreq hsync hm => execPtpDelayResp_matched hreq hsync hm,
    fun s hen hk => if_neg (by simp [hen, hk]), fun s who value hr hoff => ?_, fun s who bytes half ho => readAtHub_of_hubOpen ho ..⟩
  · exact (if_neg (not_not_intro hm)).trans (if_pos htwo)
  · exact (if_neg (not_not_intro hm)).trans (if_neg (by simp [hone]))
  · exact (atDawn_of_hubRuns hr _).trans (if_neg (by simp [hoff]))

end Sys2Proof.Machine
end

section
/-! The image and the commit (R477 to R486): each command of Machine/Overcast.lean where its own effect takes place. -/

namespace Sys2Proof.Machine

open Sys2Proof

section
variable {s : State}

/-! ## Loading (R477, R480) -/

/-- A reading that finds nothing uncorrectable marks nothing. -/
theorem stageErrors_nil (s : State) (a : Option (Nat × Nat)) : s.stageErrors a [] = s := rfl

/-! ## Arming (R483 to R485) -/

section
variable {node : Nat} (hu : s.armedUnit node = true) (h1 : s.get OVC_ARM.STATE = 1)
include hu h1

/-- A unit of the change answers ARM with its acknowledgement, or with its NAK. -/
theorem execArm_armed (nak : Nat) : execArm node nak s = (if nak ≠ 0 then .next (s.send (.unit 0x85 84 [node, s.get OVC_ARM.ID, nak]))
    else .next (({ s with commit := { s.commit with prepared := markIn s.commit.prepared node } } : State).send (.unit 0x84 84 [node, s.get OVC_ARM.ID]))) :=
  if_neg (by simp [hu, h1])

theorem execArmAck_first (hnew : s.commit.acks.contains node = false) :
    execArmAck node s = .next (({ s with commit := { s.commit with acks := markIn s.commit.acks node } } : State).addSat OVC_ARM.ACKS 1) :=
  if_neg (by rw [hu, h1, hnew]; decide)

theorem execNak_armed (code : Nat) : execNak node code s = .next ((s.raiseUnit 0x0121 node 0 [code]).commitAbort 0x0121 node) :=
  if_neg (by simp [hu, h1])

end

section
variable (h1 : s.get OVC_ARM.STATE = 1)
include h1

/-- A unit that has not acknowledged aborts the change; the first of them is named. -/
theorem execArmDecide_missing {n : Nat} {l : List Nat} (harmed : s.commit.armed ≠ 0)
    (hl : s.commit.units.filter (fun n => !s.commit.acks.contains n) = n :: l) :
    execArmDecide s = .next (((n :: l).foldl (fun s x => s.raiseUnit 0x0120 x 0 []) s).commitAbort 0x0120 n) := by
  rw [execArmDecide, if_neg (by simp [harmed, h1])]
  simp only [hl]

variable (hall : s.commit.units.filter (fun n => !s.commit.acks.contains n) = []) (hok : s.flag CLK_STATUS.REF_OK = true)
  (hcool : s.flag THM_EMERG.ACTIVE = false)
include hall hok hcool

/-- A change that all units have acknowledged, with the reference there and no emergency, is decided by its own check. -/
theorem execArmDecide_acknowledged (harmed : s.commit.armed ≠ 0) : execArmDecide s =
    (if s.commit.armed = 2 then
      if s.opAllowed (s.commit.op.getD 0) then .next s.confirmAll else .next ((s.raiseClk 0x0904 0xFF 0xFF 0 []).commitAbort 0 0xFF)
    else .next (s.imageRecheck.elim s.confirmAll (fun f => (((s.image.staging.elim s (fun a =>
      if f.code = 0x0110 then s.darkServing (s.secBytes a.1 1) else s)).record { code := f.code, unit := f.sec }).commitAbort f.code 0xFF).put
      OVC_STATUS.SECTION f.sec))) := by
  rw [execArmDecide, if_neg (by simp [harmed, h1])]
  simp only [hall, hok, hcool, Bool.not_true, Bool.or_self, Bool.false_eq_true, if_false]
  cases s.imageRecheck <;> cases s.image.staging <;> rfl

end

/-! ## The commit and its reports (R483, R486) -/

theorem execReport_due {node : Nat} (hdue : s.commit.due.contains node = true) (applied : Bool) : execReport node applied s =
    .next (let t := { s with commit := { s.commit with due := markOut s.commit.due node } }
      if applied then t else t.commitMissed node) :=
  if_pos hdue

end

/-- Settles O28: the unit, the staging area or the commit stands where its rule wants it (the lemmas above), and what a check finds decides. -/
theorem imageCommandsComplete : Obligations.ImageCommandsComplete := by
  refine ⟨fun s who ho => ⟨atHub_of_hubOpen ho .., atHub_of_hubOpen ho ..⟩, fun s ues base len hst h1 => ?_,
    fun s base len hst h2 => ?_, fun s node hu h1 => (execArm_armed hu h1 0).trans (if_neg (not_not_intro rfl)),
    fun s node nak hu h1 hnak => (execArm_armed hu h1 nak).trans (if_pos hnak), fun s node hu h1 hnew => execArmAck_first hu h1 hnew,
    fun s node code hu h1 => execNak_armed hu h1 code, fun s base len harmed h1 hall hok hcool hst => ?_,
    fun s harmed h1 hall hok hcool hallowed => ?_, fun s n l harmed h1 hl => execArmDecide_missing h1 harmed hl,
    fun s node hprep => congrArg _ (if_pos hprep), fun s node => rfl, fun s lost ues harmed h2 => ?_, fun s lost ues harmed h2 => ?_,
    fun s node hdue => ⟨(execReport_due hdue true).trans (congrArg _ (if_pos rfl)),
      (execReport_due hdue false).trans (congrArg _ (if_neg Bool.false_ne_true))⟩, fun s => rfl⟩
  · change execImageReadDone ues s = _
    simp only [execImageReadDone, hst, h1, ne_eq, not_true, if_false]
    cases (s.stageErrors (some (base, len)) ues).imageRead base len <;> rfl
  · change execImageCheckDone [] s = _
    simp only [execImageCheckDone, hst, h2, ne_eq, not_true, if_false, stageErrors_nil, List.foldl_nil]
    cases s.imageCheck base <;> rfl
  · refine (execArmDecide_acknowledged h1 hall hok hcool (by omega)).trans ((if_neg (by omega)).trans (congrArg _ ?_))
    rw [hst]
    cases s.imageRecheck <;> rfl
  · exact (execArmDecide_acknowledged h1 hall hok hcool (by omega)).trans ((if_pos harmed).trans (if_pos hallowed))
  · exact (if_neg (by simp [harmed, h2])).trans (congrArg (fun t : State => Host.Outcome.next (t.armNow.endHold).readyRefresh) (if_pos harmed))
  · have hop : ¬ s.commit.armed = 2 := by omega
    exact (if_neg (by simp [harmed, h2])).trans (congrArg (fun t : State => Host.Outcome.next (t.armNow.endHold).readyRefresh) (if_neg hop))

end Sys2Proof.Machine
end

section
/-! Resets and power states (R493 to R516): each command of Machine/Reset.lean and Machine/Bringup.lean where its own effect takes place, and the level of a
reset. -/

namespace Sys2Proof.Machine

open Sys2Proof

/-! ## A reset and its level (R494, R496) -/

theorem resetState_rst_level (s : State) (level : Nat) : (s.resetState level).rst.level = some level := by
  unfold State.resetState
  simp only
  split <;> rfl

/-- A source that finds no reset in progress starts one at the more severe of its own level and the fused one. -/
theorem resetBy_rst_level {s : State} {src code want : Nat} (h : s.rst.level = none) :
    (s.resetBy src code want).rst.level = some (Nat.min want (s.fused src)) := by
  simp only [State.resetBy, h]
  exact resetState_rst_level _ _

/-- GO with its key asks for a reset, with the source and the code of the requester. -/
theorem execResetRequest_keyed {s : State} {value : Nat} (hr : s.hubRuns = true) (hgo : bit value 8 = true) (hkey : bits value 31 24 = 0x5A) :
    exec (.resetRequest .host value) s = .next ((s.put RST_CTRL.LEVEL (bits value 1 0)).resetBy 3 0x0A04 (bits value 1 0)) ∧
    ∀ p, exec (.resetRequest (.mgmt p) value) s = .next ((s.put RST_CTRL.LEVEL (bits value 1 0)).resetBy 4 0x0A05 (bits value 1 0)) := by
  have hkeyed : ¬ bits value 31 24 ≠ 0x5A := not_not_intro hkey
  have hgone : ¬ (!bit value 8) = true := by simp [hgo]
  exact ⟨(atDawn_of_hubRuns hr _).trans ((if_neg hgone).trans (if_neg hkeyed)),
    fun p => (atDawn_of_hubRuns hr _).trans ((if_neg hgone).trans (if_neg hkeyed))⟩

/-! ## The other commands (R496, R508 to R511) -/

section
variable {s : State}

/-- The end of the 20 ms releases the reset, or leaves that to the release of PERST_N. -/
theorem execResetStretchEnd_running {level : Nat} (hl : s.rst.level = some level) :
    execResetStretchEnd s = .next (let t : State := { s with rst := { s.rst with ended := true } }
      if t.rst.perst then t else t.releaseReset) :=
  if_neg (by simp [hl])

theorem execPerstRelease_ended (hp : s.rst.perst = true) (hend : s.rst.ended = true) :
    execPerstRelease s = .next (({ s with rst := { s.rst with perst := false } } : State).put DWN_STATUS.HOLD 0).releaseReset :=
  (if_neg (by simp [hp])).trans (congrArg _ (if_pos hend))

theorem execStandbyStart_standing (hnone : s.rst.level = none) (h1 : s.get RST_STATUS.PSTATE = 1) (hfree : s.flag DWN_STATUS.HOLD = false) :
    execStandbyStart s = (if s.startWait = 0 then .next s.startHub else .next (s.put DWN_STATUS.WAIT s.startWait)) :=
  if_neg (by simp [hnone, h1, hfree])

/-- A request of another power state than STANDBY is refused for its reason, or starts its transition. -/
theorem execPowerStateRequest_answered (who : Requester) {value : Nat} (hr : s.hubRuns = true) (hgo : bit value 8 = true) :
    let t := s.put RST_PWR_REQ.TARGET (bits value 3 0)
    t.hubRuns = true → bits value 3 0 ≠ t.get RST_STATUS.PSTATE → bits value 3 0 ≠ 1 →
    execPowerStateRequest who value s = (if t.pstateReason (bits value 3 0) ≠ 0 then .next (t.pstateRefused (t.pstateReason (bits value 3 0)))
      else .next (t.startTransition (bits value 3 0))) := by
  intro t ht hnew h1
  refine (atDawn_of_hubRuns hr _).trans ((if_neg (by simp [hgo, t, ht, hnew])).trans ?_)
  simp only [if_neg h1]
  rfl

theorem execTransitionTimeout_up {t : Transition} (ht : s.trans = some t) (hup : t.down = false) :
    execTransitionTimeout s = .next ((s.raiseReset 0x0A41 0xFF [phaseStep t.phase]).startTransition t.start) := by
  simp only [execTransitionTimeout, ht, hup, Bool.false_eq_true, if_false]

end

/-! ## The obligations -/

/-- Settles O40: without its key the write is dropped; with it the requester's source asks for a reset (execResetRequest_keyed), which takes the level
that resetBy_rst_level names. -/
theorem resetIsRequestedWithItsKey : Obligations.ResetIsRequestedWithItsKey := by
  refine ⟨fun s who value hr hgo hkey => ?_, fun s value hr hgo hkey hnone => ?_, fun s p value hr hgo hkey hnone => ?_, fun s value => ?_⟩
  · exact (atDawn_of_hubRuns hr _).trans ((if_neg (by simp [hgo])).trans (if_pos hkey))
  · obtain ⟨hhost, -⟩ := execResetRequest_keyed hr hgo hkey
    exact ⟨_, hhost, resetBy_rst_level hnone⟩
  · obtain ⟨-, hmgmt⟩ := execResetRequest_keyed hr hgo hkey
    exact ⟨_, hmgmt p, resetBy_rst_level hnone⟩
  · exact get_put_other s value (by decide)

/-- Settles O29: the source is there and the state is the one that its rule names (the lemmas above). -/
theorem resetCommandsComplete : Obligations.ResetCommandsComplete := by
  refine ⟨fun s => rfl, fun s hp => congrArg _ (if_pos hp), fun s hperst hp => congrArg _ (if_pos ⟨hperst, by omega, by omega⟩),
    fun s hp hend => execPerstRelease_ended hp hend, fun s value hr hgo hkey => execResetRequest_keyed hr hgo hkey,
    fun s hr => ⟨congrArg _ (if_pos hr), congrArg _ (if_pos hr)⟩, fun s hopen => congrArg _ (if_pos hopen),
    fun s who value hexit h6 => congrArg _ (if_pos (by simp [hexit, h6])), fun s level hl => ⟨fun hfree => ?_, fun hheld => ?_⟩,
    fun s hout hnone => congrArg _ (if_pos (by simp [hout, hnone])), fun s hnone h1 hfree => ⟨fun hready => ?_, fun hwait => ?_⟩,
    fun s who value hr hgo ht hnew h1 => ⟨fun hnone => ?_, fun hwhy => ?_⟩, fun s t ht hup => execTransitionTimeout_up ht hup,
    fun s site hp => ⟨congrArg _ (if_pos hp), congrArg _ (if_pos hp)⟩, fun s who value hr hpark => (atDawn_of_hubRuns hr _).trans (congrArg _ (if_pos hpark))⟩
  · exact (execResetStretchEnd_running hl).trans (congrArg _ (if_neg (by simp [hfree])))
  · exact (execResetStretchEnd_running hl).trans (congrArg _ (if_pos hheld))
  · exact (execStandbyStart_standing hnone h1 hfree).trans (if_pos hready)
  · exact (execStandbyStart_standing hnone h1 hfree).trans (if_neg hwait)
  · exact (execPowerStateRequest_answered who hr hgo ht hnew h1).trans (if_neg (not_not_intro hnone))
  · exact (execPowerStateRequest_answered who hr hgo ht hnew h1).trans (if_pos hwhy)

end Sys2Proof.Machine
end

section
/-! The firmware broadcast and the spares (R521 to R547): each command of Machine/Bringup.lean and Machine/Spares.lean where its own effect takes place. -/

namespace Sys2Proof.Machine

open Sys2Proof

/-! ## The phases of a swap (R533 to R541) -/

section
variable {s : State} {spare : Nat} {w : Swap} (hw : s.swapOf spare = some w)
include hw

theorem execSpareInitDone_waiting (h2 : w.phase = 2) :
    let t := ((s.clearGelat spare).put (GLT_STATUS.EXIT_SCRUB spare) 0).put (GLT_STATUS.EXIT_DONE spare) 1
    execSpareInitDone spare s = .next ((t.copyFrom w (t.copySource w 0)).sparesShow) := by
  intro t
  simp only [execSpareInitDone, hw, h2, ne_eq, not_true, if_false, t]

/-- With fewer than 16 uncorrectable rows, the digest of the copied slice decides between RESTORE and the next source. -/
theorem execSpareCopyDone_judged {m : Manifest} {ues l : List Nat} (hm : s.swapManifest w = some m) (h3 : w.phase = 3)
    (hl : l = ues.filter (fun r => decide (64 * r < m.length))) (hfew : l.length < 16) :
    let t := (s.copySlice w m l).copyShow w (m.length / 64)
    execSpareCopyDone spare ues s = (if t.sliceOk w then .next (t.restore w) else .next ((t.copyAgain w 0x0322).sparesShow)) := by
  intro t
  have hread : ¬ (w.source = 1 ∧ 16 ≤ l.length) := fun h => hfew.not_ge h.2
  simp only [execSpareCopyDone, hw, hm, h3, ← hl, if_neg hread, ne_eq, not_true, if_false, t]

theorem execSpareIn_restored (h6 : w.phase = 6) : execSpareIn spare s = .next
    ((s.regs.filter (fun p => isHandleReg w.site p.1 && (look s.spares.handles p.1).isNone)).foldl (fun s p => s.swapHandle w p.1 p.2) s) := by
  simp only [execSpareIn, hw, h6, ne_eq, not_true, if_false]

theorem execSpareReady_unfenced (h6 : w.phase = 6) :
    let t := (s.dropSwap w).addSat HUB_SPARE_STATUS.SWAPS 1
    t.fenced w.old = false →
    execSpareReady spare s = .next ((((t.raiseSpare 0x0140 w.spare w.old w.spare).sparesShow.takeRetires).armNow).readyRefresh) := by
  intro t hfree
  simp only [t] at hfree
  simp only [execSpareReady, hw, h6, hfree, ne_eq, not_true, Bool.false_eq_true, if_false, t]

theorem execSpareReadyTimeout_restored (h6 : w.phase = 6) : execSpareReadyTimeout spare s = .next (s.swapEnds w) := by
  simp only [execSpareReadyTimeout, hw, h6, if_true]

theorem execHostLimitExpiry_waiting (h5 : w.phase = 5) : execHostLimitExpiry spare s = .next (s.swapEnds w) := by
  simp only [execHostLimitExpiry, hw, h5, if_true]

end

/-- Settles O30: the operation is the one that the write names, or the swap is in the phase that its rule names (the lemmas above). -/
theorem firmwareAndSpareCommandsComplete : Obligations.FirmwareAndSpareCommandsComplete := by
  refine ⟨fun s who value ues ho hop => (atHub_of_hubOpen ho ..).trans (if_neg (not_not_intro hop)),
    fun s who value ho => ⟨fun hop => (atHub_of_hubOpen ho ..).trans (congrArg _ (if_pos hop)), fun hop => (atHub_of_hubOpen ho ..).trans (congrArg _ (if_pos hop))⟩,
    fun s hbusy => congrArg _ (if_pos hbusy), fun s site header data hp => congrArg _ (if_pos hp), fun s spare w hw h2 => execSpareInitDone_waiting hw h2,
    fun s spare ues l w m hw hm h3 hl hfew => ⟨fun hgood => ?_, fun hbad => ?_⟩, fun s spare w hw h6 => execSpareIn_restored hw h6,
    fun s spare w hw h6 => execSpareReady_unfenced hw h6,
    fun s spare w hw => ⟨execSpareReadyTimeout_restored hw, execHostLimitExpiry_waiting hw⟩,
    fun s who spare ho => ⟨atHub_of_hubOpen ho .., atHub_of_hubOpen ho ..⟩, fun s who bytes half ho => readAtHub_of_hubOpen ho ..⟩
  · exact (execSpareCopyDone_judged hw hm h3 hl hfew).trans (if_pos hgood)
  · exact (execSpareCopyDone_judged hw hm h3 hl hfew).trans (if_neg (by simp [hbad]))

end Sys2Proof.Machine
end

section
/-! The PCIe link, BAR4 and MSI-X (R551 to R558): each command of Machine/Host.lean where its own effect takes place. -/

namespace Sys2Proof.Machine

open Sys2Proof

section
variable {s : State}

/-! ## The PCIe link (R551, R552) -/

theorem execPcieLinkUp_running (speed width : Nat) (flit : Bool) (hr : s.hubRuns = true) :
    execPcieLinkUp speed width flit s = .next (
      let bad := decide (speed < 4) || decide (width < 8)
      let t := (((s.put HUB_PCIE.SPEED speed).put HUB_PCIE.WIDTH width).put HUB_PCIE.FLIT (b2n flit)).put HUB_PCIE.DEGRADED (b2n bad)
      if bad then t.raiseHost 0x0B31 0xFF else t) :=
  if_neg (by simp [hr])

/-- A change of Bus Master Enable is shown, and what was held goes out when it is set. -/
theorem execBusMasterEnableChange_changed {on : Bool} (hr : s.hubRuns = true) (hb : s.flag HUB_PCIE.BME = !on) :
    execBusMasterEnableChange on s = .next (if on then (s.put HUB_PCIE.BME (b2n on)).heldOut.writeRecords else s.put HUB_PCIE.BME (b2n on)) :=
  (if_neg (by simp [hr])).trans (if_neg (by simp [hb]))

/-! ## BAR4 (R554 to R556) -/

section
variable {offset n ppa : Nat} (hend : offset + n ≤ 2 ^ 36) (ho : offset < 2 ^ 36) (hn : n ≠ 0) (hd : s.doldrums = false)
  (hen : s.flag (HUB_B4AP.EN (offset / 2 ^ 32)) = true) (ht : s.bar4Target offset n = (ppa, true)) (data : List Nat) (poison : Bool)
include hend ho hn hd hen ht

/-- A write through an enabled aperture whose target is valid goes to memory in pieces. -/
theorem execBar4Access_write : execBar4Access true offset n data poison s = .next ((pieces ppa n).foldl (fun s q =>
    (s.issue 84 .none (ppaNode q.1) true q.1 q.2 (((data.take n ++ List.replicate (n - data.length) 0).drop (q.1 - ppa)).take q.2) poison none none).1) s) := by
  rw [execBar4Access, if_neg (by omega)]
  simp only [hn, hd, hen, ht, Bool.not_true, Bool.or_self, Bool.false_eq_true, if_true, if_false]

/-- A read there does too, under a key that no other read holds. -/
theorem execBar4Access_read {key : Nat}
    (hkey : key = ((below (s.host.bar4.length + 1)).find? (fun k => !(s.host.bar4.map (·.key)).contains k)).getD s.host.bar4.length) :
    execBar4Access false offset n data poison s = .next ((pieces ppa n).foldl (fun s q =>
      (s.issue 84 (.bar4 key) (ppaNode q.1) false q.1 q.2 [] false none none).1)
      { s with host := { s.host with bar4 := s.host.bar4 ++ [{ key := key, offset := offset, base := ppa, n := n, left := (pieces ppa n).length }] } }) := by
  rw [execBar4Access, if_neg (by omega)]
  simp only [hn, hd, hen, ht, hkey, List.length_map, Bool.not_true, Bool.or_self, Bool.false_eq_true, if_false]

end

theorem execB4apWrite_valid {i value : Nat} (who : Requester) (ho : s.hubOpen = true) (hspace : bits value 55 52 ≤ 1) (halign : bits value 11 0 = 0) :
    execB4apWrite who i value s = .next ((s.put (HUB_B4AP.EN i) (b2n (bit value 63))).put (HUB_B4AP.BASE i) (bits value 55 0)) :=
  (atHub_of_hubOpen ho ..).trans (if_neg fun ⟨_, hbad⟩ => hbad.elim hspace.not_gt (not_not_intro halign))

theorem execB4apWrite_misaligned {i value : Nat} (who : Requester) (ho : s.hubOpen = true) (hen : bit value 63 = true) (halign : bits value 11 0 ≠ 0) :
    execB4apWrite who i value s = .next (s.raiseHost 0x0B30 i) :=
  (atHub_of_hubOpen ho ..).trans (if_pos ⟨hen, .inr halign⟩)

/-! ## MSI-X (R558) -/

theorem execMsixUnmask_running (hr : s.hubRuns = true) :
    (∀ v masked, v < 256 → execMsixUnmask (.vector v masked) s = .next (s.msixWrite (2 * v + 1) (withField (s.msixWord (2 * v + 1)) 32 32 (b2n masked)))) ∧
    (∀ enable mask, execMsixUnmask (.control enable mask) s = .next
      ((({ s with host := { s.host with funcMask := mask } } : State).put HUB_PCIE.MSIX_EN (b2n enable)).msixReleaseAll)) :=
  ⟨fun _ _ hv => (if_neg (by simp [hr])).trans (if_neg hv.not_ge), fun _ _ => if_neg (by simp [hr])⟩

end

/-- Settles O31: the hub runs, or the aperture is enabled and its target valid, and the lemmas above choose the branch. -/
theorem hostInterfaceCommandsComplete : Obligations.HostInterfaceCommandsComplete := by
  refine ⟨fun s speed width flit hr hs hw => ?_, fun s speed width flit hr hs => ?_, fun s hr => if_neg (by simp [hr]),
    fun s hr => ⟨fun hoff => (execBusMasterEnableChange_changed (on := true) hr hoff).trans (congrArg _ (if_pos rfl)),
      fun hon => (execBusMasterEnableChange_changed (on := false) hr hon).trans (congrArg _ (if_neg Bool.false_ne_true))⟩,
    fun s tag ok data => ⟨rfl, rfl⟩, fun s offset n ppa data poison hend ho hn hd hen ht => execBar4Access_write hend ho hn hd hen ht data poison,
    fun s offset n ppa key data poison hend ho hn hd hen ht hkey => execBar4Access_read hend ho hn hd hen ht data poison hkey,
    fun s who i value ho hspace halign => execB4apWrite_valid who ho hspace halign,
    fun s who i value ho hen halign => execB4apWrite_misaligned who ho hen halign, fun s v => rfl, fun s v masked hr hv => ?_, fun s enable mask hr => ?_⟩
  · refine (execPcieLinkUp_running speed width flit hr).trans ?_
    simp only [hs.not_gt, hw.not_gt, decide_false, Bool.or_self, Bool.false_eq_true, if_false]
    rfl
  · refine (execPcieLinkUp_running speed width flit hr).trans ?_
    simp only [hs, decide_true, Bool.true_or, if_true]
    rfl
  · obtain ⟨hvector, -⟩ := execMsixUnmask_running hr
    exact hvector v masked hv
  · obtain ⟨-, hcontrol⟩ := execMsixUnmask_running hr
    exact hcontrol enable mask

end Sys2Proof.Machine
end

section
/-! The management ports (R560 to R566): each command of Machine/Mgmt.lean where its own effect takes place. -/

namespace Sys2Proof.Machine

open Sys2Proof

section
variable {s : State} (hr : s.hubRuns = true)
include hr

/-! ## Barograph export (R564) -/

theorem execCperAck_acknowledged {port q : Nat} {data : List Nat} (hup : s.mgmtUp port = true) (hq : s.ackSeq data = some q) :
    execCperAck port data s = .next { s with mgmt := { s.mgmt with out := s.mgmt.out.filter (fun o => o.seq != q) } } := by
  rw [execCperAck, if_neg (by simp [hr, hup]), hq]

section
variable {seq : Nat} {o : CperOut} (hout : s.mgmt.out.find? (fun o => o.seq == seq) = some o)
include hout

theorem execCperResend_lost (hsends : 10 ≤ o.sends) : execCperResend seq s = .next
    ((({ s with mgmt := { s.mgmt with out := s.mgmt.out.filter (fun x => x.seq != seq) } } : State).addSat HUB_MGT_STAT.CPER_LOST 1).raiseHost
      0x0B42 o.port) := by
  rw [execCperResend, if_neg (by simp [hr]), hout]
  exact if_pos hsends

theorem execCperResend_again {p : Nat} (hsends : o.sends < 10) (hp : [1 - o.port, o.port].find? s.canExport = some p) :
    execCperResend seq s = .next (({ s with mgmt := { s.mgmt with
      out := s.mgmt.out.map (fun (x : CperOut) => if x.seq = seq then { seq := seq, sends := o.sends + 1, port := p } else x) } } : State).cperSend p seq) := by
  rw [execCperResend, if_neg (by simp [hr]), hout]
  simp only [hsends.not_ge, hp, if_false]

end

/-! ## Ports and addresses (R560, R561) -/

theorem execMgmtPortDown_up {port : Nat} (hup : s.mgmtUp port = true) (hport : port < 2) :
    let t := (s.mgmtState port 0).put (HUB_MGT.FEC port) 0
    execMgmtPortDown port s = .next ((t.setMgmtPort port { t.mgmtPort port with dhcp := 0 }).raiseHost 0x0B40 port) :=
  if_neg (by simp [hr, hup, hport])

theorem execMgmtPortUp_down {port : Nat} (fec : Nat) (hdown : s.mgmtUp port = false) (hport : port < 2) :
    let t := (s.mgmtState port 2).put (HUB_MGT.FEC port) fec
    execMgmtPortUp port fec s = .next ((t.addV6 port (0xFE80 * 2 ^ 112 + t.interfaceId port)).dhcpStart port) :=
  if_neg (by simp [hr, hdown, hport])

section
variable {port dst : Nat} (hup : s.mgmtUp port = true)
include hup

theorem execEchoRequest_v4 (data : List Nat) (hmine : s.hasV4 port dst = true) :
    execEchoRequest port false dst data s = .next (s.send (.mgmt port 1 (0 :: 0 :: data))) :=
  congrArg _ (if_pos (by simp [hr, hup, hmine]))

theorem execEchoRequest_v6 (data : List Nat) (hmine : (s.mgmtPort port).v6.contains dst = true) :
    execEchoRequest port true dst data s = .next (s.send (.mgmt port 58 (129 :: 0 :: data))) :=
  congrArg _ (if_pos (by rw [hr, hup, if_pos rfl, hmine]; rfl))

theorem execArpRequest_mine (hmine : s.hasV4 port dst = true) :
    execArpRequest port dst s = .next (s.send (.mgmt port 0x0806 (netBytes 4 dst ++ netBytes 6 (s.get (HUB_MGT.MAC port))))) :=
  congrArg _ (if_pos (by simp [hr, hup, hmine]))

theorem execNeighborDiscovery_mine (hmine : (s.mgmtPort port).v6.contains dst = true) :
    execNeighborDiscovery port (.solicitation dst) s =
      .next (s.send (.mgmt port 58 ([136, 0] ++ netBytes 16 dst ++ netBytes 6 (s.get (HUB_MGT.MAC port))))) :=
  (if_neg (by simp [hr, hup])).trans (congrArg _ (if_pos hmine))

variable (hleased : s.flag (HUB_MGT_IP.STATIC port) = false) (hport : port < 2)
include hleased hport

theorem execDhcpReply_offer {m : DhcpMsg} (hm : m.kind = 2) (hd : (s.mgmtPort port).dhcp = 1) : execDhcpReply port m s = .next
    ((s.setMgmtPort port { s.mgmtPort port with dhcp := 2, server := m.server, offer := (m.addr, m.prefixLen) }).dhcpRequest port m.addr m.server) :=
  (if_neg (by simp [hr, hup, hleased, hport])).trans (if_pos ⟨hm, hd⟩)

theorem execDhcpReply_ack {m : DhcpMsg} (hm : m.kind = 5) (hd : (s.mgmtPort port).dhcp = 2) : execDhcpReply port m s = .next
    ((s.setMgmtPort port { s.mgmtPort port with dhcp := 3, server := m.server, offer := (m.addr, m.prefixLen) }).bind port m.addr m.prefixLen) :=
  (if_neg (by simp [hr, hup, hleased, hport])).trans ((if_neg (by simp [hm])).trans (if_pos ⟨hm, .inl hd⟩))

theorem execDhcpLeaseTimer_bound (hd : (s.mgmtPort port).dhcp = 3) : execDhcpLeaseTimer port s = .next
    ((s.setMgmtPort port { s.mgmtPort port with dhcp := 4 }).dhcpRequest port (s.mgmtPort port).offer.1 (s.mgmtPort port).server) :=
  (if_neg (by simp [hr, hup, hleased, hport])).trans (if_pos hd)

end

end

/-! ## The key, and module memory (R562, R566) -/

/-- The last word of the key that the host writes puts it in force, and the others take it out of force until then. -/
theorem execMgmtKeyWrite_host {s : State} (k value : Nat) (ho : s.hubOpen = true) (hk : k < 4) :
    let t := s.setReg (HUB_MGT_KEY.REG k) (word value)
    execMgmtKeyWrite .host k value s = (if k = 3 then
      .next (({ t with mgmt := { t.mgmt with last := 0, kept := none } } : State).put HUB_MGT_STAT.KEY_SET 1)
      else .next (t.put HUB_MGT_STAT.KEY_SET 0)) :=
  (atHub_of_hubOpen ho ..).trans (if_neg (by simp [hk]))

theorem execSmbReadDone_waiting {s : State} {m len : Nat} (data : List Nat) (hsmb : s.host.smb = some (m, len)) :
    let t := ({ s with host := { s.host with smb := none } } : State).put HUB_SMB_CMD.BUSY 0
    execSmbReadDone true data s = .next ((data.take len).zipIdx.foldl
      (fun s p => s.put ⟨HUB_SMB_DATA.REG (p.2 / 8), 8 * (p.2 % 8) + 7, 8 * (p.2 % 8)⟩ p.1) (t.put HUB_SMB_CMD.STATUS 0)) ∧
    execSmbReadDone false data s = .next (((t.put HUB_SMB_CMD.STATUS 2).raiseModule m 0x0635).moduleState m 7) := by
  intro t
  constructor <;>
    simp only [execSmbReadDone, hsmb, Bool.not_true, Bool.not_false, Bool.false_eq_true, if_true, if_false, t]

/-- Settles O32: the port is up and the address, record or lease is the one that the frame names (the lemmas above). -/
theorem managementCommandsComplete : Obligations.ManagementCommandsComplete := by
  refine ⟨fun s port data => ⟨rfl, rfl⟩, fun s value ho => (execMgmtKeyWrite_host 3 value ho (by decide)).trans (if_pos rfl),
    fun s k value ho hk => (execMgmtKeyWrite_host k value ho (by omega)).trans (if_neg (by omega)),
    fun s who k value ho hwho => (atHub_of_hubOpen ho ..).trans (if_pos (.inl hwho)),
    fun s port q data hr hup hq => execCperAck_acknowledged hr hup hq, fun s seq o hr hout hsends => execCperResend_lost hr hout hsends,
    fun s seq p o hr hout hsends hp => execCperResend_again hr hout hsends hp, fun s port hr hup hport => execMgmtPortDown_up hr hup hport,
    fun s port fec hr hdown hport => execMgmtPortUp_down hr fec hdown hport, fun s port dst data hr hup => ⟨execEchoRequest_v4 hr hup data,
      execEchoRequest_v6 hr hup data, execArpRequest_mine hr hup, execNeighborDiscovery_mine hr hup⟩,
    fun s port m hr hup hleased hport => ⟨execDhcpReply_offer hr hup hleased hport, execDhcpReply_ack hr hup hleased hport,
      execDhcpLeaseTimer_bound hr hup hleased hport⟩,
    fun s who value ho hgo => (atHub_of_hubOpen ho ..).trans (congrArg _ (if_pos hgo)), fun s m len data hsmb => execSmbReadDone_waiting data hsmb⟩

end Sys2Proof.Machine
end

section
/-! The guest sites (R568 to R572): each command of Machine/Guests.lean where its own effect takes place. -/

namespace Sys2Proof.Machine

open Sys2Proof

section
variable {s : State} {g : Nat}

section
variable (hg : g < 4)
include hg

/-- The capability block is stored, and its first broken rule decides whether the guest goes on or is dark. -/
theorem execGuestSidebandUp_waiting (block : List Nat) (h2 : s.guestSt g = 2) :
    let b := block.take 64 ++ List.replicate (64 - block.length) 0
    let t := (((below 8).foldl (fun s i => s.setReg (GST_CAP.REG g i) (word (ofLe ((b.drop (8 * i)).take 8)))) s).guestState g 3).put
      (GST_STATUS.WHY g) (capabilityWhy b)
    execGuestSidebandUp g block s = .next (if capabilityWhy b ≠ 0 then (t.raiseGuest g 0x0B50).guestDark g 7
      else (t.setGuest g { t.guest g with vset := ofLe ((b.drop 6).take 2) }).guestState g 4) :=
  if_neg (by simp [hg, h2])

theorem execGuestTrainDone_training (ok : Bool) (rate width : Nat) (h4 : s.guestSt g = 4) :
    let t := ((s.setGuest g { s.guest g with heard := s.thermal.samples, retrainDue := false }).put (GST_STATUS.RETRAINS g) 0).guestState g 5
    execGuestTrainDone g ok rate width s = (if ok then .next ((t.put (GST_STATUS.RATE g) rate).put (GST_STATUS.WIDTH g) width) else .next (s.guestLoss g)) :=
  if_neg (by simp [hg, h4])

theorem execGuestRetrainTimer_due (h8 : s.guestSt g = 8) (hdue : (s.guest g).retrainDue = true) :
    let t := s.setGuest g { s.guest g with retrainDue := false }
    t.get (GST_STATUS.RETRAINS g) < 3 →
    execGuestRetrainTimer g s = .next ((t.put (GST_STATUS.RETRAINS g) (t.get (GST_STATUS.RETRAINS g) + 1)).guestState g 2) :=
  fun hfew => (if_neg (by simp [hg, h8, hdue])).trans (congrArg _ (if_neg hfew.not_ge))

end

theorem execGuestTimeout_first {tag : Nat} {r : GuestReq} (hreq : (s.guest g).out.find? (fun r => r.tag == tag && !r.answered) = some r) :
    let t := ((s.guestPoison g r).addSat (GST_ERR.TIMEOUTS g) 1).setGuest g
      { s.guest g with out := (s.guest g).out.map (fun (y : GuestReq) => if y.tag == tag then { y with answered := true } else y) }
    (t.guest g).timeSecond ≠ some (t.isobar / second) →
    execGuestTimeout g tag s = .next ((t.setGuest g { t.guest g with timeSecond := some (t.isobar / second) }).raiseGuest g 0x0B53) := by
  intro t hnew
  simp only [execGuestTimeout, hreq]
  exact congrArg _ (if_neg hnew)

end

/-- Settles O33: the guest is in the state that its rule names (the lemmas above). -/
theorem guestCommandsComplete : Obligations.GuestCommandsComplete := by
  refine ⟨fun s g block hg h2 => ⟨fun hgood => (execGuestSidebandUp_waiting hg block h2).trans (congrArg _ (if_neg (not_not_intro hgood))),
      fun hbad => (execGuestSidebandUp_waiting hg block h2).trans (congrArg _ (if_pos hbad))⟩,
    fun s g hg h2 => congrArg _ ((if_neg hg.not_ge).trans (if_pos (.inr h2))),
    fun s g rate width hg h4 => ⟨(execGuestTrainDone_training hg true rate width h4).trans (if_pos rfl),
      (execGuestTrainDone_training hg false rate width h4).trans (if_neg Bool.false_ne_true)⟩,
    fun s who g value ho hg => ⟨fun hretry => (atHub_of_hubOpen ho ..).trans (congrArg _ (if_pos (by simp [hg, hretry]))),
      fun hkeep => (atHub_of_hubOpen ho ..).trans (congrArg _ (if_pos (by simp [hg, hkeep])))⟩,
    fun s g tag err f hg hup => ⟨congrArg _ (if_pos ⟨hg, hup⟩), congrArg _ (if_pos ⟨hg, hup⟩), congrArg _ (if_pos ⟨hg, hup⟩)⟩,
    fun s g temp hg hup => if_neg (by simp [hg, hup]), fun s g tag r hreq => execGuestTimeout_first hreq,
    fun s g hg h8 hdue => execGuestRetrainTimer_due hg h8 hdue⟩

end Sys2Proof.Machine
end
